-- ==== Sys2Proof/Machine/Types.lean ====
section
/-! DEFINITION. What travels: the two parts, line symbols, packet headers, frame headers, training sets and the
other records that commands carry, as the layouts of spec/ give them. -/

namespace Sys2Proof

/-- The two parts of the fabric that the model holds: the BRS-9032 switch and the BRE-2104 end-point (Table 0.1). -/
inductive Part where
  | sw
  | ep
deriving DecidableEq, Repr

/-- What the code of R13 says of a word that is read: it is right, one or two of its bits were wrong and are corrected, or
it is uncorrectable. -/
inductive Ecc where
  | clean
  | fixed
  | bad
deriving DecidableEq, Repr

/-- A PAM4 line level (Table 3.1): −3, −1, +1, +3. -/
inductive Sym where
  | m3
  | m1
  | p1
  | p3
deriving DecidableEq, Repr

/-- A packet header (R88, Table 4.1), field by field from bit 255 down. -/
structure PktHdr where
  dst : BitVec 12
  offset : BitVec 52
  src : BitVec 12
  pkey : BitVec 16
  opcode : BitVec 8
  opArg : BitVec 4
  tc : BitVec 3
  channel : BitVec 20
  txn : BitVec 32
  ordSeq : BitVec 16
  lctr : BitVec 16
  payUnits : BitVec 10
  reqUnits : BitVec 10
  keyEpoch : BitVec 8
  stepTag : BitVec 8
  hops : BitVec 3
  status : BitVec 4
  ordered : BitVec 1
  rsv20 : BitVec 1
  retry : BitVec 1
  last : BitVec 1
  rsv16 : BitVec 2
  byteEn : BitVec 16
deriving DecidableEq, Repr

/-- A packet header whose every field is zero but BYTE_EN. -/
def PktHdr.blank : PktHdr :=
  { dst := 0, offset := 0, src := 0, pkey := 0, opcode := 0, opArg := 0, tc := 0, channel := 0, txn := 0,
    ordSeq := 0, lctr := 0, payUnits := 0, reqUnits := 0, keyEpoch := 0, stepTag := 0, hops := 0, status := 0,
    ordered := 0, rsv20 := 0, retry := 0, last := 0, rsv16 := 0, byteEn := 0xFFFF }

def PktHdr.op (h : PktHdr) : Nat := h.opcode.toNat

def PktHdr.cls (h : PktHdr) : Nat := h.tc.toNat

/-- The bytes that a packet's address range covers (R90). -/
def PktHdr.span (h : PktHdr) : Nat := 16 * (if h.op = 1 then h.reqUnits.toNat else h.payUnits.toNat)

/-- A packet: its header and its payload bytes. -/
structure Packet where
  hdr : PktHdr
  pay : List Byte
deriving DecidableEq, Repr

/-- A frame header (R52, Table 3.2) without its HCRC. -/
structure FrameHdr where
  ackSeq : BitVec 16
  seq : BitVec 16
  lenUnits : BitVec 8
  pktCount : BitVec 8
  rsv54 : BitVec 10
  bodyLen : BitVec 10
  crdClass : BitVec 3
  crdCount : BitVec 24
  rsv12 : BitVec 5
  ackValid : BitVec 1
  replay : BitVec 1
  crdValid : BitVec 1
  rsv8 : BitVec 1
  type : BitVec 4
  subtype : BitVec 4
deriving DecidableEq, Repr

/-- A frame: its header and its body bytes (padding and CRC are computed). -/
structure Frame where
  hdr : FrameHdr
  body : List Byte
deriving DecidableEq, Repr

/-- A training set (Table 3.6), the body of CONTROL subtype 0x5. -/
structure TsBody where
  epoch : BitVec 32
  step : BitVec 32
  part : BitVec 16
  stepping : BitVec 8
  verMax : BitVec 8
  verSel : BitVec 8
  node : BitVec 12
  port : BitVec 6
  role : BitVec 2
  failedLane : BitVec 5
  round : BitVec 2
  tag : BitVec 16
  echo : BitVec 16
deriving DecidableEq, Repr

/-- A UDP datagram as it reaches the management port (Table 13.12): where it came from, its destination port, its header and
its body. -/
structure MgmtReq where
  v6 : Bool
  src : Nat
  port : Nat
  hdr : BitVec 128
  body : List Byte
deriving DecidableEq, Repr

/-- How an SPDM message reaches its island (R398): by DOE on PF 0 or in a management datagram at a switch, over the attach at
an end-point. -/
inductive Transport where
  | doe
  | mgmt (req : MgmtReq)
  | attach
deriving DecidableEq, Repr

/-- The transports by number. -/
def Transport.num : Transport → Nat
  | .doe => 0
  | .mgmt _ => 1
  | .attach => 2

/-- A message of a session: the session's id, and the transport that it came by. -/
structure SesMsg where
  id : Nat
  via : Transport
deriving DecidableEq, Repr

/-- What a page program of Caddy came to (R298, R299, R301): whether it succeeded, whether reading a stripe that it rewrites
needed a retry, and, bit `i`, that the stripe which slot `i` rewrites failed every retry. -/
structure PageOut where
  ok : Bool
  retry : Bool
  lost : Nat
deriving DecidableEq, Repr

/-- A firmware image as the island finds it (R394): KEY_CLASS and CONTEXT of its envelope, whether its KEY_ID is a trusted
one, its digest matches and both its signatures verify (R391), its version, whether it is marked to advance the fused minimum, and its
SHA-384. -/
structure FwImage where
  cls : Nat
  context : Nat
  good : Bool
  version : Nat
  advances : Bool
  digest : Nat
deriving DecidableEq, Repr

/-- What a start-up stage found (Table 19.2, R480 to R482): the firmware images in slots A and B where the stage reads them, and
what its tests and training gave. -/
structure BootResult where
  ok : Bool
  result : Nat
  slotA : Option FwImage
  slotB : Option FwImage
  ranks : Nat
deriving DecidableEq, Repr

/-- The assignment of a dynamic address on the I3C bus (R361): by ENTDAA, or by SETDASA, which names a target by its static
address. -/
structure I3cAssign where
  addr : Nat
  static : Option Nat
deriving DecidableEq, Repr

/-- What an end-point's start-up found (R488): the UCIe modules have trained, and the firmware delivered. -/
structure EpBoot where
  ucie : Bool
  image : Option FwImage
deriving DecidableEq, Repr

/-- A step of a part, and what its reads met (R13). -/
structure PartEcc where
  part : Part
  ecc : Ecc
deriving DecidableEq, Repr

/-- A tile whose copy is read whole, and what the reads met (R13). -/
structure TileRead where
  tile : Nat
  ecc : Ecc
deriving DecidableEq, Repr

/-- What Caddy finds at its start (R295, R297): the geometry, and the superblocks that cannot be built from good blocks. -/
structure FlashFound where
  geom : Word
  unbuilt : List Nat
deriving DecidableEq, Repr

/-- An entry that a walk reads in error: its level, and whether the code of R13 corrects it. -/
structure EntryErr where
  level : Nat
  fixed : Bool
deriving DecidableEq, Repr

/-- The level whose entry cannot be corrected. -/
def badLevel : Option EntryErr → Option Nat
  | some e => if e.fixed then none else some e.level
  | none => none

/-- A HEARTBEAT body (Table 16.4), 256 bits as it travels. -/
abbrev HbBody := BitVec 256

end Sys2Proof
end

