-- ==== Sys2Proof/Syntax.lean ====
section
/-! DEFINITION. The commands of the block: one constructor per row of the table of operations and events
(spec/opcode_table.json), with what the row's step takes from outside as operands. `d` is the part the step happens
at, `p` a port, `n` a logical core, an engine or a window, `t` the time of the step in ns of the device's clock, and
`ue` whether the access meets an error that its code cannot correct (R416). -/

namespace Sys2Proof

/-- One step of the block: a command to it, or an event at it. -/
inductive Instr where
  /-- POT_CLAIM (R19): The host writes CLAIM to CFG_POT_CTRL, and the owner function becomes the Pot holder if the Pot is EMPTY; otherwise the write is refused with BUSY. -/
  | potClaim (d : Part) (t : Nat)
  /-- POT_CLAIM_FORCE (R20): The owner function writes CLAIM with FORCE: staged values revert, the owner function takes the Pot, and a core that held it is told DISCARDED at its next command. -/
  | potClaimForce (d : Part) (t : Nat)
  /-- POT_CHECK (R23): The host writes CHECK, and STATE becomes CHECKING while every consistency rule of Table 2.2 is evaluated over the whole Pot. -/
  | potCheck (d : Part) (t : Nat)
  /-- CHECK_COMPLETE (R24): A check ends within 250 µs: STATE becomes CHECKED with CHECK_PASS, or STAGING with CHECK_FAIL and up to 16 report records. -/
  | checkComplete (d : Part) (t : Nat)
  /-- POT_POUR (R28): The host writes POUR, which is accepted only after a passed CHECK with no staged write since; otherwise it reports POUR_STALE. -/
  | potPour (d : Part) (t : Nat)
  /-- POUR_INSTANT (R29): At one switch-core edge within 2 µs of acceptance, drain conditions are re-evaluated and either every staged value becomes live and GEN advances, or the Pour aborts with POUR_ABORTED_DRAIN. -/
  | pourInstant (d : Part) (t : Nat)
  /-- POT_DISCARD (R21): The holder writes DISCARD, staged copies revert to live values and the Pot is released. -/
  | potDiscard (d : Part) (t : Nat)
  /-- POT_STAGED_WRITE (R16): A write at a Pot field's offset plus 0x0080_0000 changes only the staged copy if the writer holds the Pot; otherwise it is ignored and reports BUSY. -/
  | potStagedWrite (d : Part) (addr : Nat) (size : Nat) (v : Word) (t : Nat)
  /-- REGISTER_WRITE (R5): A register write with no behaviour of its own updates the field per its access code, or completes without effect under R8 and is reported. -/
  | registerWrite (d : Part) (fn : Nat) (addr : Nat) (size : Nat) (v : Word) (t : Nat)
  /-- TX_DATA_FRAME (R58): When data waits and the replay buffer has room, the transmitter sends a DATA frame with the next SEQ, packing packets chosen by egress scheduling. -/
  | txDataFrame (d : Part) (p : Nat) (n : Nat) (t : Nat)
  /-- TX_IDLE_FRAME (R55): A transmitter with nothing else to send sends a one-unit IDLE frame. -/
  | txIdleFrame (d : Part) (p : Nat) (t : Nat)
  /-- DATA_FRAME_RECEIVE (R59): A received frame is checked by HCRC and CRC-64, and a DATA frame is accepted if its SEQ is the one expected, or else dropped, re-acknowledged or NACKed. -/
  | dataFrameReceive (d : Part) (p : Nat) (lanes : (List (List Sym))) (t : Nat)
  /-- PARTNER_ELECTRICAL_IDLE (R74): A port sees its partner's data lanes go electrically idle and joins the recovery. -/
  | partnerElectricalIdle (d : Part) (p : Nat) (t : Nat)
  /-- RECOVERY_END (R74): Recovery completes LANE_TEST, DESKEW and NEGOTIATE within 265 µs and replays from ACK_SEQ + 1, or fails and takes the link to DOWN. -/
  | recoveryEnd (d : Part) (p : Nat) (ok : Bool) (failed : (List Nat)) (t : Nat)
  /-- CONTROL_ACK (R58): A cumulative acknowledgement frees the covered DATA frames from the replay buffer. -/
  | controlAck (d : Part) (p : Nat) (ack : (BitVec 16)) (t : Nat)
  /-- CONTROL_NACK (R61): On a NACK the transmitter finishes its frame, sends a marker and replays from ACK_SEQ + 1 with REPLAY set, or enters recovery at the replay limit. -/
  | controlNack (d : Part) (p : Nat) (ack : (BitVec 16)) (t : Nat)
  /-- CONTROL_CREDIT (R63): A CREDIT frame updates the cumulative counts C_c, and the VALID marks, of each class. -/
  | controlCredit (d : Part) (p : Nat) (body : (BitVec 256)) (t : Nat)
  /-- CONTROL_TS (R78): A training set is taken: version selection, tag echo for the RTT, failed-lane and epoch comparison, and partner identity. -/
  | controlTs (d : Part) (p : Nat) (ts : TsBody) (t : Nat)
  /-- CONTROL_NAP_REQ (R68): A partner's NAP_REQ is answered within 1 µs with NAP_ACK if this end can rest, and otherwise with NAP_NAK. -/
  | controlNapReq (d : Part) (p : Nat) (t : Nat)
  /-- CONTROL_NAP_ACK (R68): On NAP_ACK both ends stop sending and move toward DEEP. -/
  | controlNapAck (d : Part) (p : Nat) (t : Nat)
  /-- CONTROL_NAP_NAK (R68): A NAP_NAK leaves the link ACTIVE and sets NAP_REFUSED. -/
  | controlNapNak (d : Part) (p : Nat) (t : Nat)
  /-- CONTROL_DOWN (R84): The partner announces it is disabling the link, and the attempt or the link ends with PARTNER_OFF or DOWN. -/
  | controlDown (d : Part) (p : Nat) (t : Nat)
  /-- NACK_REPEAT_TIMEOUT (R60): No replay with the expected SEQ arrives within 2 µs of a NACK, so the receiver repeats the NACK. -/
  | nackRepeatTimeout (d : Part) (p : Nat) (t : Nat)
  /-- REPLAY_PROGRESS_TIMEOUT (R61): No acknowledgement progress for 4 µs while frames are held, so the transmitter replays from the oldest held frame. -/
  | replayProgressTimeout (d : Part) (p : Nat) (t : Nat)
  /-- CREDIT_FRAME_TIMER (R64): At least every 2 µs while ACTIVE, the receiver sends a CREDIT frame for every credit-controlled class. -/
  | creditFrameTimer (d : Part) (p : Nat) (t : Nat)
  /-- CREDIT_RETURN_DEADLINE (R112): A credit update that no DATA header can carry within 250 ns of the cells being freed is sent in a CREDIT frame. -/
  | creditReturnDeadline (d : Part) (p : Nat) (t : Nat)
  /-- POUR_CREDIT_UPDATE (R65): Within 2 µs of a pour instant that changes a class's credit control or reservation, the receiver sends a CREDIT frame for that class. -/
  | pourCreditUpdate (d : Part) (p : Nat) (t : Nat)
  /-- CREDIT_GRACE_END (R509): The grace of a changed class ends 2 × RTT_NS + 4 µs after its first CREDIT frame, extended by any replay or recovery. -/
  | creditGraceEnd (d : Part) (p : Nat) (c : Nat) (t : Nat)
  /-- TRAINING_PHASE_DONE (R71): A training or DEEP-exit phase of Table 3.5 completes, and the link moves to the next phase or becomes ACTIVE. -/
  | trainingPhaseDone (d : Part) (p : Nat) (failed : (List Nat)) (coeffs : (List Nat)) (t : Nat)
  /-- TRAINING_PHASE_TIMEOUT (R71): A phase does not complete within its time, so training fails with a LAST_RESULT code and the link reads DOWN. -/
  | trainingPhaseTimeout (d : Part) (p : Nat) (gone : Bool) (t : Nat)
  /-- TRAINING_RETRY_TIMER (R75): A DOWN link whose ENABLE is 1 retries cold training every 10 ms. -/
  | trainingRetryTimer (d : Part) (p : Nat) (t : Nat)
  /-- LINK_NAP (R68): The owner function writes NAP in LNK_CMD, and the port sends NAP_REQ or refuses the NAP. -/
  | linkNap (d : Part) (p : Nat) (t : Nat)
  /-- LINK_WAKE (R69): The owner function writes WAKE in LNK_CMD, and a link in DEEP begins its exit; a wake during DEEP entry is held. -/
  | linkWake (d : Part) (p : Nat) (t : Nat)
  /-- NAP_REPLY_TIMEOUT (R68): No reply to a NAP_REQ arrives within 1 µs, so the link stays ACTIVE and NAP_REFUSED is set. -/
  | napReplyTimeout (d : Part) (p : Nat) (t : Nat)
  /-- DEEP_ENTRY_DONE (R68): Both ends reach DEEP within 2 µs of NAP_ACK, and any held wake then starts the exit. -/
  | deepEntryDone (d : Part) (p : Nat) (t : Nat)
  /-- BEACON_DETECT (R69): The beacon detector on the clock lane sees the partner's wake beacon, and the DEEP exit begins. -/
  | beaconDetect (d : Part) (p : Nat) (t : Nat)
  /-- CLOCK_LANE_LOSS (R415): No forwarded-clock transition for 100 ns on an ACTIVE or recovering link takes the link to DOWN at once. -/
  | clockLaneLoss (d : Part) (p : Nat) (t : Nat)
  /-- SPRAY_WEIGHT_UPDATE (R99): Every 8 µs each egress port's spray weight is recomputed from its queued cells. -/
  | sprayWeightUpdate (d : Part) (t : Nat)
  /-- EDROP_AVERAGE_UPDATE (R115): Every 256 ns each best-effort egress queue's average A is updated from its present length. -/
  | edropAverageUpdate (t : Nat)
  /-- PACKET_FORWARD (R98): A packet passed by the Strainer and not consumed here is hop-checked, looked up, coloured and queued on a sprayed or pinned link, or dropped. -/
  | packetForward (d : Part) (p : Nat) (ue : Nat) (t : Nat)
  /-- PKT_NODE_ID_WRITE (R93): A write to PKT_NODE_ID sets the node id only while every port's live ENABLE is 0. -/
  | pktNodeIdWrite (d : Part) (v : Word) (t : Nat)
  /-- PKT_DRAIN_WRITE (R104): A write to PKT_DRAIN sets or clears DRAIN bits; clearing reissues parked transactions for those nodes. -/
  | pktDrainWrite (d : Part) (k : Nat) (v : Word) (t : Nat)
  /-- TRANSACTION_ISSUE (R132): A transaction that waited for the TXN_ID window, a drain, or ordered-flow room is issued once the condition clears. -/
  | transactionIssue (d : Part) (t : Nat)
  /-- PACKET_ADMIT (R117): A packet of a promised channel is admitted once its bucket holds its charge, and the instant is recorded as its acceptance. -/
  | packetAdmit (d : Part) (t : Nat)
  /-- RBOUND_EXPIRY (R128): A promised transaction's RBOUND passes before its response arrives, so a timing fault is raised once per transaction. -/
  | rboundExpiry (d : Part) (txn : (BitVec 32)) (t : Nat)
  /-- TARGET_READ (R133): A READ at its destination is checked, translated or windowed and answered with READ_DATA, data or all-ones with a STATUS. -/
  | targetRead (d : Part) (ue : Nat) (t : Nat)
  /-- TARGET_WRITE (R140): A WRITE at its destination is deduplicated, ordered if needed, checked and applied, its landing counter counts, and an ACK is sent. -/
  | targetWrite (d : Part) (ue : Nat) (t : Nat)
  /-- TARGET_AMO (R136): An AMO is deduplicated and applied atomically to one 8 B word, and AMO_RESULT returns the old value. -/
  | targetAmo (d : Part) (ue : Nat) (t : Nat)
  /-- TARGET_REDUCE (R169): A REDUCE at a switch is deduplicated, checked in the order of Table 7.3, and bound to its contribution slot with an ACK. -/
  | targetReduce (x : PartEcc) (t : Nat)
  /-- TARGET_MSG (R235): A MSG appends its record to service queue OP_ARG at the target, with padding as needed, or is answered QUOTA. -/
  | targetMsg (d : Part) (ue : Nat) (t : Nat)
  /-- READ_DATA (R149): READ_DATA at the source retires its transaction, lands its data and increases the named landing counter, or is discarded as late or mismatched. -/
  | readData (d : Part) (t : Nat)
  /-- ACK (R143): An ACK retires its transaction at the source, or is discarded and counted if the TXN_ID has already retired. -/
  | ack (d : Part) (t : Nat)
  /-- AMO_RESULT (R143): An AMO_RESULT retires its transaction and delivers the old value to the agent. -/
  | amoResult (d : Part) (t : Nat)
  /-- ERROR (R146): An ERROR response completes its transaction with a non-OK code, delivering all-ones and writing a fault record. -/
  | error (d : Part) (t : Nat)
  /-- REISSUE_TIMEOUT (R144): A transaction's reissue timer expires, so it is resent with RETRY set under the same TXN_ID, or parked while its node drains. -/
  | reissueTimeout (d : Part) (txn : (BitVec 32)) (ecc : Ecc) (t : Nat)
  /-- DEAD_TARGET_EXPIRY (R145): DEAD_US after acceptance with no response, the source stops reissuing and completes the transaction with DEAD_TARGET. -/
  | deadTargetExpiry (d : Part) (txn : (BitVec 32)) (t : Nat)
  /-- SLOT_EXPIRE (R141): A DONE deduplication slot becomes EXPIRED 4.0 to 4.1 ms after its response was sent. -/
  | slotExpire (d : Part) (src : Nat) (slot : Nat) (t : Nat)
  /-- RELEASE_ISSUE (R153): A held release is issued once its fence completes OK, or completes RELEASE_ABORTED otherwise. -/
  | releaseIssue (d : Part) (t : Nat)
  /-- MEM_LCTR_WRITE (R150): A write to a landing counter sets its value, and a same-cycle increment is applied after it. -/
  | memLctrWrite (d : Part) (n : Nat) (v : Word) (t : Nat)
  /-- WIN_CMD_ARM (R191): ARM in RED_WIN_CMD validates the operation words and, if they pass, arms the window with the given STEP_TAG. -/
  | winCmdArm (n : Nat) (tag : Nat) (t : Nat)
  /-- WIN_CMD_CLEAR (R191): CLEAR in RED_WIN_CMD starts returning the window to IDLE, dropping bindings and staging. -/
  | winCmdClear (n : Nat) (t : Nat)
  /-- WIN_CLEAR_COMPLETE (R191): Within 2 µs of CLEAR, the window is IDLE and its staging and assembly blocks are free. -/
  | winClearComplete (n : Nat) (t : Nat)
  /-- PIECE_EMIT (R181): A named piece whose bound count reaches CONTRIBS is read, summed exactly, rounded once and sent to its output. -/
  | pieceEmit (cmd : Nat) (piece : Nat) (ecc : Ecc) (t : Nat)
  /-- CLUSTER_SPARE_SWAP (R438): A failed reduction cluster is replaced by a spare in RED_CLUSTER_MAP once every window that names it is IDLE. -/
  | clusterSpareSwap (c : Nat) (t : Nat)
  /-- COLL_SUBMIT (R198): The collective service takes a collective descriptor, checks it, arms windows and sends READY, or aborts it. -/
  | collSubmit (t : Nat)
  /-- CHUNK_READY (R201): A chunk that is fully bound, or whose counter is full, is emitted and TPUT to its members. -/
  | chunkReady (op : Nat) (chunk : Nat) (t : Nat)
  /-- SHARD_DONE (R204): After its last segment a switch fences at .F and sends HUB_DONE to the arbiter. -/
  | shardDone (op : Nat) (t : Nat)
  /-- HUB_DONE (R215): The arbiter takes a HUB_DONE, and COMPLETED follows when all switches report OK, or ABORTED on an ERROR. -/
  | hubDone (t : Nat)
  /-- ABORT (R217): The arbiter takes an ABORT record, decides ABORTED if the outcome is still open, and answers with ABORT_REPLY. -/
  | opAbort (t : Nat)
  /-- STOP (R216): A switch takes STOP, stops emission and TPUTs, clears its windows, fences and answers HUB_DONE STOPPED. -/
  | stop (t : Nat)
  /-- DISPATCH_SUBMIT (R208): The hub takes a dispatch descriptor and arms its combine windows, ready to plan once the top-k tables land. -/
  | dispatchSubmit (t : Nat)
  /-- DISPATCH_PLAN (R209): When TOPK_LCTR reaches its total, the hub plans every choice in home order and writes plans and row lists. -/
  | dispatchPlan (op : Nat) (t : Nat)
  /-- COMBINE_EMIT (R213): When a home's combine counter completes, the hub emits its window with PARTIAL and clears INCOMPLETE. -/
  | combineEmit (op : Nat) (h : Nat) (t : Nat)
  /-- SEQ_LOAD_CMD (R229): A write to SEQ_LOAD_CMD starts verification of the image for the named cores, or is refused BUSY or NOT_STOPPED. -/
  | seqLoadCmd (cores : Word) (t : Nat)
  /-- LOAD_VERIFY_DONE (R229): The island finishes the checks of Table 9.5 and the copy starts, or the load fails with no core changed. -/
  | loadVerifyDone (t : Nat)
  /-- LOAD_COPY_DONE (R229): Code and data are copied and the rest zeroed in every named core, and they become LOADED. -/
  | loadCopyDone (t : Nat)
  /-- CORE_START (R231): START moves a LOADED core to RUNNING from ENTRY, or a HALTED core to RUNNING from its PC. -/
  | coreStart (n : Nat) (t : Nat)
  /-- CORE_HALT (R231): HALT moves a RUNNING core to HALTING, and a waiting instruction is abandoned. -/
  | coreHalt (n : Nat) (t : Nat)
  /-- CORE_HALTED (R231): A HALTING core stops at an instruction boundary within 1 µs and becomes HALTED. -/
  | coreHalted (n : Nat) (t : Nat)
  /-- CORE_RESET (R231): RESET zeroes a core's local memory and registers within 10 µs, releases any Pot it held and leaves it OFF, using a spare if it failed. -/
  | coreReset (n : Nat) (t : Nat)
  /-- WATCHDOG (R233): One instruction stalls for longer than LIMIT_US, so the core raises WATCHDOG. -/
  | watchdog (n : Nat) (t : Nat)
  /-- SAMPLE_TAKE (R239): A core's event count passes a multiple of PERIOD, and one sample record is written to the shared ring or lost. -/
  | sampleTake (n : Nat) (skid : Nat) (t : Nat)
  /-- SEQ_QUEUE_DISABLE (R236): Clearing ENABLE of a service queue discards its records, counts them and sets DROPPED. -/
  | seqQueueDisable (q : Nat) (t : Nat)
  /-- SEQ_LOCAL_DATA_ACCESS (R221): The owner function reads or writes the local word that SEQ_LOCAL_WIN names, only while the core is stopped and confidential mode is off. -/
  | seqLocalDataAccess (n : Nat) (write : Bool) (v : Word) (t : Nat)
  /-- NOP (R247): No operation. -/
  | nop (n : Nat) (t : Nat)
  /-- BREAK (R232): Raises BREAK with the immediate as DETAIL. -/
  | opBreak (n : Nat) (t : Nat)
  /-- RDCYC (R247): Reads the core cycles since START. -/
  | rdcyc (n : Nat) (t : Nat)
  /-- RDTIME (R247): Reads ns since power-on reset in the switch-core clock. -/
  | rdtime (n : Nat) (t : Nat)
  /-- RDID (R247): Reads the node id and the logical core number. -/
  | rdid (n : Nat) (t : Nat)
  /-- ADD (R247): Adds two registers modulo 2^64. -/
  | add (n : Nat) (t : Nat)
  /-- SUB (R247): Subtracts two registers modulo 2^64. -/
  | sub (n : Nat) (t : Nat)
  /-- AND (R247): Bitwise AND of two registers. -/
  | opAnd (n : Nat) (t : Nat)
  /-- OR (R247): Bitwise OR of two registers. -/
  | opOr (n : Nat) (t : Nat)
  /-- XOR (R247): Bitwise XOR of two registers. -/
  | xor (n : Nat) (t : Nat)
  /-- SLL (R247): Logical left shift by the low 6 bits of sb. -/
  | sll (n : Nat) (t : Nat)
  /-- SRL (R247): Logical right shift. -/
  | srl (n : Nat) (t : Nat)
  /-- SRA (R247): Arithmetic right shift. -/
  | sra (n : Nat) (t : Nat)
  /-- MUL (R247): Low 64 bits of the product. -/
  | mul (n : Nat) (t : Nat)
  /-- MULHU (R247): High 64 bits of the unsigned product. -/
  | mulhu (n : Nat) (t : Nat)
  /-- DIVU (R247): Unsigned quotient; division by zero gives all-ones. -/
  | divu (n : Nat) (t : Nat)
  /-- REMU (R247): Unsigned remainder; by zero gives the dividend. -/
  | remu (n : Nat) (t : Nat)
  /-- SLT (R247): Sets 1 if sa < sb signed. -/
  | slt (n : Nat) (t : Nat)
  /-- SLTU (R247): Sets 1 if sa < sb unsigned. -/
  | sltu (n : Nat) (t : Nat)
  /-- ADDI (R247): Adds a sign-extended immediate. -/
  | addi (n : Nat) (t : Nat)
  /-- ANDI (R247): ANDs with a sign-extended immediate. -/
  | andi (n : Nat) (t : Nat)
  /-- ORI (R247): ORs with a sign-extended immediate. -/
  | ori (n : Nat) (t : Nat)
  /-- XORI (R247): XORs with a sign-extended immediate. -/
  | xori (n : Nat) (t : Nat)
  /-- SLLI (R247): Left shift by IMM[5:0]. -/
  | slli (n : Nat) (t : Nat)
  /-- SRLI (R247): Logical right shift by IMM[5:0]. -/
  | srli (n : Nat) (t : Nat)
  /-- SRAI (R247): Arithmetic right shift by IMM[5:0]. -/
  | srai (n : Nat) (t : Nat)
  /-- SLTI (R247): Signed compare against the immediate. -/
  | slti (n : Nat) (t : Nat)
  /-- SLTIU (R247): Unsigned compare against the sign-extended immediate. -/
  | sltiu (n : Nat) (t : Nat)
  /-- LI (R247): Loads a sign-extended immediate. -/
  | li (n : Nat) (t : Nat)
  /-- LIH (R247): Sets the high 32 bits and keeps the low 32 bits. -/
  | lih (n : Nat) (t : Nat)
  /-- BEQ (R248): Branches if sa == sb. -/
  | beq (n : Nat) (t : Nat)
  /-- BNE (R248): Branches if sa != sb. -/
  | bne (n : Nat) (t : Nat)
  /-- BLT (R248): Branches if sa < sb signed. -/
  | blt (n : Nat) (t : Nat)
  /-- BGE (R248): Branches if sa >= sb signed. -/
  | bge (n : Nat) (t : Nat)
  /-- BLTU (R248): Branches if sa < sb unsigned. -/
  | bltu (n : Nat) (t : Nat)
  /-- BGEU (R248): Branches if sa >= sb unsigned. -/
  | bgeu (n : Nat) (t : Nat)
  /-- JAL (R248): Writes PC + 8 and jumps relative. -/
  | jal (n : Nat) (t : Nat)
  /-- JALR (R248): Jumps to sa + 8 × imm and writes PC + 8, raising ALIGN or LOCAL_RANGE on a bad target. -/
  | jalr (n : Nat) (t : Nat)
  /-- LD_1 (R249): Loads 1 B zero-extended from local memory. -/
  | ld1 (n : Nat) (ue : Bool) (t : Nat)
  /-- LD_2 (R249): Loads 2 B zero-extended. -/
  | ld2 (n : Nat) (ue : Bool) (t : Nat)
  /-- LD_4 (R249): Loads 4 B zero-extended. -/
  | ld4 (n : Nat) (ue : Bool) (t : Nat)
  /-- LD_8 (R249): Loads 8 B. -/
  | ld8 (n : Nat) (ue : Bool) (t : Nat)
  /-- LDS_1 (R249): Loads 1 B sign-extended. -/
  | lds1 (n : Nat) (ue : Bool) (t : Nat)
  /-- LDS_2 (R249): Loads 2 B sign-extended. -/
  | lds2 (n : Nat) (ue : Bool) (t : Nat)
  /-- LDS_4 (R249): Loads 4 B sign-extended. -/
  | lds4 (n : Nat) (ue : Bool) (t : Nat)
  /-- ST_1 (R249): Stores 1 B to local memory. -/
  | st1 (n : Nat) (t : Nat)
  /-- ST_2 (R249): Stores 2 B. -/
  | st2 (n : Nat) (t : Nat)
  /-- ST_4 (R249): Stores 4 B. -/
  | st4 (n : Nat) (t : Nat)
  /-- ST_8 (R249): Stores 8 B. -/
  | st8 (n : Nat) (t : Nat)
  /-- CSET (R250): Sets a counter register from sa. -/
  | cset (n : Nat) (t : Nat)
  /-- CGET (R250): Reads a counter register into a general register. -/
  | cget (n : Nat) (t : Nat)
  /-- CADD (R250): Adds sa to a counter register's TARGET. -/
  | cadd (n : Nat) (t : Nat)
  /-- CLD (R250): Loads a counter register from local memory. -/
  | cld (n : Nat) (ue : Bool) (t : Nat)
  /-- CST (R250): Stores a counter register to local memory. -/
  | cst (n : Nat) (t : Nat)
  /-- DLD (R250): Loads a descriptor register without checking it. -/
  | dld (n : Nat) (ue : Bool) (t : Nat)
  /-- DST (R250): Stores a descriptor register to local memory. -/
  | dst (n : Nat) (t : Nat)
  /-- DADDR (R250): Adds sa to a descriptor's ADDR. -/
  | daddr (n : Nat) (t : Nat)
  /-- READ (R253): Reads one 8 B fabric word and stalls until it completes. -/
  | read (n : Nat) (t : Nat)
  /-- READ_ACQ (R154): A READ with acquire at a scope, holding later READs and AMOs until its response arrives. -/
  | readAcq (n : Nat) (t : Nat)
  /-- WRITE (R253): Writes one 8 B fabric word, posted if SC is s0. -/
  | write (n : Nat) (t : Nat)
  /-- WRITE_REL (R153): A WRITE held at the source until a fence at its scope completes. -/
  | writeRel (n : Nat) (t : Nat)
  /-- AMO_ADD (R254): Atomic add on a fabric word. -/
  | amoAdd (n : Nat) (t : Nat)
  /-- AMO_AND (R254): Atomic AND. -/
  | amoAnd (n : Nat) (t : Nat)
  /-- AMO_OR (R254): Atomic OR. -/
  | amoOr (n : Nat) (t : Nat)
  /-- AMO_XOR (R254): Atomic XOR. -/
  | amoXor (n : Nat) (t : Nat)
  /-- AMO_SMIN (R254): Atomic signed minimum. -/
  | amoSmin (n : Nat) (t : Nat)
  /-- AMO_SMAX (R254): Atomic signed maximum. -/
  | amoSmax (n : Nat) (t : Nat)
  /-- AMO_UMIN (R254): Atomic unsigned minimum. -/
  | amoUmin (n : Nat) (t : Nat)
  /-- AMO_UMAX (R254): Atomic unsigned maximum. -/
  | amoUmax (n : Nat) (t : Nat)
  /-- AMO_SWAP (R254): Atomic swap. -/
  | amoSwap (n : Nat) (t : Nat)
  /-- AMO_CAS (R254): Atomic compare-and-swap, with the compare value taken from sd. -/
  | amoCas (n : Nat) (t : Nat)
  /-- MSG (R258): Sends a record from local memory to a service queue at a node. -/
  | msg (n : Nat) (ue : Bool) (t : Nat)
  /-- TPUT (R256): Writes a tile from local memory or from a second descriptor to the fabric. -/
  | tput (n : Nat) (ue : Bool) (t : Nat)
  /-- TGET (R256): Reads a tile into local memory or into this switch's tiers. -/
  | tget (n : Nat) (t : Nat)
  /-- TIER_PROMOTE_HOT (R266): TIER request PROMOTE_HOT for a range of this switch. -/
  | tierPromoteHot (n : Nat) (t : Nat)
  /-- TIER_PROMOTE_DRAM (R266): TIER request PROMOTE_DRAM. -/
  | tierPromoteDram (n : Nat) (t : Nat)
  /-- TIER_PIN (R266): TIER request PIN. -/
  | tierPin (n : Nat) (t : Nat)
  /-- TIER_UNPIN (R266): TIER request UNPIN. -/
  | tierUnpin (n : Nat) (t : Nat)
  /-- TIER_WRITEBACK (R266): TIER request WRITEBACK. -/
  | tierWriteback (n : Nat) (t : Nat)
  /-- FENCE (R259): Stalls until every transaction this core issued in the scope has completed, and reports OK or the lowest code. -/
  | fence (n : Nat) (t : Nat)
  /-- WAITC (R260): Stalls until the named landing counter reaches TARGET. -/
  | waitc (n : Nat) (t : Nat)
  /-- LCTR_RD (R260): Reads a landing counter. -/
  | lctrRd (n : Nat) (t : Nat)
  /-- LCTR_SET (R260): Writes a landing counter under R150. -/
  | lctrSet (n : Nat) (t : Nat)
  /-- WIN_SET (R262): Writes an operation word of a window while it is IDLE. -/
  | winSet (n : Nat) (t : Nat)
  /-- WIN_ARM (R262): Arms a window with a step tag and returns ARM_RESULT. -/
  | winArm (n : Nat) (t : Nat)
  /-- WIN_CLEAR (R262): Clears a window and stalls until it is IDLE. -/
  | winClear (n : Nat) (t : Nat)
  /-- REDUCE (R181): Emission command over a range of pieces, with or without PARTIAL, that stalls until complete. -/
  | reduce (n : Nat) (t : Nat)
  /-- WIN_STAT (R262): Reads a window's status and optionally clears its RW1C bits. -/
  | winStat (n : Nat) (t : Nat)
  /-- TAKE (R263): Copies the oldest record of a bound queue into local memory and frees its slots, stalling while the queue is empty. -/
  | take (n : Nat) (ecc : Ecc) (t : Nat)
  /-- HCQ_POST (R264): Appends an entry to a host completion queue. -/
  | hcqPost (n : Nat) (ue : Bool) (t : Nat)
  /-- CHAN_INV (R265): Drops a channel from the channel cache. -/
  | chanInv (n : Nat) (t : Nat)
  /-- CHAN_CHK (R265): Reports whether a channel is open and usable by this program. -/
  | chanChk (n : Nat) (t : Nat)
  /-- STEP_RD (R267): Reads the switch's step number. -/
  | stepRd (n : Nat) (t : Nat)
  /-- STEP_SET (R267): Sets the step number if no write is held under an unsealed step. -/
  | stepSet (n : Nat) (t : Nat)
  /-- STEP_SEAL (R305): Seals a step, releasing its shadows and applying deferred FREE and POLICY, and advances the step number. -/
  | stepSeal (n : Nat) (t : Nat)
  /-- STEP_DISCARD (R306): Discards a step's writes by restoring every shadow of the step, leaving the step number unchanged. -/
  | stepDiscard (n : Nat) (t : Nat)
  /-- WAKE (R268): Sends WAKE to the ports named in a bitmask. -/
  | wake (n : Nat) (t : Nat)
  /-- NAP (R268): Starts the NAP handshake on a port and stalls until it is ENTERED or REFUSED. -/
  | nap (n : Nat) (t : Nat)
  /-- STAGE (R269): Writes one staged field, claiming the Pot if it is free. -/
  | stage (n : Nat) (t : Nat)
  /-- CHECK (R269): Core checks the Pot and stalls until the check completes. -/
  | check (n : Nat) (t : Nat)
  /-- POUR (R269): Core pours the Pot and stalls until the pour instant or the refusal. -/
  | pour (n : Nat) (t : Nat)
  /-- DISCARD (R269): Core reverts and releases a Pot it holds. -/
  | discard (n : Nat) (t : Nat)
  /-- CTR_RD (R270): Reads a counter subject to the grants. -/
  | ctrRd (n : Nat) (t : Nat)
  /-- DRAIN (R271): Sets or clears DRAIN bits of one PKT_DRAIN register. -/
  | drain (n : Nat) (t : Nat)
  /-- DRAINED (R271): Reads one PKT_DRAINED register. -/
  | drained (n : Nat) (t : Nat)
  /-- MIGRATION_COMPLETE (R290): A HOT-DRAM tile move finishes its copy passes, then LOC and TIER change at one instant and the source is freed. -/
  | migrationComplete (mv : TileRead) (t : Nat)
  /-- DEMOTION_COMPLETE (R291): A DRAM-to-Caddy demotion finishes programming its stripe, and the tile becomes CADDY with its DRAM copy freed. -/
  | demotionComplete (tile : Nat) (t : Nat)
  /-- CADDY_PROMOTION_COMPLETE (R291): A promotion from Caddy has read and decoded its 16 codewords into the destination, and waiting accesses proceed. -/
  | caddyPromotionComplete (tile : Nat) (lost : Bool) (retry : Bool) (t : Nat)
  /-- SHADOW_COPY_DONE (R304): A shadow copy into DRAM completes and the waiting write is applied to the current copy. -/
  | shadowCopyDone (mv : TileRead) (t : Nat)
  /-- WRITE_BUFFER_FLUSH_TIMER (R512): 1 ms after a page's first slot is filled, its empty slots are padded and the page is programmed. -/
  | writeBufferFlushTimer (t : Nat)
  /-- PAGE_PROGRAM_DONE (R298): A Caddy page program completes, or a failure retires the block. -/
  | pageProgramDone (out : PageOut) (spare : Bool) (t : Nat)
  /-- GARBAGE_COLLECT (R298): Free superblocks fall below GC_LOW_PERCENT, so the emptiest superblock is rewritten and erased. -/
  | garbageCollect (t : Nat)
  /-- WEAR_MOVE (R299): The erase-count spread exceeds WEAR_SPREAD, so the least-worn valid superblock's stripes move to a free superblock. -/
  | wearMove (t : Nat)
  /-- SUPERBLOCK_REFRESH (R300): A superblock reaching RD_LIMIT reads, needing a retry, or older than 30 days is rewritten. -/
  | superblockRefresh (sb : Nat) (retry : Bool) (t : Nat)
  /-- PATROL_SCRUB (R277): The patrol scrubber reads words on its schedule and writes back corrected words. -/
  | patrolScrub (unit : Nat) (addr : Nat) (errs : Nat) (t : Nat)
  /-- CADDY_READY (R481): After its domain wakes, Caddy reads parameter pages and system areas and reaches READY, or stays OFF. -/
  | caddyReady (found : FlashFound) (ok : Bool) (t : Nat)
  /-- MAP (R293): Tile command that maps unmapped tiles with a tenant, HOME, FLOOR and STEPVER. -/
  | map (first : Nat) (count : Nat) (tenant : Nat) (home : Nat) (floor : Nat) (stepver : Bool) (t : Nat)
  /-- FREE (R293): Tile command that frees copies and stripes and clears MAPPED, deferred for shadowed tiles. -/
  | free (first : Nat) (count : Nat) (tenant : Nat) (t : Nat)
  /-- POLICY (R293): Tile command that sets HOME and FLOOR and STEPVER, promoting tiles below the new FLOOR. -/
  | policy (first : Nat) (count : Nat) (tenant : Nat) (home : Nat) (floor : Nat) (stepver : Bool) (t : Nat)
  /-- PROMOTE_HOT (R293): Tile command that moves materialised tiles to HOT. -/
  | promoteHot (first : Nat) (count : Nat) (tenant : Nat) (t : Nat)
  /-- PROMOTE_DRAM (R293): Tile command that moves CADDY tiles to DRAM. -/
  | promoteDram (first : Nat) (count : Nat) (tenant : Nat) (t : Nat)
  /-- PIN (R293): Tile command that sets PINNED and promotes CADDY tiles. -/
  | pin (first : Nat) (count : Nat) (tenant : Nat) (t : Nat)
  /-- UNPIN (R293): Tile command that clears PINNED. -/
  | unpin (first : Nat) (count : Nat) (tenant : Nat) (t : Nat)
  /-- WRITEBACK (R293): Tile command that writes dirty tiles to new stripes. -/
  | writeback (first : Nat) (count : Nat) (tenant : Nat) (t : Nat)
  /-- DEMOTE (R293): Tile command that moves tiles one tier down as allowed. -/
  | demote (first : Nat) (count : Nat) (tenant : Nat) (t : Nat)
  /-- OBJ_MAP (R294): Queue 2 record that maps a range to store tiles and writes page tables. -/
  | objMap (t : Nat)
  /-- OBJ_FREE (R294): Queue 2 record that frees a mapped range. -/
  | objFree (t : Nat)
  /-- OBJ_POLICY (R294): Queue 2 record that changes a range's policy. -/
  | objPolicy (t : Nat)
  /-- TIER_REQ (R294): Queue 2 record that carries a tier request for a range. -/
  | tierReq (t : Nat)
  /-- WALK_COMPLETE (R313): A table walk ends with a translation or a fault, and its waiting accesses proceed or fault. -/
  | walkComplete (d : Part) (walk : Nat) (bad : (Option EntryErr)) (t : Nat)
  /-- XLT_INV_RANGE (R320): XLT_INV RANGE invalidates a tenant's or context's entries for a page range. -/
  | xltInvRange (d : Part) (v : Word) (t : Nat)
  /-- XLT_INV_ID (R320): XLT_INV ID invalidates every entry of a tenant or context. -/
  | xltInvId (d : Part) (v : Word) (t : Nat)
  /-- XLT_INV_ALL (R320): XLT_INV ALL invalidates every entry. -/
  | xltInvAll (d : Part) (v : Word) (t : Nat)
  /-- XLT_INV_COMPLETE (R321): An invalidation completes once older walks and packets are done, and PENDING clears. -/
  | xltInvComplete (d : Part) (t : Nat)
  /-- FAULT_BATCH_TIMER (R324): BATCH_US after the oldest pending record, or at 64 records, the batch is written to the fault log with an interrupt. -/
  | faultBatchTimer (t : Nat)
  /-- XLT_FLOG_CTRL_WRITE (R324): Clearing ENABLE of the fault log discards the pending batch without OVERFLOW. -/
  | xltFlogCtrlWrite (d : Part) (v : Word) (t : Nat)
  /-- XLT_RESUME_RETRY (R326): EP_XLT_RESUME RETRY walks every attached request again. -/
  | xltResumeRetry (id : Nat) (t : Nat)
  /-- XLT_RESUME_ABORT (R326): EP_XLT_RESUME ABORT completes attached requests with XLT_FAULT and resumes their engines. -/
  | xltResumeAbort (id : Nat) (t : Nat)
  /-- FAULT_LIMIT_EXPIRY (R326): A level-two fault is not resumed within FAULT_LIMIT_MS, so it is aborted and LIMIT_EXPIRED is set. -/
  | faultLimitExpiry (id : Nat) (t : Nat)
  /-- SQ_TAIL_DOORBELL (R343): A write to an SQ tail doorbell makes new commands available, or is ignored with BAD_DOORBELL. -/
  | sqTailDoorbell (fn : Nat) (q : Nat) (v : Nat) (t : Nat)
  /-- CQ_HEAD_DOORBELL (R343): A write to a CQ head doorbell frees completion slots, or is ignored with BAD_DOORBELL. -/
  | cqHeadDoorbell (fn : Nat) (q : Nat) (v : Nat) (t : Nat)
  /-- COMMAND_START (R344): The switch fetches an SQ entry in ring order and starts it when the started limit and FENCE bit allow, after the checks of R346. -/
  | commandStart (q : Nat) (entry : (Option (BitVec 512))) (t : Nat)
  /-- COMMAND_COMPLETE (R347): A command whose transactions have retired writes its completion entry when its CQ has room. -/
  | commandComplete (q : Nat) (slot : Nat) (hostErr : Bool) (t : Nat)
  /-- CQ_INT_TIMER (R362): INT_US after the oldest unsignalled entry, the CQ raises its MSI-X vector. -/
  | cqIntTimer (q : Nat) (t : Nat)
  /-- CMD_NOP (R345): Host command that does nothing and completes at once. -/
  | cmdNop (q : Nat) (t : Nat)
  /-- CMD_PUT (R345): Host command that writes host data to the fabric. -/
  | cmdPut (q : Nat) (data : (Option (List Byte))) (t : Nat)
  /-- CMD_GET (R345): Host command that reads fabric data into host memory. -/
  | cmdGet (q : Nat) (t : Nat)
  /-- CMD_FLAG (R345): Host command that writes one 8 B word, optionally with release. -/
  | cmdFlag (q : Nat) (t : Nat)
  /-- CMD_AMO (R345): Host command that performs one AMO. -/
  | cmdAmo (q : Nat) (t : Nat)
  /-- CMD_MSG (R345): Host command that sends a message to a service queue. -/
  | cmdMsg (q : Nat) (data : (Option (List Byte))) (t : Nat)
  /-- CMD_FENCE (R345): Host command that completes when the SQ's earlier transactions in scope are done. -/
  | cmdFence (q : Nat) (t : Nat)
  /-- CMD_EMIT (R345): Host command that issues an emission command on a window. -/
  | cmdEmit (q : Nat) (t : Nat)
  /-- CMD_TILE (R345): Host command that sends a tile-control command. -/
  | cmdTile (q : Nat) (data : (Option (List Byte))) (t : Nat)
  /-- CMD_CHAN_INV (R340): Host command that invalidates a channel range. -/
  | cmdChanInv (q : Nat) (t : Nat)
  /-- CMD_ABORT (R348): Host command that aborts a command of the same SQ. -/
  | cmdAbort (q : Nat) (t : Nat)
  /-- HIF_SQ_WORD_B_WRITE (R342): A write to an SQ's word B sets fields or ENABLE, subject to CQ binding and confidential rules. -/
  | hifSqWordBWrite (q : Nat) (v : Word) (t : Nat)
  /-- HIF_CQ_WORD_B_WRITE (R342): A write to a CQ's word B sets fields or ENABLE, refused while a bound SQ is enabled. -/
  | hifCqWordBWrite (q : Nat) (v : Word) (t : Nat)
  /-- HIF_CHAN_INV_WRITE (R340): A write to HIF_CHAN_INV starts a channel-cache invalidation of a range, or is ignored. -/
  | hifChanInvWrite (d : Part) (v : Word) (t : Nat)
  /-- CHAN_INV_COMPLETE (R340): A channel-cache invalidation completes and PENDING clears. -/
  | chanInvComplete (d : Part) (t : Nat)
  /-- CHANNEL_FETCH (R339): A channel-cache miss finishes reading the entry from the table, or fails with CHAN_FETCH_ERR. -/
  | channelFetch (d : Part) (chan : Nat) (ecc : Ecc) (host : (BitVec 1024)) (t : Nat)
  /-- VF_FLR (R349): A Function Level Reset of a VF disables its queues and stops its commands. -/
  | vfFlr (v : Nat) (t : Nat)
  /-- CAP_SET (R452): A management request sets the rack power cap, which is accepted within 1 ms and replied to. -/
  | capSet (req : MgmtReq) (t : Nat)
  /-- CAP_GET (R452): A management request reports the cap state. -/
  | capGet (req : MgmtReq) (t : Nat)
  /-- TEL_SNAPSHOT (R474): A management request returns one counter group, latest or live. -/
  | telSnapshot (req : MgmtReq) (t : Nat)
  /-- HEALTH (R441): A management request returns identity, epoch, step and fault summary. -/
  | health (req : MgmtReq) (t : Nat)
  /-- EVENT_REPLY (R360): The controller's reply to an EVENT stops that EVENT's resends. -/
  | eventReply (req : MgmtReq) (t : Nat)
  /-- EVENT_RESEND_TIMER (R360): Every 100 ms an unacknowledged EVENT is sent again, up to 10 times. -/
  | eventResendTimer (seq : Nat) (t : Nat)
  /-- I3C_PRIVATE_WRITE (R361): A 4 B private write sets the BAR0 offset for the next read; any other private write is NACKed. -/
  | i3cPrivateWrite (bytes : (List Byte)) (t : Nat)
  /-- I3C_PRIVATE_READ (R361): A private read returns 8 B from the set offset if it is readable, else zero. -/
  | i3cPrivateRead (t : Nat)
  /-- I3C_DYNAMIC_ADDRESS (R361): ENTDAA or SETDASA gives the port its dynamic address. -/
  | i3cDynamicAddress (x : I3cAssign) (t : Nat)
  /-- ENGINE_READ (R370): An engine request READ for one 8 B word. -/
  | engineRead (n : Nat) (req : (BitVec 512)) (t : Nat)
  /-- ENGINE_WRITE (R370): An engine request WRITE for one 8 B word. -/
  | engineWrite (n : Nat) (req : (BitVec 512)) (t : Nat)
  /-- ENGINE_TGET (R370): An engine tile get. -/
  | engineTget (n : Nat) (req : (BitVec 512)) (t : Nat)
  /-- ENGINE_TPUT (R370): An engine tile put. -/
  | engineTput (n : Nat) (req : (BitVec 512)) (own : (List (Nat × Byte))) (t : Nat)
  /-- ENGINE_AMO (R370): An engine atomic. -/
  | engineAmo (n : Nat) (req : (BitVec 512)) (t : Nat)
  /-- ENGINE_FENCE (R370): An engine fence over its own transactions. -/
  | engineFence (n : Nat) (req : (BitVec 512)) (t : Nat)
  /-- ENGINE_INVAL (R383): An engine invalidation of the read cache by range, channel or in full. -/
  | engineInval (n : Nat) (req : (BitVec 512)) (t : Nat)
  /-- ENGINE_WAIT (R370): An engine wait on a landing counter. -/
  | engineWait (n : Nat) (req : (BitVec 512)) (t : Nat)
  /-- WEIGHT_SEGMENT_VERIFY (R408): When a weight segment's two READs complete, its tag is verified and it lands decrypted, or fails. -/
  | weightSegmentVerify (slot : Nat) (seg : Nat) (t : Nat)
  /-- UCIE_MODULE_TRAINED (R367): A UCIe module completes training and joins MODULES_UP. -/
  | ucieModuleTrained (m : Nat) (t : Nat)
  /-- MODULE_DOWN (R367): A UCIe module fails in service, drops from the set and sets MODULE_DOWN. -/
  | moduleDown (m : Nat) (t : Nat)
  /-- RCACHE_INV_CHANNEL (R383): The host invalidates the read cache for one channel. -/
  | rcacheInvChannel (chan : Nat) (t : Nat)
  /-- RCACHE_INV_ALL (R383): The host invalidates the whole read cache. -/
  | rcacheInvAll (t : Nat)
  /-- ORD_RESET_FLOW (R385): EP_ORD_RESET resets one ordered flow. -/
  | ordResetFlow (src : Nat) (chan : Nat) (t : Nat)
  /-- ORD_RESET_ALL_FLOWS (R385): EP_ORD_RESET resets every flow of a source node. -/
  | ordResetAllFlows (src : Nat) (t : Nat)
  /-- ORD_RESET_COMPLETE (R385): An ordered-flow reset finishes and PENDING clears. -/
  | ordResetComplete (t : Nat)
  /-- OWNER_SET (R400): Island command that registers the owner. -/
  | ownerSet (ses : SesMsg) (bad : Bool) (key : Nat) (t : Nat)
  /-- OWNER_CLEAR (R400): Island command that schedules erasure of the owner at the next power-on reset. -/
  | ownerClear (ses : SesMsg) (bad : Bool) (t : Nat)
  /-- TENANT_CREATE (R400): Island command that creates a tenant with a new master key. -/
  | tenantCreate (ses : SesMsg) (bad : Bool) (tenant : Nat) (key : Nat) (t : Nat)
  /-- TENANT_REMOVE (R410): Island command that destroys a tenant's keys and starts zeroing its tiles. -/
  | tenantRemove (ses : SesMsg) (bad : Bool) (tenant : Nat) (t : Nat)
  /-- TENANT_ZEROING_DONE (R410): The last tile of a removed tenant is freed, so EXISTS and REMOVING clear and the command answers OK. -/
  | tenantZeroingDone (tenant : Nat) (t : Nat)
  /-- PROGKEY_ADD (R400): Island command that adds a tenant program key. -/
  | progkeyAdd (ses : SesMsg) (bad : Bool) (tenant : Nat) (key : Nat) (t : Nat)
  /-- PROGKEY_DEL (R400): Island command that deletes a tenant program key. -/
  | progkeyDel (ses : SesMsg) (bad : Bool) (tenant : Nat) (key : Nat) (t : Nat)
  /-- ROLLBACK_SET (R393): Island command that raises a program's minimum version. -/
  | rollbackSet (ses : SesMsg) (bad : Bool) (prog : Nat) (version : Nat) (t : Nat)
  /-- EPOCH_ADVANCE (R400): Island command that makes a new live key epoch and holds the previous one. -/
  | epochAdvance (ses : SesMsg) (bad : Bool) (tenant : Nat) (t : Nat)
  /-- EPOCH_RETIRE (R403): Island command that destroys the previous epoch key and retires queues keyed under it. -/
  | epochRetire (ses : SesMsg) (bad : Bool) (tenant : Nat) (t : Nat)
  /-- QUEUE_KEY_GET (R400): Island command that returns a queue key at the live epoch. -/
  | queueKeyGet (ses : SesMsg) (bad : Bool) (tenant : Nat) (q : Nat) (kind : Nat) (t : Nat)
  /-- CONF_ENTER (R404): Island command that enters confidential mode if its conditions hold. -/
  | confEnter (ses : SesMsg) (bad : Bool) (t : Nat)
  /-- CONF_EXIT (R400): Island command that leaves confidential mode. -/
  | confExit (ses : SesMsg) (bad : Bool) (t : Nat)
  /-- DEBUG_OPEN (R400): Island command that opens the debug port until power-on reset. -/
  | debugOpen (ses : SesMsg) (bad : Bool) (t : Nat)
  /-- WEIGHT_KEY_PUT (R407): Island command that fills a weight slot on the end-point. -/
  | weightKeyPut (ses : SesMsg) (bad : Bool) (key : Nat) (object : Nat) (base : Nat) (size : Nat) (tagBase : Nat) (tenant : Nat) (t : Nat)
  /-- WEIGHT_KEY_DESTROY (R400): Island command that zeroes a weight slot. -/
  | weightKeyDestroy (ses : SesMsg) (bad : Bool) (slot : Nat) (t : Nat)
  /-- GET_VERSION (R398): SPDM request that returns the supported versions. -/
  | getVersion (d : Part) (tr : Transport) (t : Nat)
  /-- GET_CAPABILITIES (R398): SPDM request that returns the capabilities. -/
  | getCapabilities (d : Part) (tr : Transport) (t : Nat)
  /-- NEGOTIATE_ALGORITHMS (R398): SPDM request that negotiates the algorithms. -/
  | negotiateAlgorithms (d : Part) (tr : Transport) (offers : Bool) (t : Nat)
  /-- GET_DIGESTS (R398): SPDM request that returns certificate digests. -/
  | getDigests (d : Part) (tr : Transport) (t : Nat)
  /-- GET_CERTIFICATE (R398): SPDM request that returns the certificate chain. -/
  | getCertificate (d : Part) (tr : Transport) (slot : Nat) (t : Nat)
  /-- CHALLENGE (R398): SPDM challenge answered with a signed response. -/
  | challenge (d : Part) (tr : Transport) (slot : Nat) (t : Nat)
  /-- GET_MEASUREMENTS (R397): SPDM request that returns the measurement blocks. -/
  | getMeasurements (d : Part) (tr : Transport) (index : Nat) (t : Nat)
  /-- KEY_EXCHANGE (R398): SPDM request that starts a session. -/
  | keyExchange (d : Part) (tr : Transport) (slot : Nat) (auth : Bool) (t : Nat)
  /-- FINISH (R399): SPDM request that finishes session establishment. -/
  | finish (d : Part) (ses : SesMsg) (ok : Bool) (cred : (Option Nat)) (t : Nat)
  /-- END_SESSION (R398): SPDM request that ends a session. -/
  | endSession (d : Part) (ses : SesMsg) (t : Nat)
  /-- SPDM_HEARTBEAT (R398): SPDM session heartbeat. -/
  | spdmHeartbeat (d : Part) (ses : SesMsg) (t : Nat)
  /-- HYBRID_SIG (R399): Vendor request that returns the ML-DSA envelope over the last signed transcript. -/
  | hybridSig (d : Part) (tr : Transport) (t : Nat)
  /-- PEER_SIG (R399): Vendor request that carries the requester's hybrid envelope and authenticates the session. -/
  | peerSig (d : Part) (ses : SesMsg) (env : (List Byte)) (t : Nat)
  /-- BEAT (R421): A BEAT arrives and keeps the link alive, possibly triggering catch-up and clearing HELD. -/
  | beat (d : Part) (p : Nat) (body : HbBody) (t : Nat)
  /-- BEAT_TIMER (R421): Every HB_US a BEAT is sent on each ACTIVE link. -/
  | beatTimer (d : Part) (t : Nat)
  /-- HEARTBEAT_SILENCE (R421): No valid frame for HB_MISS × HB_US, so the partner is accused SILENT. -/
  | heartbeatSilence (d : Part) (p : Nat) (t : Nat)
  /-- ACCUSE (R424): An accusation record is taken and forwarded, and at a coordinator may lead to a declaration of death. -/
  | accuse (d : Part) (p : Nat) (body : HbBody) (t : Nat)
  /-- FATAL (R426): A FATAL record is taken, forwarded, and makes the coordinator declare the origin dead. -/
  | fatal (d : Part) (p : Nat) (body : HbBody) (t : Nat)
  /-- JOIN (R439): A JOIN record is taken and held for admission. -/
  | opJoin (d : Part) (p : Nat) (body : HbBody) (t : Nat)
  /-- STEP_READY (R431): A STEP_READY record is taken, and the coordinator commits once all switches report. -/
  | stepReady (d : Part) (p : Nat) (body : HbBody) (t : Nat)
  /-- STEP_FAIL (R431): A STEP_FAIL record is taken, and the coordinator decides replay. -/
  | stepFail (d : Part) (p : Nat) (body : HbBody) (t : Nat)
  /-- STEP_DISCARDED (R431): A STEP_DISCARDED record is taken, and the coordinator restarts once all switches report. -/
  | stepDiscarded (d : Part) (p : Nat) (body : HbBody) (t : Nat)
  /-- LEASE_ACK (R425): A lease acknowledgement is counted by the coordinator. -/
  | leaseAck (d : Part) (p : Nat) (body : HbBody) (t : Nat)
  /-- DECISION_EPOCH (R428): An EPOCH decision is applied: dead nodes are fenced, their transactions complete and their ports go DOWN, or nodes are admitted. -/
  | decisionEpoch (d : Part) (p : Nat) (body : HbBody) (t : Nat)
  /-- STEP_COMMIT (R432): The decision is applied: switches seal the step and end-points advance EP_STEP. -/
  | stepCommit (d : Part) (p : Nat) (body : HbBody) (t : Nat)
  /-- STEP_REPLAY (R433): The decision is applied: collectives stop and participants are told REPLAY. -/
  | stepReplay (d : Part) (p : Nat) (body : HbBody) (t : Nat)
  /-- STEP_RESTART (R433): The decision is applied: RESTART is written to participants. -/
  | stepRestart (d : Part) (p : Nat) (body : HbBody) (t : Nat)
  /-- DECISION_LEASE (R425): A lease renewal is applied and answered with LEASE_ACK. -/
  | decisionLease (d : Part) (p : Nat) (body : HbBody) (t : Nat)
  /-- LEASE_RENEW_TIMER (R425): Every LEASE_US ÷ 4 the coordinator floods a lease renewal and checks its acknowledgements. -/
  | leaseRenewTimer (t : Nat)
  /-- COORDINATOR_TAKEOVER (R425): With no record from the coordinator for 2 × LEASE_US, the next candidate declares it dead and takes over. -/
  | coordinatorTakeover (t : Nat)
  /-- DECISION_CATCHUP (R423): Missing decisions are sent to a lagging partner one per HB_US. -/
  | decisionCatchup (d : Part) (p : Nat) (t : Nat)
  /-- STEP_PLAN (R430): The step controller takes a participant plan for a step. -/
  | stepPlan (t : Nat)
  /-- STEP_END (R430): A participant's STEP_END is taken, leading to STEP_READY or STEP_FAIL. -/
  | stepEnd (t : Nat)
  /-- STEP_FENCED (R433): A participant's STEP_FENCED is taken, and the discard proceeds once all have arrived. -/
  | stepFenced (t : Nat)
  /-- REPLAY_FENCE_TIMEOUT (R433): DEAD_US after REPLAY without every STEP_FENCED, the switch discards the step anyway. -/
  | replayFenceTimeout (t : Nat)
  /-- REPAIR_TEST (R439): TEST in TEL_REPAIR starts the device self-test. -/
  | repairTest (d : Part) (t : Nat)
  /-- REPAIR_TEST_DONE (R439): The self-test ends in PASS or FAIL, with spares substituted. -/
  | repairTestDone (d : Part) (lanes : (List (Nat × Nat))) (cores : (List Nat)) (clusters : (List Nat)) (bad : Nat) (t : Nat)
  /-- REPAIR_JOIN (R439): JOIN in TEL_REPAIR starts JOIN flooding after PASS. -/
  | repairJoin (d : Part) (t : Nat)
  /-- JOIN_TIMER (R439): Every 1 ms, a device not yet admitted floods JOIN again. -/
  | joinTimer (d : Part) (t : Nat)
  /-- FORM (R484): FORM at CAND0 issues the formation epochs that take in every JOIN it holds. -/
  | form (d : Part) (t : Nat)
  /-- ADMIT (R439): ADMIT at the coordinator between jobs admits every JOIN it holds. -/
  | admitHeld (d : Part) (t : Nat)
  /-- FATAL_FAULT (R419): A fatal cause is raised and Kettle records it, sends FATAL, takes links DOWN and stops PCIe. -/
  | fatalFault (d : Part) (cause : Nat) (t : Nat)
  /-- LOGIC_HANG (R419): No scheduler progress beat for 100 µs raises LOGIC_HANG. -/
  | logicHang (d : Part) (t : Nat)
  /-- CLOCK_LOSS (R419): A fast PLL unlocked for more than 1 µs raises CLOCK_LOSS. -/
  | clockLoss (d : Part) (t : Nat)
  /-- TEMPERATURE_READ (R501): Every 10 µs Kettle reads the sensors, and a reading above a trip point raises THERMAL. -/
  | temperatureRead (d : Part) (temps : (List Int)) (t : Nat)
  /-- REFCLK_LOSS (R500): No REFCLK edge for 1 µs switches Kettle to its internal oscillator, and CLOCK_LOSS follows. -/
  | refclkLoss (d : Part) (t : Nat)
  /-- DOMAIN_WAKE_DONE (R443): A demand domain finishes waking and is ON. -/
  | domainWakeDone (dom : Nat) (t : Nat)
  /-- DOMAIN_WAKE_TIMEOUT (R444): A domain not ON within four wake latencies is marked FAILED. -/
  | domainWakeTimeout (dom : Nat) (t : Nat)
  /-- DOMAIN_OFF_TIMER (R443): 1 ms after a domain's demand stops holding, the domain is reset and turned off unless held. -/
  | domainOffTimer (dom : Nat) (t : Nat)
  /-- CLOCK_LEVEL_STEP (R445): Kettle changes a clock by one level, at most every 20 µs, with voltage ordered first. -/
  | clockLevelStep (clk : Nat) (up : Bool) (t : Nat)
  /-- VR_REPLY (R449): A regulator reply is taken: an ACK updates the acknowledged code; a NAK or a bad CRC leads to a resend. -/
  | vrReply (frame : (BitVec 32)) (t : Nat)
  /-- VR_REPLY_TIMEOUT (R450): No reply within 4 µs leads to a resend, and after three retries VR_FAIL is set. -/
  | vrReplyTimeout (t : Nat)
  /-- VR_KEEPALIVE_TIMER (R448): Every 1 ms without a SET, Kettle sends KEEPALIVE, or retries after VR_FAIL. -/
  | vrKeepaliveTimer (t : Nat)
  /-- EST_UPDATE (R451): Every 10 µs the power estimate is updated. -/
  | estUpdate (t : Nat)
  /-- FLOOR_RECOMPUTE (R453): Every 100 µs FLOOR_W and the cap state are recomputed. -/
  | floorRecompute (t : Nat)
  /-- CAP_WINDOW (R455): At each 100 µs window end, an average EST above the cap steps the clocks down, or a lower THROTTLE is set. -/
  | capWindow (t : Nat)
  /-- AGEING_MONITOR_READ (R459): Each second the ageing monitors are read, and slack below 5 ps raises GUARD at once. -/
  | ageingMonitorRead (slacks : (List Int)) (t : Nat)
  /-- MARGIN_PLAN (R459): Every 60 minutes of power-on, GUARD is adjusted from the smallest slack read. -/
  | marginPlan (t : Nat)
  /-- AGEING_LOG_DAILY (R463): Every 24 hours of power-on, an ageing log record is written and the forecast updated. -/
  | ageingLogDaily (t : Nat)
  /-- EQ_RECOMPUTE (R461): A lane's eye margin falls below half, so new receive coefficients are computed and stored. -/
  | eqRecompute (d : Part) (p : Nat) (lane : Nat) (coeff : Nat) (t : Nat)
  /-- WINDOW_BOUNDARY (R470): At each WINDOW_US boundary the selected counter groups are latched and a snapshot record is written. -/
  | windowBoundary (d : Part) (t : Nat)
  /-- TEL_WIN_CFG_WRITE (R470): Setting or clearing ENABLE of TEL_WIN_CFG starts or stops the window boundaries. -/
  | telWinCfgWrite (d : Part) (v : Word) (t : Nat)
  /-- POWER_ON_RESET (R478): POR_N low resets every domain, and its rise starts the start-up sequence. -/
  | powerOnReset (d : Part) (t : Nat)
  /-- BOOT_STAGE_DONE (R480): A start-up stage of Table 19.2 completes, and the next begins or STAGE becomes STOPPED. -/
  | bootStageDone (d : Part) (result : BootResult) (t : Nat)
  /-- WARM_N (R485): WARM_N held low for 1 µs starts a warm reset. -/
  | warmN (d : Part) (t : Nat)
  /-- WARM (R485): WARM in CFG_RESET_CTRL starts a warm reset. -/
  | warm (d : Part) (t : Nat)
  /-- PF0_FLR (R349): A Function Level Reset of PF 0 starts a warm reset. -/
  | pf0Flr (t : Nat)
  /-- WARM_RESET_DONE (R485): The warm-reset sequence reaches READY within 90 ms, and the device is STALE. -/
  | warmResetDone (d : Part) (t : Nat)
  /-- DOMAIN_RESET (R487): DOMAIN_RESET in CFG_RESET_CTRL resets one demand domain. -/
  | domainReset (d : Part) (dom : Nat) (t : Nat)
  /-- PERST_N (R487): PERST_N resets domain 27 alone. -/
  | perstN (t : Nat)
  /-- POWER_LOSS (R498): Power is lost at any moment, and the next power-up is a power-on reset. -/
  | powerLoss (d : Part) (t : Nat)
  /-- EP_START_UP (R488): The end-point trains UCIe, verifies its firmware and reaches READY within 80 ms. -/
  | epStartUp (r : EpBoot) (t : Nat)
  /-- ACKNOWLEDGEMENT_DEADLINE (R59): When no header has carried the cumulative acknowledgement within 100 ns of accepting a DATA frame, the receiver sends a CONTROL ACK. -/
  | acknowledgementDeadline (d : Part) (p : Nat) (t : Nat)
  /-- MARKER (R48): A marker received on every data lane ends the held +3 run, reseeds each lane's descrambler and lets the receiver resume after a replay or an IDLE exit. -/
  | marker (d : Part) (p : Nat) (lanes : (List (List Sym))) (t : Nat)
  /-- COMPUTE_DIE_ACKNOWLEDGE (R381): The compute die acknowledges an attach access, so the end-point moves the deduplication slot to DONE, releases the next AMO to that word and sends ACK, READ_DATA or AMO_RESULT. -/
  | computeDieAcknowledge (id : Nat) (own : (List (Nat × Byte))) (t : Nat)
  /-- READ_CACHE_INVALIDATION_COMPLETE (R383): A read-cache invalidation by the host, by INVAL ALL or by an acquire finishes within 2 µs, PENDING clears and any waiting engine request completes. -/
  | readCacheInvalidationComplete (t : Nat)
  /-- BLOCK_ERASE_DONE (R299): A Caddy block erase completes, freeing its superblock and updating its erase count, or fails and retires the block. -/
  | blockEraseDone (sb : Nat) (ok : Bool) (spare : Bool) (t : Nat)
  /-- ARP_NEIGHBOR_DISCOVERY_ICMP_ECHO (R357): An ARP, IPv6 Neighbor Discovery or ICMP echo frame arriving at the management port is answered. -/
  | arpNeighborDiscoveryIcmpEcho (frame : (List Byte)) (t : Nat)
  /-- ILLEGAL (R243): A core executes an instruction word with no defined encoding, a non-zero reserved or unused field, or a forbidden ORD and SCOPE, and raises ILLEGAL. -/
  | illegal (n : Nat) (t : Nat)
  /-- REGISTER_READ (R334): A register read that is misaligned or outside every defined register returns zero with a successful completion and sets BAD_REG and HIF_BAD_ACCESS. -/
  | registerRead (d : Part) (fn : Nat) (addr : Nat) (size : Nat) (t : Nat)
  /-- BOUNDARY_SCAN (R494): Activity on the test port is served as IEEE 1149.1 and 1149.6 boundary scan while POR_N is low, as debug only after DEBUG_OPEN, and not at all otherwise. -/
  | boundaryScan (d : Part) (bits : (List Bool)) (t : Nat)
deriving DecidableEq, Repr

end Sys2Proof
end

