-- ==== Sys2Proof/Config.lean ====
section
/-! DEFINITION. Free values: what the specification leaves open and the machine nevertheless produces. Each is an
opaque constant, applied to the state's count of values drawn so far (or to the operands it depends on), so that
nothing can be proved of it (log 1). -/

namespace Sys2Proof.Config

/-- The value from which a device's TXN_ID counter starts after a reset (R131). -/
opaque txnStart : Nat → BitVec 32

/-- The strap pins I3C_SA[2:0] at a rise of POR_N (R361, R493): the board's. -/
opaque i3cSa : Nat → BitVec 3

/-- Whether `n` bytes of accelerator memory at an address have been reserved by the integrator (R163, R511). -/
opaque accelReserved : Nat → Nat → Bool

/-- An arbitrary choice among places or entries that the specification leaves open (R318, R382, R374, R288). -/
opaque choice : Nat → Nat

/-- Whether a cache drops an entry of its own accord when it takes another one in, and which (R318, R382). -/
opaque cacheVictim : Nat → Option Nat

/-- The set of the end-point's read cache in which a line of a channel at an address lies (R382). -/
opaque cacheSet : Nat → Nat → Nat

/-- The compute die offers an atomic of its own for an operation of Table 6.2 (R136, R381). -/
opaque dieAtomic : Nat → Bool

/-- The factory preset of a lane's equaliser (R72). -/
opaque presetCoeff : Nat → Nat

/-- Entries that the end-point's level-two cache holds (spec/12 gives the switch's only). -/
opaque xltEntries : Nat

/-- What a fault record holds for a field to which the transaction never had a value (R153, R253). -/
opaque unassigned : Nat → BitVec 32

/-- The switches of a collective that the descriptor at its arbiter does not name and the service knows: the hubs of a
HUB collective, the roots and leaves of the other shards of a TREE (R199, R204, R216). -/
opaque hubsOf : Nat → List Nat

/-- The member-table entries of a TREE's end-point members, from the arbiter's descriptor: its own table lists leaves, and
the service knows the members (R199, Table 8.5). -/
opaque membersOf : Nat → List Nat

/-- The channel of the collective service's records where no window's OUT_CHANNEL applies (R217). -/
opaque serviceChan : Nat

/-- The channel of the tier service's replies: the record does not name one (R294). -/
opaque tierChan : Nat

/-- The channel of the step controller's STEP_STATUS records: the plan does not name one (R432, R433). -/
opaque stepChan : Nat

/-- The bytes of an SPDM message in a management datagram (R359), by draw: SPDM 1.3 gives its form. -/
opaque spdmLength : Nat → Nat

/-- Where the tier service places a new translation table (R315), by draw. -/
opaque tableAt : Nat → Nat

/-- Where in the hub's hot tier the weight array of a home lies, from the OPID and the home (R212). -/
opaque weightsAt : Nat → Nat → Nat

/-- The part's fused requirement, as a CODE, at the levels of the core, arithmetic and sequencer clocks (R449). -/
opaque vFused : Nat → Nat → Nat → Nat

/-- An estimate of the power model in W, by draw (R451): the model is calibrated for each part at manufacture. -/
opaque estWatts : Nat → Nat

/-- What the power model predicts in W (R453, R455), by draw, THROTTLE and the three levels. -/
opaque predictW : Nat → Nat → Nat → Nat → Nat → BitVec 16

/-- The natural logarithm that the forecast of R464 fits against, in the units and to the precision that the part works with,
which the spec does not give. -/
opaque ln : Nat → Int

/-- The highest die temperature since the last record of the ageing log, where none has been read since (R463). -/
opaque dieTemp : Nat → Int

/-! Cryptography: the functions that the algorithms of spec/15 and R352 name. The model gives them no body: nothing in
the spec's rules depends on what they compute beyond their names (log 10). -/

/-- AES-256-GCM decryption: key, 96-bit nonce, associated data, ciphertext, tag. None when the tag fails. -/
opaque gcmOpen : Nat → Nat → List (BitVec 8) → List (BitVec 8) → List (BitVec 8) → Option (List (BitVec 8))

/-- AES-256-GCM encryption: key, 96-bit nonce, associated data, plaintext; the ciphertext and the tag. -/
opaque gcmSeal : Nat → Nat → List (BitVec 8) → List (BitVec 8) → List (BitVec 8) × List (BitVec 8)

/-- SHA-384. -/
opaque sha384 : List (BitVec 8) → Nat

/-- The Ed25519 and the ML-DSA-65 public key that a KEY_ID names (R391), of 32 B and of 1,952 B. -/
opaque edKey : Nat → Nat
opaque mldsaKey : Nat → List (BitVec 8)

/-- Whether an Ed25519 and an ML-DSA-65 signature verify (R391): public key, to-be-signed bytes, signature. -/
opaque edVerifies : Nat → List (BitVec 8) → List (BitVec 8) → Bool
opaque mldsaVerifies : List (BitVec 8) → List (BitVec 8) → List (BitVec 8) → Bool

/-- The two signatures that a key of the device makes over bytes, by its KEY_ID. -/
opaque edSign : Nat → List (BitVec 8) → Nat
opaque mldsaSign : Nat → List (BitVec 8) → Nat

/-- The KEY_ID of Berade's firmware key (R392), and of the Berade root, which is fused. -/
opaque beradeKey : Nat
opaque rootKey : Nat

/-- The KEY_ID of a part's device identity key, and of its alias key from measurements 1 to 3 (Table 15.2). -/
opaque identityKey : Nat → Nat
opaque aliasKey : Nat → List Nat → Nat

/-- The KEY_CLASS of an envelope that a tenant's credential signs: Table 15.1 names none (R399). -/
opaque tenantClass : Nat

/-- The digest of the certificate of a key (R398). -/
opaque certDigest : Nat → Nat

/-- The minimum VERSION of a supplied PROG_ID that the firmware carries (R393). -/
opaque firmwareMin : Nat → BitVec 32

/-- A transcript hash of SPDM (R399), and the 48 random bytes of a K_t (R395), by draw. -/
opaque transcript : Nat → Nat
opaque masterKey : Nat → Nat

/-- What stands for the K_t of a tenant that has none. -/
opaque noKey : Nat

/-- HKDF-SHA-384 (R395): key, info, and the bytes wanted. -/
opaque hkdf : Nat → List (BitVec 8) → Nat → Nat

/-- A cipher on data units of 4,096 B: key, 128-bit tweak, data; decryption takes back what encryption gives. -/
structure UnitCipher where
  enc : Nat → Nat → BitVec 32768 → BitVec 32768
  dec : Nat → Nat → BitVec 32768 → BitVec 32768
  dec_enc : ∀ k w x, dec k w (enc k w x) = x

/-- AES-256-XTS (R396). Nothing can be proved of it but that it is such a cipher: the term only shows that there is one. -/
opaque xts : UnitCipher := ⟨fun _ _ x => x, fun _ _ x => x, fun _ _ _ => rfl⟩

/-- Measurement 1 of a part: its island ROM (R397). -/
opaque romDigest : Nat → Nat

/-- The digest of a measurement block that lists identities and settings (R397, measurements 5 and 6): the spec does not
give the bytes that are hashed. -/
opaque digestOf : List Nat → Nat

/-- The start-up image of the boot flash (Table 9.8), and where in it the program of a logical core begins: the spec names
the programs and gives none of their bytes. -/
opaque startImage : List (BitVec 8)
opaque startAt : Nat → Nat

end Sys2Proof.Config
end

