-- ==== Sys2Proof/Machine/Bits.lean ====
section
/-! DEFINITION. Bit fields of numbers and words, byte orders, and the sparse map in canonical form in which the
model keeps registers, memories and per-index tables. -/

namespace Sys2Proof.Machine

/-- Bits `[hi:lo]` of a number (bit 0 is the least significant, spec/00 "Data layout"). -/
def bitsOf (x hi lo : Nat) : Nat := x / 2 ^ lo % 2 ^ (hi + 1 - lo)

/-- The number `x` with its bits `[hi:lo]` replaced by the low bits of `v`. -/
def setBits (x hi lo v : Nat) : Nat :=
  x - bitsOf x hi lo * 2 ^ lo + v % 2 ^ (hi + 1 - lo) * 2 ^ lo

/-- Bit `i` of a number. -/
def bitOf (x i : Nat) : Bool := x / 2 ^ i % 2 == 1

/-- The number with bit `i` set to `b`. -/
def setBit (x i : Nat) (b : Bool) : Nat := setBits x i i (if b then 1 else 0)

/-- A Boolean as a one-bit number. -/
def b2n (b : Bool) : Nat := if b then 1 else 0

/-- The low `n` bytes of `x`, least significant first (R9, R51, R88). -/
def leBytes : Nat → Nat → List Byte
  | 0, _ => []
  | n + 1, x => BitVec.ofNat 8 x :: leBytes n (x / 256)

/-- The number that a little-endian byte string holds (R9). -/
def ofLe : List Byte → Nat
  | [] => 0
  | b :: bs => b.toNat + 256 * ofLe bs

/-- Rounded-up division, as the spec's ceil(a ÷ b). -/
def ceilDiv (a b : Nat) : Nat := (a + b - 1) / b

/-- The value of a `w`-bit two's-complement number. -/
def signedOf (w x : Nat) : Int := if x / 2 ^ (w - 1) % 2 = 1 then (x : Int) - 2 ^ w else x

/-- The low `w` bits of an integer, as a number. -/
def wrapOf (w : Nat) (x : Int) : Nat := (x % (2 ^ w : Int)).toNat

/-- The least of two optional times. -/
def optMin : Option Nat → Option Nat → Option Nat
  | none, b => b
  | a, none => a
  | some a, some b => some (min a b)

/-- The list with entry `i` replaced (unchanged when there is no entry `i`). -/
def setAt {α : Type} (l : List α) (i : Nat) (v : α) : List α := l.set i v

/-- The list without its first entry that satisfies `p`. -/
def dropFirst {α : Type} (p : α → Bool) : List α → List α
  | [] => []
  | a :: l => if p a then l else a :: dropFirst p l

/-- The list with `f` applied to its first entry that satisfies `p`. -/
def mapFirst {α : Type} (p : α → Bool) (f : α → α) : List α → List α
  | [] => []
  | a :: l => if p a then f a :: l else a :: mapFirst p f l

/-- A sparse table: pairs of an index and a value, indices strictly rising, no pair that holds the default. -/
abbrev SMap (α : Type) := List (Nat × α)

/-- The value at index `k`; `d` where nothing is listed. -/
def SMap.at {α : Type} (d : α) : List (Nat × α) → Nat → α
  | [], _ => d
  | (k', v) :: m, k => if k = k' then v else SMap.at d m k

/-- The table without the pairs at index `k`. -/
def SMap.drop {α : Type} : List (Nat × α) → Nat → List (Nat × α)
  | [], _ => []
  | (k', v') :: m, k => if k' = k then SMap.drop m k else (k', v') :: SMap.drop m k

/-- The table with `v` at index `k`, in canonical form: writing the default `d` removes the pair. -/
def SMap.put {α : Type} [DecidableEq α] (d : α) : List (Nat × α) → Nat → α → List (Nat × α)
  | [], k, v => if v = d then [] else [(k, v)]
  | (k', v') :: m, k, v =>
    if k < k' then (if v = d then SMap.drop ((k', v') :: m) k else (k, v) :: (k', v') :: m)
    else if k = k' then (if v = d then SMap.drop m k else (k, v) :: m)
    else (k', v') :: SMap.put d m k v

/-- The table with `f` applied to every listed value; values that become the default are no longer listed. -/
def SMap.map' {α : Type} [DecidableEq α] (f : α → α) (d : α) (m : List (Nat × α)) : List (Nat × α) :=
  m.foldr (fun e r => SMap.put d r e.1 (f e.2)) []

/-- Strictly rising indices from `lo` on, and no pair that holds the default. -/
def SMap.okFrom {α : Type} [DecidableEq α] (d : α) : Nat → List (Nat × α) → Bool
  | _, [] => true
  | lo, (k, v) :: m => decide (lo ≤ k) && decide (v ≠ d) && SMap.okFrom d (k + 1) m

/-- The table is in canonical form. -/
def SMap.ok {α : Type} [DecidableEq α] (d : α) (m : List (Nat × α)) : Bool := SMap.okFrom d 0 m

/-- A byte memory. An address that is not listed reads as zero (log 2). -/
abbrev Memory := List Host.Cell

/-- The byte at an address. -/
def Memory.byte (m : Memory) (a : Nat) : Byte := SMap.at 0 m a

/-- The memory with one byte written. -/
def Memory.setByte (m : Memory) (a : Nat) (b : Byte) : Memory := SMap.put 0 m a b

/-- The memory is in canonical form: addresses strictly rising, no entry equal to what an unlisted address reads as. -/
def Memory.wf (m : Memory) : Bool := SMap.ok (0 : Byte) m

/-- `n` bytes from address `a` on. -/
def Memory.bytes (m : Memory) (a : Nat) : Nat → List Byte
  | 0 => []
  | n + 1 => Memory.byte m a :: Memory.bytes m (a + 1) n

/-- The memory with the bytes `bs` written from address `a` on. -/
def Memory.setBytes (m : Memory) (a : Nat) : List Byte → Memory
  | [] => m
  | b :: bs => Memory.setBytes (Memory.setByte m a b) (a + 1) bs

/-- The `n`-byte little-endian number at address `a`. -/
def Memory.num (m : Memory) (a n : Nat) : Nat := ofLe (Memory.bytes m a n)

/-- The memory with an `n`-byte little-endian number written at `a`. -/
def Memory.setNum (m : Memory) (a n x : Nat) : Memory := Memory.setBytes m a (leBytes n x)

end Sys2Proof.Machine
end

