-- ==== Sys2Proof/Machine/Arith.lean ====
section
/-! DEFINITION. Exact reduction arithmetic (spec/07): the formats of Table 7.2, the Steep accumulators, the
conversion of every format into fixed point (R174 to R178), the operations (R179, R180) and the single rounding
at emission (R185 to R189). -/

namespace Sys2Proof.Machine

/-- The parameters of a floating-point format (Table 7.6): total width, exponent field width, bias, significand
bits p, whether the format has an infinity, and whether its only NaN is S.1111.111 (E4M3). -/
structure FloatFmt where
  width : Nat
  ebits : Nat
  bias : Nat
  p : Nat
  inf : Bool
  nanTop : Bool
deriving DecidableEq, Repr

/-- FP32, BF16, FP16, E4M3, E5M2, E3M2, E2M3 and E2M1 of Table 7.6. -/
def fpFP32 : FloatFmt := ⟨32, 8, 127, 24, true, false⟩
def fpBF16 : FloatFmt := ⟨16, 8, 127, 8, true, false⟩
def fpFP16 : FloatFmt := ⟨16, 5, 15, 11, true, false⟩
def fpE4M3 : FloatFmt := ⟨8, 4, 7, 4, false, true⟩
def fpE5M2 : FloatFmt := ⟨8, 5, 15, 3, true, false⟩
def fpE3M2 : FloatFmt := ⟨6, 3, 3, 3, false, false⟩
def fpE2M3 : FloatFmt := ⟨6, 2, 1, 4, false, false⟩
def fpE2M1 : FloatFmt := ⟨4, 2, 1, 2, false, false⟩

/-- The float format of a format code of Table 7.2 (for an MX code, its element format); none for the others. -/
def floatOf (code : Nat) : Option FloatFmt :=
  match code with
  | 0x0 => some fpFP32
  | 0x1 => some fpBF16
  | 0x2 => some fpFP16
  | 0x3 => some fpE4M3
  | 0x4 => some fpE5M2
  | 0x5 => some fpE4M3
  | 0x6 => some fpE5M2
  | 0x7 => some fpE3M2
  | 0x8 => some fpE2M3
  | 0x9 => some fpE2M1
  | _ => none

/-- Code 0x5 to 0x9: an MX format (Table 7.2). -/
def isMx (code : Nat) : Bool := decide (0x5 ≤ code) && decide (code ≤ 0x9)

/-- Code 0xA to 0xC: an integer format. -/
def isInt (code : Nat) : Bool := decide (0xA ≤ code) && decide (code ≤ 0xC)

/-- Code 0xD or 0xE: a carry image. -/
def isCarry (code : Nat) : Bool := code == 0xD || code == 0xE

/-- Bits of an integer format. -/
def intWidth (code : Nat) : Nat := if code = 0xA then 8 else if code = 0xB then 32 else 64

/-- Elements per piece (Table 7.2). -/
def elemsPerPiece (code : Nat) : Nat :=
  match code with
  | 0x0 => 2048 | 0x1 => 4096 | 0x2 => 4096 | 0x3 => 8192 | 0x4 => 8192
  | 0x5 => 7680 | 0x6 => 7680 | 0x7 => 10240 | 0x8 => 10240 | 0x9 => 15360
  | 0xA => 8192 | 0xB => 2048 | 0xC => 1024 | 0xD => 128 | 0xE => 512
  | _ => 0

/-- Bytes of one element; for an MX code, bytes of one group of 512 elements (Table 7.2, R168). -/
def elemBytes (code : Nat) : Nat :=
  match code with
  | 0x0 => 4 | 0x1 => 2 | 0x2 => 2 | 0x3 => 1 | 0x4 => 1
  | 0x5 => 528 | 0x6 => 528 | 0x7 => 400 | 0x8 => 400 | 0x9 => 272
  | 0xA => 1 | 0xB => 4 | 0xC => 8 | 0xD => 64 | 0xE => 16
  | _ => 0

/-- Bytes that `n` elements of a format take (MX: whole groups). -/
def elemsBytes (code n : Nat) : Nat := if isMx code then n / 512 * elemBytes code else n * elemBytes code

/-- The carry code that Table 7.2 gives for a FORMAT (R167). -/
def carryCode (fmt : Nat) : Nat := if fmt = 0x0 ∨ fmt = 0x1 ∨ fmt = 0xC then 0xD else 0xE

/-- Value bits of the accumulator frame (Table 7.4). -/
def frameBits (fmt : Nat) : Nat := if fmt = 0x0 ∨ fmt = 0x1 then 320 else if fmt = 0xC then 128 else 96

/-- Exponent of the smallest subnormal of a float format (Table 7.6). -/
def minExp (f : FloatFmt) : Int := 1 - (f.bias : Int) - ((f.p : Int) - 1)

/-- The exponent of the weight of bit 0 of the frame (R171, Table 7.4). -/
def frameExp (fmt scaleLo : Nat) : Int :=
  if fmt = 0x0 ∨ fmt = 0x1 then -149
  else match floatOf fmt with
    | some f => if isMx fmt then (scaleLo : Int) - 127 + minExp f else minExp f
    | none => 0

/-- The count limit of Table 7.4. -/
def countLimit (fmt : Nat) : Nat := if isMx fmt then 65536 else 16777215

/-- SPAN of Table 7.7. -/
def mxSpan (fmt : Nat) : Int :=
  match fmt with
  | 0x5 => 61 | 0x6 => 47 | 0x7 => 70 | 0x8 => 73 | 0x9 => 75 | _ => 0

/-- An accumulator (R172): value on the frame, COUNT, and the flags of Table 7.5. `inexact` notes that a
contribution was rounded onto the frame (INEXACT_IN of Table 7.18); it is no part of an image. -/
structure Acc where
  value : Int
  count : Nat
  nan : Bool
  pinf : Bool
  ninf : Bool
  ovf : Bool
  allNegZero : Bool
  fin : Bool
  negZeroExt : Bool
  inexact : Bool
deriving DecidableEq, Repr

/-- A fresh accumulator (R172). -/
def Acc.fresh : Acc := ⟨0, 0, false, false, false, false, true, false, false, false⟩

/-- The flags byte of Table 7.5. -/
def Acc.flags (a : Acc) : Nat :=
  b2n a.nan + 2 * b2n a.pinf + 4 * b2n a.ninf + 8 * b2n a.ovf + 16 * b2n a.allNegZero + 32 * b2n a.fin
    + 64 * b2n a.negZeroExt

/-- What a window's arithmetic is set to (words B of Table 7.17). -/
structure RedCfg where
  fmt : Nat
  outFmt : Nat
  op : Nat
  sat : Bool
  weighted : Bool
  carryIn : Bool
  scaleLo : Nat
deriving DecidableEq, Repr

/-- The fields S, E, F of a float and whether it is NaN or infinite (R174, Table 7.6). -/
structure FloatParts where
  neg : Bool
  e : Nat
  f : Nat
  nan : Bool
  inf : Bool
deriving DecidableEq, Repr

/-- A float's fields. -/
def floatParts (ff : FloatFmt) (bits : Nat) : FloatParts :=
  let fb := ff.p - 1
  let f := bits % 2 ^ fb
  let e := bits / 2 ^ fb % 2 ^ ff.ebits
  let top := e == 2 ^ ff.ebits - 1
  { neg := bits / 2 ^ (fb + ff.ebits) % 2 == 1
    e := e
    f := f
    nan := if ff.inf then top && f != 0 else ff.nanTop && top && f == 2 ^ fb - 1
    inf := ff.inf && top && f == 0 }

/-- The significand m of R174. -/
def significand (ff : FloatFmt) (x : FloatParts) : Nat := if x.e = 0 then x.f else 2 ^ (ff.p - 1) + x.f

/-- The exponent of the significand's bit 0: max(E, 1) − bias − (p − 1) (R174). -/
def sigExp (ff : FloatFmt) (x : FloatParts) : Int := (max x.e 1 : Int) - ff.bias - ((ff.p : Int) - 1)

/-- `m` divided by `2^d`, rounded to nearest, ties to even. -/
def shiftRne (m d : Nat) : Nat :=
  let r := m / 2 ^ d
  let rem := m % 2 ^ d
  if d = 0 then m
  else if rem > 2 ^ (d - 1) ∨ (rem = 2 ^ (d - 1) ∧ r % 2 = 1) then r + 1 else r

/-- `m × 2^k` as an integer, a negative `k` rounding to nearest even; and whether bits were lost. -/
def scaleRne (m : Nat) (k : Int) : Nat × Bool :=
  if 0 ≤ k then (m * 2 ^ k.toNat, false) else (shiftRne m (-k).toNat, m % 2 ^ (-k).toNat != 0)

/-- One contribution to one element. -/
inductive Contribution where
  | nan
  | inf (neg : Bool)
  | fin (value : Int) (negZero : Bool) (inexact : Bool)
  /-- above the frame's ceiling, with the flags of R175 that the element sets beside OVF and whether it is −0 (log 46) -/
  | over (nan pinf ninf negZero : Bool)
  | int (value : Int)
  | image (value : Int) (count flags : Nat)
deriving DecidableEq, Repr

/-- A plain float element on a frame of weight `2^l` (R174, R175). -/
def plainFloat (ff : FloatFmt) (l : Int) (bits : Nat) : Contribution :=
  let x := floatParts ff bits
  if x.nan then .nan else if x.inf then .inf x.neg
  else
    let (v, ix) := scaleRne (significand ff x) (sigExp ff x - l)
    .fin (if x.neg then -(v : Int) else v) (x.neg && significand ff x == 0) ix

/-- An MX element with block scale `sc` (R176): above SPAN it sets OVF, whatever it is; with a negative k it is shifted
and rounded and INEXACT_IN is set, whether or not bits are lost. -/
def mxFloat (fmt : Nat) (ff : FloatFmt) (scaleLo sc bits : Nat) : Contribution :=
  let x := floatParts ff bits
  let m := significand ff x
  let k : Int := (max x.e 1 : Int) - 1 + ((sc : Int) - scaleLo)
  if sc = 0xFF then .nan
  else if (sc : Int) - scaleLo > mxSpan fmt then .over x.nan (x.inf && !x.neg) (x.inf && x.neg) (x.neg && m == 0 && !x.nan)
  else if x.nan then .nan
  else if x.inf then .inf x.neg
  else
    let v := (scaleRne m k).1
    .fin (if x.neg then -(v : Int) else v) (x.neg && m == 0) (decide (k < 0))

/-- A weighted element: the exact product with a BF16 weight, on the wide frame (R177). -/
def weightedFloat (ff : FloatFmt) (wbits bits : Nat) : Contribution :=
  let x := floatParts ff bits
  let w := floatParts fpBF16 wbits
  let neg := x.neg != w.neg
  let mx := significand ff x
  let mw := significand fpBF16 w
  if x.nan ∨ w.nan then .nan
  else if x.inf ∨ w.inf then
    (if (x.inf ∧ ¬ w.inf ∧ mw = 0) ∨ (w.inf ∧ ¬ x.inf ∧ mx = 0) then .nan else .inf neg)
  else
    let k := sigExp ff x + sigExp fpBF16 w
    let m := mx * mw
    if m ≠ 0 ∧ (Nat.log2 m : Int) + k ≥ 128 then .over false false false false
    else
      let (v, ix) := scaleRne m (k + 149)
      .fin (if neg then -(v : Int) else v) (neg && m == 0) ix

/-- Whether `a` comes before `b` in the order of R180 for finite values, with −0 below +0. -/
def finLess (a : Int) (aNegZero : Bool) (b : Int) (bNegZero : Bool) : Bool :=
  if a = 0 ∧ b = 0 then aNegZero && !bNegZero else decide (a < b)

/-- Bitwise operation on two's-complement numbers of 128 bits. -/
def bitwiseInt (op : Nat) (a b : Int) : Int :=
  let x := wrapOf 128 a
  let y := wrapOf 128 b
  signedOf 128 (if op = 3 then Nat.land x y else if op = 4 then Nat.lor x y else Nat.xor x y)

/-- A value held in the frame's width (two's complement). -/
def frameWrap (fmt : Nat) (v : Int) : Int := signedOf (frameBits fmt) (wrapOf (frameBits fmt) v)

/-- The accumulator after a finite value (or an integer) enters with operation `op` (R179, R180). -/
def Acc.enter (c : RedCfg) (a : Acc) (v : Int) (negZero : Bool) : Acc :=
  match c.op with
  | 0 => { a with value := frameWrap c.fmt (a.value + v) }
  | 1 => if !a.fin || finLess v negZero a.value a.negZeroExt then { a with value := v, negZeroExt := negZero, fin := true } else a
  | 2 => if !a.fin || finLess a.value a.negZeroExt v negZero then { a with value := v, negZeroExt := negZero, fin := true } else a
  | op => if a.count = 0 then { a with value := v } else { a with value := bitwiseInt op a.value v }

/-- COUNT grown by `n`; where it would pass the count limit, OVF is set (Table 7.5) and COUNT stays at the limit, so that
it depends on no order (R190; log 46). -/
def Acc.counted (c : RedCfg) (a : Acc) (n : Nat) : Acc :=
  if a.count + n > countLimit c.fmt then { a with ovf := true, count := countLimit c.fmt }
  else { a with count := a.count + n }

/-- The accumulator after one contribution (R175 to R180). -/
def Acc.take (c : RedCfg) (a : Acc) : Contribution → Acc
  | .nan => Acc.counted c { a with nan := true, allNegZero := false } 1
  | .inf neg => Acc.counted c { a with pinf := a.pinf || !neg, ninf := a.ninf || neg, allNegZero := false } 1
  | .over nan pinf ninf nz =>
    Acc.counted c { a with ovf := true, nan := a.nan || nan, pinf := a.pinf || pinf, ninf := a.ninf || ninf,
                           allNegZero := a.allNegZero && nz } 1
  | .fin v nz ix =>
    Acc.counted c (Acc.enter c { a with allNegZero := a.allNegZero && nz, inexact := a.inexact || ix } v nz) 1
  | .int v => Acc.counted c (Acc.enter c { a with allNegZero := false } v false) 1
  | .image v n fl =>
    if n = 0 then a
    else
      let m := { a with nan := a.nan || bitOf fl 0, pinf := a.pinf || bitOf fl 1, ninf := a.ninf || bitOf fl 2,
                        ovf := a.ovf || bitOf fl 3, allNegZero := a.allNegZero && bitOf fl 4 }
      let enters := c.op = 0 ∨ c.op ≥ 3 ∨ bitOf fl 5 = true
      Acc.counted c (if enters then { Acc.enter c m v (bitOf fl 6) with fin := m.fin || bitOf fl 5 } else m) n

/-- What emitting an element raises in the window's status (Table 7.18). -/
structure EmitFlags where
  nan : Bool
  inf : Bool
  ovf : Bool
  sat : Bool
  inexact : Bool
deriving DecidableEq, Repr

def EmitFlags.none : EmitFlags := ⟨false, false, false, false, false⟩

def EmitFlags.or (a b : EmitFlags) : EmitFlags :=
  ⟨a.nan || b.nan, a.inf || b.inf, a.ovf || b.ovf, a.sat || b.sat, a.inexact || b.inexact⟩

/-- The canonical NaN of R186. -/
def canonicalNan (code : Nat) : Nat :=
  match code with
  | 0x0 => 0x7FC00000 | 0x1 => 0x7FC0 | 0x2 => 0x7E00 | 0x3 => 0x7F | 0x4 => 0x7E | _ => 0

/-- The exponent field of the largest finite value. -/
def maxField (ff : FloatFmt) : Nat := if ff.inf then 2 ^ ff.ebits - 2 else 2 ^ ff.ebits - 1

/-- The significand of the largest finite value (Table 7.6). -/
def maxSig (ff : FloatFmt) : Nat := if ff.nanTop then 2 ^ ff.p - 2 else 2 ^ ff.p - 1

/-- The encoding of the largest finite value of a sign. -/
def maxFinite (ff : FloatFmt) (neg : Bool) : Nat :=
  b2n neg * 2 ^ (ff.width - 1) + maxField ff * 2 ^ (ff.p - 1) + (maxSig ff - 2 ^ (ff.p - 1))

/-- The encoding of an infinity of a sign. -/
def infinity (ff : FloatFmt) (neg : Bool) : Nat :=
  b2n neg * 2 ^ (ff.width - 1) + (2 ^ ff.ebits - 1) * 2 ^ (ff.p - 1)

/-- The encoding of a zero of a sign. -/
def zeroOf (ff : FloatFmt) (neg : Bool) : Nat := b2n neg * 2 ^ (ff.width - 1)

/-- The outcome of rounding a magnitude: an encoding without its sign, or an overflow. -/
inductive Rounded where
  | ok (bits : Nat)
  | overflow
deriving DecidableEq, Repr

/-- R185: the magnitude `m × 2^l` rounded once to a float format. -/
def roundMag (ff : FloatFmt) (m : Nat) (l : Int) : Rounded :=
  if m = 0 then .ok 0
  else
    let emin : Int := 1 - (ff.bias : Int)
    let e : Int := (Nat.log2 m : Int) + l
    let q : Int := max e emin - ((ff.p : Int) - 1)
    let r0 : Nat := if q > l then shiftRne m (q - l).toNat else m * 2 ^ (l - q).toNat
    let (r, q) : Nat × Int := if r0 = 2 ^ ff.p then (r0 / 2, q + 1) else (r0, q)
    let field : Int := q + ((ff.p : Int) - 1) + ff.bias
    if field > (maxField ff : Int) ∨ (field = (maxField ff : Int) ∧ r > maxSig ff) then .overflow
    else if r ≥ 2 ^ (ff.p - 1) then .ok (field.toNat * 2 ^ (ff.p - 1) + (r - 2 ^ (ff.p - 1)))
    else .ok r

/-- What an accumulator holds before rounding, as the rows of Table 7.11 decide it. -/
inductive Special where
  | nan
  | inf (neg : Bool)
  | zero (neg : Bool)
  | finite (v : Int)
deriving DecidableEq, Repr

/-- Table 7.11, first row that applies. -/
def special (op : Nat) (a : Acc) : Special :=
  let finOr (neg : Bool) : Special :=
    if a.fin then (if a.value = 0 then .zero a.negZeroExt else .finite a.value) else .inf neg
  if a.nan || a.ovf then .nan
  else if a.pinf && a.ninf then (if op = 1 then .inf true else if op = 2 then .inf false else .nan)
  else if a.pinf then (if op = 1 then finOr false else .inf false)
  else if a.ninf then (if op = 2 then finOr true else .inf true)
  else if a.count = 0 then .zero false
  else if a.value = 0 then .zero (if op = 0 then a.allNegZero else a.negZeroExt)
  else .finite a.value

/-- The outcome for an infinity or an overflow (R186). -/
def overflowOut (code : Nat) (ff : FloatFmt) (sat neg : Bool) : Nat × EmitFlags :=
  if sat then (maxFinite ff neg, { EmitFlags.none with sat := true })
  else if ff.inf then (infinity ff neg, { EmitFlags.none with inf := true })
  else (canonicalNan code, { EmitFlags.none with nan := true })

/-- One plain float output element (R185, R186). -/
def emitFloat (c : RedCfg) (ff : FloatFmt) (a : Acc) : Nat × EmitFlags :=
  let base : EmitFlags := { EmitFlags.none with ovf := a.ovf, inexact := a.inexact }
  match special c.op a with
  | .nan => (canonicalNan c.outFmt, base.or { EmitFlags.none with nan := true })
  | .inf neg => let (b, f) := overflowOut c.outFmt ff c.sat neg; (b, base.or f)
  | .zero neg => (zeroOf ff neg, base)
  | .finite v =>
    match roundMag ff v.natAbs (frameExp c.fmt c.scaleLo) with
    | .ok b => (b + b2n (decide (v < 0)) * 2 ^ (ff.width - 1), base)
    | .overflow => let (b, f) := overflowOut c.outFmt ff c.sat (decide (v < 0)); (b, base.or f)

/-- One integer output element (R188). -/
def emitInt (c : RedCfg) (a : Acc) : Nat × EmitFlags :=
  let w := intWidth c.outFmt
  let base : EmitFlags := { EmitFlags.none with ovf := a.ovf, inexact := a.inexact }
  if a.ovf then (2 ^ (w - 1), { base with sat := true })
  else if c.op ≥ 3 then (wrapOf (intWidth c.fmt) a.value, base)
  else
    let lo : Int := -(2 ^ (w - 1))
    let hi : Int := 2 ^ (w - 1) - 1
    if lo ≤ a.value ∧ a.value ≤ hi then (wrapOf w a.value, base)
    else if c.sat then (wrapOf w (if a.value < lo then lo else hi), { base with sat := true })
    else (wrapOf w a.value, { base with sat := true })

/-- An accumulator's image (R173): CARRY_WIDE in 64 bytes, CARRY_NARROW in 16. -/
def emitImage (code : Nat) (a : Acc) : List Byte :=
  if code = 0xD then leBytes 64 (wrapOf 320 a.value + a.flags * 2 ^ 320 + a.count * 2 ^ 328)
  else leBytes 16 (wrapOf 96 a.value + a.flags * 2 ^ 96 + a.count * 2 ^ 104)

/-- A magnitude with infinity above every finite one (R187). -/
def specialMag (sp : Special) : Option Nat :=
  match sp with
  | .finite v => some v.natAbs
  | .zero _ => some 0
  | _ => none

/-- R187: the scale and the 32 elements of one MX block. -/
def emitMxBlock (c : RedCfg) (ff : FloatFmt) (accs : List Acc) : Nat × List Nat × EmitFlags :=
  let sps := accs.map (special c.op)
  let l := frameExp c.fmt c.scaleLo
  let base := accs.foldl (fun f a => f.or { EmitFlags.none with ovf := a.ovf, inexact := a.inexact }) EmitFlags.none
  let isInf (sp : Special) : Bool := match sp with | .inf _ => true | _ => false
  let dead := (0xFF, accs.map (fun _ => 0), base.or { EmitFlags.none with nan := true })
  if sps.any (fun sp => sp == .nan) then dead
  else if sps.any isInf && !c.sat then dead
  else
    let mx := (sps.filterMap specialMag).foldl max 0
    let emaxElem : Int := (maxField ff : Int) - ff.bias
    let x : Int := if sps.any isInf then 255 else (Nat.log2 mx : Int) + l - emaxElem + 127
    if mx = 0 ∧ ¬ sps.any isInf then
      (0, sps.map (fun sp => match sp with | .zero neg => zeroOf ff neg | _ => 0), base)
    else if x > 254 ∧ ¬ c.sat then dead
    else
      let scale : Nat := if x > 254 then 254 else x.toNat
      let elem (sp : Special) : Nat :=
        match sp with
        | .inf neg => maxFinite ff neg
        | .zero neg => zeroOf ff neg
        | .nan => 0
        | .finite v =>
          match roundMag ff v.natAbs (l - ((scale : Int) - 127)) with
          | .ok b => b + b2n (decide (v < 0)) * 2 ^ (ff.width - 1)
          | .overflow => maxFinite ff (decide (v < 0))
      (scale, sps.map elem, if sps.any isInf ∨ x > 254 then { base with sat := true } else base)

/-- The list cut into pieces of `n` (the last may be shorter). -/
def chunks {α : Type} (n : Nat) (l : List α) : List (List α) :=
  (List.range (ceilDiv l.length n)).map (fun i => (l.drop (n * i)).take n)

/-- Little-endian packing of numbers of `w` bits each, bit 0 of the first number first. -/
def packBits (w : Nat) (xs : List Nat) : Nat := xs.foldr (fun x acc => x % 2 ^ w + 2 ^ w * acc) 0

/-- The bytes of an MX group of 512 elements (R168). -/
def emitMxGroup (c : RedCfg) (ff : FloatFmt) (accs : List Acc) : List Byte × EmitFlags :=
  let bs := (chunks 32 accs).map (emitMxBlock c ff)
  let scales := bs.map (fun b => BitVec.ofNat 8 b.1)
  let elems := leBytes (64 * ff.width) (packBits ff.width (bs.flatMap (fun b => b.2.1)))
  (scales ++ elems, bs.foldl (fun f b => f.or b.2.2) EmitFlags.none)

/-- The output bytes of a run of accumulators in the window's OUT_FORMAT (R182). -/
def emitElems (c : RedCfg) (accs : List Acc) : List Byte × EmitFlags :=
  if isCarry c.outFmt then
    (accs.flatMap (emitImage c.outFmt),
     accs.foldl (fun f a => f.or { EmitFlags.none with ovf := a.ovf, inexact := a.inexact }) EmitFlags.none)
  else match floatOf c.outFmt with
    | some ff =>
      if isMx c.outFmt then
        let gs := (chunks 512 accs).map (emitMxGroup c ff)
        (gs.flatMap (fun g => g.1), gs.foldl (fun f g => f.or g.2) EmitFlags.none)
      else
        let es := accs.map (emitFloat c ff)
        (es.flatMap (fun e => leBytes (elemBytes c.outFmt) e.1), es.foldl (fun f e => f.or e.2) EmitFlags.none)
    | none =>
      let es := accs.map (emitInt c)
      (es.flatMap (fun e => leBytes (elemBytes c.outFmt) e.1), es.foldl (fun f e => f.or e.2) EmitFlags.none)

/-- Element `i` of an MX payload: its block scale and its bits (R168). -/
def mxElem (ff : FloatFmt) (code : Nat) (pay : List Byte) (i : Nat) : Nat × Nat :=
  let g := (pay.drop (i / 512 * elemBytes code)).take (elemBytes code)
  let j := i % 512
  ((g.getD (j / 32) 0).toNat, ofLe (g.drop 16) / 2 ^ (ff.width * j) % 2 ^ ff.width)

/-- The contribution that element `i` of a payload makes, under the code the payload carries (R174 to R178). -/
def contribution (c : RedCfg) (code : Nat) (pay : List Byte) (weight : Option Nat) (i : Nat) : Contribution :=
  if isCarry code then
    let b := ofLe ((pay.drop (i * elemBytes code)).take (elemBytes code))
    let vw := if code = 0xD then 320 else 96
    .image (signedOf vw (b % 2 ^ vw)) (bitsOf b (vw + 31) (vw + 8)) (bitsOf b (vw + 7) vw)
  else if isInt code then
    .int (signedOf (intWidth code) (ofLe ((pay.drop (i * elemBytes code)).take (elemBytes code))))
  else match floatOf code with
    | none => .over false false false false
    | some ff =>
      if isMx code then let (sc, b) := mxElem ff code pay i; mxFloat code ff c.scaleLo sc b
      else
        let b := ofLe ((pay.drop (i * elemBytes code)).take (elemBytes code))
        match weight with
        | some w => weightedFloat ff w b
        | none => plainFloat ff (frameExp c.fmt c.scaleLo) b

/-- The code a contribution of the window carries (R167). -/
def RedCfg.inCode (c : RedCfg) : Nat := if c.carryIn then carryCode c.fmt else c.fmt

/-- The accumulator of element `i` over the bound slots, each with its weight for that element (R182). -/
def accOf (c : RedCfg) (slots : List (List Byte × Option Nat)) (i : Nat) : Acc :=
  slots.foldl (fun a s => Acc.take c a (contribution c c.inCode s.1 s.2 i)) Acc.fresh

/-- Whether Table 7.8 and Table 7.10 allow the window's FORMAT, OP and OUT_FORMAT (R179, R184). -/
def RedCfg.allowed (c : RedCfg) : Bool :=
  decide (c.fmt ≤ 0xC) && decide (c.op ≤ 5) && (isInt c.fmt || decide (c.op ≤ 2)) &&
  (if c.fmt ≤ 0x1 then c.outFmt == 0x0 || c.outFmt == 0x1 || c.outFmt == 0xD
   else if c.fmt ≤ 0x9 then decide (c.outFmt ≤ 0x9) || c.outFmt == 0xE
   else if c.fmt = 0xA then c.outFmt == 0xA || c.outFmt == 0xB || c.outFmt == 0xC || c.outFmt == 0xE
   else if c.fmt = 0xB then c.outFmt == 0xB || c.outFmt == 0xC || c.outFmt == 0xE
   else c.outFmt == 0xC || c.outFmt == 0xD)

end Sys2Proof.Machine
end

