-- ==== Sys2Proof/Machine/RegMap.lean ====
section
/-! DEFINITION. The register map of the two parts: the address of every register (the BAR0 address: the
register's offset in its block plus the block's base of R333 and R363), the bit positions of every field, and
for each part the table of its registers with width, access masks and reset value, as the register tables of
spec/ give them (R5, R6). -/

namespace Sys2Proof.Machine

/-- A field of a register: the register's address and the field's bits. -/
structure Fld where
  reg : Nat
  hi : Nat
  lo : Nat
deriving DecidableEq, Repr

/-- One row of a part's register map: a register, or an array of registers of one layout (`n1` groups `s1`
bytes apart, each of `n2` registers `s2` bytes apart). The masks give the access code of each bit (R5); a bit
in no mask is RO or reserved (R6). `staged` marks a register whose RW fields are Pot fields (R16). -/
structure RegRow where
  base : Nat
  n1 : Nat
  s1 : Nat
  n2 : Nat
  s2 : Nat
  bytes : Nat
  staged : Bool
  rw : Nat
  w1c : Nat
  wo : Nat
  reset : Nat
deriving DecidableEq, Repr

namespace A

/-- CFG_DEVICE_ID (Table 0.2, R3). -/
def CFG_DEVICE_ID : Nat := 0x0D000000
/-- EP_DEVICE_ID (Table 0.2, R3). -/
def EP_DEVICE_ID : Nat := 0x00000000
/-- CFG_POT_CTRL (Table 2.4, R33). -/
def CFG_POT_CTRL : Nat := 0x0D000100
/-- CFG_POT_STATUS (Table 2.5, R34). -/
def CFG_POT_STATUS : Nat := 0x0D000108
/-- CFG_POT_GEN (Table 2.5, R34). -/
def CFG_POT_GEN : Nat := 0x0D000110
/-- CFG_CHECK_REPORT_A (Table 2.6, R36). -/
def CFG_CHECK_REPORT_A (i : Nat) : Nat := 0x0D000200 + 0x10 * i
/-- CFG_CHECK_REPORT_B (Table 2.6, R36). -/
def CFG_CHECK_REPORT_B (i : Nat) : Nat := 0x0D000208 + 0x10 * i
/-- LNK_CTRL (Table 3.8, R83). -/
def LNK_CTRL (i : Nat) : Nat := 0x01000000 + 0x1000 * i
/-- LNK_STATUS (Table 3.9, R84). -/
def LNK_STATUS (i : Nat) : Nat := 0x01000008 + 0x1000 * i
/-- LNK_PARTNER (Table 3.10, R85). -/
def LNK_PARTNER (i : Nat) : Nat := 0x01000010 + 0x1000 * i
/-- LNK_CMD (Table 3.11, R86). -/
def LNK_CMD (i : Nat) : Nat := 0x01000018 + 0x1000 * i
/-- LNK_ERR (Table 3.12, R87). -/
def LNK_ERR (i : Nat) : Nat := 0x01000020 + 0x1000 * i
/-- PKT_STRAINER (Table 4.7, R106). -/
def PKT_STRAINER (i j : Nat) : Nat := 0x02100000 + 0x800 * i + 0x8 * j
/-- PKT_ROUTE (Table 4.8, R106). -/
def PKT_ROUTE (i : Nat) : Nat := 0x02020000 + 0x8 * i
/-- PKT_NODE_ID (Table 4.9, R106). -/
def PKT_NODE_ID : Nat := 0x02000000
/-- PKT_HASH_SEED (Table 4.9, R106). -/
def PKT_HASH_SEED : Nat := 0x02000008
/-- PKT_PORT_CFG (Table 4.10, R106). -/
def PKT_PORT_CFG (i : Nat) : Nat := 0x02000100 + 0x8 * i
/-- PKT_DROP_STATUS (Table 4.11, R106). -/
def PKT_DROP_STATUS : Nat := 0x02000200
/-- PKT_DROP_LAST (Table 4.12, R106). -/
def PKT_DROP_LAST : Nat := 0x02000208
/-- PKT_SPRAY_WT0 (Table 4.13, R106). -/
def PKT_SPRAY_WT0 : Nat := 0x02000300
/-- PKT_SPRAY_WT1 (Table 4.13, R106). -/
def PKT_SPRAY_WT1 : Nat := 0x02000308
/-- PKT_DRAIN (Table 4.13, R106). -/
def PKT_DRAIN (i : Nat) : Nat := 0x02004000 + 0x8 * i
/-- PKT_DRAINED (Table 4.13, R106). -/
def PKT_DRAINED (i : Nat) : Nat := 0x02004200 + 0x8 * i
/-- SWC_CLASS_A (Table 5.7, R130). -/
def SWC_CLASS_A (i j : Nat) : Nat := 0x03010000 + 0x100 * i + 0x10 * j
/-- SWC_CLASS_B (Table 5.8, R130). -/
def SWC_CLASS_B (i j : Nat) : Nat := 0x03010008 + 0x100 * i + 0x10 * j
/-- SWC_HOP_BOUND_A (Table 5.9, R130). -/
def SWC_HOP_BOUND_A (i j : Nat) : Nat := 0x03014000 + 0x80 * i + 0x10 * j
/-- SWC_HOP_BOUND_B (Table 5.9, R130). -/
def SWC_HOP_BOUND_B (i j : Nat) : Nat := 0x03014008 + 0x80 * i + 0x10 * j
/-- SWC_EDROP_PROFILE_0 (Table 5.10, R130). -/
def SWC_EDROP_PROFILE_0 (i : Nat) : Nat := 0x03018000 + 0x20 * i
/-- SWC_EDROP_PROFILE_K (Table 5.10, R130). -/
def SWC_EDROP_PROFILE_K (i j : Nat) : Nat := 0x03018008 + 0x20 * i + 0x8 * j
/-- SWC_METER (Table 5.11, R130). -/
def SWC_METER (i j : Nat) : Nat := 0x03020000 + 0x40 * i + 0x8 * j
/-- SWC_EVENT_STATUS (Table 5.12, R130). -/
def SWC_EVENT_STATUS : Nat := 0x03000200
/-- SWC_LATE_LAST (Table 5.13, R130). -/
def SWC_LATE_LAST : Nat := 0x03000208
/-- SWC_SHARED_FREE (Table 5.13, R130). -/
def SWC_SHARED_FREE : Nat := 0x03000210
/-- SWC_TIMING_LAST (Table 5.13, R130). -/
def SWC_TIMING_LAST : Nat := 0x03000218
/-- MEM_SEM_CTRL (Table 6.12, R163). -/
def MEM_SEM_CTRL : Nat := 0x06400000
/-- MEM_SCOPE (Table 6.13, R163). -/
def MEM_SCOPE : Nat := 0x06400008
/-- MEM_DEDUP_CFG (Table 6.13, R163). -/
def MEM_DEDUP_CFG : Nat := 0x06400010
/-- RED_WIN_A (Table 7.16, R194). -/
def RED_WIN_A (i : Nat) : Nat := 0x04010000 + 0x40 * i
/-- RED_WIN_B (Table 7.17, R194). -/
def RED_WIN_B (i : Nat) : Nat := 0x04010008 + 0x40 * i
/-- RED_WIN_C (Table 7.17, R194). -/
def RED_WIN_C (i : Nat) : Nat := 0x04010010 + 0x40 * i
/-- RED_WIN_D (Table 7.17, R194). -/
def RED_WIN_D (i : Nat) : Nat := 0x04010018 + 0x40 * i
/-- RED_WIN_E (Table 7.17, R194). -/
def RED_WIN_E (i : Nat) : Nat := 0x04010020 + 0x40 * i
/-- RED_WIN_STATUS (Table 7.18, R194). -/
def RED_WIN_STATUS (i : Nat) : Nat := 0x04010028 + 0x40 * i
/-- RED_WIN_CMD (Table 7.18, R194). -/
def RED_WIN_CMD (i : Nat) : Nat := 0x04010030 + 0x40 * i
/-- RED_CLUSTER_MAP (Table 7.19, R194). -/
def RED_CLUSTER_MAP : Nat := 0x04000000
/-- RED_CLUSTER_SPARE (Table 7.19, R194). -/
def RED_CLUSTER_SPARE : Nat := 0x04000008
/-- MEM_LCTR (Table 6.14, R163). -/
def MEM_LCTR (i : Nat) : Nat := 0x06300000 + 0x8 * i
/-- MEM_RFAULT_BASE (Table 6.14, R163). -/
def MEM_RFAULT_BASE : Nat := 0x06400100
/-- MEM_RFAULT_CTRL (Table 6.14, R163). -/
def MEM_RFAULT_CTRL : Nat := 0x06400108
/-- MEM_RFAULT_HEAD (Table 6.14, R163). -/
def MEM_RFAULT_HEAD : Nat := 0x06400110
/-- MEM_RFAULT_TAIL (Table 6.14, R163). -/
def MEM_RFAULT_TAIL : Nat := 0x06400118
/-- MEM_RFAULT_STATUS (Table 6.14, R163). -/
def MEM_RFAULT_STATUS : Nat := 0x06400120
/-- SEQ_SPARE_STATUS (Table 9.10, R241). -/
def SEQ_SPARE_STATUS : Nat := 0x05000040
/-- SEQ_EXC_PENDING (Table 9.10, R241). -/
def SEQ_EXC_PENDING : Nat := 0x05000048
/-- SEQ_LOAD_ADDR (Table 9.10, R241). -/
def SEQ_LOAD_ADDR : Nat := 0x05000100
/-- SEQ_LOAD_CMD (Table 9.10, R241). -/
def SEQ_LOAD_CMD : Nat := 0x05000108
/-- SEQ_LOAD_STATUS (Table 9.10, R241). -/
def SEQ_LOAD_STATUS : Nat := 0x05000110
/-- SEQ_SAMPLE_BASE (Table 9.10, R241). -/
def SEQ_SAMPLE_BASE : Nat := 0x05000400
/-- SEQ_SAMPLE_RING (Table 9.10, R241). -/
def SEQ_SAMPLE_RING : Nat := 0x05000408
/-- SEQ_CORE_MAP0 (Table 9.10, R241). -/
def SEQ_CORE_MAP0 : Nat := 0x05000000
/-- SEQ_CORE_MAP1 (Table 9.10, R241). -/
def SEQ_CORE_MAP1 : Nat := 0x05000008
/-- SEQ_CORE_MAP2 (Table 9.10, R241). -/
def SEQ_CORE_MAP2 : Nat := 0x05000010
/-- SEQ_CORE_MAP3 (Table 9.10, R241). -/
def SEQ_CORE_MAP3 : Nat := 0x05000018
/-- SEQ_CORE_MAP4 (Table 9.10, R241). -/
def SEQ_CORE_MAP4 : Nat := 0x05000020
/-- SEQ_CORE_MAP5 (Table 9.10, R241). -/
def SEQ_CORE_MAP5 : Nat := 0x05000028
/-- SEQ_CORE_MAP6 (Table 9.10, R241). -/
def SEQ_CORE_MAP6 : Nat := 0x05000030
/-- SEQ_CORE_MAP7 (Table 9.10, R241). -/
def SEQ_CORE_MAP7 : Nat := 0x05000038
/-- SEQ_QUEUE_A (Table 9.12, R241). -/
def SEQ_QUEUE_A (i : Nat) : Nat := 0x05000200 + 0x10 * i
/-- SEQ_QUEUE_B (Table 9.12, R241). -/
def SEQ_QUEUE_B (i : Nat) : Nat := 0x05000208 + 0x10 * i
/-- SEQ_CORE_CTRL (Table 9.13, R241). -/
def SEQ_CORE_CTRL (i : Nat) : Nat := 0x05010000 + 0x100 * i
/-- SEQ_CORE_STATUS (Table 9.13, R241). -/
def SEQ_CORE_STATUS (i : Nat) : Nat := 0x05010008 + 0x100 * i
/-- SEQ_CORE_PROG (Table 9.13, R241). -/
def SEQ_CORE_PROG (i : Nat) : Nat := 0x05010010 + 0x100 * i
/-- SEQ_EXC_INFO (Table 9.13, R241). -/
def SEQ_EXC_INFO (i : Nat) : Nat := 0x05010018 + 0x100 * i
/-- SEQ_WDOG (Table 9.13, R241). -/
def SEQ_WDOG (i : Nat) : Nat := 0x05010020 + 0x100 * i
/-- SEQ_SAMPLE_CTRL (Table 9.13, R241). -/
def SEQ_SAMPLE_CTRL (i : Nat) : Nat := 0x05010028 + 0x100 * i
/-- SEQ_LOCAL_WIN (Table 9.13, R241). -/
def SEQ_LOCAL_WIN (i : Nat) : Nat := 0x05010040 + 0x100 * i
/-- SEQ_LOCAL_DATA (Table 9.13, R241). -/
def SEQ_LOCAL_DATA (i : Nat) : Nat := 0x05010048 + 0x100 * i
/-- MEM_SRAM_PART0 (Table 11.11, R308). -/
def MEM_SRAM_PART0 : Nat := 0x06000000
/-- MEM_SRAM_PART1 (Table 11.11, R308). -/
def MEM_SRAM_PART1 : Nat := 0x06000008
/-- MEM_SRAM_PART2 (Table 11.11, R308). -/
def MEM_SRAM_PART2 : Nat := 0x06000010
/-- MEM_SRAM_PART3 (Table 11.11, R308). -/
def MEM_SRAM_PART3 : Nat := 0x06000018
/-- MEM_DRAM_CFG (Table 11.12, R308). -/
def MEM_DRAM_CFG : Nat := 0x06000040
/-- MEM_DIR_BASE (Table 11.12, R308). -/
def MEM_DIR_BASE : Nat := 0x06000048
/-- MEM_DIR_TILES (Table 11.12, R308). -/
def MEM_DIR_TILES : Nat := 0x06000050
/-- MEM_STEP (Table 11.12, R308). -/
def MEM_STEP : Nat := 0x06000060
/-- MEM_STEP_STATUS (Table 11.12, R308). -/
def MEM_STEP_STATUS : Nat := 0x06000068
/-- MEM_TIER_STATUS (Table 11.12, R308). -/
def MEM_TIER_STATUS : Nat := 0x06000070
/-- MEM_QUOTA_A (Table 11.12, R308). -/
def MEM_QUOTA_A (i : Nat) : Nat := 0x06001000 + 0x10 * i
/-- MEM_QUOTA_B (Table 11.12, R308). -/
def MEM_QUOTA_B (i : Nat) : Nat := 0x06001008 + 0x10 * i
/-- CDY_CFG (Table 11.13, R309). -/
def CDY_CFG : Nat := 0x07000000
/-- CDY_GEOM (Table 11.13, R309). -/
def CDY_GEOM : Nat := 0x07000008
/-- CDY_CAP (Table 11.13, R309). -/
def CDY_CAP : Nat := 0x07000010
/-- CDY_STATUS (Table 11.13, R309). -/
def CDY_STATUS : Nat := 0x07000018
/-- CDY_BUF_BASE (Table 11.13, R309). -/
def CDY_BUF_BASE : Nat := 0x07000020
/-- CDY_QUOTA_A (Table 11.13, R309). -/
def CDY_QUOTA_A (i : Nat) : Nat := 0x07001000 + 0x10 * i
/-- CDY_QUOTA_B (Table 11.13, R309). -/
def CDY_QUOTA_B (i : Nat) : Nat := 0x07001008 + 0x10 * i
/-- XLT_CFG (Table 12.10, R328). -/
def XLT_CFG : Nat := 0x08000000
/-- XLT_ROOT (Table 12.10, R328). -/
def XLT_ROOT (i : Nat) : Nat := 0x08000100 + 0x8 * i
/-- EP_XLT_CTX (Table 12.10, R328). -/
def EP_XLT_CTX (i : Nat) : Nat := 0x08000100 + 0x8 * i
/-- XLT_INV (Table 12.10, R328). -/
def XLT_INV : Nat := 0x08001000
/-- XLT_INV_STATUS (Table 12.10, R328). -/
def XLT_INV_STATUS : Nat := 0x08001008
/-- XLT_FLOG_BASE (Table 12.10, R328). -/
def XLT_FLOG_BASE : Nat := 0x08001100
/-- XLT_FLOG_CTRL (Table 12.10, R328). -/
def XLT_FLOG_CTRL : Nat := 0x08001108
/-- XLT_FLOG_HEAD (Table 12.10, R328). -/
def XLT_FLOG_HEAD : Nat := 0x08001110
/-- XLT_FLOG_TAIL (Table 12.10, R328). -/
def XLT_FLOG_TAIL : Nat := 0x08001118
/-- XLT_FLOG_STATUS (Table 12.10, R328). -/
def XLT_FLOG_STATUS : Nat := 0x08001120
/-- EP_XLT_RESUME (Table 12.10, R328). -/
def EP_XLT_RESUME : Nat := 0x08001200
/-- HIF_ERR (Table 13.14, R362). -/
def HIF_ERR : Nat := 0x09000000
/-- HIF_BAD_ACCESS (Table 13.14, R362). -/
def HIF_BAD_ACCESS : Nat := 0x09000008
/-- HIF_CHAN_BASE (Table 13.14, R362). -/
def HIF_CHAN_BASE : Nat := 0x09000100
/-- HIF_CHAN_CFG (Table 13.14, R362). -/
def HIF_CHAN_CFG : Nat := 0x09000108
/-- HIF_CHAN_INV (Table 13.14, R362). -/
def HIF_CHAN_INV : Nat := 0x09000110
/-- HIF_CHAN_INV_STATUS (Table 13.14, R362). -/
def HIF_CHAN_INV_STATUS : Nat := 0x09000118
/-- HIF_MGMT_CTRL (Table 13.14, R362). -/
def HIF_MGMT_CTRL : Nat := 0x09000200
/-- HIF_MGMT_CFG (Table 13.14, R362). -/
def HIF_MGMT_CFG : Nat := 0x09000208
/-- HIF_MGMT_IP4 (Table 13.14, R362). -/
def HIF_MGMT_IP4 : Nat := 0x09000210
/-- HIF_MGMT_IP6 (Table 13.14, R362). -/
def HIF_MGMT_IP6 (i : Nat) : Nat := 0x09000220 + 0x8 * i
/-- HIF_SQ_A (Table 13.14, R362). -/
def HIF_SQ_A (i : Nat) : Nat := 0x09010000 + 0x20 * i
/-- HIF_SQ_B (Table 13.14, R362). -/
def HIF_SQ_B (i : Nat) : Nat := 0x09010008 + 0x20 * i
/-- HIF_SQ_C (Table 13.14, R362). -/
def HIF_SQ_C (i : Nat) : Nat := 0x09010010 + 0x20 * i
/-- HIF_CQ_A (Table 13.14, R362). -/
def HIF_CQ_A (i : Nat) : Nat := 0x09020000 + 0x20 * i
/-- HIF_CQ_B (Table 13.14, R362). -/
def HIF_CQ_B (i : Nat) : Nat := 0x09020008 + 0x20 * i
/-- HIF_CQ_C (Table 13.14, R362). -/
def HIF_CQ_C (i : Nat) : Nat := 0x09020010 + 0x20 * i
/-- HIF_CQ_D (Table 13.14, R362). -/
def HIF_CQ_D (i : Nat) : Nat := 0x09020018 + 0x20 * i
/-- HIF_VF_STATUS (Table 13.14, R362). -/
def HIF_VF_STATUS (i : Nat) : Nat := 0x20008000 + 0x10000 * i
/-- EP_UCIE_STATUS (Table 14.7, R389). -/
def EP_UCIE_STATUS : Nat := 0x00000010
/-- EP_EVENT_STATUS (Table 14.7, R389). -/
def EP_EVENT_STATUS : Nat := 0x00000020
/-- EP_STEP (Table 14.7, R389). -/
def EP_STEP : Nat := 0x00000030
/-- EP_TIMING_LAST (Table 14.7, R389). -/
def EP_TIMING_LAST : Nat := 0x00000038
/-- EP_CHAN_BASE (Table 14.7, R389). -/
def EP_CHAN_BASE : Nat := 0x00000100
/-- EP_CHAN_CFG (Table 14.7, R389). -/
def EP_CHAN_CFG : Nat := 0x00000108
/-- EP_L2_REGION_A (Table 14.7, R389). -/
def EP_L2_REGION_A : Nat := 0x00000200
/-- EP_L2_REGION_B (Table 14.7, R389). -/
def EP_L2_REGION_B : Nat := 0x00000208
/-- EP_RCACHE_INV (Table 14.7, R389). -/
def EP_RCACHE_INV : Nat := 0x00000300
/-- EP_RCACHE_STATUS (Table 14.7, R389). -/
def EP_RCACHE_STATUS : Nat := 0x00000308
/-- EP_ORD_RESET (Table 14.7, R389). -/
def EP_ORD_RESET : Nat := 0x00000400
/-- EP_ORD_STATUS (Table 14.7, R389). -/
def EP_ORD_STATUS : Nat := 0x00000408
/-- EP_ROB_CFG (Table 14.7, R389). -/
def EP_ROB_CFG : Nat := 0x00000410
/-- EP_INBOUND_A (Table 14.7, R389). -/
def EP_INBOUND_A (i : Nat) : Nat := 0x00001000 + 0x20 * i
/-- EP_INBOUND_B (Table 14.7, R389). -/
def EP_INBOUND_B (i : Nat) : Nat := 0x00001008 + 0x20 * i
/-- EP_INBOUND_C (Table 14.7, R389). -/
def EP_INBOUND_C (i : Nat) : Nat := 0x00001010 + 0x20 * i
/-- EP_ENGINE (Table 14.7, R389). -/
def EP_ENGINE (i : Nat) : Nat := 0x00010000 + 0x8 * i
/-- EP_CHAN_INV (Table 14.7, R389). -/
def EP_CHAN_INV : Nat := 0x00000110
/-- EP_CHAN_INV_STATUS (Table 14.7, R389). -/
def EP_CHAN_INV_STATUS : Nat := 0x00000118
/-- SEC_MODE (Table 15.9, R413). -/
def SEC_MODE : Nat := 0x0A000000
/-- SEC_STATUS (Table 15.9, R413). -/
def SEC_STATUS : Nat := 0x0A000008
/-- SEC_TENANT (Table 15.9, R413). -/
def SEC_TENANT (i : Nat) : Nat := 0x0A000100 + 0x8 * i
/-- TEL_MEMB_CFG (Table 16.9, R442). -/
def TEL_MEMB_CFG : Nat := 0x0C040000
/-- TEL_MEMB_COORD (Table 16.9, R442). -/
def TEL_MEMB_COORD : Nat := 0x0C040008
/-- TEL_MEMB_STATE (Table 16.9, R442). -/
def TEL_MEMB_STATE : Nat := 0x0C040010
/-- TEL_FAULT_STATUS (Table 16.9, R442). -/
def TEL_FAULT_STATUS : Nat := 0x0C040020
/-- TEL_UE_LAST (Table 16.9, R442). -/
def TEL_UE_LAST : Nat := 0x0C040028
/-- TEL_FATAL (Table 16.9, R442). -/
def TEL_FATAL : Nat := 0x0C040030
/-- TEL_REPAIR (Table 16.9, R442). -/
def TEL_REPAIR : Nat := 0x0C040038
/-- TEL_MEMB_DEAD (Table 16.9, R442). -/
def TEL_MEMB_DEAD (i : Nat) : Nat := 0x0C040100 + 0x8 * i
/-- TEL_MEMB_SWITCHES (Table 16.9, R442). -/
def TEL_MEMB_SWITCHES (i : Nat) : Nat := 0x0C040300 + 0x8 * i
/-- PWR_DOMAIN_STATUS (Table 17.9, R467). -/
def PWR_DOMAIN_STATUS : Nat := 0x0B000000
/-- PWR_DOMAIN_HOLD (Table 17.9, R467). -/
def PWR_DOMAIN_HOLD : Nat := 0x0B000008
/-- PWR_CLK_STATUS (Table 17.9, R467). -/
def PWR_CLK_STATUS : Nat := 0x0B000010
/-- PWR_CAP_STATUS (Table 17.9, R467). -/
def PWR_CAP_STATUS : Nat := 0x0B000020
/-- PWR_EST (Table 17.9, R467). -/
def PWR_EST : Nat := 0x0B000028
/-- PWR_VR_STATUS (Table 17.9, R467). -/
def PWR_VR_STATUS : Nat := 0x0B000030
/-- PWR_AGE_STATUS (Table 17.9, R467). -/
def PWR_AGE_STATUS : Nat := 0x0B000040
/-- PWR_AGE_LOG_IDX (Table 17.9, R467). -/
def PWR_AGE_LOG_IDX : Nat := 0x0B000050
/-- PWR_AGE_LOG_DATA (Table 17.9, R467). -/
def PWR_AGE_LOG_DATA (i : Nat) : Nat := 0x0B000058 + 0x8 * i
/-- PWR_EVENT (Table 17.9, R467). -/
def PWR_EVENT : Nat := 0x0B000070
/-- TEL_CTR (Table 18.4, R477). -/
def TEL_CTR (i : Nat) : Nat := 0x0C000000 + 0x8 * i
/-- TEL_WIN_CFG (Table 18.4, R477). -/
def TEL_WIN_CFG : Nat := 0x0C010000
/-- TEL_WIN_GROUPS (Table 18.4, R477). -/
def TEL_WIN_GROUPS : Nat := 0x0C010008
/-- TEL_SNAP_BASE (Table 18.4, R477). -/
def TEL_SNAP_BASE : Nat := 0x0C010010
/-- TEL_SNAP_RING (Table 18.4, R477). -/
def TEL_SNAP_RING : Nat := 0x0C010018
/-- TEL_RED_SEL (Table 18.4, R477). -/
def TEL_RED_SEL : Nat := 0x0C010020
/-- TEL_GRANT (Table 18.4, R477). -/
def TEL_GRANT (i : Nat) : Nat := 0x0C010100 + 0x8 * i
/-- CFG_BOOT_STATUS (Table 19.6, R490). -/
def CFG_BOOT_STATUS : Nat := 0x0D000020
/-- CFG_RESET_CTRL (Table 19.6, R490). -/
def CFG_RESET_CTRL : Nat := 0x0D000030
/-- CFG_RESET_CAUSE (Table 19.6, R490). -/
def CFG_RESET_CAUSE : Nat := 0x0D000038

end A

namespace F

def CFG_DEVICE_ID_PART : Fld := ⟨A.CFG_DEVICE_ID, 31, 16⟩
def CFG_DEVICE_ID_STEP_LETTER : Fld := ⟨A.CFG_DEVICE_ID, 15, 12⟩
def CFG_DEVICE_ID_STEP_DIGIT : Fld := ⟨A.CFG_DEVICE_ID, 11, 8⟩
def CFG_DEVICE_ID_LINKVER_MAJOR : Fld := ⟨A.CFG_DEVICE_ID, 7, 4⟩
def CFG_DEVICE_ID_LINKVER_MINOR : Fld := ⟨A.CFG_DEVICE_ID, 3, 0⟩
def EP_DEVICE_ID_PART : Fld := ⟨A.EP_DEVICE_ID, 31, 16⟩
def EP_DEVICE_ID_STEP_LETTER : Fld := ⟨A.EP_DEVICE_ID, 15, 12⟩
def EP_DEVICE_ID_STEP_DIGIT : Fld := ⟨A.EP_DEVICE_ID, 11, 8⟩
def EP_DEVICE_ID_LINKVER_MAJOR : Fld := ⟨A.EP_DEVICE_ID, 7, 4⟩
def EP_DEVICE_ID_LINKVER_MINOR : Fld := ⟨A.EP_DEVICE_ID, 3, 0⟩
def CFG_POT_CTRL_FORCE : Fld := ⟨A.CFG_POT_CTRL, 7, 7⟩
def CFG_POT_CTRL_DISCARD : Fld := ⟨A.CFG_POT_CTRL, 3, 3⟩
def CFG_POT_CTRL_POUR : Fld := ⟨A.CFG_POT_CTRL, 2, 2⟩
def CFG_POT_CTRL_CHECK : Fld := ⟨A.CFG_POT_CTRL, 1, 1⟩
def CFG_POT_CTRL_CLAIM : Fld := ⟨A.CFG_POT_CTRL, 0, 0⟩
def CFG_POT_STATUS_HOLDER : Fld := ⟨A.CFG_POT_STATUS, 31, 24⟩
def CFG_POT_STATUS_REPORT_COUNT : Fld := ⟨A.CFG_POT_STATUS, 23, 16⟩
def CFG_POT_STATUS_REPORT_OVERFLOW : Fld := ⟨A.CFG_POT_STATUS, 15, 15⟩
def CFG_POT_STATUS_STATE : Fld := ⟨A.CFG_POT_STATUS, 7, 4⟩
def CFG_POT_STATUS_RESULT : Fld := ⟨A.CFG_POT_STATUS, 3, 0⟩
def CFG_POT_GEN_GEN : Fld := ⟨A.CFG_POT_GEN, 31, 0⟩
def CFG_CHECK_REPORT_A_CODE (i : Nat) : Fld := ⟨A.CFG_CHECK_REPORT_A i, 63, 48⟩
def CFG_CHECK_REPORT_A_BLOCK (i : Nat) : Fld := ⟨A.CFG_CHECK_REPORT_A i, 47, 40⟩
def CFG_CHECK_REPORT_A_PORT (i : Nat) : Fld := ⟨A.CFG_CHECK_REPORT_A i, 39, 32⟩
def CFG_CHECK_REPORT_A_CLASS (i : Nat) : Fld := ⟨A.CFG_CHECK_REPORT_A i, 31, 24⟩
def CFG_CHECK_REPORT_A_OFFSET (i : Nat) : Fld := ⟨A.CFG_CHECK_REPORT_A i, 23, 0⟩
def CFG_CHECK_REPORT_B_REQUIRED (i : Nat) : Fld := ⟨A.CFG_CHECK_REPORT_B i, 63, 32⟩
def CFG_CHECK_REPORT_B_STAGED (i : Nat) : Fld := ⟨A.CFG_CHECK_REPORT_B i, 31, 0⟩
def LNK_CTRL_VER_CEIL (i : Nat) : Fld := ⟨A.LNK_CTRL i, 15, 8⟩
def LNK_CTRL_TARGET (i : Nat) : Fld := ⟨A.LNK_CTRL i, 3, 2⟩
def LNK_CTRL_ENABLE (i : Nat) : Fld := ⟨A.LNK_CTRL i, 0, 0⟩
def LNK_STATUS_STATE (i : Nat) : Fld := ⟨A.LNK_STATUS i, 31, 28⟩
def LNK_STATUS_VER_RUN (i : Nat) : Fld := ⟨A.LNK_STATUS i, 27, 20⟩
def LNK_STATUS_HELD (i : Nat) : Fld := ⟨A.LNK_STATUS i, 19, 19⟩
def LNK_STATUS_SPARE_RX (i : Nat) : Fld := ⟨A.LNK_STATUS i, 18, 18⟩
def LNK_STATUS_SPARE_TX (i : Nat) : Fld := ⟨A.LNK_STATUS i, 17, 17⟩
def LNK_STATUS_FAILED_RX_LANE (i : Nat) : Fld := ⟨A.LNK_STATUS i, 16, 12⟩
def LNK_STATUS_FAILED_TX_LANE (i : Nat) : Fld := ⟨A.LNK_STATUS i, 11, 7⟩
def LNK_STATUS_RECOVERING (i : Nat) : Fld := ⟨A.LNK_STATUS i, 4, 4⟩
def LNK_STATUS_LAST_RESULT (i : Nat) : Fld := ⟨A.LNK_STATUS i, 3, 0⟩
def LNK_PARTNER_PART (i : Nat) : Fld := ⟨A.LNK_PARTNER i, 63, 48⟩
def LNK_PARTNER_STEPPING (i : Nat) : Fld := ⟨A.LNK_PARTNER i, 47, 40⟩
def LNK_PARTNER_VER_MAX (i : Nat) : Fld := ⟨A.LNK_PARTNER i, 39, 32⟩
def LNK_PARTNER_ROLE (i : Nat) : Fld := ⟨A.LNK_PARTNER i, 31, 30⟩
def LNK_PARTNER_NODE_ID (i : Nat) : Fld := ⟨A.LNK_PARTNER i, 29, 18⟩
def LNK_PARTNER_PORT (i : Nat) : Fld := ⟨A.LNK_PARTNER i, 17, 12⟩
def LNK_PARTNER_RTT_NS (i : Nat) : Fld := ⟨A.LNK_PARTNER i, 11, 0⟩
def LNK_CMD_NAP (i : Nat) : Fld := ⟨A.LNK_CMD i, 1, 1⟩
def LNK_CMD_WAKE (i : Nat) : Fld := ⟨A.LNK_CMD i, 0, 0⟩
def LNK_ERR_EPOCH_MISMATCH (i : Nat) : Fld := ⟨A.LNK_ERR i, 9, 9⟩
def LNK_ERR_NAP_REFUSED (i : Nat) : Fld := ⟨A.LNK_ERR i, 8, 8⟩
def LNK_ERR_DEMAND_WAKE (i : Nat) : Fld := ⟨A.LNK_ERR i, 7, 7⟩
def LNK_ERR_DOWN (i : Nat) : Fld := ⟨A.LNK_ERR i, 6, 6⟩
def LNK_ERR_SPARE_SWITCHED (i : Nat) : Fld := ⟨A.LNK_ERR i, 5, 5⟩
def LNK_ERR_RECOVERY (i : Nat) : Fld := ⟨A.LNK_ERR i, 4, 4⟩
def LNK_ERR_REPLAY_LIMIT (i : Nat) : Fld := ⟨A.LNK_ERR i, 3, 3⟩
def LNK_ERR_STUFF_VIOL (i : Nat) : Fld := ⟨A.LNK_ERR i, 2, 2⟩
def LNK_ERR_HCRC_ERR (i : Nat) : Fld := ⟨A.LNK_ERR i, 1, 1⟩
def LNK_ERR_CRC_ERR (i : Nat) : Fld := ⟨A.LNK_ERR i, 0, 0⟩
def PKT_STRAINER_KEY (i j : Nat) : Fld := ⟨A.PKT_STRAINER i j, 63, 48⟩
def PKT_STRAINER_TENANT (i j : Nat) : Fld := ⟨A.PKT_STRAINER i j, 47, 42⟩
def PKT_STRAINER_LIVE_EPOCH (i j : Nat) : Fld := ⟨A.PKT_STRAINER i j, 41, 34⟩
def PKT_STRAINER_PREV_EPOCH (i j : Nat) : Fld := ⟨A.PKT_STRAINER i j, 33, 26⟩
def PKT_STRAINER_PREV_VALID (i j : Nat) : Fld := ⟨A.PKT_STRAINER i j, 25, 25⟩
def PKT_STRAINER_CLASS_MASK (i j : Nat) : Fld := ⟨A.PKT_STRAINER i j, 24, 17⟩
def PKT_STRAINER_STATE (i j : Nat) : Fld := ⟨A.PKT_STRAINER i j, 16, 15⟩
def PKT_ROUTE_SPRAY (i : Nat) : Fld := ⟨A.PKT_ROUTE i, 32, 32⟩
def PKT_ROUTE_LINKS (i : Nat) : Fld := ⟨A.PKT_ROUTE i, 31, 0⟩
def PKT_NODE_ID_NODE_ID : Fld := ⟨A.PKT_NODE_ID, 11, 0⟩
def PKT_HASH_SEED_SEED : Fld := ⟨A.PKT_HASH_SEED, 15, 0⟩
def PKT_PORT_CFG_SRC_CHECK (i : Nat) : Fld := ⟨A.PKT_PORT_CFG i, 0, 0⟩
def PKT_DROP_STATUS_DRAINING : Fld := ⟨A.PKT_DROP_STATUS, 11, 11⟩
def PKT_DROP_STATUS_PATH_DOWN : Fld := ⟨A.PKT_DROP_STATUS, 10, 10⟩
def PKT_DROP_STATUS_MISROUTED : Fld := ⟨A.PKT_DROP_STATUS, 9, 9⟩
def PKT_DROP_STATUS_HOPS_EXCEEDED : Fld := ⟨A.PKT_DROP_STATUS, 8, 8⟩
def PKT_DROP_STATUS_SRC_SPOOF : Fld := ⟨A.PKT_DROP_STATUS, 7, 7⟩
def PKT_DROP_STATUS_CLASS_DENIED : Fld := ⟨A.PKT_DROP_STATUS, 6, 6⟩
def PKT_DROP_STATUS_EPOCH_RETIRED : Fld := ⟨A.PKT_DROP_STATUS, 5, 5⟩
def PKT_DROP_STATUS_KEY_REVOKED : Fld := ⟨A.PKT_DROP_STATUS, 4, 4⟩
def PKT_DROP_STATUS_KEY_UNKNOWN : Fld := ⟨A.PKT_DROP_STATUS, 3, 3⟩
def PKT_DROP_STATUS_KEY_ZERO : Fld := ⟨A.PKT_DROP_STATUS, 2, 2⟩
def PKT_DROP_STATUS_HDR_INVALID : Fld := ⟨A.PKT_DROP_STATUS, 1, 1⟩
def PKT_DROP_STATUS_REORDER_FULL : Fld := ⟨A.PKT_DROP_STATUS, 0, 0⟩
def PKT_DROP_LAST_PKEY : Fld := ⟨A.PKT_DROP_LAST, 63, 48⟩
def PKT_DROP_LAST_KEY_EPOCH : Fld := ⟨A.PKT_DROP_LAST, 47, 40⟩
def PKT_DROP_LAST_SRC_NODE : Fld := ⟨A.PKT_DROP_LAST, 39, 28⟩
def PKT_DROP_LAST_DST_NODE : Fld := ⟨A.PKT_DROP_LAST, 27, 16⟩
def PKT_DROP_LAST_PORT : Fld := ⟨A.PKT_DROP_LAST, 15, 8⟩
def PKT_DROP_LAST_CAUSE : Fld := ⟨A.PKT_DROP_LAST, 3, 0⟩
def PKT_SPRAY_WT0_W (k : Nat) : Fld := ⟨A.PKT_SPRAY_WT0, 4 * k + 3, 4 * k⟩
def PKT_SPRAY_WT1_W (k : Nat) : Fld := ⟨A.PKT_SPRAY_WT1, 4 * k + 3, 4 * k⟩
def PKT_DRAIN_DRAIN (i : Nat) : Fld := ⟨A.PKT_DRAIN i, 63, 0⟩
def PKT_DRAINED_DRAINED (i : Nat) : Fld := ⟨A.PKT_DRAINED i, 63, 0⟩
def SWC_CLASS_A_MODE (i j : Nat) : Fld := ⟨A.SWC_CLASS_A i j, 63, 62⟩
def SWC_CLASS_A_RESV (i j : Nat) : Fld := ⟨A.SWC_CLASS_A i j, 61, 40⟩
def SWC_CLASS_A_SHARE_CAP (i j : Nat) : Fld := ⟨A.SWC_CLASS_A i j, 39, 18⟩
def SWC_CLASS_A_PROFILE (i j : Nat) : Fld := ⟨A.SWC_CLASS_A i j, 17, 14⟩
def SWC_CLASS_A_QUANTUM (i j : Nat) : Fld := ⟨A.SWC_CLASS_A i j, 13, 0⟩
def SWC_CLASS_B_RATE (i j : Nat) : Fld := ⟨A.SWC_CLASS_B i j, 63, 45⟩
def SWC_CLASS_B_BURST (i j : Nat) : Fld := ⟨A.SWC_CLASS_B i j, 44, 27⟩
def SWC_HOP_BOUND_A_BOUND_NS (i j : Nat) : Fld := ⟨A.SWC_HOP_BOUND_A i j, 63, 32⟩
def SWC_HOP_BOUND_A_RES_NS (i j : Nat) : Fld := ⟨A.SWC_HOP_BOUND_A i j, 31, 0⟩
def SWC_HOP_BOUND_B_RATE_EFF (i j : Nat) : Fld := ⟨A.SWC_HOP_BOUND_B i j, 63, 45⟩
def SWC_HOP_BOUND_B_VALID (i j : Nat) : Fld := ⟨A.SWC_HOP_BOUND_B i j, 44, 44⟩
def SWC_HOP_BOUND_B_RTT_NS (i j : Nat) : Fld := ⟨A.SWC_HOP_BOUND_B i j, 43, 32⟩
def SWC_EDROP_PROFILE_0_W (i : Nat) : Fld := ⟨A.SWC_EDROP_PROFILE_0 i, 3, 0⟩
def SWC_EDROP_PROFILE_K_MIN_TH (i j : Nat) : Fld := ⟨A.SWC_EDROP_PROFILE_K i j, 63, 42⟩
def SWC_EDROP_PROFILE_K_MAX_TH (i j : Nat) : Fld := ⟨A.SWC_EDROP_PROFILE_K i j, 41, 20⟩
def SWC_EDROP_PROFILE_K_MAXP (i j : Nat) : Fld := ⟨A.SWC_EDROP_PROFILE_K i j, 19, 12⟩
def SWC_METER_CIR (i j : Nat) : Fld := ⟨A.SWC_METER i j, 63, 45⟩
def SWC_METER_CBS (i j : Nat) : Fld := ⟨A.SWC_METER i j, 44, 32⟩
def SWC_METER_EIR (i j : Nat) : Fld := ⟨A.SWC_METER i j, 31, 13⟩
def SWC_METER_EBS (i j : Nat) : Fld := ⟨A.SWC_METER i j, 12, 0⟩
def SWC_EVENT_STATUS_TIMING_FAULT : Fld := ⟨A.SWC_EVENT_STATUS, 9, 9⟩
def SWC_EVENT_STATUS_BOUND_GROWN : Fld := ⟨A.SWC_EVENT_STATUS, 8, 8⟩
def SWC_EVENT_STATUS_HOP_LATE : Fld := ⟨A.SWC_EVENT_STATUS, 7, 7⟩
def SWC_EVENT_STATUS_CLASS_OFF : Fld := ⟨A.SWC_EVENT_STATUS, 6, 6⟩
def SWC_EVENT_STATUS_CREDIT_VIOL : Fld := ⟨A.SWC_EVENT_STATUS, 5, 5⟩
def SWC_EVENT_STATUS_TAIL : Fld := ⟨A.SWC_EVENT_STATUS, 4, 4⟩
def SWC_EVENT_STATUS_EDROP_RED : Fld := ⟨A.SWC_EVENT_STATUS, 3, 3⟩
def SWC_EVENT_STATUS_EDROP_YELLOW : Fld := ⟨A.SWC_EVENT_STATUS, 2, 2⟩
def SWC_EVENT_STATUS_EDROP_GREEN : Fld := ⟨A.SWC_EVENT_STATUS, 1, 1⟩
def SWC_EVENT_STATUS_QUEUE_CAP : Fld := ⟨A.SWC_EVENT_STATUS, 0, 0⟩
def SWC_LATE_LAST_RESIDENCE_NS : Fld := ⟨A.SWC_LATE_LAST, 63, 40⟩
def SWC_LATE_LAST_SRC_NODE : Fld := ⟨A.SWC_LATE_LAST, 39, 28⟩
def SWC_LATE_LAST_PORT : Fld := ⟨A.SWC_LATE_LAST, 27, 23⟩
def SWC_LATE_LAST_CLASS : Fld := ⟨A.SWC_LATE_LAST, 22, 20⟩
def SWC_LATE_LAST_CHANNEL : Fld := ⟨A.SWC_LATE_LAST, 19, 0⟩
def SWC_SHARED_FREE_FREE : Fld := ⟨A.SWC_SHARED_FREE, 22, 0⟩
def SWC_TIMING_LAST_ELAPSED_NS : Fld := ⟨A.SWC_TIMING_LAST, 63, 40⟩
def SWC_TIMING_LAST_DST_NODE : Fld := ⟨A.SWC_TIMING_LAST, 39, 28⟩
def SWC_TIMING_LAST_CHANNEL : Fld := ⟨A.SWC_TIMING_LAST, 19, 0⟩
def MEM_SEM_CTRL_DEAD_US : Fld := ⟨A.MEM_SEM_CTRL, 43, 32⟩
def MEM_SEM_CTRL_RETRY_100NS : Fld := ⟨A.MEM_SEM_CTRL, 31, 16⟩
def MEM_SCOPE_TRAY_BASE : Fld := ⟨A.MEM_SCOPE, 27, 16⟩
def MEM_SCOPE_TRAY_COUNT : Fld := ⟨A.MEM_SCOPE, 12, 0⟩
def MEM_DEDUP_CFG_BASE : Fld := ⟨A.MEM_DEDUP_CFG, 63, 20⟩
def MEM_DEDUP_CFG_SOURCES : Fld := ⟨A.MEM_DEDUP_CFG, 12, 0⟩
def RED_WIN_A_BASE (i : Nat) : Fld := ⟨A.RED_WIN_A i, 63, 47⟩
def RED_WIN_A_SIZE (i : Nat) : Fld := ⟨A.RED_WIN_A i, 46, 29⟩
def RED_WIN_A_CLUSTER_MASK (i : Nat) : Fld := ⟨A.RED_WIN_A i, 28, 13⟩
def RED_WIN_A_TENANT (i : Nat) : Fld := ⟨A.RED_WIN_A i, 12, 7⟩
def RED_WIN_A_ENABLE (i : Nat) : Fld := ⟨A.RED_WIN_A i, 0, 0⟩
def RED_WIN_B_FORMAT (i : Nat) : Fld := ⟨A.RED_WIN_B i, 63, 60⟩
def RED_WIN_B_OUT_FORMAT (i : Nat) : Fld := ⟨A.RED_WIN_B i, 59, 56⟩
def RED_WIN_B_OP (i : Nat) : Fld := ⟨A.RED_WIN_B i, 55, 53⟩
def RED_WIN_B_SAT (i : Nat) : Fld := ⟨A.RED_WIN_B i, 52, 52⟩
def RED_WIN_B_WEIGHTED (i : Nat) : Fld := ⟨A.RED_WIN_B i, 51, 51⟩
def RED_WIN_B_CARRY_IN (i : Nat) : Fld := ⟨A.RED_WIN_B i, 50, 50⟩
def RED_WIN_B_CONTRIBS_M1 (i : Nat) : Fld := ⟨A.RED_WIN_B i, 49, 38⟩
def RED_WIN_B_PIECES_M1 (i : Nat) : Fld := ⟨A.RED_WIN_B i, 37, 23⟩
def RED_WIN_B_SCALE_LO (i : Nat) : Fld := ⟨A.RED_WIN_B i, 22, 15⟩
def RED_WIN_B_LAST_ELEMS (i : Nat) : Fld := ⟨A.RED_WIN_B i, 14, 0⟩
def RED_WIN_C_OUT_ADDR (i : Nat) : Fld := ⟨A.RED_WIN_C i, 63, 0⟩
def RED_WIN_D_OUT_CHANNEL (i : Nat) : Fld := ⟨A.RED_WIN_D i, 63, 44⟩
def RED_WIN_D_OUT_LCTR (i : Nat) : Fld := ⟨A.RED_WIN_D i, 43, 28⟩
def RED_WIN_D_ROW_32 (i : Nat) : Fld := ⟨A.RED_WIN_D i, 27, 12⟩
def RED_WIN_E_WEIGHT_ADDR (i : Nat) : Fld := ⟨A.RED_WIN_E i, 51, 0⟩
def RED_WIN_STATUS_STATE (i : Nat) : Fld := ⟨A.RED_WIN_STATUS i, 63, 60⟩
def RED_WIN_STATUS_STEP_TAG (i : Nat) : Fld := ⟨A.RED_WIN_STATUS i, 59, 52⟩
def RED_WIN_STATUS_ARM_RESULT (i : Nat) : Fld := ⟨A.RED_WIN_STATUS i, 51, 48⟩
def RED_WIN_STATUS_EMITTED (i : Nat) : Fld := ⟨A.RED_WIN_STATUS i, 35, 20⟩
def RED_WIN_STATUS_NAN_SEEN (i : Nat) : Fld := ⟨A.RED_WIN_STATUS i, 9, 9⟩
def RED_WIN_STATUS_INF_SEEN (i : Nat) : Fld := ⟨A.RED_WIN_STATUS i, 8, 8⟩
def RED_WIN_STATUS_OVF (i : Nat) : Fld := ⟨A.RED_WIN_STATUS i, 7, 7⟩
def RED_WIN_STATUS_SAT_EVENT (i : Nat) : Fld := ⟨A.RED_WIN_STATUS i, 6, 6⟩
def RED_WIN_STATUS_INEXACT_IN (i : Nat) : Fld := ⟨A.RED_WIN_STATUS i, 5, 5⟩
def RED_WIN_STATUS_LATE (i : Nat) : Fld := ⟨A.RED_WIN_STATUS i, 4, 4⟩
def RED_WIN_STATUS_REBOUND (i : Nat) : Fld := ⟨A.RED_WIN_STATUS i, 3, 3⟩
def RED_WIN_STATUS_STEP_STALE (i : Nat) : Fld := ⟨A.RED_WIN_STATUS i, 2, 2⟩
def RED_WIN_STATUS_FMT_MISMATCH (i : Nat) : Fld := ⟨A.RED_WIN_STATUS i, 1, 1⟩
def RED_WIN_STATUS_INCOMPLETE (i : Nat) : Fld := ⟨A.RED_WIN_STATUS i, 0, 0⟩
def RED_WIN_CMD_STEP_TAG (i : Nat) : Fld := ⟨A.RED_WIN_CMD i, 15, 8⟩
def RED_WIN_CMD_CLEAR (i : Nat) : Fld := ⟨A.RED_WIN_CMD i, 1, 1⟩
def RED_WIN_CMD_ARM (i : Nat) : Fld := ⟨A.RED_WIN_CMD i, 0, 0⟩
def RED_CLUSTER_MAP_PHYS (k : Nat) : Fld := ⟨A.RED_CLUSTER_MAP, 4 * k + 3, 4 * k⟩
def RED_CLUSTER_SPARE_SPARE : Fld := ⟨A.RED_CLUSTER_SPARE, 15, 0⟩
def MEM_LCTR_COUNT (i : Nat) : Fld := ⟨A.MEM_LCTR i, 47, 0⟩
def MEM_RFAULT_BASE_BASE : Fld := ⟨A.MEM_RFAULT_BASE, 63, 12⟩
def MEM_RFAULT_CTRL_ENABLE : Fld := ⟨A.MEM_RFAULT_CTRL, 31, 31⟩
def MEM_RFAULT_CTRL_LOG2_ENTRIES : Fld := ⟨A.MEM_RFAULT_CTRL, 4, 0⟩
def MEM_RFAULT_HEAD_HEAD : Fld := ⟨A.MEM_RFAULT_HEAD, 19, 0⟩
def MEM_RFAULT_TAIL_TAIL : Fld := ⟨A.MEM_RFAULT_TAIL, 19, 0⟩
def MEM_RFAULT_STATUS_OVERFLOW : Fld := ⟨A.MEM_RFAULT_STATUS, 1, 1⟩
def MEM_RFAULT_STATUS_PENDING : Fld := ⟨A.MEM_RFAULT_STATUS, 0, 0⟩
def SEQ_SPARE_STATUS_FAILED : Fld := ⟨A.SEQ_SPARE_STATUS, 15, 8⟩
def SEQ_SPARE_STATUS_IN_USE : Fld := ⟨A.SEQ_SPARE_STATUS, 7, 0⟩
def SEQ_EXC_PENDING_PENDING : Fld := ⟨A.SEQ_EXC_PENDING, 63, 0⟩
def SEQ_LOAD_ADDR_ADDR : Fld := ⟨A.SEQ_LOAD_ADDR, 63, 12⟩
def SEQ_LOAD_CMD_CORES : Fld := ⟨A.SEQ_LOAD_CMD, 63, 0⟩
def SEQ_LOAD_STATUS_STATE : Fld := ⟨A.SEQ_LOAD_STATUS, 31, 28⟩
def SEQ_LOAD_STATUS_RESULT : Fld := ⟨A.SEQ_LOAD_STATUS, 27, 24⟩
def SEQ_SAMPLE_BASE_BASE : Fld := ⟨A.SEQ_SAMPLE_BASE, 63, 12⟩
def SEQ_SAMPLE_RING_HEAD : Fld := ⟨A.SEQ_SAMPLE_RING, 63, 44⟩
def SEQ_SAMPLE_RING_TAIL : Fld := ⟨A.SEQ_SAMPLE_RING, 43, 24⟩
def SEQ_SAMPLE_RING_LOST : Fld := ⟨A.SEQ_SAMPLE_RING, 5, 5⟩
def SEQ_SAMPLE_RING_LOG2_ENTRIES : Fld := ⟨A.SEQ_SAMPLE_RING, 4, 0⟩
def SEQ_CORE_MAP0_PHYS (k : Nat) : Fld := ⟨A.SEQ_CORE_MAP0, 8 * k + 7, 8 * k⟩
def SEQ_CORE_MAP1_PHYS (k : Nat) : Fld := ⟨A.SEQ_CORE_MAP1, 8 * k + 7, 8 * k⟩
def SEQ_CORE_MAP2_PHYS (k : Nat) : Fld := ⟨A.SEQ_CORE_MAP2, 8 * k + 7, 8 * k⟩
def SEQ_CORE_MAP3_PHYS (k : Nat) : Fld := ⟨A.SEQ_CORE_MAP3, 8 * k + 7, 8 * k⟩
def SEQ_CORE_MAP4_PHYS (k : Nat) : Fld := ⟨A.SEQ_CORE_MAP4, 8 * k + 7, 8 * k⟩
def SEQ_CORE_MAP5_PHYS (k : Nat) : Fld := ⟨A.SEQ_CORE_MAP5, 8 * k + 7, 8 * k⟩
def SEQ_CORE_MAP6_PHYS (k : Nat) : Fld := ⟨A.SEQ_CORE_MAP6, 8 * k + 7, 8 * k⟩
def SEQ_CORE_MAP7_PHYS (k : Nat) : Fld := ⟨A.SEQ_CORE_MAP7, 8 * k + 7, 8 * k⟩
def SEQ_QUEUE_A_BASE (i : Nat) : Fld := ⟨A.SEQ_QUEUE_A i, 51, 6⟩
def SEQ_QUEUE_B_ENABLE (i : Nat) : Fld := ⟨A.SEQ_QUEUE_B i, 63, 63⟩
def SEQ_QUEUE_B_CORE (i : Nat) : Fld := ⟨A.SEQ_QUEUE_B i, 55, 48⟩
def SEQ_QUEUE_B_DEPTH_M1 (i : Nat) : Fld := ⟨A.SEQ_QUEUE_B i, 47, 32⟩
def SEQ_QUEUE_B_COUNT (i : Nat) : Fld := ⟨A.SEQ_QUEUE_B i, 31, 16⟩
def SEQ_QUEUE_B_DROPPED (i : Nat) : Fld := ⟨A.SEQ_QUEUE_B i, 0, 0⟩
def SEQ_CORE_CTRL_RESET (i : Nat) : Fld := ⟨A.SEQ_CORE_CTRL i, 2, 2⟩
def SEQ_CORE_CTRL_HALT (i : Nat) : Fld := ⟨A.SEQ_CORE_CTRL i, 1, 1⟩
def SEQ_CORE_CTRL_START (i : Nat) : Fld := ⟨A.SEQ_CORE_CTRL i, 0, 0⟩
def SEQ_CORE_STATUS_STATE (i : Nat) : Fld := ⟨A.SEQ_CORE_STATUS i, 63, 60⟩
def SEQ_CORE_STATUS_EXC_CAUSE (i : Nat) : Fld := ⟨A.SEQ_CORE_STATUS i, 59, 56⟩
def SEQ_CORE_STATUS_PC (i : Nat) : Fld := ⟨A.SEQ_CORE_STATUS i, 55, 38⟩
def SEQ_CORE_STATUS_TENANT (i : Nat) : Fld := ⟨A.SEQ_CORE_STATUS i, 37, 32⟩
def SEQ_CORE_STATUS_PRIV (i : Nat) : Fld := ⟨A.SEQ_CORE_STATUS i, 31, 0⟩
def SEQ_CORE_PROG_VERSION (i : Nat) : Fld := ⟨A.SEQ_CORE_PROG i, 63, 32⟩
def SEQ_CORE_PROG_PROG_ID (i : Nat) : Fld := ⟨A.SEQ_CORE_PROG i, 31, 0⟩
def SEQ_EXC_INFO_PC (i : Nat) : Fld := ⟨A.SEQ_EXC_INFO i, 63, 46⟩
def SEQ_EXC_INFO_DETAIL (i : Nat) : Fld := ⟨A.SEQ_EXC_INFO i, 45, 0⟩
def SEQ_WDOG_LIMIT_US (i : Nat) : Fld := ⟨A.SEQ_WDOG i, 19, 0⟩
def SEQ_SAMPLE_CTRL_ENABLE (i : Nat) : Fld := ⟨A.SEQ_SAMPLE_CTRL i, 63, 63⟩
def SEQ_SAMPLE_CTRL_MODE (i : Nat) : Fld := ⟨A.SEQ_SAMPLE_CTRL i, 62, 61⟩
def SEQ_SAMPLE_CTRL_PERIOD (i : Nat) : Fld := ⟨A.SEQ_SAMPLE_CTRL i, 31, 0⟩
def SEQ_LOCAL_WIN_WORD (i : Nat) : Fld := ⟨A.SEQ_LOCAL_WIN i, 17, 3⟩
def SEQ_LOCAL_DATA_DATA (i : Nat) : Fld := ⟨A.SEQ_LOCAL_DATA i, 63, 0⟩
def MEM_SRAM_PART0_BASE : Fld := ⟨A.MEM_SRAM_PART0, 42, 32⟩
def MEM_SRAM_PART0_SIZE : Fld := ⟨A.MEM_SRAM_PART0, 10, 0⟩
def MEM_SRAM_PART1_BASE : Fld := ⟨A.MEM_SRAM_PART1, 42, 32⟩
def MEM_SRAM_PART1_SIZE : Fld := ⟨A.MEM_SRAM_PART1, 10, 0⟩
def MEM_SRAM_PART2_BASE : Fld := ⟨A.MEM_SRAM_PART2, 42, 32⟩
def MEM_SRAM_PART2_SIZE : Fld := ⟨A.MEM_SRAM_PART2, 10, 0⟩
def MEM_SRAM_PART3_BASE : Fld := ⟨A.MEM_SRAM_PART3, 42, 32⟩
def MEM_SRAM_PART3_SIZE : Fld := ⟨A.MEM_SRAM_PART3, 10, 0⟩
def MEM_DRAM_CFG_RESV_TOP : Fld := ⟨A.MEM_DRAM_CFG, 9, 0⟩
def MEM_DIR_BASE_BASE : Fld := ⟨A.MEM_DIR_BASE, 39, 16⟩
def MEM_DIR_TILES_TILES : Fld := ⟨A.MEM_DIR_TILES, 30, 0⟩
def MEM_STEP_STEP : Fld := ⟨A.MEM_STEP, 31, 0⟩
def MEM_STEP_STATUS_SHADOWS : Fld := ⟨A.MEM_STEP_STATUS, 63, 40⟩
def MEM_TIER_STATUS_TILE_LOST : Fld := ⟨A.MEM_TIER_STATUS, 3, 3⟩
def MEM_TIER_STATUS_SHADOW_QUOTA : Fld := ⟨A.MEM_TIER_STATUS, 2, 2⟩
def MEM_TIER_STATUS_QUOTA : Fld := ⟨A.MEM_TIER_STATUS, 1, 1⟩
def MEM_TIER_STATUS_STEP_STALE : Fld := ⟨A.MEM_TIER_STATUS, 0, 0⟩
def MEM_QUOTA_A_DRAM_TILES (i : Nat) : Fld := ⟨A.MEM_QUOTA_A i, 56, 32⟩
def MEM_QUOTA_A_HOT_TILES (i : Nat) : Fld := ⟨A.MEM_QUOTA_A i, 15, 0⟩
def MEM_QUOTA_B_DRAM_USE (i : Nat) : Fld := ⟨A.MEM_QUOTA_B i, 56, 32⟩
def MEM_QUOTA_B_HOT_USE (i : Nat) : Fld := ⟨A.MEM_QUOTA_B i, 15, 0⟩
def CDY_CFG_OP_PERCENT : Fld := ⟨A.CDY_CFG, 63, 56⟩
def CDY_CFG_GC_LOW_PERCENT : Fld := ⟨A.CDY_CFG, 55, 48⟩
def CDY_CFG_WEAR_SPREAD : Fld := ⟨A.CDY_CFG, 47, 32⟩
def CDY_CFG_RD_LIMIT : Fld := ⟨A.CDY_CFG, 31, 12⟩
def CDY_CFG_ENABLE : Fld := ⟨A.CDY_CFG, 0, 0⟩
def CDY_GEOM_TARGETS : Fld := ⟨A.CDY_GEOM, 63, 60⟩
def CDY_GEOM_LUNS : Fld := ⟨A.CDY_GEOM, 59, 56⟩
def CDY_GEOM_BLOCKS : Fld := ⟨A.CDY_GEOM, 55, 36⟩
def CDY_GEOM_PAGES : Fld := ⟨A.CDY_GEOM, 35, 24⟩
def CDY_GEOM_PAGE_CW : Fld := ⟨A.CDY_GEOM, 23, 16⟩
def CDY_GEOM_ENDURANCE : Fld := ⟨A.CDY_GEOM, 15, 0⟩
def CDY_CAP_FREE_SB : Fld := ⟨A.CDY_CAP, 63, 32⟩
def CDY_CAP_LOGICAL_TILES : Fld := ⟨A.CDY_CAP, 30, 0⟩
def CDY_STATUS_STATE : Fld := ⟨A.CDY_STATUS, 31, 28⟩
def CDY_STATUS_CAPACITY_LOW : Fld := ⟨A.CDY_STATUS, 3, 3⟩
def CDY_STATUS_BLOCK_RETIRED : Fld := ⟨A.CDY_STATUS, 2, 2⟩
def CDY_STATUS_RETRY_READ : Fld := ⟨A.CDY_STATUS, 1, 1⟩
def CDY_STATUS_LOST : Fld := ⟨A.CDY_STATUS, 0, 0⟩
def CDY_BUF_BASE_BASE : Fld := ⟨A.CDY_BUF_BASE, 39, 16⟩
def CDY_QUOTA_A_TILES (i : Nat) : Fld := ⟨A.CDY_QUOTA_A i, 30, 0⟩
def CDY_QUOTA_B_USE (i : Nat) : Fld := ⟨A.CDY_QUOTA_B i, 30, 0⟩
def XLT_CFG_FAULT_LIMIT_MS : Fld := ⟨A.XLT_CFG, 31, 16⟩
def XLT_CFG_WALKERS : Fld := ⟨A.XLT_CFG, 5, 0⟩
def XLT_ROOT_ROOT (i : Nat) : Fld := ⟨A.XLT_ROOT i, 39, 16⟩
def XLT_ROOT_VALID (i : Nat) : Fld := ⟨A.XLT_ROOT i, 0, 0⟩
def EP_XLT_CTX_ROOT (i : Nat) : Fld := ⟨A.EP_XLT_CTX i, 63, 16⟩
def EP_XLT_CTX_VALID (i : Nat) : Fld := ⟨A.EP_XLT_CTX i, 0, 0⟩
def XLT_INV_FIRST_PAGE : Fld := ⟨A.XLT_INV, 63, 28⟩
def XLT_INV_COUNT : Fld := ⟨A.XLT_INV, 27, 12⟩
def XLT_INV_ID : Fld := ⟨A.XLT_INV, 11, 4⟩
def XLT_INV_KIND : Fld := ⟨A.XLT_INV, 1, 0⟩
def XLT_INV_STATUS_BUSY_REFUSED : Fld := ⟨A.XLT_INV_STATUS, 1, 1⟩
def XLT_INV_STATUS_PENDING : Fld := ⟨A.XLT_INV_STATUS, 0, 0⟩
def XLT_FLOG_BASE_BASE : Fld := ⟨A.XLT_FLOG_BASE, 63, 12⟩
def XLT_FLOG_CTRL_ENABLE : Fld := ⟨A.XLT_FLOG_CTRL, 31, 31⟩
def XLT_FLOG_CTRL_BATCH_US : Fld := ⟨A.XLT_FLOG_CTRL, 15, 5⟩
def XLT_FLOG_CTRL_LOG2_ENTRIES : Fld := ⟨A.XLT_FLOG_CTRL, 4, 0⟩
def XLT_FLOG_HEAD_HEAD : Fld := ⟨A.XLT_FLOG_HEAD, 19, 0⟩
def XLT_FLOG_TAIL_TAIL : Fld := ⟨A.XLT_FLOG_TAIL, 19, 0⟩
def XLT_FLOG_STATUS_LIMIT_EXPIRED : Fld := ⟨A.XLT_FLOG_STATUS, 3, 3⟩
def XLT_FLOG_STATUS_RESUME_STALE : Fld := ⟨A.XLT_FLOG_STATUS, 2, 2⟩
def XLT_FLOG_STATUS_OVERFLOW : Fld := ⟨A.XLT_FLOG_STATUS, 1, 1⟩
def XLT_FLOG_STATUS_PENDING : Fld := ⟨A.XLT_FLOG_STATUS, 0, 0⟩
def EP_XLT_RESUME_FAULT_ID : Fld := ⟨A.EP_XLT_RESUME, 31, 12⟩
def EP_XLT_RESUME_ACTION : Fld := ⟨A.EP_XLT_RESUME, 1, 0⟩
def HIF_ERR_CONF_REFUSED : Fld := ⟨A.HIF_ERR, 5, 5⟩
def HIF_ERR_QUEUE_ERROR : Fld := ⟨A.HIF_ERR, 4, 4⟩
def HIF_ERR_BAD_DOORBELL : Fld := ⟨A.HIF_ERR, 3, 3⟩
def HIF_ERR_CHAN_FETCH_ERR : Fld := ⟨A.HIF_ERR, 2, 2⟩
def HIF_ERR_MGMT_DROP : Fld := ⟨A.HIF_ERR, 1, 1⟩
def HIF_ERR_BAD_REG : Fld := ⟨A.HIF_ERR, 0, 0⟩
def HIF_BAD_ACCESS_FUNC : Fld := ⟨A.HIF_BAD_ACCESS, 63, 56⟩
def HIF_BAD_ACCESS_WRITE : Fld := ⟨A.HIF_BAD_ACCESS, 55, 55⟩
def HIF_BAD_ACCESS_OFFSET : Fld := ⟨A.HIF_BAD_ACCESS, 27, 0⟩
def HIF_CHAN_BASE_BASE : Fld := ⟨A.HIF_CHAN_BASE, 63, 12⟩
def HIF_CHAN_BASE_LOCATION : Fld := ⟨A.HIF_CHAN_BASE, 0, 0⟩
def HIF_CHAN_CFG_COUNT : Fld := ⟨A.HIF_CHAN_CFG, 20, 0⟩
def HIF_CHAN_INV_COUNT : Fld := ⟨A.HIF_CHAN_INV, 40, 20⟩
def HIF_CHAN_INV_FIRST : Fld := ⟨A.HIF_CHAN_INV, 19, 0⟩
def HIF_CHAN_INV_STATUS_BUSY_REFUSED : Fld := ⟨A.HIF_CHAN_INV_STATUS, 1, 1⟩
def HIF_CHAN_INV_STATUS_PENDING : Fld := ⟨A.HIF_CHAN_INV_STATUS, 0, 0⟩
def HIF_MGMT_CTRL_IP6_EN : Fld := ⟨A.HIF_MGMT_CTRL, 2, 2⟩
def HIF_MGMT_CTRL_IP4_EN : Fld := ⟨A.HIF_MGMT_CTRL, 1, 1⟩
def HIF_MGMT_CTRL_ENABLE : Fld := ⟨A.HIF_MGMT_CTRL, 0, 0⟩
def HIF_MGMT_CFG_UDP_PORT : Fld := ⟨A.HIF_MGMT_CFG, 63, 48⟩
def HIF_MGMT_CFG_MAC : Fld := ⟨A.HIF_MGMT_CFG, 47, 0⟩
def HIF_MGMT_IP4_OWN : Fld := ⟨A.HIF_MGMT_IP4, 63, 32⟩
def HIF_MGMT_IP4_CONTROLLER : Fld := ⟨A.HIF_MGMT_IP4, 31, 0⟩
def HIF_MGMT_IP6_ADDR (i : Nat) : Fld := ⟨A.HIF_MGMT_IP6 i, 63, 0⟩
def HIF_SQ_A_BASE (i : Nat) : Fld := ⟨A.HIF_SQ_A i, 63, 12⟩
def HIF_SQ_B_ENABLE (i : Nat) : Fld := ⟨A.HIF_SQ_B i, 63, 63⟩
def HIF_SQ_B_CONF (i : Nat) : Fld := ⟨A.HIF_SQ_B i, 62, 62⟩
def HIF_SQ_B_STATE (i : Nat) : Fld := ⟨A.HIF_SQ_B i, 61, 60⟩
def HIF_SQ_B_FUNC (i : Nat) : Fld := ⟨A.HIF_SQ_B i, 47, 42⟩
def HIF_SQ_B_CQ (i : Nat) : Fld := ⟨A.HIF_SQ_B i, 41, 32⟩
def HIF_SQ_B_HEAD (i : Nat) : Fld := ⟨A.HIF_SQ_B i, 31, 16⟩
def HIF_SQ_B_LOG2_DEPTH (i : Nat) : Fld := ⟨A.HIF_SQ_B i, 4, 0⟩
def HIF_SQ_C_SEQ (i : Nat) : Fld := ⟨A.HIF_SQ_C i, 63, 16⟩
def HIF_SQ_C_TAIL (i : Nat) : Fld := ⟨A.HIF_SQ_C i, 15, 0⟩
def HIF_CQ_A_BASE (i : Nat) : Fld := ⟨A.HIF_CQ_A i, 63, 12⟩
def HIF_CQ_B_ENABLE (i : Nat) : Fld := ⟨A.HIF_CQ_B i, 63, 63⟩
def HIF_CQ_B_CONF (i : Nat) : Fld := ⟨A.HIF_CQ_B i, 62, 62⟩
def HIF_CQ_B_FUNC (i : Nat) : Fld := ⟨A.HIF_CQ_B i, 53, 48⟩
def HIF_CQ_B_VECTOR (i : Nat) : Fld := ⟨A.HIF_CQ_B i, 42, 32⟩
def HIF_CQ_B_TAIL (i : Nat) : Fld := ⟨A.HIF_CQ_B i, 31, 16⟩
def HIF_CQ_B_LOG2_DEPTH (i : Nat) : Fld := ⟨A.HIF_CQ_B i, 4, 0⟩
def HIF_CQ_C_SEQ (i : Nat) : Fld := ⟨A.HIF_CQ_C i, 63, 16⟩
def HIF_CQ_C_HEAD (i : Nat) : Fld := ⟨A.HIF_CQ_C i, 15, 0⟩
def HIF_CQ_D_INT_COUNT (i : Nat) : Fld := ⟨A.HIF_CQ_D i, 31, 16⟩
def HIF_CQ_D_INT_US (i : Nat) : Fld := ⟨A.HIF_CQ_D i, 15, 0⟩
def HIF_VF_STATUS_BAD_DOORBELL (i : Nat) : Fld := ⟨A.HIF_VF_STATUS i, 1, 1⟩
def HIF_VF_STATUS_BAD_REG (i : Nat) : Fld := ⟨A.HIF_VF_STATUS i, 0, 0⟩
def EP_UCIE_STATUS_STATE : Fld := ⟨A.EP_UCIE_STATUS, 31, 28⟩
def EP_UCIE_STATUS_MODULES_UP : Fld := ⟨A.EP_UCIE_STATUS, 7, 0⟩
def EP_EVENT_STATUS_MODULE_DOWN : Fld := ⟨A.EP_EVENT_STATUS, 4, 4⟩
def EP_EVENT_STATUS_ORD_FLOWS_FULL : Fld := ⟨A.EP_EVENT_STATUS, 3, 3⟩
def EP_EVENT_STATUS_ADMIT_FULL : Fld := ⟨A.EP_EVENT_STATUS, 2, 2⟩
def EP_EVENT_STATUS_TIMING_FAULT : Fld := ⟨A.EP_EVENT_STATUS, 1, 1⟩
def EP_EVENT_STATUS_CHAN_FETCH_ERR : Fld := ⟨A.EP_EVENT_STATUS, 0, 0⟩
def EP_STEP_STEP : Fld := ⟨A.EP_STEP, 31, 0⟩
def EP_TIMING_LAST_ELAPSED_NS : Fld := ⟨A.EP_TIMING_LAST, 63, 40⟩
def EP_TIMING_LAST_DST_NODE : Fld := ⟨A.EP_TIMING_LAST, 39, 28⟩
def EP_TIMING_LAST_CHANNEL : Fld := ⟨A.EP_TIMING_LAST, 19, 0⟩
def EP_CHAN_BASE_BASE : Fld := ⟨A.EP_CHAN_BASE, 63, 12⟩
def EP_CHAN_CFG_COUNT : Fld := ⟨A.EP_CHAN_CFG, 20, 0⟩
def EP_L2_REGION_A_BASE : Fld := ⟨A.EP_L2_REGION_A, 63, 16⟩
def EP_L2_REGION_B_SIZE : Fld := ⟨A.EP_L2_REGION_B, 63, 16⟩
def EP_RCACHE_INV_CHANNEL : Fld := ⟨A.EP_RCACHE_INV, 41, 22⟩
def EP_RCACHE_INV_KIND : Fld := ⟨A.EP_RCACHE_INV, 1, 0⟩
def EP_RCACHE_STATUS_PENDING : Fld := ⟨A.EP_RCACHE_STATUS, 0, 0⟩
def EP_ORD_RESET_ALL_FLOWS : Fld := ⟨A.EP_ORD_RESET, 63, 63⟩
def EP_ORD_RESET_SRC_NODE : Fld := ⟨A.EP_ORD_RESET, 43, 32⟩
def EP_ORD_RESET_CHANNEL : Fld := ⟨A.EP_ORD_RESET, 19, 0⟩
def EP_ORD_STATUS_FLOWS : Fld := ⟨A.EP_ORD_STATUS, 31, 15⟩
def EP_ORD_STATUS_PENDING : Fld := ⟨A.EP_ORD_STATUS, 0, 0⟩
def EP_ROB_CFG_FLOW_CAP : Fld := ⟨A.EP_ROB_CFG, 17, 0⟩
def EP_INBOUND_A_BASE (i : Nat) : Fld := ⟨A.EP_INBOUND_A i, 51, 16⟩
def EP_INBOUND_B_SIZE (i : Nat) : Fld := ⟨A.EP_INBOUND_B i, 51, 16⟩
def EP_INBOUND_B_ENABLE (i : Nat) : Fld := ⟨A.EP_INBOUND_B i, 9, 9⟩
def EP_INBOUND_B_TENANT (i : Nat) : Fld := ⟨A.EP_INBOUND_B i, 8, 3⟩
def EP_INBOUND_B_ATOMIC (i : Nat) : Fld := ⟨A.EP_INBOUND_B i, 2, 2⟩
def EP_INBOUND_B_WRITE (i : Nat) : Fld := ⟨A.EP_INBOUND_B i, 1, 1⟩
def EP_INBOUND_B_READ (i : Nat) : Fld := ⟨A.EP_INBOUND_B i, 0, 0⟩
def EP_INBOUND_C_ACCEL_ADDR (i : Nat) : Fld := ⟨A.EP_INBOUND_C i, 63, 16⟩
def EP_ENGINE_ENABLE (i : Nat) : Fld := ⟨A.EP_ENGINE i, 63, 63⟩
def EP_ENGINE_CONTEXT (i : Nat) : Fld := ⟨A.EP_ENGINE i, 47, 40⟩
def EP_ENGINE_TENANT (i : Nat) : Fld := ⟨A.EP_ENGINE i, 39, 34⟩
def EP_ENGINE_MAX_OUT (i : Nat) : Fld := ⟨A.EP_ENGINE i, 10, 0⟩
def EP_CHAN_INV_COUNT : Fld := ⟨A.EP_CHAN_INV, 40, 20⟩
def EP_CHAN_INV_FIRST : Fld := ⟨A.EP_CHAN_INV, 19, 0⟩
def EP_CHAN_INV_STATUS_BUSY_REFUSED : Fld := ⟨A.EP_CHAN_INV_STATUS, 1, 1⟩
def EP_CHAN_INV_STATUS_PENDING : Fld := ⟨A.EP_CHAN_INV_STATUS, 0, 0⟩
def SEC_MODE_DEBUG_OPEN : Fld := ⟨A.SEC_MODE, 2, 2⟩
def SEC_MODE_OWNED : Fld := ⟨A.SEC_MODE, 1, 1⟩
def SEC_MODE_CONF : Fld := ⟨A.SEC_MODE, 0, 0⟩
def SEC_STATUS_REMOVE_DONE : Fld := ⟨A.SEC_STATUS, 3, 3⟩
def SEC_STATUS_QUEUE_RETIRED : Fld := ⟨A.SEC_STATUS, 2, 2⟩
def SEC_STATUS_CMD_REFUSED : Fld := ⟨A.SEC_STATUS, 1, 1⟩
def SEC_STATUS_LOAD_KEY_FAIL : Fld := ⟨A.SEC_STATUS, 0, 0⟩
def SEC_TENANT_EXISTS (i : Nat) : Fld := ⟨A.SEC_TENANT i, 63, 63⟩
def SEC_TENANT_REMOVING (i : Nat) : Fld := ⟨A.SEC_TENANT i, 62, 62⟩
def SEC_TENANT_PREV_HELD (i : Nat) : Fld := ⟨A.SEC_TENANT i, 61, 61⟩
def SEC_TENANT_LIVE_EPOCH (i : Nat) : Fld := ⟨A.SEC_TENANT i, 55, 48⟩
def SEC_TENANT_PREV_EPOCH (i : Nat) : Fld := ⟨A.SEC_TENANT i, 47, 40⟩
def SEC_TENANT_PROG_KEYS (i : Nat) : Fld := ⟨A.SEC_TENANT i, 39, 36⟩
def TEL_MEMB_CFG_ENABLE : Fld := ⟨A.TEL_MEMB_CFG, 63, 63⟩
def TEL_MEMB_CFG_LEASE_US : Fld := ⟨A.TEL_MEMB_CFG, 47, 32⟩
def TEL_MEMB_CFG_ACCUSE_MIN : Fld := ⟨A.TEL_MEMB_CFG, 23, 20⟩
def TEL_MEMB_CFG_HB_MISS : Fld := ⟨A.TEL_MEMB_CFG, 19, 16⟩
def TEL_MEMB_CFG_HB_US : Fld := ⟨A.TEL_MEMB_CFG, 15, 0⟩
def TEL_MEMB_COORD_CAND0 : Fld := ⟨A.TEL_MEMB_COORD, 63, 52⟩
def TEL_MEMB_COORD_CAND1 : Fld := ⟨A.TEL_MEMB_COORD, 51, 40⟩
def TEL_MEMB_COORD_CAND2 : Fld := ⟨A.TEL_MEMB_COORD, 39, 28⟩
def TEL_MEMB_COORD_CAND3 : Fld := ⟨A.TEL_MEMB_COORD, 27, 16⟩
def TEL_MEMB_COORD_COUNT : Fld := ⟨A.TEL_MEMB_COORD, 2, 0⟩
def TEL_MEMB_STATE_EPOCH : Fld := ⟨A.TEL_MEMB_STATE, 63, 32⟩
def TEL_MEMB_STATE_STATE : Fld := ⟨A.TEL_MEMB_STATE, 31, 28⟩
def TEL_MEMB_STATE_COORD : Fld := ⟨A.TEL_MEMB_STATE, 27, 16⟩
def TEL_MEMB_STATE_CSEQ : Fld := ⟨A.TEL_MEMB_STATE, 15, 0⟩
def TEL_FAULT_STATUS_LEASE_LOST : Fld := ⟨A.TEL_FAULT_STATUS, 10, 10⟩
def TEL_FAULT_STATUS_SPARE_USED : Fld := ⟨A.TEL_FAULT_STATUS, 9, 9⟩
def TEL_FAULT_STATUS_STEP_REPLAY : Fld := ⟨A.TEL_FAULT_STATUS, 8, 8⟩
def TEL_FAULT_STATUS_STALE_PARTNER : Fld := ⟨A.TEL_FAULT_STATUS, 7, 7⟩
def TEL_FAULT_STATUS_FENCED : Fld := ⟨A.TEL_FAULT_STATUS, 6, 6⟩
def TEL_FAULT_STATUS_NODE_DEAD : Fld := ⟨A.TEL_FAULT_STATUS, 5, 5⟩
def TEL_FAULT_STATUS_EPOCH_ADOPTED : Fld := ⟨A.TEL_FAULT_STATUS, 4, 4⟩
def TEL_FAULT_STATUS_ACCUSED : Fld := ⟨A.TEL_FAULT_STATUS, 3, 3⟩
def TEL_FAULT_STATUS_ACCUSE_SENT : Fld := ⟨A.TEL_FAULT_STATUS, 2, 2⟩
def TEL_FAULT_STATUS_UE : Fld := ⟨A.TEL_FAULT_STATUS, 1, 1⟩
def TEL_FAULT_STATUS_CE : Fld := ⟨A.TEL_FAULT_STATUS, 0, 0⟩
def TEL_UE_LAST_UNIT : Fld := ⟨A.TEL_UE_LAST, 63, 60⟩
def TEL_UE_LAST_ADDR : Fld := ⟨A.TEL_UE_LAST, 47, 0⟩
def TEL_FATAL_CAUSE : Fld := ⟨A.TEL_FATAL, 31, 28⟩
def TEL_REPAIR_JOIN : Fld := ⟨A.TEL_REPAIR, 63, 63⟩
def TEL_REPAIR_TEST : Fld := ⟨A.TEL_REPAIR, 62, 62⟩
def TEL_REPAIR_FORM : Fld := ⟨A.TEL_REPAIR, 61, 61⟩
def TEL_REPAIR_ADMIT : Fld := ⟨A.TEL_REPAIR, 60, 60⟩
def TEL_REPAIR_TEST_STATE : Fld := ⟨A.TEL_REPAIR, 57, 56⟩
def TEL_REPAIR_FAILED : Fld := ⟨A.TEL_REPAIR, 5, 0⟩
def TEL_MEMB_DEAD_DEAD (i : Nat) : Fld := ⟨A.TEL_MEMB_DEAD i, 63, 0⟩
def TEL_MEMB_SWITCHES_SWITCH (i : Nat) : Fld := ⟨A.TEL_MEMB_SWITCHES i, 63, 0⟩
def PWR_DOMAIN_STATUS_STATE (k : Nat) : Fld := ⟨A.PWR_DOMAIN_STATUS, 2 * k + 1, 2 * k⟩
def PWR_DOMAIN_HOLD_HOLD : Fld := ⟨A.PWR_DOMAIN_HOLD, 29, 0⟩
def PWR_CLK_STATUS_CORE_LEVEL : Fld := ⟨A.PWR_CLK_STATUS, 31, 28⟩
def PWR_CLK_STATUS_ARITH_LEVEL : Fld := ⟨A.PWR_CLK_STATUS, 27, 24⟩
def PWR_CLK_STATUS_SEQ_LEVEL : Fld := ⟨A.PWR_CLK_STATUS, 23, 20⟩
def PWR_CLK_STATUS_MAX_LEVEL : Fld := ⟨A.PWR_CLK_STATUS, 19, 16⟩
def PWR_CLK_STATUS_LOCKED : Fld := ⟨A.PWR_CLK_STATUS, 6, 0⟩
def PWR_CAP_STATUS_CAP_W : Fld := ⟨A.PWR_CAP_STATUS, 63, 48⟩
def PWR_CAP_STATUS_EFFECTIVE_W : Fld := ⟨A.PWR_CAP_STATUS, 47, 32⟩
def PWR_CAP_STATUS_FLOOR_W : Fld := ⟨A.PWR_CAP_STATUS, 31, 16⟩
def PWR_CAP_STATUS_THROTTLE : Fld := ⟨A.PWR_CAP_STATUS, 15, 12⟩
def PWR_CAP_STATUS_STATE : Fld := ⟨A.PWR_CAP_STATUS, 11, 10⟩
def PWR_EST_EST_1MS_W : Fld := ⟨A.PWR_EST, 63, 48⟩
def PWR_EST_EST_100US_W : Fld := ⟨A.PWR_EST, 47, 32⟩
def PWR_EST_ENERGY_J : Fld := ⟨A.PWR_EST, 31, 0⟩
def PWR_VR_STATUS_ACK_CODE : Fld := ⟨A.PWR_VR_STATUS, 63, 52⟩
def PWR_VR_STATUS_REQ_CODE : Fld := ⟨A.PWR_VR_STATUS, 51, 40⟩
def PWR_VR_STATUS_FAILS : Fld := ⟨A.PWR_VR_STATUS, 39, 32⟩
def PWR_AGE_STATUS_GUARD_MV : Fld := ⟨A.PWR_AGE_STATUS, 63, 56⟩
def PWR_AGE_STATUS_WORST_MON : Fld := ⟨A.PWR_AGE_STATUS, 55, 48⟩
def PWR_AGE_STATUS_WORST_SLACK_PS : Fld := ⟨A.PWR_AGE_STATUS, 47, 32⟩
def PWR_AGE_STATUS_EOM_HOURS : Fld := ⟨A.PWR_AGE_STATUS, 31, 0⟩
def PWR_AGE_LOG_IDX_HEAD : Fld := ⟨A.PWR_AGE_LOG_IDX, 27, 16⟩
def PWR_AGE_LOG_IDX_INDEX : Fld := ⟨A.PWR_AGE_LOG_IDX, 11, 0⟩
def PWR_AGE_LOG_DATA_DATA (i : Nat) : Fld := ⟨A.PWR_AGE_LOG_DATA i, 63, 0⟩
def PWR_EVENT_DOMAIN_FAIL : Fld := ⟨A.PWR_EVENT, 5, 5⟩
def PWR_EVENT_EOM_NEAR : Fld := ⟨A.PWR_EVENT, 4, 4⟩
def PWR_EVENT_GUARD_RAISED : Fld := ⟨A.PWR_EVENT, 3, 3⟩
def PWR_EVENT_VR_FAIL : Fld := ⟨A.PWR_EVENT, 2, 2⟩
def PWR_EVENT_CAP_UNMET : Fld := ⟨A.PWR_EVENT, 1, 1⟩
def PWR_EVENT_CAP_CHANGED : Fld := ⟨A.PWR_EVENT, 0, 0⟩
def TEL_CTR_COUNT (i : Nat) : Fld := ⟨A.TEL_CTR i, 47, 0⟩
def TEL_WIN_CFG_ENABLE : Fld := ⟨A.TEL_WIN_CFG, 63, 63⟩
def TEL_WIN_CFG_WINDOW_US : Fld := ⟨A.TEL_WIN_CFG, 51, 32⟩
def TEL_WIN_CFG_LOG2_ENTRIES : Fld := ⟨A.TEL_WIN_CFG, 4, 0⟩
def TEL_WIN_GROUPS_GROUPS : Fld := ⟨A.TEL_WIN_GROUPS, 63, 0⟩
def TEL_SNAP_BASE_BASE : Fld := ⟨A.TEL_SNAP_BASE, 63, 12⟩
def TEL_SNAP_RING_HEAD : Fld := ⟨A.TEL_SNAP_RING, 63, 44⟩
def TEL_SNAP_RING_TAIL : Fld := ⟨A.TEL_SNAP_RING, 43, 24⟩
def TEL_SNAP_RING_LOST : Fld := ⟨A.TEL_SNAP_RING, 1, 1⟩
def TEL_SNAP_RING_PENDING : Fld := ⟨A.TEL_SNAP_RING, 0, 0⟩
def TEL_RED_SEL_ALL : Fld := ⟨A.TEL_RED_SEL, 8, 8⟩
def TEL_RED_SEL_WINDOW : Fld := ⟨A.TEL_RED_SEL, 7, 0⟩
def TEL_GRANT_GROUPS (i : Nat) : Fld := ⟨A.TEL_GRANT i, 63, 0⟩
def CFG_BOOT_STATUS_STAGE : Fld := ⟨A.CFG_BOOT_STATUS, 63, 60⟩
def CFG_BOOT_STATUS_RESULT : Fld := ⟨A.CFG_BOOT_STATUS, 59, 56⟩
def CFG_BOOT_STATUS_SLOT : Fld := ⟨A.CFG_BOOT_STATUS, 55, 55⟩
def CFG_BOOT_STATUS_RANKS_OK : Fld := ⟨A.CFG_BOOT_STATUS, 47, 32⟩
def CFG_BOOT_STATUS_TIME_MS : Fld := ⟨A.CFG_BOOT_STATUS, 31, 0⟩
def CFG_RESET_CTRL_WARM : Fld := ⟨A.CFG_RESET_CTRL, 31, 31⟩
def CFG_RESET_CTRL_DOMAIN_RESET : Fld := ⟨A.CFG_RESET_CTRL, 30, 30⟩
def CFG_RESET_CTRL_DOMAIN : Fld := ⟨A.CFG_RESET_CTRL, 4, 0⟩
def CFG_RESET_CAUSE_LAST : Fld := ⟨A.CFG_RESET_CAUSE, 31, 28⟩
def CFG_RESET_CAUSE_WARM_COUNT : Fld := ⟨A.CFG_RESET_CAUSE, 15, 0⟩

end F

/-- The CFG_ registers of the BRS-9032. -/
def swRegsCfg : List RegRow := [
  ⟨0x0D000000, 1, 0x0, 1, 0x0, 4, false, 0x0, 0x0, 0x0, 0x90322120⟩,
  ⟨0x0D000100, 1, 0x0, 1, 0x0, 4, false, 0x0, 0x0, 0x8F, 0x0⟩,
  ⟨0x0D000108, 1, 0x0, 1, 0x0, 4, false, 0x0, 0x0, 0x0, 0x0⟩,
  ⟨0x0D000110, 1, 0x0, 1, 0x0, 4, false, 0x0, 0x0, 0x0, 0x0⟩,
  ⟨0x0D000200, 16, 0x10, 1, 0x0, 8, false, 0x0, 0x0, 0x0, 0x0⟩,
  ⟨0x0D000208, 16, 0x10, 1, 0x0, 8, false, 0x0, 0x0, 0x0, 0x0⟩,
  ⟨0x0D000020, 1, 0x0, 1, 0x0, 8, false, 0x0, 0x0, 0x0, 0x0⟩,
  ⟨0x0D000030, 1, 0x0, 1, 0x0, 4, false, 0x0, 0x0, 0xC000001F, 0x0⟩,
  ⟨0x0D000038, 1, 0x0, 1, 0x0, 4, false, 0x0, 0x0, 0x0, 0x10000000⟩]

/-- The LNK_ registers of the BRS-9032. -/
def swRegsLnk : List RegRow := [
  ⟨0x01000000, 32, 0x1000, 1, 0x0, 4, true, 0xFF0D, 0x0, 0x0, 0x2000⟩,
  ⟨0x01000008, 32, 0x1000, 1, 0x0, 4, false, 0x0, 0x0, 0x0, 0x1FF80⟩,
  ⟨0x01000010, 32, 0x1000, 1, 0x0, 8, false, 0x0, 0x0, 0x0, 0x0⟩,
  ⟨0x01000018, 32, 0x1000, 1, 0x0, 4, false, 0x0, 0x0, 0x3, 0x0⟩,
  ⟨0x01000020, 32, 0x1000, 1, 0x0, 4, false, 0x0, 0x3FF, 0x0, 0x0⟩]

/-- The PKT_ registers of the BRS-9032. -/
def swRegsPkt : List RegRow := [
  ⟨0x02100000, 32, 0x800, 256, 0x8, 8, true, 0xFFFFFFFFFFFF8000, 0x0, 0x0, 0x0⟩,
  ⟨0x02020000, 4096, 0x8, 1, 0x0, 8, true, 0x1FFFFFFFF, 0x0, 0x0, 0x0⟩,
  ⟨0x02000000, 1, 0x0, 1, 0x0, 4, false, 0xFFF, 0x0, 0x0, 0x0⟩,
  ⟨0x02000008, 1, 0x0, 1, 0x0, 4, true, 0xFFFF, 0x0, 0x0, 0x0⟩,
  ⟨0x02000100, 32, 0x8, 1, 0x0, 4, true, 0x1, 0x0, 0x0, 0x1⟩,
  ⟨0x02000200, 1, 0x0, 1, 0x0, 4, false, 0x0, 0xFFF, 0x0, 0x0⟩,
  ⟨0x02000208, 1, 0x0, 1, 0x0, 8, false, 0x0, 0x0, 0x0, 0x0⟩,
  ⟨0x02000300, 1, 0x0, 1, 0x0, 8, false, 0x0, 0x0, 0x0, 0xFFFFFFFFFFFFFFFF⟩,
  ⟨0x02000308, 1, 0x0, 1, 0x0, 8, false, 0x0, 0x0, 0x0, 0xFFFFFFFFFFFFFFFF⟩,
  ⟨0x02004000, 64, 0x8, 1, 0x0, 8, false, 0xFFFFFFFFFFFFFFFF, 0x0, 0x0, 0x0⟩,
  ⟨0x02004200, 64, 0x8, 1, 0x0, 8, false, 0x0, 0x0, 0x0, 0xFFFFFFFFFFFFFFFF⟩]

/-- The SWC_ registers of the BRS-9032. -/
def swRegsSwc : List RegRow := [
  ⟨0x03010000, 33, 0x100, 8, 0x10, 8, true, 0xFFFFFFFFFFFFFFFF, 0x0, 0x0, 0x81⟩,
  ⟨0x03010008, 33, 0x100, 8, 0x10, 8, true, 0xFFFFFFFFF8000000, 0x0, 0x0, 0x0⟩,
  ⟨0x03014000, 32, 0x80, 8, 0x10, 8, false, 0x0, 0x0, 0x0, 0x0⟩,
  ⟨0x03014008, 32, 0x80, 8, 0x10, 8, false, 0x0, 0x0, 0x0, 0x0⟩,
  ⟨0x03018000, 16, 0x20, 1, 0x0, 8, true, 0xF, 0x0, 0x0, 0x9⟩,
  ⟨0x03018008, 16, 0x20, 3, 0x8, 8, true, 0xFFFFFFFFFFFFF000, 0x0, 0x0, 0x0⟩,
  ⟨0x03020000, 64, 0x40, 8, 0x8, 8, true, 0xFFFFFFFFFFFFFFFF, 0x0, 0x0, 0xFFFFE00000000000⟩,
  ⟨0x03000200, 1, 0x0, 1, 0x0, 4, false, 0x0, 0x3FF, 0x0, 0x0⟩,
  ⟨0x03000208, 1, 0x0, 1, 0x0, 8, false, 0x0, 0x0, 0x0, 0x0⟩,
  ⟨0x03000210, 1, 0x0, 1, 0x0, 8, false, 0x0, 0x0, 0x0, 0x0⟩,
  ⟨0x03000218, 1, 0x0, 1, 0x0, 8, false, 0x0, 0x0, 0x0, 0x0⟩]

/-- The MEM_ registers of the BRS-9032. -/
def swRegsMem : List RegRow := [
  ⟨0x06400000, 1, 0x0, 1, 0x0, 8, true, 0xFFFFFFF0000, 0x0, 0x0, 0x7D000C80000⟩,
  ⟨0x06400008, 1, 0x0, 1, 0x0, 4, true, 0xFFF1FFF, 0x0, 0x0, 0x1⟩,
  ⟨0x06400010, 1, 0x0, 1, 0x0, 8, true, 0xFFFFFFFFFFF01FFF, 0x0, 0x0, 0x0⟩,
  ⟨0x06300008, 65535, 0x8, 1, 0x0, 8, false, 0xFFFFFFFFFFFF, 0x0, 0x0, 0x0⟩,
  ⟨0x06400100, 1, 0x0, 1, 0x0, 8, false, 0xFFFFFFFFFFFFF000, 0x0, 0x0, 0x0⟩,
  ⟨0x06400108, 1, 0x0, 1, 0x0, 4, false, 0x8000001F, 0x0, 0x0, 0xA⟩,
  ⟨0x06400110, 1, 0x0, 1, 0x0, 4, false, 0x0, 0x0, 0x0, 0x0⟩,
  ⟨0x06400118, 1, 0x0, 1, 0x0, 4, false, 0xFFFFF, 0x0, 0x0, 0x0⟩,
  ⟨0x06400120, 1, 0x0, 1, 0x0, 4, false, 0x0, 0x2, 0x0, 0x0⟩,
  ⟨0x06000000, 1, 0x0, 1, 0x0, 8, true, 0x7FF000007FF, 0x0, 0x0, 0x2200000020⟩,
  ⟨0x06000008, 1, 0x0, 1, 0x0, 8, true, 0x7FF000007FF, 0x0, 0x0, 0x4200000100⟩,
  ⟨0x06000010, 1, 0x0, 1, 0x0, 8, true, 0x7FF000007FF, 0x0, 0x0, 0x14200000200⟩,
  ⟨0x06000018, 1, 0x0, 1, 0x0, 8, true, 0x7FF000007FF, 0x0, 0x0, 0x342000002BE⟩,
  ⟨0x06000040, 1, 0x0, 1, 0x0, 4, true, 0x3FF, 0x0, 0x0, 0x40⟩,
  ⟨0x06000048, 1, 0x0, 1, 0x0, 8, true, 0xFFFFFF0000, 0x0, 0x0, 0x0⟩,
  ⟨0x06000050, 1, 0x0, 1, 0x0, 4, true, 0x7FFFFFFF, 0x0, 0x0, 0x0⟩,
  ⟨0x06000060, 1, 0x0, 1, 0x0, 4, false, 0x0, 0x0, 0x0, 0x0⟩,
  ⟨0x06000068, 1, 0x0, 1, 0x0, 8, false, 0x0, 0x0, 0x0, 0x0⟩,
  ⟨0x06000070, 1, 0x0, 1, 0x0, 4, false, 0x0, 0xF, 0x0, 0x0⟩,
  ⟨0x06001000, 64, 0x10, 1, 0x0, 8, true, 0x1FFFFFF0000FFFF, 0x0, 0x0, 0x0⟩,
  ⟨0x06001008, 64, 0x10, 1, 0x0, 8, false, 0x0, 0x0, 0x0, 0x0⟩]

/-- The RED_ registers of the BRS-9032. -/
def swRegsRed : List RegRow := [
  ⟨0x04010000, 256, 0x40, 1, 0x0, 8, true, 0xFFFFFFFFFFFFFF81, 0x0, 0x0, 0x0⟩,
  ⟨0x04010008, 256, 0x40, 1, 0x0, 8, false, 0xFFFFFFFFFFFFFFFF, 0x0, 0x0, 0x0⟩,
  ⟨0x04010010, 256, 0x40, 1, 0x0, 8, false, 0xFFFFFFFFFFFFFFFF, 0x0, 0x0, 0x0⟩,
  ⟨0x04010018, 256, 0x40, 1, 0x0, 8, false, 0xFFFFFFFFFFFFF000, 0x0, 0x0, 0x0⟩,
  ⟨0x04010020, 256, 0x40, 1, 0x0, 8, false, 0xFFFFFFFFFFFFF, 0x0, 0x0, 0x0⟩,
  ⟨0x04010028, 256, 0x40, 1, 0x0, 8, false, 0x0, 0x3FF, 0x0, 0x0⟩,
  ⟨0x04010030, 256, 0x40, 1, 0x0, 8, false, 0x0, 0x0, 0xFF03, 0x0⟩,
  ⟨0x04000000, 1, 0x0, 1, 0x0, 8, false, 0x0, 0x0, 0x0, 0xFEDCBA9876543210⟩,
  ⟨0x04000008, 1, 0x0, 1, 0x0, 4, false, 0x0, 0x0, 0x0, 0x0⟩]

/-- The SEQ_ registers of the BRS-9032. -/
def swRegsSeq : List RegRow := [
  ⟨0x05000040, 1, 0x0, 1, 0x0, 4, false, 0x0, 0x0, 0x0, 0x0⟩,
  ⟨0x05000048, 1, 0x0, 1, 0x0, 8, false, 0x0, 0xFFFFFFFFFFFFFFFF, 0x0, 0x0⟩,
  ⟨0x05000100, 1, 0x0, 1, 0x0, 8, false, 0xFFFFFFFFFFFFF000, 0x0, 0x0, 0x0⟩,
  ⟨0x05000108, 1, 0x0, 1, 0x0, 8, false, 0x0, 0x0, 0xFFFFFFFFFFFFFFFF, 0x0⟩,
  ⟨0x05000110, 1, 0x0, 1, 0x0, 4, false, 0x0, 0x0, 0x0, 0x0⟩,
  ⟨0x05000400, 1, 0x0, 1, 0x0, 8, false, 0xFFFFFFFFFFFFF000, 0x0, 0x0, 0x0⟩,
  ⟨0x05000408, 1, 0x0, 1, 0x0, 8, false, 0xFFFFF00001F, 0x20, 0x0, 0xA⟩,
  ⟨0x05000000, 1, 0x0, 1, 0x0, 8, false, 0x0, 0x0, 0x0, 0x706050403020100⟩,
  ⟨0x05000008, 1, 0x0, 1, 0x0, 8, false, 0x0, 0x0, 0x0, 0xF0E0D0C0B0A0908⟩,
  ⟨0x05000010, 1, 0x0, 1, 0x0, 8, false, 0x0, 0x0, 0x0, 0x1716151413121110⟩,
  ⟨0x05000018, 1, 0x0, 1, 0x0, 8, false, 0x0, 0x0, 0x0, 0x1F1E1D1C1B1A1918⟩,
  ⟨0x05000020, 1, 0x0, 1, 0x0, 8, false, 0x0, 0x0, 0x0, 0x2726252423222120⟩,
  ⟨0x05000028, 1, 0x0, 1, 0x0, 8, false, 0x0, 0x0, 0x0, 0x2F2E2D2C2B2A2928⟩,
  ⟨0x05000030, 1, 0x0, 1, 0x0, 8, false, 0x0, 0x0, 0x0, 0x3736353433323130⟩,
  ⟨0x05000038, 1, 0x0, 1, 0x0, 8, false, 0x0, 0x0, 0x0, 0x3F3E3D3C3B3A3938⟩,
  ⟨0x05000200, 16, 0x10, 1, 0x0, 8, false, 0xFFFFFFFFFFFC0, 0x0, 0x0, 0x0⟩,
  ⟨0x05000208, 16, 0x10, 1, 0x0, 8, false, 0x80FFFFFF00000000, 0x1, 0x0, 0xFF00000000⟩,
  ⟨0x05010000, 64, 0x100, 1, 0x0, 4, false, 0x0, 0x0, 0x7, 0x0⟩,
  ⟨0x05010008, 64, 0x100, 1, 0x0, 8, false, 0x0, 0x0, 0x0, 0x0⟩,
  ⟨0x05010010, 64, 0x100, 1, 0x0, 8, false, 0x0, 0x0, 0x0, 0x0⟩,
  ⟨0x05010018, 64, 0x100, 1, 0x0, 8, false, 0x0, 0x0, 0x0, 0x0⟩,
  ⟨0x05010020, 64, 0x100, 1, 0x0, 4, false, 0xFFFFF, 0x0, 0x0, 0x0⟩,
  ⟨0x05010028, 64, 0x100, 1, 0x0, 8, false, 0xE0000000FFFFFFFF, 0x0, 0x0, 0x0⟩,
  ⟨0x05010040, 64, 0x100, 1, 0x0, 8, false, 0x3FFF8, 0x0, 0x0, 0x0⟩,
  ⟨0x05010048, 64, 0x100, 1, 0x0, 8, false, 0xFFFFFFFFFFFFFFFF, 0x0, 0x0, 0x0⟩]

/-- The CDY_ registers of the BRS-9032. -/
def swRegsCdy : List RegRow := [
  ⟨0x07000000, 1, 0x0, 1, 0x0, 8, true, 0xFFFFFFFFFFFFF001, 0x0, 0x0, 0xC0403E80C350000⟩,
  ⟨0x07000008, 1, 0x0, 1, 0x0, 8, false, 0x0, 0x0, 0x0, 0x0⟩,
  ⟨0x07000010, 1, 0x0, 1, 0x0, 8, false, 0x0, 0x0, 0x0, 0x0⟩,
  ⟨0x07000018, 1, 0x0, 1, 0x0, 4, false, 0x0, 0xF, 0x0, 0x0⟩,
  ⟨0x07000020, 1, 0x0, 1, 0x0, 8, true, 0xFFFFFF0000, 0x0, 0x0, 0x0⟩,
  ⟨0x07001000, 64, 0x10, 1, 0x0, 8, true, 0x7FFFFFFF, 0x0, 0x0, 0x0⟩,
  ⟨0x07001008, 64, 0x10, 1, 0x0, 8, false, 0x0, 0x0, 0x0, 0x0⟩]

/-- The XLT_ registers of the BRS-9032. -/
def swRegsXlt : List RegRow := [
  ⟨0x08000000, 1, 0x0, 1, 0x0, 4, true, 0x3F, 0x0, 0x0, 0x10⟩,
  ⟨0x08000100, 64, 0x8, 1, 0x0, 8, true, 0xFFFFFF0001, 0x0, 0x0, 0x0⟩,
  ⟨0x08001000, 1, 0x0, 1, 0x0, 8, false, 0x0, 0x0, 0xFFFFFFFFFFFFFFF3, 0x0⟩,
  ⟨0x08001008, 1, 0x0, 1, 0x0, 4, false, 0x0, 0x2, 0x0, 0x0⟩,
  ⟨0x08001100, 1, 0x0, 1, 0x0, 8, false, 0xFFFFFFFFFFFFF000, 0x0, 0x0, 0x0⟩,
  ⟨0x08001108, 1, 0x0, 1, 0x0, 4, false, 0x8000FFFF, 0x0, 0x0, 0x64A⟩,
  ⟨0x08001110, 1, 0x0, 1, 0x0, 4, false, 0x0, 0x0, 0x0, 0x0⟩,
  ⟨0x08001118, 1, 0x0, 1, 0x0, 4, false, 0xFFFFF, 0x0, 0x0, 0x0⟩,
  ⟨0x08001120, 1, 0x0, 1, 0x0, 4, false, 0x0, 0xE, 0x0, 0x0⟩]

/-- The HIF_ registers of the BRS-9032. -/
def swRegsHif : List RegRow := [
  ⟨0x09000000, 1, 0x0, 1, 0x0, 4, false, 0x0, 0x3F, 0x0, 0x0⟩,
  ⟨0x09000008, 1, 0x0, 1, 0x0, 8, false, 0x0, 0x0, 0x0, 0x0⟩,
  ⟨0x09000100, 1, 0x0, 1, 0x0, 8, true, 0xFFFFFFFFFFFFF001, 0x0, 0x0, 0x0⟩,
  ⟨0x09000108, 1, 0x0, 1, 0x0, 4, true, 0x1FFFFF, 0x0, 0x0, 0x0⟩,
  ⟨0x09000110, 1, 0x0, 1, 0x0, 8, false, 0x0, 0x0, 0x1FFFFFFFFFF, 0x0⟩,
  ⟨0x09000118, 1, 0x0, 1, 0x0, 4, false, 0x0, 0x2, 0x0, 0x0⟩,
  ⟨0x09000200, 1, 0x0, 1, 0x0, 4, false, 0x7, 0x0, 0x0, 0x0⟩,
  ⟨0x09000208, 1, 0x0, 1, 0x0, 8, false, 0xFFFFFFFFFFFFFFFF, 0x0, 0x0, 0xB7FC000000000000⟩,
  ⟨0x09000210, 1, 0x0, 1, 0x0, 8, false, 0xFFFFFFFFFFFFFFFF, 0x0, 0x0, 0x0⟩,
  ⟨0x09000220, 4, 0x8, 1, 0x0, 8, false, 0xFFFFFFFFFFFFFFFF, 0x0, 0x0, 0x0⟩,
  ⟨0x09010000, 1024, 0x20, 1, 0x0, 8, false, 0xFFFFFFFFFFFFF000, 0x0, 0x0, 0x0⟩,
  ⟨0x09010008, 1024, 0x20, 1, 0x0, 8, false, 0xC000FFFF0000001F, 0x0, 0x0, 0x4⟩,
  ⟨0x09010010, 1024, 0x20, 1, 0x0, 8, false, 0x0, 0x0, 0x0, 0x0⟩,
  ⟨0x09020000, 1024, 0x20, 1, 0x0, 8, false, 0xFFFFFFFFFFFFF000, 0x0, 0x0, 0x0⟩,
  ⟨0x09020008, 1024, 0x20, 1, 0x0, 8, false, 0xC03F07FF0000001F, 0x0, 0x0, 0x4⟩,
  ⟨0x09020010, 1024, 0x20, 1, 0x0, 8, false, 0x0, 0x0, 0x0, 0x0⟩,
  ⟨0x09020018, 1024, 0x20, 1, 0x0, 4, false, 0xFFFFFFFF, 0x0, 0x0, 0x10000⟩,
  ⟨0x20008000, 64, 0x10000, 1, 0x0, 4, false, 0x0, 0x3, 0x0, 0x0⟩]

/-- The SEC_ registers of the BRS-9032. -/
def swRegsSec : List RegRow := [
  ⟨0x0A000000, 1, 0x0, 1, 0x0, 4, false, 0x0, 0x0, 0x0, 0x0⟩,
  ⟨0x0A000008, 1, 0x0, 1, 0x0, 4, false, 0x0, 0xF, 0x0, 0x0⟩,
  ⟨0x0A000100, 64, 0x8, 1, 0x0, 8, false, 0x0, 0x0, 0x0, 0x0⟩]

/-- The TEL_ registers of the BRS-9032. -/
def swRegsTel : List RegRow := [
  ⟨0x0C040000, 1, 0x0, 1, 0x0, 8, true, 0x8000FFFF00FFFFFF, 0x0, 0x0, 0x3E80035000A⟩,
  ⟨0x0C040008, 1, 0x0, 1, 0x0, 8, true, 0xFFFFFFFFFFFF0007, 0x0, 0x0, 0x1⟩,
  ⟨0x0C040010, 1, 0x0, 1, 0x0, 8, false, 0x0, 0x0, 0x0, 0x0⟩,
  ⟨0x0C040020, 1, 0x0, 1, 0x0, 4, false, 0x0, 0x7FF, 0x0, 0x0⟩,
  ⟨0x0C040028, 1, 0x0, 1, 0x0, 8, false, 0x0, 0x0, 0x0, 0x0⟩,
  ⟨0x0C040030, 1, 0x0, 1, 0x0, 4, false, 0xF0000000, 0x0, 0x0, 0x0⟩,
  ⟨0x0C040038, 1, 0x0, 1, 0x0, 8, false, 0x0, 0x0, 0xF000000000000000, 0x0⟩,
  ⟨0x0C040100, 64, 0x8, 1, 0x0, 8, false, 0x0, 0x0, 0x0, 0x0⟩,
  ⟨0x0C040300, 64, 0x8, 1, 0x0, 8, true, 0xFFFFFFFFFFFFFFFF, 0x0, 0x0, 0x0⟩,
  ⟨0x0C000000, 4096, 0x8, 1, 0x0, 8, false, 0x0, 0x0, 0x0, 0x0⟩,
  ⟨0x0C010000, 1, 0x0, 1, 0x0, 8, false, 0x800FFFFF0000001F, 0x0, 0x0, 0x3E80000000A⟩,
  ⟨0x0C010008, 1, 0x0, 1, 0x0, 8, false, 0xFFFFFFFFFFFFFFFF, 0x0, 0x0, 0x0⟩,
  ⟨0x0C010010, 1, 0x0, 1, 0x0, 8, false, 0xFFFFFFFFFFFFF000, 0x0, 0x0, 0x0⟩,
  ⟨0x0C010018, 1, 0x0, 1, 0x0, 8, false, 0xFFFFF000000, 0x2, 0x0, 0x0⟩,
  ⟨0x0C010020, 1, 0x0, 1, 0x0, 4, false, 0x1FF, 0x0, 0x0, 0x100⟩,
  ⟨0x0C010100, 64, 0x8, 1, 0x0, 8, false, 0xFFFFFFFFFFFFFFFF, 0x0, 0x0, 0x0⟩]

/-- The PWR_ registers of the BRS-9032. -/
def swRegsPwr : List RegRow := [
  ⟨0x0B000000, 1, 0x0, 1, 0x0, 8, false, 0x0, 0x0, 0x0, 0xA8A00000000AAAA⟩,
  ⟨0x0B000008, 1, 0x0, 1, 0x0, 4, false, 0x3FFFFFFF, 0x0, 0x0, 0x0⟩,
  ⟨0x0B000010, 1, 0x0, 1, 0x0, 4, false, 0x0, 0x0, 0x0, 0x0⟩,
  ⟨0x0B000020, 1, 0x0, 1, 0x0, 8, false, 0x0, 0x0, 0x0, 0x54600000000⟩,
  ⟨0x0B000028, 1, 0x0, 1, 0x0, 8, false, 0x0, 0x0, 0x0, 0x0⟩,
  ⟨0x0B000030, 1, 0x0, 1, 0x0, 8, false, 0x0, 0x0, 0x0, 0x0⟩,
  ⟨0x0B000040, 1, 0x0, 1, 0x0, 8, false, 0x0, 0x0, 0x0, 0x19000000FFFFFFFF⟩,
  ⟨0x0B000050, 1, 0x0, 1, 0x0, 4, false, 0xFFF, 0x0, 0x0, 0x0⟩,
  ⟨0x0B000058, 2, 0x8, 1, 0x0, 8, false, 0x0, 0x0, 0x0, 0x0⟩,
  ⟨0x0B000070, 1, 0x0, 1, 0x0, 4, false, 0x0, 0x3F, 0x0, 0x0⟩]

/-- The registers of a block of the BRS-9032, by the block's number; host functions' doorbells lie above the blocks. -/
def swRegs (block : Nat) : List RegRow :=
  match block with
  | 0x1 => swRegsLnk
  | 0x2 => swRegsPkt
  | 0x3 => swRegsSwc
  | 0x4 => swRegsRed
  | 0x5 => swRegsSeq
  | 0x6 => swRegsMem
  | 0x7 => swRegsCdy
  | 0x8 => swRegsXlt
  | 0xA => swRegsSec
  | 0xB => swRegsPwr
  | 0xC => swRegsTel
  | 0xD => swRegsCfg
  | _ => swRegsHif

/-- The EP_ registers of the BRE-2104. -/
def epRegsEp : List RegRow := [
  ⟨0x00000000, 1, 0x0, 1, 0x0, 4, false, 0x0, 0x0, 0x0, 0x21041220⟩,
  ⟨0x08000100, 256, 0x8, 1, 0x0, 8, true, 0xFFFFFFFFFFFF0001, 0x0, 0x0, 0x0⟩,
  ⟨0x08001200, 1, 0x0, 1, 0x0, 8, false, 0x0, 0x0, 0xFFFFF003, 0x0⟩,
  ⟨0x00000010, 1, 0x0, 1, 0x0, 4, false, 0x0, 0x0, 0x0, 0x0⟩,
  ⟨0x00000020, 1, 0x0, 1, 0x0, 4, false, 0x0, 0x1F, 0x0, 0x0⟩,
  ⟨0x00000030, 1, 0x0, 1, 0x0, 4, false, 0xFFFFFFFF, 0x0, 0x0, 0x0⟩,
  ⟨0x00000038, 1, 0x0, 1, 0x0, 8, false, 0x0, 0x0, 0x0, 0x0⟩,
  ⟨0x00000100, 1, 0x0, 1, 0x0, 8, true, 0xFFFFFFFFFFFFF000, 0x0, 0x0, 0x0⟩,
  ⟨0x00000108, 1, 0x0, 1, 0x0, 4, true, 0x1FFFFF, 0x0, 0x0, 0x0⟩,
  ⟨0x00000200, 1, 0x0, 1, 0x0, 8, true, 0xFFFFFFFFFFFF0000, 0x0, 0x0, 0x0⟩,
  ⟨0x00000208, 1, 0x0, 1, 0x0, 8, true, 0xFFFFFFFFFFFF0000, 0x0, 0x0, 0x0⟩,
  ⟨0x00000300, 1, 0x0, 1, 0x0, 8, false, 0x0, 0x0, 0x3FFFFC00003, 0x0⟩,
  ⟨0x00000308, 1, 0x0, 1, 0x0, 4, false, 0x0, 0x0, 0x0, 0x0⟩,
  ⟨0x00000400, 1, 0x0, 1, 0x0, 8, false, 0x0, 0x0, 0x80000FFF000FFFFF, 0x0⟩,
  ⟨0x00000408, 1, 0x0, 1, 0x0, 4, false, 0x0, 0x0, 0x0, 0x0⟩,
  ⟨0x00000410, 1, 0x0, 1, 0x0, 4, true, 0x3FFFF, 0x0, 0x0, 0x4000⟩,
  ⟨0x00001000, 16, 0x20, 1, 0x0, 8, true, 0xFFFFFFFFF0000, 0x0, 0x0, 0x0⟩,
  ⟨0x00001008, 16, 0x20, 1, 0x0, 8, true, 0xFFFFFFFFF03FF, 0x0, 0x0, 0x0⟩,
  ⟨0x00001010, 16, 0x20, 1, 0x0, 8, true, 0xFFFFFFFFFFFF0000, 0x0, 0x0, 0x0⟩,
  ⟨0x00010000, 1024, 0x8, 1, 0x0, 8, true, 0x8000FFFC000007FF, 0x0, 0x0, 0x200⟩,
  ⟨0x00000110, 1, 0x0, 1, 0x0, 8, false, 0x0, 0x0, 0x1FFFFFFFFFF, 0x0⟩,
  ⟨0x00000118, 1, 0x0, 1, 0x0, 4, false, 0x0, 0x2, 0x0, 0x0⟩]

/-- The CFG_ registers of the BRE-2104. -/
def epRegsCfg : List RegRow := [
  ⟨0x0D000100, 1, 0x0, 1, 0x0, 4, false, 0x0, 0x0, 0x8F, 0x0⟩,
  ⟨0x0D000108, 1, 0x0, 1, 0x0, 4, false, 0x0, 0x0, 0x0, 0x0⟩,
  ⟨0x0D000110, 1, 0x0, 1, 0x0, 4, false, 0x0, 0x0, 0x0, 0x0⟩,
  ⟨0x0D000200, 16, 0x10, 1, 0x0, 8, false, 0x0, 0x0, 0x0, 0x0⟩,
  ⟨0x0D000208, 16, 0x10, 1, 0x0, 8, false, 0x0, 0x0, 0x0, 0x0⟩,
  ⟨0x0D000020, 1, 0x0, 1, 0x0, 8, false, 0x0, 0x0, 0x0, 0x0⟩,
  ⟨0x0D000030, 1, 0x0, 1, 0x0, 4, false, 0x0, 0x0, 0xC000001F, 0x0⟩,
  ⟨0x0D000038, 1, 0x0, 1, 0x0, 4, false, 0x0, 0x0, 0x0, 0x10000000⟩]

/-- The LNK_ registers of the BRE-2104. -/
def epRegsLnk : List RegRow := [
  ⟨0x01000000, 4, 0x1000, 1, 0x0, 4, true, 0xFF0D, 0x0, 0x0, 0x2000⟩,
  ⟨0x01000008, 4, 0x1000, 1, 0x0, 4, false, 0x0, 0x0, 0x0, 0x1FF80⟩,
  ⟨0x01000010, 4, 0x1000, 1, 0x0, 8, false, 0x0, 0x0, 0x0, 0x0⟩,
  ⟨0x01000018, 4, 0x1000, 1, 0x0, 4, false, 0x0, 0x0, 0x3, 0x0⟩,
  ⟨0x01000020, 4, 0x1000, 1, 0x0, 4, false, 0x0, 0x3FF, 0x0, 0x0⟩]

/-- The PKT_ registers of the BRE-2104. -/
def epRegsPkt : List RegRow := [
  ⟨0x02100000, 4, 0x800, 256, 0x8, 8, true, 0xFFFFFFFFFFFF8000, 0x0, 0x0, 0x0⟩,
  ⟨0x02020000, 4096, 0x8, 1, 0x0, 8, true, 0x10000000F, 0x0, 0x0, 0x0⟩,
  ⟨0x02000000, 1, 0x0, 1, 0x0, 4, false, 0xFFF, 0x0, 0x0, 0x0⟩,
  ⟨0x02000008, 1, 0x0, 1, 0x0, 4, true, 0xFFFF, 0x0, 0x0, 0x0⟩,
  ⟨0x02000100, 4, 0x8, 1, 0x0, 4, true, 0x1, 0x0, 0x0, 0x0⟩,
  ⟨0x02000200, 1, 0x0, 1, 0x0, 4, false, 0x0, 0xFFF, 0x0, 0x0⟩,
  ⟨0x02000208, 1, 0x0, 1, 0x0, 8, false, 0x0, 0x0, 0x0, 0x0⟩,
  ⟨0x02000300, 1, 0x0, 1, 0x0, 8, false, 0x0, 0x0, 0x0, 0xFFFF⟩,
  ⟨0x02000308, 1, 0x0, 1, 0x0, 8, false, 0x0, 0x0, 0x0, 0x0⟩,
  ⟨0x02004000, 64, 0x8, 1, 0x0, 8, false, 0xFFFFFFFFFFFFFFFF, 0x0, 0x0, 0x0⟩,
  ⟨0x02004200, 64, 0x8, 1, 0x0, 8, false, 0x0, 0x0, 0x0, 0xFFFFFFFFFFFFFFFF⟩]

/-- The SWC_ registers of the BRE-2104. -/
def epRegsSwc : List RegRow := [
  ⟨0x03010000, 4, 0x100, 8, 0x10, 8, true, 0xFFFFFFFFFFFFFFFF, 0x0, 0x0, 0x81⟩,
  ⟨0x03010008, 4, 0x100, 8, 0x10, 8, true, 0xFFFFFFFFF8000000, 0x0, 0x0, 0x0⟩,
  ⟨0x03014000, 4, 0x80, 8, 0x10, 8, false, 0x0, 0x0, 0x0, 0x0⟩,
  ⟨0x03014008, 4, 0x80, 8, 0x10, 8, false, 0x0, 0x0, 0x0, 0x0⟩,
  ⟨0x03000200, 1, 0x0, 1, 0x0, 4, false, 0x0, 0x3FF, 0x0, 0x0⟩,
  ⟨0x03000210, 1, 0x0, 1, 0x0, 8, false, 0x0, 0x0, 0x0, 0x0⟩]

/-- The MEM_ registers of the BRE-2104. -/
def epRegsMem : List RegRow := [
  ⟨0x06400000, 1, 0x0, 1, 0x0, 8, true, 0xFFFFFFF0000, 0x0, 0x0, 0x7D000C80000⟩,
  ⟨0x06400008, 1, 0x0, 1, 0x0, 4, true, 0xFFF1FFF, 0x0, 0x0, 0x1⟩,
  ⟨0x06400010, 1, 0x0, 1, 0x0, 8, true, 0xFFFFFFFFFFF01FFF, 0x0, 0x0, 0x0⟩,
  ⟨0x06300008, 65535, 0x8, 1, 0x0, 8, false, 0xFFFFFFFFFFFF, 0x0, 0x0, 0x0⟩,
  ⟨0x06400100, 1, 0x0, 1, 0x0, 8, false, 0xFFFFFFFFFFFFF000, 0x0, 0x0, 0x0⟩,
  ⟨0x06400108, 1, 0x0, 1, 0x0, 4, false, 0x8000001F, 0x0, 0x0, 0xA⟩,
  ⟨0x06400110, 1, 0x0, 1, 0x0, 4, false, 0x0, 0x0, 0x0, 0x0⟩,
  ⟨0x06400118, 1, 0x0, 1, 0x0, 4, false, 0xFFFFF, 0x0, 0x0, 0x0⟩,
  ⟨0x06400120, 1, 0x0, 1, 0x0, 4, false, 0x0, 0x2, 0x0, 0x0⟩]

/-- The XLT_ registers of the BRE-2104. -/
def epRegsXlt : List RegRow := [
  ⟨0x08000000, 1, 0x0, 1, 0x0, 4, true, 0xFFFF003F, 0x0, 0x0, 0xA0020⟩,
  ⟨0x08001000, 1, 0x0, 1, 0x0, 8, false, 0x0, 0x0, 0xFFFFFFFFFFFFFFF3, 0x0⟩,
  ⟨0x08001008, 1, 0x0, 1, 0x0, 4, false, 0x0, 0x2, 0x0, 0x0⟩,
  ⟨0x08001100, 1, 0x0, 1, 0x0, 8, false, 0xFFFFFFFFFFFFF000, 0x0, 0x0, 0x0⟩,
  ⟨0x08001108, 1, 0x0, 1, 0x0, 4, false, 0x8000FFFF, 0x0, 0x0, 0x64A⟩,
  ⟨0x08001110, 1, 0x0, 1, 0x0, 4, false, 0x0, 0x0, 0x0, 0x0⟩,
  ⟨0x08001118, 1, 0x0, 1, 0x0, 4, false, 0xFFFFF, 0x0, 0x0, 0x0⟩,
  ⟨0x08001120, 1, 0x0, 1, 0x0, 4, false, 0x0, 0xE, 0x0, 0x0⟩]

/-- The TEL_ registers of the BRE-2104. -/
def epRegsTel : List RegRow := [
  ⟨0x0C040000, 1, 0x0, 1, 0x0, 8, true, 0x8000FFFF00FFFFFF, 0x0, 0x0, 0x3E80035000A⟩,
  ⟨0x0C040010, 1, 0x0, 1, 0x0, 8, false, 0x0, 0x0, 0x0, 0x0⟩,
  ⟨0x0C040020, 1, 0x0, 1, 0x0, 4, false, 0x0, 0x7FF, 0x0, 0x0⟩,
  ⟨0x0C040028, 1, 0x0, 1, 0x0, 8, false, 0x0, 0x0, 0x0, 0x0⟩,
  ⟨0x0C040030, 1, 0x0, 1, 0x0, 4, false, 0xF0000000, 0x0, 0x0, 0x0⟩,
  ⟨0x0C040038, 1, 0x0, 1, 0x0, 8, false, 0x0, 0x0, 0xF000000000000000, 0x0⟩,
  ⟨0x0C040100, 64, 0x8, 1, 0x0, 8, false, 0x0, 0x0, 0x0, 0x0⟩,
  ⟨0x0C000000, 4096, 0x8, 1, 0x0, 8, false, 0x0, 0x0, 0x0, 0x0⟩,
  ⟨0x0C010000, 1, 0x0, 1, 0x0, 8, false, 0x800FFFFF0000001F, 0x0, 0x0, 0x3E80000000A⟩,
  ⟨0x0C010008, 1, 0x0, 1, 0x0, 8, false, 0xFFFFFFFFFFFFFFFF, 0x0, 0x0, 0x0⟩,
  ⟨0x0C010010, 1, 0x0, 1, 0x0, 8, false, 0xFFFFFFFFFFFFF000, 0x0, 0x0, 0x0⟩,
  ⟨0x0C010018, 1, 0x0, 1, 0x0, 8, false, 0xFFFFF000000, 0x2, 0x0, 0x0⟩]

/-- The registers of a block of the BRE-2104, by the block's number. -/
def epRegs (block : Nat) : List RegRow :=
  match block with
  | 0x0 => epRegsEp
  | 0x1 => epRegsLnk
  | 0x2 => epRegsPkt
  | 0x3 => epRegsSwc
  | 0x6 => epRegsMem
  | 0x8 => epRegsEp ++ epRegsXlt
  | 0xC => epRegsTel
  | 0xD => epRegsCfg
  | _ => []

end Sys2Proof.Machine
end

