-- ==== Sys2Proof/Machine/State.lean ====
section
/-! DEFINITION. The machine's state as plain data: one switch (BRS-9032) and one end-point (BRE-2104), what has left
them, and the queue of waiting commands. -/

namespace Sys2Proof.Machine

/-! ### Links (spec/03) -/

/-- The phases of Table 3.5, with the electrical idle in which a recovery starts (R74). -/
inductive Phase where
  | idle | detect | clockLock | equalise | deskew | laneTest | negotiate | credit
deriving DecidableEq, Repr

/-- What a port's training is: cold training, an exit from DEEP, or a recovery (R71, R69, R74). -/
inductive TrainKind where
  | cold | deepExit | recovery
deriving DecidableEq, Repr

/-- A DATA frame held for replay, with the number of times it has been replayed (R58, R62). -/
structure HeldFrame where
  frame : Frame
  replays : Nat
deriving DecidableEq, Repr

/-- A run of identical symbols on a lane (R46). -/
structure LaneRun where
  sym : Sym
  len : Nat
deriving DecidableEq, Repr

/-- The grace of a class after a Pour (R509): when its first CREDIT frame was sent, and when it ends. -/
structure Grace where
  cls : Nat
  firstAt : Option Nat
  endAt : Option Nat
deriving DecidableEq, Repr

/-- A packet that has arrived whole and waits for its Strainer, with the cells it is charged (R109, R111). -/
structure Arrived where
  pkt : Packet
  tenant : Nat
  resv : Nat
  shared : Nat
  at_ : Nat
deriving DecidableEq, Repr

/-- A port's own state beside its registers (spec/03). -/
structure Port where
  /-- phase of the training, DEEP exit or recovery under way -/
  phase : Option Phase
  kind : TrainKind
  phaseAt : Nat
  /-- when the attempt under way began, or the last one ended -/
  attemptAt : Nat
  /-- has been in service since power-on reset (R75) -/
  served : Bool
  /-- has completed NEGOTIATE since power-on reset (ROUTE_EMPTY of Table 2.2) -/
  negotiated : Bool
  /-- VER_CEIL as the last training that began found it (R83) -/
  verCeil : Nat
  /-- the factory preset has been used (R72) -/
  presetUsed : Bool
  /-- equaliser coefficients stored by the hardware, one per lane (R71, R461) -/
  coeffs : List Nat
  /-- coefficients that the planner has stored for a lane, not yet in effect (R461) -/
  newCoeffs : List (Nat × Nat)
  /-- the NAP of TARGET DEEP has been started (R67) -/
  rested : Bool
  /-- when NAP_REQ was sent, while its reply is awaited (R68) -/
  napAt : Option Nat
  /-- a WAKE held until DEEP entry completes (R69) -/
  wakeHeld : Bool
  /-- TAG of the round-1 set sent, and when; TAG of the round-2 set, and when, once it is sent; TAG last received; VER_SEL;
  round 2 has matched (R78, R81) -/
  tsTag : BitVec 16
  tsAt : Nat
  tsTwo : Option (BitVec 16 × Nat)
  tsPeer : BitVec 16
  verSel : Nat
  tsDone : Bool
  /-- a training set and a CREDIT that arrived before this end's own phase for them began (log 31) -/
  earlyTs : Option TsBody
  earlyCredit : Option (BitVec 256)
  /-- next SEQ to send, next expected (R58, R59) -/
  txSeq : BitVec 16
  rxSeq : BitVec 16
  replay : List HeldFrame
  progressAt : Nat
  /-- a NACK is outstanding since then (R60) -/
  nackAt : Option Nat
  /-- the oldest accepted DATA frame not yet acknowledged arrived then (R59) -/
  ackDue : Option Nat
  /-- S_c: cells sent per class (R63) -/
  sent : List Nat
  /-- the last CREDIT taken: per class C_c, if VALID (R63) -/
  credit : List (Option Nat)
  /-- the reservation the partner advertised at link-up, per class, if VALID (R120) -/
  resvDown : List (Option Nat)
  /-- cells received and freed per class since the restart of R64 -/
  freed : List Nat
  /-- when the last CREDIT frame was sent (R64) -/
  creditAt : Nat
  /-- per class, since when a credit change is unsent (R112) -/
  creditOwed : List (Option Nat)
  /-- classes that a Pour changed, whose CREDIT frame is still to be sent, with the pour instant (R65) -/
  pourOwed : List (Nat × Nat)
  grace : List Grace
  /-- lanes in error in each of the last 16 frames, newest first (R74) -/
  laneErrs : List (List Nat)
  /-- scrambler and descrambler states, and the runs on the line, per logical lane (R43, R46) -/
  txScr : List Nat
  rxScr : List Nat
  txRun : List LaneRun
  rxRun : List LaneRun
  /-- units sent since the last that was not DATA, and CONTROL frames, SUBTYPE and body, that wait for their unit (R56) -/
  dataRun : Nat
  ctlWait : List (Nat × BitVec 256)
  /-- when the last valid frame of any type arrived (R421) -/
  heardAt : Nat
  /-- when the last BEAT was sent (R421) -/
  beatAt : Nat
  /-- CSEQ from which the partner is being caught up, and when the last record went (R423) -/
  catchUp : Option Nat
  catchUpAt : Nat
  /-- when LNK_STATUS STATE last changed (counters 13 and 14 of Table 18.1) -/
  stateAt : Nat
  arrived : List Arrived
deriving DecidableEq, Repr

/-- A port after reset. The lanes' scrambler states and runs are those of R44 and of an idle line (log 3). -/
def Port.initial : Port :=
  { phase := none, kind := .cold, phaseAt := 0, attemptAt := 0, served := false, negotiated := false,
    verCeil := 0x20, presetUsed := false, coeffs := [], newCoeffs := [], rested := false, napAt := none, wakeHeld := false, tsTag := 0, tsAt := 0,
    tsTwo := none, tsPeer := 0, verSel := 0, tsDone := false, earlyTs := none, earlyCredit := none, txSeq := 0, rxSeq := 0, replay := [], progressAt := 0,
    nackAt := none, ackDue := none, sent := [0, 0, 0, 0, 0, 0, 0, 0],
    credit := [none, none, none, none, none, none, none, none],
    resvDown := [none, none, none, none, none, none, none, none], freed := [0, 0, 0, 0, 0, 0, 0, 0], creditAt := 0,
    creditOwed := [none, none, none, none, none, none, none, none], pourOwed := [], grace := [], laneErrs := [],
    txScr := [], rxScr := [], txRun := [], rxRun := [], dataRun := 127, ctlWait := [], heardAt := 0, beatAt := 0, catchUp := none, catchUpAt := 0,
    stateAt := 0, arrived := [] }

/-! ### Packets and the switch core (spec/04, spec/05) -/

/-- A packet in an egress queue: where it came in, the cells it holds there, when it became eligible (R108), and
whether it was routed while the hop bound was VALID (R127). -/
structure QPkt where
  pkt : Packet
  inPort : Nat
  resv : Nat
  shared : Nat
  at_ : Nat
  checked : Bool
deriving DecidableEq, Repr

/-- A meter's buckets in thousandths of a byte, and when they were last filled (R114). -/
structure Meter where
  c : Nat
  e : Nat
  at_ : Nat
deriving DecidableEq, Repr

/-- An admission bucket (R117, R377): its number, its channel, its tokens in thousandths of a byte, when last filled,
and whether its channel has been invalidated since. -/
structure Bucket where
  id : Nat
  chan : Nat
  tokens : Nat
  at_ : Nat
  gone : Bool
deriving DecidableEq, Repr

/-- What is known of a request before its target's step: nothing, that it duplicates an ordered packet already applied
(R102), or that the deduplication window cannot tell whether it was applied (R137, R140). -/
inductive Note where
  | plain | dup | unsure
deriving DecidableEq, Repr

/-- A packet consumed here: it waits for the target's or source's step. `tenant` is the matched Strainer entry's
tenant (R96), or the tenant R315 gives for port 32. -/
structure Inbox where
  pkt : Packet
  port : Nat
  tenant : Nat
  resv : Nat
  shared : Nat
  at_ : Nat
  note : Note
deriving DecidableEq, Repr

/-! ### Remote operations (spec/06) -/

/-- Who issues remote operations (spec/06 "Agents"): an engine, a Linal core, a host command queue, the emission
output of a reduction window, and the supplied services that run on a core (Table 6.11). -/
inductive Agent where
  | engine (n : Nat)
  | core (n : Nat)
  | host (q : Nat)
  | window (w : Nat)
deriving DecidableEq, Repr

/-- Where the data that a transaction returns goes. -/
inductive Land where
  | drop
  /-- nothing: a carry image sent with this FORMAT, OP and SCALE_LO, which its window must share (R189) -/
  | carry (fmt op scaleLo : Nat)
  /-- the job's result word: bytes `8 * half` to `8 * half + 7` of the returned unit -/
  | word (half : Nat)
  /-- local memory of a core -/
  | local_ (core addr : Nat)
  /-- this switch's own range, at an offset -/
  | own (off : Nat)
  /-- host memory, as DMA of a host command, at an offset of its buffer -/
  | host (num off : Nat)
  /-- accelerator memory -/
  | accel (addr : Nat)
  /-- the ciphertext or the tag of a weight segment -/
  | weight (num : Nat) (tag : Bool)
deriving DecidableEq, Repr

/-- A request that waits at its source: for the TXN_ID window, a drain, ordered-flow room, its bucket, room at
port 32, or an acquire of its agent (R132, R104, R101, R117, R109, R154). `uid` numbers requests in the order their
agents issued them. -/
structure Pend where
  uid : Nat
  pkt : Packet
  agent : Agent
  job : Nat
  land : Land
  promised : Bool
  rate : Nat
  burst : Nat
  rbound : Nat
  bucket : Nat
  /-- the TENANT of its channel, whose live key epoch it carries (R338) -/
  keyTenant : Nat
  tenant : Nat
  step : Nat
  /-- the request is an acquire (R154), and whether its scope is .T or .F -/
  acquire : Option Bool
  /-- its data may fill the remote read cache (R382, R383) -/
  fill : Bool
  /-- the offset in this switch's own range from which its payload is read as it leaves (R257) -/
  src : Option Nat := none
deriving DecidableEq, Repr

/-- A TIER instruction that the tier service is carrying out (R252, R266): its job, its place among its core's requests, its
core, and its header. -/
structure TierReq where
  job : Nat
  uid : Nat
  core : Nat
  hdr : PktHdr
deriving DecidableEq, Repr

/-- An outstanding transaction, as the flight table holds it. -/
structure Txn where
  id : BitVec 32
  uid : Nat
  pkt : Packet
  agent : Agent
  job : Nat
  land : Land
  promised : Bool
  rbound : Nat
  late : Bool
  acceptAt : Nat
  issueAt : Nat
  timeout : Nat
  reissues : Nat
  parked : Bool
  tenant : Nat
  step : Nat
  acquire : Option Bool
  fill : Bool
  /-- its KEY_EPOCH has been set: an end-point sets it when the packet first leaves (R401) -/
  stamped : Bool
deriving DecidableEq, Repr

/-- Whose request a group of transactions serves, and what its completion reports. -/
inductive Owner where
  | core (n : Nat)
  | command (num : Nat)
  | engine (n tag : Nat)
  | emission (cmd : Nat)
  | service (op : Nat)
  | segment (num : Nat)
  | none
deriving DecidableEq, Repr

/-- The transactions of one instruction, command, engine request or emission: how many it has, how many are still open, the lowest
code other than OK so far (0 when none), the word returned, and whether one passed its RBOUND. -/
structure Job where
  id : Nat
  owner : Owner
  parts : Nat
  left : Nat
  code : Nat
  data : Word
  late : Bool
deriving DecidableEq, Repr

/-- A fence (R151): the requests it still waits for, and the lowest code other than OK among those completed. -/
structure Fence where
  id : Nat
  owner : Owner
  agent : Agent
  waits : List Nat
  code : Nat
deriving DecidableEq, Repr

/-- A release held at the source under R153. -/
structure Release where
  pend : Pend
  fence : Nat
deriving DecidableEq, Repr

/-- The state of a deduplication slot that is not EMPTY (R139). -/
inductive SlotState where
  | pending | done | expired
deriving DecidableEq, Repr

/-- A deduplication slot: the TXN_ID it holds, its state, the response sent and when, and how many copies of the
request wait for it (R139, R140). -/
structure Slot where
  txn : BitVec 32
  state : SlotState
  resp : Option Packet
  at_ : Nat
  held : Nat
deriving DecidableEq, Repr

/-- What a target's access waits for: a table walk, a copy of a tile, the compute die. -/
inductive Blocker where
  | walk (id : Nat)
  | tile (t : Nat)
  | die (id : Nat)
deriving DecidableEq, Repr

/-! ### Channels, ordered flows and translation (spec/04, spec/12, spec/13) -/

/-- An entry of the channel cache (R339), as its table holds it (Table 13.4), most recently used first. -/
structure ChanEnt where
  chan : Nat
  raw : Nat
deriving DecidableEq, Repr

/-- The numbering of an ordered flow at its source (R101, R341, R378). -/
structure SrcFlow where
  dst : Nat
  chan : Nat
  next : Nat
deriving DecidableEq, Repr

/-- A cached table entry: whose table, its level, and the address bits above the level's page (R318). -/
structure XEnt where
  id : Nat
  level : Nat
  index : Nat
  word : Nat
deriving DecidableEq, Repr

/-- A walk under way or waiting for a walker: its tenant or context, its address, the access (0 read, 1 write,
2 atomic), whether a promised access needs it, whether a walker serves it, and whether an invalidation has been written
since it began (R321). -/
structure Walk where
  num : Nat
  id : Nat
  addr : Nat
  access : Nat
  promised : Bool
  busy : Bool
  stale : Bool
deriving DecidableEq, Repr

/-- A record of the pending batch of fabric-level faults (Table 12.6). -/
structure FaultRec where
  off : Nat
  src : Nat
  tenant : Nat
  opcode : Nat
  cause : Nat
  level : Nat
  txn : Nat
  count : Nat
  us : Nat
  step : Nat
  at_ : Nat
deriving DecidableEq, Repr

/-- A translation invalidation under way (R320): KIND, ID, first page and count. -/
structure XInv where
  kind : Nat
  id : Nat
  first : Nat
  count : Nat
deriving DecidableEq, Repr

/-- A write that the switch makes into its own tiers: where, for whom, under which STEP_TAG, and what follows it. -/
structure OwnWrite where
  tenant : Nat
  off : Nat
  bytes : List Byte
  step : Nat
  job : Nat
  lctr : Nat
  units : Nat
deriving DecidableEq, Repr

/-- An access that waits here: a packet's, or the switch's own write. -/
inductive WaitItem where
  | packet (i : Inbox)
  | own (w : OwnWrite)
deriving DecidableEq, Repr

/-- An access that waits, what it waits for, and, where it has been translated, the address and the
level of the PAGE entry (R30, R321); `ecc` says what the word that it has still to reach meets (R13). -/
structure Waiting where
  item : WaitItem
  on : Blocker
  store : Option (Nat × Nat)
  ecc : Ecc
deriving DecidableEq, Repr

/-! ### Tiers and Caddy (spec/11) -/

/-- A tile directory entry (Table 11.3) and what the switch holds beside it: a FREE that waits for the step's end, a
POLICY change that waits for it, a promotion of that POLICY which waits for room, whether a shadow copy is in progress,
and an uncorrectable error found in the shadow, in the backing stripe or in the entry itself. -/
structure Tile where
  tenant : Nat
  tier : Nat
  home : Nat
  floor : Nat
  mapped : Bool
  stepver : Bool
  pinned : Bool
  dirty : Bool
  backed : Bool
  shadow : Bool
  accessed : Bool
  migrating : Bool
  lost : Bool
  shadowDirty : Bool
  shadowStep : Nat
  shadowLoc : Nat
  loc : Nat
  stripe : Nat
  freeDue : Bool
  policyDue : Option Bool
  raiseDue : Bool
  copying : Bool
  shadowBad : Bool
  stripeBad : Bool
  entryBad : Bool
deriving DecidableEq, Repr

/-- An unmapped tile (R302). -/
def Tile.unmapped : Tile :=
  { tenant := 0, tier := 0, home := 0, floor := 0, mapped := false, stepver := false, pinned := false,
    dirty := false, backed := false, shadow := false, accessed := false, migrating := false, lost := false,
    shadowDirty := false, shadowStep := 0, shadowLoc := 0, loc := 0, stripe := 0, freeDue := false,
    policyDue := none, raiseDue := false, copying := false, shadowBad := false, stripeBad := false, entryBad := false }

/-- What a move of a tile is (R290, R291). -/
inductive MoveKind where
  /-- between HOT and DRAM, or out of DRAM to Caddy, or from Caddy -/
  | migrate
  | demote
  | writeback
  | promote
deriving DecidableEq, Repr

/-- A move under way: the tile, the tier it goes to, its destination place, and, for a demotion or write-back, the
stripe programmed and whether a stripe was charged for it when it began (R287). -/
structure Move where
  tile : Nat
  kind : MoveKind
  to_ : Nat
  loc : Nat
  stripe : Option Nat
  charged : Bool
deriving DecidableEq, Repr

/-- A tile command that has not completed for every tile (R292, R293): its CMD, TENANT, HOME, FLOOR and STEPVER, the
tiles still to do, those whose move has begun, and whom it answers: a packet, or a job. -/
structure TileCmd where
  cmd : Nat
  tenant : Nat
  home : Nat
  floor : Nat
  stepver : Bool
  tiles : List Nat
  begun : List Nat
  packet : Option Inbox
  job : Option Nat
deriving DecidableEq, Repr

/-- A stripe of Caddy: the tile and write sequence in its tags, whether it is still valid, and the tile data of its 16
codewords as they lie in the flash, codeword `i` on channel `i` (R296, R298, R396). -/
structure Stripe where
  tile : Nat
  seq : Nat
  valid : Bool
  words : List (BitVec 32768)
deriving DecidableEq, Repr

/-- The tag of a stripe's codeword: the store tile, the codeword's index and the 64-bit write sequence (R296). -/
def Stripe.tag (x : Stripe) (i : Nat) : Nat × Nat × BitVec 64 := (x.tile, i, BitVec.ofNat 64 x.seq)

/-- A superblock: the erase count of its block on each channel, reads since erase (a stripe is read on all 16 channels at
once, so that every block of it counts the same), when it was last programmed, the slots filled since erase, whether it is
dropped for want of a good block (R299), and whether a codeword in it needed a read retry since then (R300). -/
structure SuperBlk where
  erases : SMap Nat
  reads : Nat
  progAt : Nat
  filled : Nat
  dropped : Bool
  retried : Bool
deriving DecidableEq, Repr

def SuperBlk.fresh : SuperBlk := ⟨[], 0, 0, 0, false, false⟩

/-- The erase count of a superblock's most-worn block. -/
def SuperBlk.worn (b : SuperBlk) : Nat := b.erases.foldl (fun m e => max m e.2) 0

/-- A slot of the write buffer (R298): padding or a slot given up, a tile to be demoted or (`wb`) written back, or a stripe
that is rewritten. -/
inductive BufSlot where
  | pad
  | tile (t : Nat) (wb : Bool)
  | stripe (n : Nat)
deriving DecidableEq, Repr

/-- The flash behind the switch (spec/11 "Caddy"): superblocks, their number, the stripes by number, the open superblock,
the slots of the write buffer in order of arrival with the times they came, the last write sequence, the superblocks being
rewritten to be erased, a wear move under way (its free superblock, and the stripes still to be moved) and the retired
blocks, by the superblock and channel they served. The first 1,024 slots of `page` lie in the write buffer, the rest wait to
enter it; `ring` counts the slots that have been written there (R298). -/
structure Caddy where
  sbs : SMap SuperBlk
  total : Nat
  stripes : SMap (Option Stripe)
  open_ : Option Nat
  page : List (BufSlot × Nat)
  seq : Nat
  rewriting : List Nat
  wear : Option (Nat × List BufSlot)
  retired : List (Nat × Nat)
  ring : Nat
deriving DecidableEq, Repr

def Caddy.initial : Caddy :=
  { sbs := [], total := 0, stripes := [], open_ := none, page := [], seq := 0, rewriting := [], wear := none, retired := [], ring := 0 }

/-- A record of queue 2 that the tier service is working on (R294): its job, REQ_ID, REPLY_ADDR and REPLY_LCTR. -/
structure TierRec where
  job : Nat
  req : Nat
  addr : Nat
  lctr : Nat
  /-- of an OBJ_FREE whose range is not yet invalidated (R315): the invalidation, the tenant and the tiles to free -/
  freeing : Option (XInv × Nat × List Nat)
deriving DecidableEq, Repr

/-- The bonded tiers: the directory, the tiles' bytes (at tile × 65,536 + offset), their shadows, the moves under way,
the tile commands that wait, the sweep positions (tier × 64 + tenant), the hot tile that each tenant's sweep has chosen and
that waits for room in DRAM, places that are not reclaimed (tier and place, Table 16.2), deferred promotions that found no
room, and the record in hand. -/
structure Tiers where
  dir : SMap Tile
  data : Memory
  shadows : Memory
  moves : List Move
  cmds : List TileCmd
  hands : SMap Nat
  chosen : SMap (Option Nat)
  kept : List (Nat × Nat)
  raiseFails : Nat
  inHand : Option TierRec
  caddy : Caddy
deriving DecidableEq, Repr

def Tiers.initial : Tiers :=
  { dir := [], data := [], shadows := [], moves := [], cmds := [], hands := [], chosen := [], kept := [], raiseFails := 0, inHand := none, caddy := Caddy.initial }

/-! ### What leaves the devices -/

/-- A certificate of the chain (R398): its key, the ML-DSA-65 public key it carries, and its hybrid envelope. -/
structure Cert where
  key : Nat
  mldsa : List Byte
  env : List Byte
deriving DecidableEq, Repr

/-- A response of the island's SPDM responder (R398, R399), by what it says; its bytes are those of SPDM 1.3. -/
inductive SpdmRsp where
  | version
  | capabilities
  | algorithms
  | digests
  | certificate (slot : Nat) (chain : List Cert)
  | challengeAuth (slot hash : Nat)
  | measurements (blocks : List (Nat × Nat)) (hash : Nat)
  | keyExchange (ses hash : Nat)
  | finish (ses : Nat)
  | endSession (ses : Nat)
  | heartbeat (ses : Nat)
  | hybridSig (env : List Byte)
  | peerSig (accepted : Bool)
  | error (code : Nat)
deriving DecidableEq, Repr

/-- Something that leaves a device, in the order it leaves. -/
inductive Out where
  /-- a frame on port `p`, with the symbols of the sixteen logical lanes (R42 to R46) -/
  | frame (d : Part) (p : Nat) (f : Frame) (lanes : List (List Sym))
  /-- a marker on every data lane (R47), with the symbols of the lanes -/
  | marker (d : Part) (p : Nat) (lanes : List (List Sym))
  /-- data lanes to electrical idle; lanes off; the clock lane driven; PRBS31 for so many units; a wake beacon -/
  | lanesIdle (d : Part) (p : Nat)
  | lanesOff (d : Part) (p : Nat)
  | clockOn (d : Part) (p : Nat)
  /-- PRBS31 from these states of the logical lanes, and of the lane that carries none, for a number of units; 0: for as
  long as the phase lasts -/
  | prbs (d : Part) (p : Nat) (scr : List Nat) (units : Nat)
  | beacon (d : Part) (p : Nat)
  /-- a value returned by a register read -/
  | readValue (d : Part) (v : Word)
  /-- bytes written to host memory by a DMA that carries the requester ID of function `fn` (R331) -/
  | hostWrite (fn addr : Nat) (bytes : List Byte)
  /-- an MSI-X message of a function -/
  | msix (fn vector : Nat)
  /-- an interrupt message of the end-point on its attach -/
  | attachInt (vector : Nat)
  /-- an access handed to the compute die, and its number: a read of `n` bytes, or a write -/
  | dieRead (id addr n : Nat)
  | dieWrite (id addr : Nat) (bytes : List Byte)
  | dieAmo (id addr op : Nat) (a b : Word)
  /-- a completion delivered to an engine (Table 14.4) -/
  | engineDone (n : Nat) (c : BitVec 128)
  /-- a management datagram sent, an Ethernet frame of ARP, Neighbor Discovery or ICMP, an I3C answer, an I3C
  in-band interrupt, an answer of the island -/
  | mgmt (hdr : BitVec 128) (body : List Byte)
  | ethernet (frame : List Byte)
  | i3c (ack : Bool) (bytes : List Byte)
  | i3cInterrupt (b : Byte)
  | spdm (d : Part) (tr : Nat) (rsp : SpdmRsp)
  /-- the answer to an island command (R400): RESULT and what it returns -/
  | island (d : Part) (ses result : Nat) (data : List Nat)
  /-- the same two in a management datagram of TYPE 0xB0, with its header (R359) -/
  | mgmtSpdm (hdr : BitVec 128) (rsp : SpdmRsp)
  | mgmtIsland (hdr : BitVec 128) (ses result : Nat) (data : List Nat)
  /-- a frame to the supply's regulators, and pins driven -/
  | vr (frame : BitVec 32)
  | pin (d : Part) (name : String) (level : Bool)
  | scan (d : Part) (bits : List Bool)
deriving DecidableEq, Repr

/-! ### Host queues and the management port (spec/13) -/

/-- A started command (R344): the switch's number for it, its queue, its SEQ, its CID and entry after decryption, the ring
slot it came from and SQ_HEAD after it, the step when it started, the channel entry and admission bucket read at its start, its job, fence or
emission command, and its outcome. -/
structure Cmd where
  num : Nat
  q : Nat
  seq : Nat
  cid : Nat
  entry : Nat
  slot : Nat
  head : Nat
  step : Nat
  chan : Nat
  bucket : Nat
  /-- its meaning has begun -/
  begun : Bool
  job : Option Nat
  fence : Option Nat
  emit : Option Nat
  /-- HSTATUS, CODE and RESULT -/
  hstatus : Nat
  code : Nat
  result : Word
  done : Bool
  aborted : Bool
  /-- a Function Level Reset or EPOCH_RETIRE has stopped it: no completion entry is written -/
  silent : Bool
  /-- bytes of a GET, by offset, until they are written -/
  got : List (Nat × List Byte)
deriving DecidableEq, Repr

/-- A reply kept under R360: its source, SEQ and what was sent. -/
structure KeptReply where
  src : Nat
  seq : Nat
  out : List Out
deriving DecidableEq, Repr

/-- An EVENT not yet acknowledged (R360): SEQ, body, times sent, last sent. -/
structure MgmtEvent where
  seq : Nat
  body : List Byte
  sends : Nat
  at_ : Nat
deriving DecidableEq, Repr

/-- The host interface beside its registers. -/
structure Hif where
  cmds : List Cmd
  nextCmd : Nat
  /-- PHASE of the pass under way, per CQ -/
  phase : SMap Bool
  /-- entries not yet signalled, per CQ, and since when (R362) -/
  fresh : SMap (Nat × Nat)
  /-- the key epoch under which a confidential queue is keyed, and its key: SQ q at q, CQ q at 1,024 + q (R351) -/
  queueKeys : SMap (Option (Nat × Nat))
  replies : List KeptReply
  events : List MgmtEvent
  nextEvent : Nat
  i3cOffset : Nat
  i3cAddr : Option Nat
  /-- the static address of the I3C port, sampled from the straps as POR_N rose (R361, R493) -/
  i3cStatic : Nat
deriving DecidableEq, Repr

/-- The host interface after a power-on reset, with the straps that it sampled. -/
def Hif.start (straps : BitVec 3) : Hif :=
  { cmds := [], nextCmd := 0, phase := [], fresh := [], queueKeys := [], replies := [], events := [], nextEvent := 0,
    i3cOffset := 0, i3cAddr := none, i3cStatic := 0x30 + straps.toNat }

def Hif.initial : Hif := Hif.start (Config.i3cSa 0)

/-! ### The end-point (spec/14) -/

/-- Where an engine request stands (R373, R374). -/
inductive Stage where
  /-- its channel entry is being fetched -/
  | channel
  /-- packets not yet translated -/
  | translate
  /-- held under R325, with the fault record it is attached to -/
  | fault (rec : Nat)
  /-- every packet is formed -/
  | formed
  | waitCtr
  | fence (id : Nat)
  /-- INVAL under way -/
  | inval
deriving DecidableEq, Repr

/-- A piece of an engine request's fabric side: engine address, units, local address, and whether it is the last. -/
structure Piece where
  ea : Nat
  units : Nat
  local_ : Nat
  last : Bool
deriving DecidableEq, Repr

/-- A flight-tracker entry (R374). -/
structure Flight where
  idx : Nat
  engine : Nat
  req : Nat
  /-- the channel entry it read at its start, and its admission bucket -/
  raw : Nat
  bucket : Nat
  stage : Stage
  todo : List Piece
  /-- pieces translated: the fabric address of each -/
  made : List (Nat × Piece)
  /-- the context under which each page of it was translated, and the page's address there (R321) -/
  under : List (Nat × Nat)
  job : Nat
  at_ : Nat
  /-- a walk it waits for -/
  walk : Option Nat
deriving DecidableEq, Repr

/-- An outstanding level-two fault record (R325): its FAULT_ID, context, page and access kind, the requests attached,
and when it was written. -/
structure L2Rec where
  id : Nat
  ctx : Nat
  page : Nat
  access : Nat
  attached : List Nat
  at_ : Nat
deriving DecidableEq, Repr

/-- An ordered flow at its destination (R102, R384): E and the packets held. -/
structure RxFlow where
  src : Nat
  chan : Nat
  e : Nat
  held : List Inbox
deriving DecidableEq, Repr

/-- A line of the remote read cache (R382). -/
structure CacheLine where
  addr : Nat
  chan : Nat
  data : List Byte
deriving DecidableEq, Repr

/-- A weight slot in use (R407). -/
structure WeightSlot where
  slot : Nat
  key : Nat
  object : Nat
  base : Nat
  size : Nat
  tagBase : Nat
  tenant : Nat
deriving DecidableEq, Repr

/-- A weight segment being read (R408): its request, slot and number, where the plaintext lands, its two READs'
results as they come, and whether the slot's key was destroyed meanwhile. -/
structure Segment where
  num : Nat
  job : Nat
  slot : Nat
  seg : Nat
  dest : Nat
  lctr : Nat
  data : Option (List Byte)
  tag : Option (List Byte)
  failed : Nat
  dead : Bool
  /-- the TXN_ID, the class and the step at acceptance of its data READ, once that has completed (Table 6.11) -/
  txn : Nat
  tc : Nat
  step : Nat
deriving DecidableEq, Repr

/-! ### Reduction windows (spec/07) -/

/-- A destination piece being assembled (R183): its bytes so far, by offset, and the source pieces taken. -/
structure Assembly where
  dest : Nat
  bytes : List (Nat × List Byte)
  got : List Nat
deriving DecidableEq, Repr

/-- A window's bindings (slot `4096 × piece + contribution`), pieces emitted since ARM, and assembly blocks. -/
structure Win where
  bound : SMap (List Byte)
  emitted : List Nat
  asm : List Assembly
  /-- pieces in the order in which every slot of them became bound (R181) -/
  ready : List Nat
  /-- pieces with an uncorrectable error in a staging block (Table 16.2) -/
  bad : List Nat
deriving DecidableEq, Repr

def Win.idle : Win := ⟨[], [], [], [], []⟩

/-- An emission command not yet complete (R181). -/
structure EmitCmd where
  id : Nat
  win : Nat
  left : List Nat
  owner : Owner
  partial_ : Bool
  incomplete : Bool
  already : Bool
  /-- the Table 7.9 code once the command is complete -/
  result : Option Nat
deriving DecidableEq, Repr

/-- An output packet of an emission that waits for its channel entry: the window, the destination, the payload, the
format code of a REDUCE, and the channel, counter, tenant and STEP_TAG of the window at emission. -/
structure EmitOut where
  win : Nat
  dst : Nat
  off : Nat
  pay : List Byte
  byteEn : Nat
  code : Option Nat
  /-- the FORMAT, OP and SCALE_LO it was summed with -/
  cfg : Nat × Nat × Nat
  last : Bool
  chan : Nat
  lctr : Nat
  tenant : Nat
  step : Nat
deriving DecidableEq, Repr

/-! ### Collectives and dispatch (spec/08) -/

/-- Where a switch's own part of an operation stands. -/
inductive CollPart where
  | running
  /-- the FENCE.F before HUB_DONE (R204) -/
  | shardFence (id : Nat)
  /-- a HUB_DONE is to be sent: its STATUS and CAUSE -/
  | report (status cause : Nat)
  /-- the fence after STOP (R216) -/
  | stopFence (id : Nat)
  /-- the FENCE.D before the plans (R210) -/
  | planFence (id : Nat)
  /-- the FENCE.F at a dispatch's end (R214) -/
  | closeFence (id : Nat)
  | over
deriving DecidableEq, Repr

/-- Where the arbiter stands (R215, R216): the outcome is open, it is decided, STOP has been sent, or every record has
been written. -/
inductive CollRule where
  | open_ | decided | stopping | told
deriving DecidableEq, Repr

/-- An operation of the collective service. -/
structure CollOp where
  id : Nat
  step : Nat
  /-- its descriptor; 0 while only HUB_DONE records have named it -/
  desc : Nat
  dispatch : Bool
  /-- the member table, or the home table, and the expert map, as read when the descriptor was taken -/
  table : List Nat
  experts : List Nat
  /-- segments begun, and segments closed -/
  begun : Nat
  closed : List Nat
  /-- chunks, or homes of a dispatch, whose emission is under way, and its emission command -/
  emitting : List (Nat × Nat)
  /-- at a leaf, chunks whose partial has been emitted -/
  emitted : List Nat
  /-- chunks or homes done -/
  done : List Nat
  part : CollPart
  /-- as arbiter: where it stands, nodes whose HUB_DONE OK, and whose STOPPED, has been taken -/
  rule : CollRule
  ok : List Nat
  stopped : List Nat
  /-- 1 COMPLETED or 2 ABORTED, once taken; its cause and, for MEMBER_DEAD, the node -/
  outcome : Option Nat
  cause : Nat
  deadNode : Nat
  /-- plan and list writes that wait for the fence of R210: fabric address, bytes, counter -/
  later : List (Nat × List Byte × Nat)
  /-- a dispatch has been planned; the job of the weight arrays' writes -/
  planned : Bool
  job : Nat
  /-- per home of a planned dispatch: tokens, and choices served -/
  tokens : List Nat
  served : List Nat
  /-- homes of a planned dispatch in the order their counts have completed (R213) -/
  ripe : List Nat
  /-- windows that it has armed and not cleared (R216) -/
  armed : List Nat
deriving DecidableEq, Repr

/-! ### Linal cores (spec/09, spec/10) -/

/-- What a core's instruction waits for (R231, Table 9.11). -/
inductive Wait where
  | none
  /-- the transactions of a job; `sd`, `sc` name the registers to write -/
  | job (id : Nat) (sd sc : Nat)
  /-- the packets of a TPUT or TGET that port 32 has no room for yet (R109) -/
  | handing (id : Nat) (sc : Nat)
  | fence (id sc : Nat)
  | counter
  | take (q sa sd : Nat)
  | emit (id sd : Nat)
  | winClear (w sd : Nat)
  | check (sd : Nat)
  | pour (sd : Nat)
  | nap (p sd : Nat)
  /-- the instruction could not start, for a stall cause of Table 9.11, and starts again -/
  | retry
deriving DecidableEq, Repr

/-- A sample that a core has taken and not yet recorded (R239, Table 9.9): the step, instructions retired, cycles and stall
cause at the instruction that was retiring, and the addresses of it and of those retired after it, oldest first, nine at
most. -/
structure Sample where
  step : Nat
  retired : Nat
  cycles : Nat
  stall : Nat
  pcs : List Nat
deriving DecidableEq, Repr

/-- A logical core beside its registers of Table 9.13. -/
structure Core where
  s : SMap Word
  c : SMap Word
  dsc : SMap Nat
  mem : Memory
  codeBytes : Nat
  entry : Nat
  /-- core cycles since START in 160ths of a cycle, counted up to the time `cycAt` (R245, R445) -/
  cycles : Nat
  cycAt : Nat
  retired : Nat
  stallCycles : Nat
  /-- sampling (R239): the event count when it was enabled, the multiples of PERIOD passed, and the samples not yet
  recorded, oldest first -/
  evBase : Nat
  events : Nat
  cross : List Sample
  wait : Wait
  stall : Nat
  stallAt : Nat
  /-- the owner took the Pot from this core with FORCE (R20) -/
  potTaken : Bool
  /-- requests numbered from here on were issued since START (R231, R259) -/
  since : Nat
  /-- addresses that raised LOCAL_ECC since the load (R437) -/
  eccAt : List Nat
  /-- the job whose data fills the issue buffer (R257) -/
  buf : Option Nat
  /-- the loaded program's header (128 B; empty without a program) and the class of the key that signed it -/
  header : List Byte
  keyClass : Nat
deriving DecidableEq, Repr

def Core.initial : Core :=
  { s := [], c := [], dsc := [], mem := [], codeBytes := 0, entry := 0, cycles := 0, cycAt := 0, retired := 0,
    stallCycles := 0, evBase := 0, events := 0, cross := [], wait := .none, stall := 0, stallAt := 0,
    potTaken := false, since := 0, eccAt := [], buf := none, header := [], keyClass := 0 }

/-- A load under way (R229): the cores named. -/
structure Load where
  cores : List Nat
  image : Nat
deriving DecidableEq, Repr

/-- A record in a service queue: its first slot, the slots it takes, the padding before it, its length in 16 B units, its
bytes, and the tenant of its MSG (R294). -/
structure QRec where
  slot : Nat
  slots : Nat
  pad : Nat
  units : Nat
  data : List Byte
  tenant : Nat
deriving DecidableEq, Repr

/-- A service queue: the write position and the records, oldest first. -/
structure SQueue where
  wr : Nat
  recs : List QRec
deriving DecidableEq, Repr

/-! ### Membership, steps and repair (spec/16) -/

/-- A renewal of the lease: its CSEQ, when it was flooded, and who has acknowledged it and when (R425). -/
structure Renewal where
  cseq : Nat
  at_ : Nat
  acks : List (Nat × Nat)
deriving DecidableEq, Repr

/-- What the membership hardware and services hold beside the TEL_ registers. -/
structure Memb where
  /-- OSEQ last taken, per origin (R422) -/
  taken : SMap (Option Nat)
  /-- own record number -/
  oseq : Nat
  /-- the last 64 decisions applied, oldest first (R423) -/
  applied : List HbBody
  /-- decisions taken and not yet in order -/
  future : List HbBody
  /-- standing accusations: accuser, accused, evidence (R424) -/
  accusations : List (Nat × Nat × Nat)
  /-- JOINs held with TEST_PASS (R439), and FATALs taken -/
  joins : List Nat
  fatals : List Nat
  renewals : List Renewal
  renewAt : Nat
  /-- when a record from the coordinator was last seen (R425) -/
  coordAt : Nat
  joinAt : Option Nat
  /-- as coordinator: switches whose STEP_READY, STEP_DISCARDED has been taken, for a step; decided steps -/
  ready : List (Nat × Nat)
  discarded : List (Nat × Nat)
  failSteps : List Nat
  committed : List Nat
  replayed : List Nat
  /-- admission waits for the next STEP_COMMIT (R439) -/
  admitNext : Bool
  /-- as CAND0: a formation decision of its own has been issued (R484) -/
  formed : Bool
  /-- ports whose Strainer entries the membership service has still to revoke (R428) -/
  revokeDue : List Nat
  /-- the nodes that EPOCH decisions have admitted since epoch 1 (R425): none where this device has not seen them from there
  (log 53) -/
  joined : Option (List Nat)
deriving DecidableEq, Repr

def Memb.initial : Memb :=
  { taken := [], oseq := 0, applied := [], future := [], accusations := [], joins := [], fatals := [],
    renewals := [], renewAt := 0, coordAt := 0, joinAt := none, ready := [], discarded := [], failSteps := [],
    committed := [], replayed := [], admitNext := false, formed := false, revokeDue := [], joined := none }

/-- The step controller of a switch (R430 to R433): its plan, and what its participants have reported. -/
structure StepCtl where
  /-- a plan has been taken -/
  planned : Bool
  stepN : Nat
  /-- participants: STATUS_ADDR, STATUS_LCTR, node -/
  parts : List (Nat × Nat × Nat)
  /-- STEP_END and STEP_FENCED records taken: step and node -/
  ended : List (Nat × Nat)
  fenced : List (Nat × Nat)
  /-- STEP_FAIL, STEP_READY of the step have been flooded -/
  failed : Bool
  readySent : Bool
  /-- REPLAY was written then, and the discard is awaited -/
  replayAt : Option Nat
  /-- a STEP_COMMIT has been applied, and the seal waits for shadow copies in progress (Table 11.9) -/
  sealDue : Option Nat
  /-- losses that a STEP_FAIL has reported: a LOST tile (0, tile), a staging block's piece (1 + window, piece) -/
  seen : List (Nat × Nat)
  /-- STEP_STATUS records not yet written: address, counter, step, outcome -/
  owed : List (Nat × Nat × Nat × Nat)
deriving DecidableEq, Repr

def StepCtl.initial : StepCtl :=
  { planned := false, stepN := 0, parts := [], ended := [], fenced := [], failed := false, readySent := false,
    replayAt := none, sealDue := none, seen := [], owed := [] }

/-! ### The security island (spec/15) -/

/-- Who a session speaks for once it is authenticated (R399). -/
inductive Role where
  | owner
  | tenant (t : Nat)
deriving DecidableEq, Repr

/-- An SPDM session (R398): its transport (0 DOE, 1 management messages, 2 the attach), whether FINISH has established
it, whether KEY_EXCHANGE asked for mutual authentication, the credential under which the requester's signature in FINISH
verified, the FINISH transcript hash, and its role. -/
structure Session where
  id : Nat
  tr : Nat
  open_ : Bool
  auth : Bool
  cred : Option Nat
  hash : Nat
  role : Option Role
deriving DecidableEq, Repr

/-- The island (R390 to R405): the owner's credential (its KEY_ID), a pending OWNER_CLEAR, tenants' credentials, program
keys and master keys (a master key is known by the number of its random draw), the rollback minimums, the fused minimum
version and debug lock, measurements 2 and 3 as they were taken (R397), how far each transport has negotiated, the transcript hash last signed for it, the sessions, and
the tenants being removed with the messages that await the answer. -/
structure Island where
  owner : Option Nat
  clearDue : Bool
  creds : SMap (Option Nat)
  progKeys : SMap (List Nat)
  masters : SMap (Option Nat)
  minima : SMap Nat
  fusedMin : Nat
  debugLock : Bool
  firmware : SMap (Option Nat)
  stage : SMap Nat
  signed : SMap (Option Nat)
  sessions : List Session
  nextSession : Nat
  removing : List (Nat × SesMsg)
deriving DecidableEq, Repr

def Island.initial : Island :=
  { owner := none, clearDue := false, creds := [], progKeys := [], masters := [], minima := [], fusedMin := 0,
    debugLock := false, firmware := [], stage := [], signed := [], sessions := [], nextSession := 0, removing := [] }

/-! ### Kettle (spec/17) and telemetry (spec/18) -/

/-- A request on the voltage link that awaits its reply: its frame, the CODE it asks for, when it was sent, and how often
it has been sent again (R450). -/
structure VrReq where
  frame : BitVec 32
  code : Nat
  at_ : Nat
  resent : Nat
deriving DecidableEq, Repr

/-- What Kettle holds beside the PWR_ registers. -/
structure Kettle where
  /-- per demand domain: when its wake began; since when its demand has stopped (R443, R444) -/
  wakeAt : SMap Nat
  idleAt : SMap (Option Nat)
  /-- the request outstanding, when the last one was sent, when the voltage has settled (R449, R450) -/
  vr : Option VrReq
  vrAt : Nat
  rampEnd : Nat
  /-- no clock may rise until a request is acknowledged (R450) -/
  vrHold : Bool
  /-- the CODE of a SET that waits for the request outstanding (R449, Table 17.8) -/
  setDue : Option Nat
  /-- from when each of the three clocks may change its level again (R445) -/
  stepAt : SMap Nat
  /-- the last estimates, newest first, at most 100; the energy in µJ; when the last was taken (R451) -/
  est : List Nat
  energy : Nat
  estAt : Nat
  floorAt : Nat
  /-- step 1 of R455 is due; a window has exceeded EFFECTIVE_W (step 2); when the window began -/
  capDue : Bool
  stepDown : Bool
  winAt : Nat
  /-- when the monitors were last read, and the smallest slack since the last plan, with its monitor (R459); since when every plan has found 25 ps or more; the
  last plan; when the stepped clocks first reached their levels -/
  monAt : Nat
  slack : Option (Int × Nat)
  goodSince : Option Nat
  planAt : Option Nat
  levelsAt : Option Nat
  /-- the ageing log by index, the records written, the power-on time in ns before the last power-on, the highest temperature
  read since the last record, and the power-on time at which the last daily record was written (R463) -/
  log : SMap Nat
  logged : Nat
  onNs : Nat
  temp : Option Int
  dailyAt : Nat
  /-- the counters 0xCC0 to 0xCE3 hold the time up to here; core cycles not yet whole, in 160ths -/
  countedAt : Nat
  cycles : Nat
deriving DecidableEq, Repr

/-- Kettle as a power-on reset at `now` starts it: every interval begins there. -/
def Kettle.start (now : Nat) : Kettle :=
  { wakeAt := [], idleAt := [], vr := none, vrAt := now, rampEnd := 0, vrHold := false, setDue := none, stepAt := [],
    est := [], energy := 0, estAt := now, floorAt := now, capDue := false, stepDown := false, winAt := now, monAt := now, slack := none,
    goodSince := none, planAt := none, levelsAt := none, log := [], logged := 0, onNs := 0, temp := none,
    dailyAt := 0, countedAt := now, cycles := 0 }

def Kettle.initial : Kettle := Kettle.start 0

/-- The latest snapshot record written (R474): WINDOW, LENGTH_US, the groups, the counters of each in order, and CONF. -/
structure SnapRec where
  window : Nat
  lengthUs : Nat
  groups : Nat
  counts : List Nat
  conf : Bool
deriving DecidableEq, Repr

/-- The central reader (R470, R471): the next boundary's number and time, until when it writes the last record, the
boundaries skipped since, and the records that hold a group which no later one holds, newest first. -/
structure Tel where
  window : Nat
  nextAt : Nat
  busy : Nat
  skipped : Nat
  recs : List SnapRec
deriving DecidableEq, Repr

def Tel.initial : Tel := ⟨0, 0, 0, 0, []⟩

/-- Start-up (spec/19): when the last reset was triggered, whether a warm reset is in progress, the fatal state of
R419, and whether power has been lost, so that POR_N is low until the next power-on reset (R479, R498). -/
structure Boot where
  resetAt : Nat
  warm : Bool
  fatal : Bool
  off : Bool
deriving DecidableEq, Repr

def Boot.initial : Boot := ⟨0, false, false, false⟩

/-! ### The whole machine -/

/-- What both parts hold (the shared blocks of R363). -/
structure Dev where
  part : Part
  /-- live registers and staged copies, by address; unlisted ones hold their reset value -/
  regs : SMap Word
  staged : SMap Word
  /-- a check has passed and nothing has been staged since (R28); the holding core has stopped while a check or a Pour
  was being decided (R21) -/
  potPassed : Bool
  potRelease : Bool
  /-- when the device's clock read zero: at power-on reset (R245, R470) -/
  clock0 : Nat
  ports : SMap Port
  counters : SMap Nat
  inbox : List Inbox
  waiting : List Waiting
  /-- admission buckets that requests still under way at an end-point have read, by flight-tracker index (R377, Table 14.6) -/
  claims : List (Nat × Nat)
  queues : SMap (List QPkt)
  resvUsed : SMap Nat
  sharedUsed : Nat
  /-- class words A and B of a queue that a Pour changed while it held packets (R110) -/
  queueOld : SMap (Option (Nat × Nat))
  vfin : SMap Rat
  headS : SMap Rat
  drrPos : SMap Nat
  drrFresh : SMap Bool
  deficit : SMap Nat
  avgQ : SMap Nat
  lfsr : SMap Nat
  meters : SMap (Option Meter)
  buckets : List Bucket
  sprayCredit : SMap Int
  /-- when the spray weights (R99) and the averages of early drop (R115) were last updated -/
  sprayAt : Nat
  avgAt : Nat
  /-- BOUND_NS when its VALID was last 1, by port and class (R122) -/
  boundWas : SMap Nat
  /-- the source side: counters, requests waiting, transactions, jobs, fences, releases (spec/06) -/
  nextTxn : BitVec 32
  nextUid : Nat
  nextJob : Nat
  pends : List Pend
  /-- responses and reissues that wait for room at port 32, each with its tenant (R109, R114) -/
  outbox : List (Packet × Nat)
  nextBucket : Nat
  txns : List Txn
  jobs : List Job
  fences : List Fence
  releases : List Release
  tierReqs : List TierReq
  /-- acquires whose response has not arrived (R154) -/
  acquires : List (Agent × Nat)
  /-- the lowest completion code other than OK that an agent's transactions to a node have had: since START for a core,
  since reset for the others (R151, R259) -/
  failed : List (Agent × Nat × Nat)
  slots : SMap (Option Slot)
  /-- accesses translated or waiting here, and the accesses to the compute die numbered so far -/
  nextDie : Nat
  /-- the channel cache, the channels being fetched, those whose last fetch failed, and the invalidation under way -/
  chans : List ChanEnt
  chanMiss : List Nat
  chanBad : List Nat
  chanInv : Option (Nat × Nat)
  flows : List SrcFlow
  /-- the GEN of each channel's entry when it was last loaded (R341) -/
  gens : SMap (Option Nat)
  xcache : List XEnt
  walks : List Walk
  nextWalk : Nat
  xinv : Option XInv
  fbatch : List FaultRec
  /-- LPDDR5X below RESV_TOP, by physical address (switch); accelerator memory (end-point) -/
  mem : Memory
  memb : Memb
  isl : Island
  tel : Tel
  boot : Boot
deriving DecidableEq, Repr

def Dev.initial (d : Part) : Dev :=
  { part := d, regs := [], staged := [], potPassed := false, potRelease := false, clock0 := 0, ports := [], counters := [], inbox := [], waiting := [], claims := [], queues := [],
    resvUsed := [], sharedUsed := 0, queueOld := [], vfin := [], headS := [], drrPos := [], drrFresh := [],
    deficit := [], avgQ := [], lfsr := [], meters := [], buckets := [], sprayCredit := [], sprayAt := 0, avgAt := 0,
    boundWas := [], nextTxn := 0,
    nextUid := 0, nextJob := 0, pends := [], outbox := [], nextBucket := 0, txns := [], jobs := [], fences := [], releases := [], tierReqs := [], acquires := [], failed := [],
    slots := [], nextDie := 0, chans := [], chanMiss := [],
    chanBad := [], chanInv := none, flows := [], gens := [], xcache := [], walks := [], nextWalk := 0, xinv := none, fbatch := [],
    mem := [], memb := Memb.initial, isl := Island.initial, tel := Tel.initial,
    boot := Boot.initial }

/-- The BRS-9032 switch. -/
structure Switch where
  dev : Dev
  wins : SMap Win
  emits : List EmitCmd
  nextEmit : Nat
  outs : List EmitOut
  coll : List CollOp
  /-- records of an unknown TYPE dropped by the collective service (R195) -/
  collDropped : Nat
  cores : SMap Core
  load : Option Load
  /-- physical cores that have failed, and physical clusters that have failed and wait for a spare (R437, R438) -/
  badCores : List Nat
  badClusters : List Nat
  squeues : SMap SQueue
  /-- records discarded when a queue's ENABLE was cleared, by queue (R236) -/
  qDiscards : SMap Nat
  /-- seals that wait for shadow copies (R246, R267): the job of the instruction, and the step it seals -/
  seals : List (Nat × Nat)
  stepCtl : StepCtl
  tiers : Tiers
  hif : Hif
  kettle : Kettle
deriving DecidableEq, Repr

def Switch.initial : Switch :=
  { dev := Dev.initial .sw, wins := [], emits := [], nextEmit := 0, outs := [], coll := [], collDropped := 0, cores := [], load := none, badCores := [], badClusters := [],
    squeues := [], qDiscards := [], seals := [], stepCtl := StepCtl.initial, tiers := Tiers.initial, hif := Hif.initial, kettle := Kettle.initial }

/-- The BRE-2104 end-point. -/
structure EndPoint where
  dev : Dev
  flights : List Flight
  l2recs : List L2Rec
  rflows : List RxFlow
  /-- ordered-flow resets under way (R385): source, and channel unless every flow of it -/
  ordReset : Option (Nat × Option Nat)
  rcache : List CacheLine
  /-- a host invalidation of the read cache under way (R383): a channel, or all -/
  rcInv : Option (Option Nat)
  weights : List WeightSlot
  segs : List Segment
deriving DecidableEq, Repr

def EndPoint.initial : EndPoint :=
  { dev := Dev.initial .ep, flights := [], l2recs := [], rflows := [], ordReset := none, rcache := [], rcInv := none,
    weights := [], segs := [] }

/-- The machine: the time of the latest step (ns), the count of free values drawn, what has left the devices, the
two devices, and the commands that wait, first in, first out. `now` is the model's own clock and `fresh` the model's
own counter (log 1, log 4). -/
structure State where
  now : Nat
  fresh : Nat
  out : List Out
  pending : List Instr
  sw : Switch
  ep : EndPoint
deriving DecidableEq, Repr

/-- Why a step cannot be taken. -/
inductive Fault where
  /-- A command names something that the part does not have: a port, a core, a window, a queue, a register of no
  such width. Raised by every meaning for an operand outside what the part has; safe: no hardware takes the step. -/
  | illFormed (what : String)
deriving DecidableEq, Repr

/-- Why the model refuses a command. -/
inductive Refusal where
  /-- The command has no meaning in the model yet. Raised by a refused arm of `exec` only; safe. -/
  | notModelled (mnemonic : String)
deriving DecidableEq, Repr

/-- The machine right after power-on reset: every register at its map's reset value, nothing held. -/
def State.reset : State :=
  { now := 0, fresh := 0, out := [], pending := [], sw := Switch.initial, ep := EndPoint.initial }

end Sys2Proof.Machine
end

