-- ==== Sys2Proof/Machine/Line.lean ====
section
/-! DEFINITION. The line: CRCs, header layouts, striping, scrambling, stuffing and markers (R41 to R55, R88). -/

namespace Sys2Proof.Machine

/-- A reflected CRC over bytes: `poly` is the reversed polynomial. -/
def crcByte (poly : Nat) (crc : Nat) (b : Byte) : Nat :=
  (List.range 8).foldl (fun c _ => if c % 2 = 1 then Nat.xor (c / 2) poly else c / 2) (Nat.xor crc b.toNat)

/-- HCRC: CRC-16 of polynomial 0x1021, initial 0xFFFF, reflected, no final XOR (R53). -/
def hcrc (bs : List Byte) : Nat := bs.foldl (crcByte 0x8408) 0xFFFF

/-- The frame CRC-64 of ECMA-182, reflected, with final XOR (R53). -/
def crc64 (bs : List Byte) : Nat :=
  Nat.xor (bs.foldl (crcByte 0xC96C5795D7870F42) 0xFFFFFFFFFFFFFFFF) 0xFFFFFFFFFFFFFFFF

/-- A frame header's 112 bits below HCRC (Table 3.2). -/
def FrameHdrBits (h : FrameHdr) : BitVec 112 :=
  h.ackSeq ++ h.seq ++ h.lenUnits ++ h.pktCount ++ h.rsv54 ++ h.bodyLen ++ h.crdClass ++ h.crdCount ++ h.rsv12
    ++ h.ackValid ++ h.replay ++ h.crdValid ++ h.rsv8 ++ h.type ++ h.subtype

/-- The fields of a frame header from its 112 bits (Table 3.2). -/
def frameHdrOf (x : BitVec 112) : FrameHdr :=
  { ackSeq := x.extractLsb' 96 16, seq := x.extractLsb' 80 16, lenUnits := x.extractLsb' 72 8,
    pktCount := x.extractLsb' 64 8, rsv54 := x.extractLsb' 54 10, bodyLen := x.extractLsb' 44 10,
    crdClass := x.extractLsb' 41 3, crdCount := x.extractLsb' 17 24, rsv12 := x.extractLsb' 12 5,
    ackValid := x.extractLsb' 11 1, replay := x.extractLsb' 10 1, crdValid := x.extractLsb' 9 1,
    rsv8 := x.extractLsb' 8 1, type := x.extractLsb' 4 4, subtype := x.extractLsb' 0 4 }

/-- A packet header's 256 bits (R88, Table 4.1). -/
def PktHdrBits (h : PktHdr) : BitVec 256 :=
  h.dst ++ h.offset ++ h.src ++ h.pkey ++ h.opcode ++ h.opArg ++ h.tc ++ h.channel ++ h.txn ++ h.ordSeq ++ h.lctr
    ++ h.payUnits ++ h.reqUnits ++ h.keyEpoch ++ h.stepTag ++ h.hops ++ h.status ++ h.ordered ++ h.rsv20 ++ h.retry
    ++ h.last ++ h.rsv16 ++ h.byteEn

/-- The fields of a packet header from its 256 bits (Table 4.1). -/
def pktHdrOf (x : BitVec 256) : PktHdr :=
  { dst := x.extractLsb' 244 12, offset := x.extractLsb' 192 52, src := x.extractLsb' 180 12,
    pkey := x.extractLsb' 164 16, opcode := x.extractLsb' 156 8, opArg := x.extractLsb' 152 4,
    tc := x.extractLsb' 149 3, channel := x.extractLsb' 129 20, txn := x.extractLsb' 97 32,
    ordSeq := x.extractLsb' 81 16, lctr := x.extractLsb' 65 16, payUnits := x.extractLsb' 55 10,
    reqUnits := x.extractLsb' 45 10, keyEpoch := x.extractLsb' 37 8, stepTag := x.extractLsb' 29 8,
    hops := x.extractLsb' 26 3, status := x.extractLsb' 22 4, ordered := x.extractLsb' 21 1,
    rsv20 := x.extractLsb' 20 1, retry := x.extractLsb' 19 1, last := x.extractLsb' 18 1,
    rsv16 := x.extractLsb' 16 2, byteEn := x.extractLsb' 0 16 }

/-- A packet's bytes as they go to the line (R88). -/
def packetBytes (p : Packet) : List Byte := leBytes 32 (PktHdrBits p.hdr).toNat ++ p.pay

/-- A packet's length in bytes: 32 + 16 × PAY_UNITS. -/
def pktLen (h : PktHdr) : Nat := 32 + 16 * h.payUnits.toNat

/-- The line cost F of a packet: the frame that carries it alone (R113). -/
def lineCost (h : PktHdr) : Nat := 64 * ceilDiv (pktLen h + 24) 64

/-- The cells a packet occupies (R107). -/
def cellsOf (h : PktHdr) : Nat := ceilDiv (pktLen h) 256

/-- LEN_UNITS of a body length in 16 B units (R54). -/
def unitsFor (bodyLen : Nat) : Nat := ceilDiv (24 + 16 * bodyLen) 64

/-- A frame's bytes: header with HCRC, body, zero padding, CRC-64 (R51, R53). -/
def frameBytes (f : Frame) : List Byte :=
  let h14 := leBytes 14 (FrameHdrBits f.hdr).toNat
  let head := h14 ++ leBytes 2 (hcrc h14) ++ f.body
  let all := head ++ List.replicate (64 * f.hdr.lenUnits.toNat - 8 - head.length) 0
  all ++ leBytes 8 (crc64 all)

/-- The packets of a DATA body, each length taken from its own header; none if they do not fill it (R54). -/
def splitPackets : Nat → List Byte → Option (List Packet)
  | 0, bs => if bs.isEmpty then some [] else none
  | n + 1, bs =>
    if bs.isEmpty then some []
    else
      let h := pktHdrOf (BitVec.ofNat 256 (ofLe (bs.take 32)))
      if bs.length < pktLen h then none
      else (splitPackets n (bs.drop (pktLen h))).map (fun ps => ⟨h, (bs.drop 32).take (pktLen h - 32)⟩ :: ps)

/-- What checking a received frame's bytes gives. -/
inductive FrameCheck where
  | headerErr
  | crcErr (hdr : FrameHdr)
  | good (f : Frame) (pkts : List Packet)
deriving DecidableEq, Repr

/-- R54, R59: HCRC, TYPE, the length rule, then CRC-64, then the packets of a DATA body. -/
def checkFrame (bs : List Byte) : FrameCheck :=
  let h := frameHdrOf (BitVec.ofNat 112 (ofLe (bs.take 14)))
  let body := (bs.drop 16).take (16 * h.bodyLen.toNat)
  let shape := h.lenUnits.toNat == unitsFor h.bodyLen.toNat && decide (h.bodyLen.toNat ≤ 514)
    && bs.length == 64 * h.lenUnits.toNat
  if hcrc (bs.take 14) ≠ ofLe ((bs.drop 14).take 2) ∨ ¬ (h.type = 1 ∨ h.type = 2 ∨ h.type = 3) ∨ shape = false then
    .headerErr
  else if crc64 (bs.take (bs.length - 8)) ≠ ofLe (bs.drop (bs.length - 8)) then .crcErr h
  else if h.type = 1 then
    match splitPackets 255 body with
    | some ps => if ps.length = h.pktCount.toNat ∧ ps ≠ [] then .good ⟨h, body⟩ ps else .headerErr
    | none => .headerErr
  else .good ⟨h, body⟩ []

/-! ### Lanes -/

/-- The seed of logical lane `n` (R44). -/
def laneSeed (n : Nat) : Nat := Nat.xor 0x5A5A5A5A (n * 0x00010101)

/-- One step of the scrambler: the feedback bit and the next state (R43). -/
def scramStep (s : Nat) : Nat × Nat :=
  let f := Nat.xor (s / 2 ^ 30 % 2) (s / 2 ^ 27 % 2)
  (f, (s * 2 + f) % 2 ^ 31)

/-- A byte through the scrambler, bit 0 first (R43): the byte and the next state. -/
def scramByte (s : Nat) (b : Byte) : Byte × Nat :=
  let r := (List.range 8).foldl
    (fun (acc : Nat × Nat) i =>
      let st := scramStep acc.2
      (acc.1 + Nat.xor (bitsOf b.toNat i i) st.1 * 2 ^ i, st.2)) (0, s)
  (BitVec.ofNat 8 r.1, r.2)

/-- Bytes through a lane's scrambler (the same operation descrambles). -/
def scramBytes (s : Nat) : List Byte → List Byte × Nat
  | [] => ([], s)
  | b :: bs =>
    let x := scramByte s b
    let y := scramBytes x.2 bs
    (x.1 :: y.1, y.2)

/-- The level of bits b1 b0 (Table 3.1). -/
def symOf (two : Nat) : Sym := match two % 4 with | 0 => .m3 | 1 => .m1 | 3 => .p1 | _ => .p3

/-- The bits of a level (Table 3.1). -/
def bitsOfSym : Sym → Nat
  | .m3 => 0 | .m1 => 1 | .p1 => 3 | .p3 => 2

/-- A byte's four symbols (R42). -/
def symsOfByte (b : Byte) : List Sym := (List.range 4).map (fun k => symOf (b.toNat / 4 ^ k))

/-- Bytes of symbols, four to a byte (R42). -/
def bytesOfSyms : List Sym → List Byte
  | a :: b :: c :: d :: r => BitVec.ofNat 8 (bitsOfSym a + 4 * bitsOfSym b + 16 * bitsOfSym c + 64 * bitsOfSym d) :: bytesOfSyms r
  | _ => []

/-- The run after one more symbol. -/
def LaneRun.next (r : LaneRun) (s : Sym) : LaneRun := if s = r.sym then ⟨s, r.len + 1⟩ else ⟨s, 1⟩

/-- The stuff symbol that breaks a run (R46). -/
def stuffSym (s : Sym) : Sym := match s with | .p3 | .p1 => .m3 | _ => .p3

/-- Symbols onto a lane with stuffing (R46). -/
def stuff (r : LaneRun) : List Sym → List Sym × LaneRun
  | [] => ([], r)
  | s :: ss =>
    if r.len ≥ 32 then
      let r1 : LaneRun := LaneRun.next ⟨stuffSym r.sym, 1⟩ s
      let y := stuff r1 ss
      (stuffSym r.sym :: s :: y.1, y.2)
    else
      let y := stuff (r.next s) ss
      (s :: y.1, y.2)

/-- A marker on a lane (R47), with the stuff symbol that R46 calls for before it. -/
def markerSyms (r : LaneRun) : List Sym :=
  let body := List.replicate 48 Sym.p3 ++ List.replicate 16 Sym.m3
  if r.len ≥ 32 ∧ r.sym ≠ .p3 then stuffSym r.sym :: body else body

/-- The run after a marker: its −3 tail counts (R46). -/
def markerRun : LaneRun := ⟨.m3, 16⟩

/-- The receiver's use of R46 (R48): the data symbols and the run; none on a stuffing violation (R49). -/
def destuff (r : LaneRun) : List Sym → Option (List Sym × LaneRun)
  | [] => some ([], r)
  | s :: ss =>
    if r.len ≥ 32 then
      (if s = stuffSym r.sym then destuff ⟨s, 1⟩ ss else none)
    else (destuff (r.next s) ss).map (fun y => (s :: y.1, y.2))

/-- Whether the symbols received on a lane are a marker after the run `r` (R48, R49). -/
def isMarker (r : LaneRun) (ss : List Sym) : Bool := ss == markerSyms r

/-- The bytes of logical lane `n` (R42). -/
def laneBytes (bs : List Byte) (n : Nat) : List Byte :=
  (List.range (bs.length / 16)).map (fun k => bs.getD (16 * k + n) 0)

/-- The bytes of a frame from its sixteen lanes (R42). -/
def joinLanes (ls : List (List Byte)) : List Byte :=
  (List.range (ls.getD 0 []).length).flatMap (fun k => ls.map (fun l => l.getD k 0))

/-- A lane's run at the transmitter or receiver; an idle line starts a fresh run (log 3). -/
def runOf (l : List LaneRun) (n : Nat) : LaneRun := l.getD n ⟨.m3, 0⟩

/-- A lane's scrambler state; before the first marker, its seed (R44, log 3). -/
def scrOf (l : List Nat) (n : Nat) : Nat := l.getD n (laneSeed n)

/-- What the sixteen lanes carry for a string of units, and their states after it. -/
def sendLanes (scr : List Nat) (runs : List LaneRun) (bs : List Byte) : List (List Sym) × List Nat × List LaneRun :=
  let per := (List.range 16).map (fun n =>
    let x := scramBytes (scrOf scr n) (laneBytes bs n)
    let y := stuff (runOf runs n) (x.1.flatMap symsOfByte)
    (y.1, x.2, y.2))
  (per.map (fun x => x.1), per.map (fun x => x.2.1), per.map (fun x => x.2.2))

/-- What a lane with a stuffing violation carries: a symbol that R48 does not allow is taken as data, so that the
descrambler runs on (R44; DESIGN CHOICE, log 3). -/
def destuffOn (r : LaneRun) : List Sym → List Sym × LaneRun
  | [] => ([], r)
  | s :: ss =>
    if r.len ≥ 32 ∧ s = stuffSym r.sym then destuffOn ⟨s, 1⟩ ss
    else let y := destuffOn (r.next s) ss; (s :: y.1, y.2)

/-- The state of a checker that has shifted in the bits received on a lane (R45). -/
def lockScr (s : Nat) (ss : List Sym) : Nat :=
  ss.foldl (fun a x => ((a * 2 + bitsOfSym x % 2) * 2 + bitsOfSym x / 2) % 2 ^ 31) s

/-- One received lane: its data bytes, its states after them, and the state that R45 locks to; not `ok` on a lane error. -/
structure LaneIn where
  ok : Bool
  bytes : List Byte
  scr : Nat
  run : LaneRun
  lock : Nat
deriving DecidableEq, Repr

def recvLane (scr : Nat) (run : LaneRun) (ss : List Sym) : LaneIn :=
  let d := (destuff run ss).getD (destuffOn run ss)
  let x := scramBytes scr (bytesOfSyms d.1)
  ⟨(destuff run ss).isSome && decide (d.1.length % 4 = 0), x.1, x.2, d.2, lockScr scr d.1⟩

/-! ### PRBS31 (R45) -/

/-- The scrambler's step as a linear map: the images of its 31 bits. -/
def scramMap : List Nat := (List.range 31).map (fun i => (scramStep (2 ^ i)).2)

/-- A linear map of 31 bits applied to a state. -/
def mapScr (m : List Nat) (s : Nat) : Nat :=
  (List.range 31).foldl (fun a i => if bitOf s i then Nat.xor a (m.getD i 0) else a) 0

/-- The state after `n` steps of a map, by repeated squaring; `k` bounds the bits of `n`. -/
def jumpScr : Nat → List Nat → Nat → Nat → Nat
  | 0, _, _, s => s
  | k + 1, m, n, s => jumpScr k (m.map (mapScr m)) (n / 2) (if n % 2 = 1 then mapScr m s else s)

/-- The lanes' states after `units` of PRBS31, 32 bits to a unit and lane. Zero data never leaves a run of 32, so the run
follows from the last two units. -/
def prbsLanes (scr : List Nat) (runs : List LaneRun) (units : Nat) : List Nat × List LaneRun :=
  let k := min units 2
  let before := (List.range 16).map (fun n => jumpScr 40 scramMap (32 * (units - k)) (scrOf scr n))
  (sendLanes before (if units = k then runs else []) (List.replicate (64 * k) 0)).2

end Sys2Proof.Machine
end

