-- ==== Sys2Proof/Machine/Ops.lean ====
section
/-! DEFINITION. The named operations that every meaning uses: register and field access, counters, interrupts, what
leaves a device, the record rings in memory, and the free values. -/

namespace Sys2Proof.Machine

/-! ### Registers (R5, R16) -/

/-- The register of a row that holds address `a`: the address of its first byte, none if no register of it does. -/
def RegRow.start (r : RegRow) (a : Nat) : Option Nat :=
  if a < r.base then none
  else
    let i := if r.n1 ≤ 1 then 0 else (a - r.base) / r.s1
    let o := a - r.base - i * r.s1
    let j := if r.n2 ≤ 1 then 0 else o / r.s2
    if i < r.n1 ∧ j < r.n2 ∧ o - j * r.s2 < r.bytes then some (r.base + i * r.s1 + j * r.s2) else none

/-- The registers of the block of a part that holds an address. -/
def regRows (d : Part) (a : Nat) : List RegRow := match d with | .sw => swRegs (a / 2 ^ 24) | .ep => epRegs (a / 2 ^ 24)

/-- The row that holds address `a`, and the register's own address. -/
def findReg (d : Part) (a : Nat) : Option (RegRow × Nat) :=
  (regRows d a).findSome? (fun r => (r.start a).map (fun b => (r, b)))

/-- The reset value of the register at `a` (zero where the part has none there). -/
def resetWord (d : Part) (a : Nat) : Word :=
  match findReg d a with
  | some (r, _) => BitVec.ofNat 64 r.reset
  | none => 0

/-- A live register's value. -/
def Dev.reg (v : Dev) (a : Nat) : Nat := (SMap.at (resetWord v.part a) v.regs a).toNat

/-- The device with a live register set. -/
def Dev.setReg (v : Dev) (a x : Nat) : Dev :=
  { v with regs := SMap.put (resetWord v.part a) v.regs a (BitVec.ofNat 64 x) }

/-- A field of a live register. -/
def Dev.get (v : Dev) (f : Fld) : Nat := bitsOf (v.reg f.reg) f.hi f.lo

/-- The device with a field of a live register set to the low bits of `x`. -/
def Dev.set (v : Dev) (f : Fld) (x : Nat) : Dev := v.setReg f.reg (setBits (v.reg f.reg) f.hi f.lo x)

/-- A one-bit field as a Boolean. -/
def Dev.on (v : Dev) (f : Fld) : Bool := v.get f == 1

/-- A staged register's value (R16): the live value where nothing has been staged. -/
def Dev.stagedReg (v : Dev) (a : Nat) : Nat :=
  (SMap.at (BitVec.ofNat 64 (v.reg a)) v.staged a).toNat

/-- A field as the Pot would leave it. -/
def Dev.pot (v : Dev) (f : Fld) : Nat := bitsOf (v.stagedReg f.reg) f.hi f.lo

/-! ### Devices of a state -/

/-- One of the two devices. -/
def State.dev (s : State) (d : Part) : Dev := match d with | .sw => s.sw.dev | .ep => s.ep.dev

/-- The state with a device replaced. -/
def State.setDev (s : State) (d : Part) (v : Dev) : State :=
  match d with
  | .sw => { s with sw := { s.sw with dev := v } }
  | .ep => { s with ep := { s.ep with dev := v } }

/-- The state with a device changed. -/
def State.modDev (s : State) (d : Part) (f : Dev → Dev) : State := s.setDev d (f (s.dev d))

/-- A field of a device's live register. -/
def State.get (s : State) (d : Part) (f : Fld) : Nat := (s.dev d).get f

/-- The state with a field of a device's live register set. -/
def State.set (s : State) (d : Part) (f : Fld) (x : Nat) : State := s.modDev d (fun v => v.set f x)

/-- The state after a step at time `t`: the model's clock never runs back (log 4). -/
def State.tick (s : State) (t : Nat) : State := { s with now := max s.now t }

/-- The state with something sent out. -/
def State.emit (s : State) (o : Out) : State := { s with out := s.out ++ [o] }

/-- The state with several things sent out, in order. -/
def State.emits (s : State) (os : List Out) : State := { s with out := s.out ++ os }

/-- The state with one more free value drawn (log 1). -/
def State.draw (s : State) : State := { s with fresh := s.fresh + 1 }

/-- A device's own clock in ns since its power-on reset. -/
def State.time (s : State) (d : Part) : Nat := s.now - (s.dev d).clock0

/-- A device's clock in µs modulo 2^24, as its records hold it. -/
def State.timeUs (s : State) (d : Part) : Nat := s.time d / 1000 % 2 ^ 24

/-! ### Ports, nodes and numbers of things -/

/-- Link ports of a part: 32 at a switch, 4 at an end-point (R14, R363). -/
def linkPorts (d : Part) : Nat := match d with | .sw => 32 | .ep => 4

/-- Ports at which packets arrive: port 32 is the switch's injection point (R109). -/
def inPorts (d : Part) : Nat := match d with | .sw => 33 | .ep => 4

def Dev.port (v : Dev) (p : Nat) : Port := SMap.at Port.initial v.ports p

def Dev.setPort (v : Dev) (p : Nat) (x : Port) : Dev := { v with ports := SMap.put Port.initial v.ports p x }

def Dev.modPort (v : Dev) (p : Nat) (f : Port → Port) : Dev := v.setPort p (f (v.port p))

def State.port (s : State) (d : Part) (p : Nat) : Port := (s.dev d).port p

def State.modPort (s : State) (d : Part) (p : Nat) (f : Port → Port) : State := s.modDev d (fun v => v.modPort p f)

/-- The device's own node id: R106 gives the end-point no register of its own for it, so both parts keep it at the
address of PKT_NODE_ID (log 5). -/
def Dev.node (v : Dev) : Nat := v.get F.PKT_NODE_ID_NODE_ID

/-- The device's step number: MEM_STEP at a switch (R308), EP_STEP at an end-point (R389). -/
def Dev.step (v : Dev) : Nat :=
  match v.part with
  | .sw => v.get F.MEM_STEP_STEP
  | .ep => v.get F.EP_STEP_STEP

/-! ### Counters (R468) and interrupts (R335, R368) -/

/-- The device with counter `i` increased by `n`, modulo 2^48 (R468). -/
def Dev.count (v : Dev) (i n : Nat) : Dev :=
  { v with counters := SMap.put 0 v.counters i ((SMap.at 0 v.counters i + n) % 2 ^ 48) }

/-- The state with a counter of a device increased. -/
def State.count (s : State) (d : Part) (i n : Nat) : State := s.modDev d (fun v => v.count i n)

/-- The switch's PCIe requests have stopped: it is in the fatal state of R419. -/
def State.pcieStopped (s : State) : Bool := s.sw.dev.boot.fatal

/-- An interrupt of the device's owner: an MSI-X vector of PF 0 at a switch, a message on the attach at an end-point. In
the fatal state a switch sends vector 3 only (R419). -/
def State.irq (s : State) (d : Part) (vector : Nat) : State :=
  match d with
  | .sw => if s.pcieStopped && vector != 3 then s else s.emit (.msix 0 vector)
  | .ep => s.emit (.attachInt vector)

/-- A status bit of HIF_ERR set, with PF 0 vector 0 (Table 13.3). -/
def State.hifErr (s : State) (f : Fld) : State := (s.set .sw f 1).irq .sw 0

/-- A status bit of EP_EVENT_STATUS set, with attach vector 0 (Table 14.2). -/
def State.epEvent (s : State) (f : Fld) : State := (s.set .ep f 1).irq .ep 0

/-! ### Landing counters (R148 to R150) -/

/-- The device with landing counter `n` increased by `u` units, modulo 2^48; counter 0 names none (R148). -/
def Dev.land (v : Dev) (n u : Nat) : Dev :=
  if n = 0 then v else v.setReg (A.MEM_LCTR n) ((v.reg (A.MEM_LCTR n) + u) % 2 ^ 48)

def Dev.lctr (v : Dev) (n : Nat) : Nat := v.reg (A.MEM_LCTR n)

/-! ### Records in memory (R511) -/

/-- RESV_TOP in bytes (R281). -/
def Dev.resvTop (v : Dev) : Nat := v.get F.MEM_DRAM_CFG_RESV_TOP * 2 ^ 30

/-- Whether `n` bytes at `a` lie in the memory that a ring of the device may name (R511): LPDDR5X below RESV_TOP, or
accelerator memory that the integrator has reserved. -/
def Dev.placed (v : Dev) (a n : Nat) : Bool :=
  match v.part with
  | .sw => decide (a + n ≤ v.resvTop)
  | .ep => Config.accelReserved a n

/-- The groups set in TEL_WIN_GROUPS. -/
def groupsOf (x : Nat) : List Nat := (List.range 64).filter (fun g => bitOf x g)

/-- Rings in use (R511): the field of the ring's base, a record's size, and the field of LOG2_ENTRIES. -/
def State.rings (s : State) (d : Part) : List (Fld × Nat × Fld) :=
  let v := s.dev d
  let ring (on : Bool) (base : Fld) (size : Nat) (log2 : Fld) : List (Fld × Nat × Fld) := if on then [(base, size, log2)] else []
  ring (v.on F.MEM_RFAULT_CTRL_ENABLE) F.MEM_RFAULT_BASE_BASE 32 F.MEM_RFAULT_CTRL_LOG2_ENTRIES
    ++ ring (v.on F.XLT_FLOG_CTRL_ENABLE) F.XLT_FLOG_BASE_BASE 32 F.XLT_FLOG_CTRL_LOG2_ENTRIES
    ++ ring (v.on F.TEL_WIN_CFG_ENABLE) F.TEL_SNAP_BASE_BASE (64 + 512 * (groupsOf (v.get F.TEL_WIN_GROUPS_GROUPS)).length)
      F.TEL_WIN_CFG_LOG2_ENTRIES
    ++ ring (d == .sw && (List.range 64).any (fun n => v.on (F.SEQ_SAMPLE_CTRL_ENABLE n))) F.SEQ_SAMPLE_BASE_BASE 32
      F.SEQ_SAMPLE_RING_LOG2_ENTRIES

/-- The outcome of appending to a ring: written, or lost. -/
def ringFull (log2 head tail : Nat) : Bool := (head + 1) % 2 ^ log2 == tail % 2 ^ log2

/-- A 32 B record from its number. -/
def rec32 (x : Nat) : List Byte := leBytes 32 x

/-- A remote-fault record appended to the device's ring (R162, Table 6.14), with its interrupt at an end-point
(Table 14.2). -/
def State.rfault (s : State) (d : Part) (r : Nat) : State :=
  let v := s.dev d
  let log2 := v.get F.MEM_RFAULT_CTRL_LOG2_ENTRIES
  let head := v.get F.MEM_RFAULT_HEAD_HEAD
  let tail := v.get F.MEM_RFAULT_TAIL_TAIL
  let a := v.get F.MEM_RFAULT_BASE_BASE * 2 ^ 12 + 32 * head
  if ¬ v.on F.MEM_RFAULT_CTRL_ENABLE then s
  else if ringFull log2 head tail || ! v.placed a 32 then s.set d F.MEM_RFAULT_STATUS_OVERFLOW 1
  else
    let h := (head + 1) % 2 ^ log2
    let v1 := { v with mem := Memory.setBytes v.mem a (rec32 r) }
    let v2 := (v1.set F.MEM_RFAULT_HEAD_HEAD h).set F.MEM_RFAULT_STATUS_PENDING (b2n (h != tail))
    let s1 := s.setDev d v2
    match d with
    | .sw => s1
    | .ep => s1.irq .ep 2

/-- THROTTLE (R454). -/
def State.throttle (s : State) : Nat := s.get .sw F.PWR_CAP_STATUS_THROTTLE

/-- Background work is deferred: THROTTLE is 8 or more (R454). -/
def State.deferred (s : State) : Bool := decide (8 ≤ s.throttle)

/-- The attach runs (R367): some module of it is trained. -/
def State.attachOn (s : State) : Bool := s.get .ep F.EP_UCIE_STATUS_MODULES_UP != 0

/-- A record of a translation fault appended to the device's fault log or queue (R324, R325), without its interrupt. -/
def State.flog (s : State) (d : Part) (r : Nat) : State :=
  let v := s.dev d
  let log2 := v.get F.XLT_FLOG_CTRL_LOG2_ENTRIES
  let head := v.get F.XLT_FLOG_HEAD_HEAD
  let tail := v.get F.XLT_FLOG_TAIL_TAIL
  let a := v.get F.XLT_FLOG_BASE_BASE * 2 ^ 12 + 32 * head
  if ringFull log2 head tail || ! v.placed a 32 then s.set d F.XLT_FLOG_STATUS_OVERFLOW 1
  else
    let h := (head + 1) % 2 ^ log2
    let v1 := { v with mem := Memory.setBytes v.mem a (rec32 r) }
    s.setDev d ((v1.set F.XLT_FLOG_HEAD_HEAD h).set F.XLT_FLOG_STATUS_PENDING (b2n (h != tail)))

end Sys2Proof.Machine
end

