-- ==== Sys2Proof/Machine/Buffers.lean ====
section
/-! DEFINITION. Packets on their way: the well-formed packet (R90), the Strainer (R95), drops and their counts, cells
of the packet buffer (R107 to R112), and the injection point at which a device's own packets enter (R109). -/

namespace Sys2Proof.Machine

/-! ### Headers -/

namespace Op
def READ : Nat := 1
def READ_DATA : Nat := 2
def WRITE : Nat := 3
def ACK : Nat := 4
def AMO : Nat := 5
def AMO_RESULT : Nat := 6
def REDUCE : Nat := 7
def MSG : Nat := 8
def ERROR : Nat := 9
end Op

namespace Code
def OK : Nat := 0
def XLT_FAULT : Nat := 1
def OUT_OF_RANGE : Nat := 2
def QUOTA : Nat := 3
def UNSUPPORTED : Nat := 4
def RESULT_UNKNOWN : Nat := 5
def DEAD_TARGET : Nat := 8
def RELEASE_ABORTED : Nat := 9
def DENIED : Nat := 10
def BAD_REQUEST : Nat := 11
end Code

/-- A request opcode (Table 4.2). -/
def isRequest (op : Nat) : Bool :=
  op == Op.READ || op == Op.WRITE || op == Op.AMO || op == Op.REDUCE || op == Op.MSG

/-- A response opcode (Table 4.2). -/
def isResponse (op : Nat) : Bool :=
  op == Op.READ_DATA || op == Op.ACK || op == Op.AMO_RESULT || op == Op.ERROR

/-- R90. -/
def wellFormed (p : Packet) : Bool :=
  let h := p.hdr
  let pay := h.payUnits.toNat
  let req := h.reqUnits.toNat
  (isRequest h.op || isResponse h.op)
  && (if h.op = Op.READ ∨ h.op = Op.ACK ∨ h.op = Op.ERROR then pay == 0
      else if h.op = Op.AMO_RESULT then pay == 1
      else decide (1 ≤ pay) && decide (pay ≤ 512))
  && (if h.op = Op.READ then decide (1 ≤ req) && decide (req ≤ 512) else req == 0)
  && (if h.op = Op.READ ∨ h.op = Op.WRITE ∨ h.op = Op.REDUCE then
        h.offset.toNat % 16 == 0 && decide (h.offset.toNat % 65536 + h.span ≤ 65536)
      else true)
  && (h.byteEn == 0xFFFF || (h.op == Op.WRITE && pay == 1))
  && (if isRequest h.op then h.status == 0 else decide (h.status.toNat ≤ 5))
  && h.rsv20 == 0 && h.rsv16 == 0
  && p.pay.length == 16 * pay

/-! ### Classes and cells (R107 to R111) -/

def Dev.mode (v : Dev) (p c : Nat) : Nat := v.get (F.SWC_CLASS_A_MODE p c)

def Dev.resv (v : Dev) (p c : Nat) : Nat := v.get (F.SWC_CLASS_A_RESV p c)

/-- The device has found itself declared dead (R429): STATE of TEL_MEMB_STATE is FENCED. It starts nothing that issues a
transaction. -/
def Dev.fenced (v : Dev) : Bool := v.get F.TEL_MEMB_STATE_STATE == 3

/-- The (port, class) pairs of a part. -/
def portClasses (d : Part) : List (Nat × Nat) :=
  (List.range (inPorts d)).flatMap (fun p => (List.range 8).map (fun c => (p, c)))

/-- Cells of the packet buffer (R107), or of the end-point's ingress buffer (R365). -/
def Dev.bufferCells (v : Dev) : Nat :=
  match v.part with
  | .sw => v.get F.MEM_SRAM_PART1_SIZE * 8192
  | .ep => 65536

/-- Free cells of the shared pool (R111). -/
def Dev.sharedFree (v : Dev) : Nat :=
  v.bufferCells - ((portClasses v.part).map (fun pc => v.resv pc.1 pc.2)).sum - v.sharedUsed

def Dev.used (v : Dev) (p c : Nat) : Nat := SMap.at 0 v.resvUsed (8 * p + c)

/-- What charging a packet's cells gives (R110, R111, R509). -/
inductive Charge where
  | ok (resv shared : Nat)
  | classOff
  | creditViol
  | tail
deriving DecidableEq, Repr

/-- Whether class `c` of port `p` is within the grace of R509. -/
def Dev.inGrace (v : Dev) (p c : Nat) : Bool := (v.port p).grace.any (fun g => g.cls == c)

/-- The cells that `n` cells of class `c` take at port `p` (R110, R111, R509). -/
def Dev.charge (v : Dev) (p c n : Nat) : Charge :=
  let free := v.resv p c - v.used p c
  let r := min n free
  let sh := n - r
  if v.mode p c = 1 then
    if sh = 0 then .ok n 0
    else if v.inGrace p c then (if sh ≤ v.sharedFree then .ok r sh else .tail)
    else .creditViol
  else if v.mode p c = 2 then (if sh ≤ v.sharedFree then .ok r sh else .tail)
  else .classOff

/-- The device with cells taken at a pair. -/
def Dev.takeCells (v : Dev) (p c r sh : Nat) : Dev :=
  { v with resvUsed := SMap.put 0 v.resvUsed (8 * p + c) (v.used p c + r), sharedUsed := v.sharedUsed + sh }

/-- A list's entry `i` changed. -/
def listMod {α : Type} (l : List α) (i : Nat) (f : α → α) : List α :=
  (List.range l.length).zipWith (fun k a => if k = i then f a else a) l

/-- The device with a packet's cells freed: they count in C_c of the port they came in by (R63), and a credit-controlled
class then owes its partner an update (R112). A cell that was held when the counts restarted counts too once it is freed
(DESIGN CHOICE, log 42). -/
def Dev.freeCells (v : Dev) (now p c r sh : Nat) : Dev :=
  let v1 := { v with resvUsed := SMap.put 0 v.resvUsed (8 * p + c) (v.used p c - r),
                     sharedUsed := v.sharedUsed - sh }
  if p < linkPorts v.part ∧ 0 < r + sh then
    v1.modPort p (fun q =>
      { q with freed := listMod q.freed c (fun x => (x + r + sh) % 2 ^ 24),
               creditOwed := if v.mode p c = 1 then
                   listMod q.creditOwed c (fun o => match o with | some t => some t | none => some now)
                 else q.creditOwed })
  else v1

/-! ### Drops -/

/-- A packet dropped with a cause of Table 4.11: status bit, PKT_DROP_LAST and the port's counter. Counter indices
exist for link ports only (log 6). Cause 0 is REORDER_FULL. -/
def State.drop (s : State) (d : Part) (p : Nat) (h : PktHdr) (cause : Nat) : State :=
  let s1 := s.modDev d (fun v =>
    let v1 := v.setReg A.PKT_DROP_STATUS (setBits (v.reg A.PKT_DROP_STATUS) cause cause 1)
    if cause = 0 then v1
    else v1.setReg A.PKT_DROP_LAST
      (h.pkey.toNat * 2 ^ 48 + h.keyEpoch.toNat * 2 ^ 40 + h.src.toNat * 2 ^ 28 + h.dst.toNat * 2 ^ 16
        + p * 2 ^ 8 + cause))
  if p < 32 then s1.count d (0x400 + 16 * p + cause) 1 else s1

/-- A packet dropped in the switch core: bit `b` of SWC_EVENT_STATUS and counter 0x708 + `k` (Table 5.12,
Table 18.1). -/
def State.coreDrop (s : State) (d : Part) (b : Fld) (k : Nat) : State := (s.set d b 1).count d (0x708 + k) 1

def State.classOff (s : State) (d : Part) : State := s.coreDrop d F.SWC_EVENT_STATUS_CLASS_OFF 0

/-! ### The Strainer (R95, R96) -/

/-- The lowest-numbered entry not EMPTY whose KEY is the packet's. -/
def Dev.strainerMatch (v : Dev) (p key : Nat) : Option Nat :=
  (List.range 256).find? (fun e => v.get (F.PKT_STRAINER_STATE p e) != 0 && v.get (F.PKT_STRAINER_KEY p e) == key)

/-- The Strainer's answer: the tenant of the matched entry, or the cause of the drop. -/
inductive Strained where
  | pass (tenant : Nat)
  | drop (cause : Nat)
deriving DecidableEq, Repr

/-- The checks of Table 4.4, in order. -/
def Dev.strain (v : Dev) (p : Nat) (pkt : Packet) : Strained :=
  let h := pkt.hdr
  if ! wellFormed pkt then .drop 1
  else if h.pkey = 0 then .drop 2
  else match v.strainerMatch p h.pkey.toNat with
    | none => .drop 3
    | some e =>
      if v.get (F.PKT_STRAINER_STATE p e) ≠ 1 then .drop 4
      else if ¬ (v.get (F.PKT_STRAINER_LIVE_EPOCH p e) = h.keyEpoch.toNat ∨
                 (v.on (F.PKT_STRAINER_PREV_VALID p e) ∧ v.get (F.PKT_STRAINER_PREV_EPOCH p e) = h.keyEpoch.toNat)) then
        .drop 5
      else if ¬ bitOf (v.get (F.PKT_STRAINER_CLASS_MASK p e)) h.cls then .drop 6
      else if v.on (F.PKT_PORT_CFG_SRC_CHECK p) ∧ h.src.toNat ≠ v.get (F.LNK_PARTNER_NODE_ID p) then .drop 7
      else .pass (v.get (F.PKT_STRAINER_TENANT p e))

/-! ### Drain bits (R104) -/

/-- Whether DRAIN is set for a node. -/
def Dev.draining (v : Dev) (n : Nat) : Bool := bitOf (v.reg (A.PKT_DRAIN (n / 64))) (n % 64)

/-! ### The injection point (R109) -/

/-- The index under which a device's own packets wait for their link: port 32 at the switch; the end-point, which has
no port 32, keeps its own packets under the same index, without cells. -/
def ownPort : Nat := 32

/-- Puts a packet on the injection queue with the cells it is charged. -/
def Dev.pushOwn (v : Dev) (now : Nat) (pkt : Packet) (tenant resv shared : Nat) : Dev :=
  v.modPort ownPort (fun q => { q with arrived := q.arrived ++ [⟨pkt, tenant, resv, shared, now⟩] })

/-- Whether port 32 has room for a packet now (an end-point always has). -/
def Dev.ownRoom (v : Dev) (h : PktHdr) : Bool :=
  match v.part with
  | .ep => true
  | .sw => match v.charge ownPort h.cls (cellsOf h) with | .ok _ _ => true | _ => false

/-- A class that is disabled at port 32 takes nothing in (R110). -/
def Dev.ownOff (v : Dev) (h : PktHdr) : Bool := v.part == .sw && v.mode ownPort h.cls != 1 && v.mode ownPort h.cls != 2

/-- The device with a packet of its own taken in; there must be room. -/
def Dev.inject (v : Dev) (now : Nat) (pkt : Packet) (tenant : Nat) : Dev :=
  match v.part with
  | .ep => v.pushOwn now pkt tenant 0 0
  | .sw =>
    match v.charge ownPort pkt.hdr.cls (cellsOf pkt.hdr) with
    | .ok r sh => (v.takeCells ownPort pkt.hdr.cls r sh).pushOwn now pkt tenant r sh
    | _ => v

/-- The reissue timer of a reissue runs from the moment it goes in (R144). -/
def Dev.issuedAt (v : Dev) (now : Nat) (h : PktHdr) : Dev :=
  if isRequest h.op then
    { v with txns := v.txns.map (fun (t : Txn) => if t.id = h.txn then { t with issueAt := now } else t) }
  else v

/-- Whether a packet that waits for port 32 is the reissue of a transaction that is over: it is not sent (R145). -/
def Dev.lapsed (v : Dev) (h : PktHdr) : Bool := isRequest h.op && ! v.txns.any (fun t => t.id == h.txn)

/-- Responses and reissues that wait for room go in, oldest first, as far as there is room. A response in a class that is
disabled at port 32 is not taken in: it sets and counts CLASS_OFF, and its source reissues (R110, log 7). A reissue in such a
class is turned away as soon as the class is disabled (State.turnAway). -/
def drainOutbox (now : Nat) : List (Packet × Nat) → Dev → Dev
  | [], v => { v with outbox := [] }
  | (pkt, tenant) :: rest, v =>
    if v.lapsed pkt.hdr then drainOutbox now rest v
    else if v.ownOff pkt.hdr then
      drainOutbox now rest ((v.set F.SWC_EVENT_STATUS_CLASS_OFF 1).count 0x708 1)
    else if v.ownRoom pkt.hdr then drainOutbox now rest ((v.issuedAt now pkt.hdr).inject now pkt tenant)
    else { v with outbox := (pkt, tenant) :: rest }

/-- A response leaves the target, or a reissue its source: it is injected, or waits for room at port 32 behind those that
came before it (R109). -/
def State.respond (s : State) (d : Part) (pkt : Packet) (tenant : Nat) : State :=
  s.modDev d (fun v => drainOutbox s.now (v.outbox ++ [(pkt, tenant)]) v)

/-- The response to a request (R89): nodes swapped, HOPS again zero, and the fields R89 repeats. -/
def responseTo (h : PktHdr) (op status : Nat) (pay : List Byte) : Packet :=
  { hdr := { PktHdr.blank with
      dst := h.src, src := h.dst, offset := h.offset, pkey := h.pkey, keyEpoch := h.keyEpoch, tc := h.tc,
      channel := h.channel, txn := h.txn, ordered := h.ordered, stepTag := h.stepTag,
      opcode := BitVec.ofNat 8 op, status := BitVec.ofNat 4 status,
      opArg := if op = Op.AMO_RESULT then h.opArg else 0,
      lctr := if op = Op.READ_DATA then h.lctr else 0,
      payUnits := BitVec.ofNat 10 (pay.length / 16) },
    pay := pay }

end Sys2Proof.Machine
end

