-- ==== Sys2Proof/Machine/Faults.lean ====
section
/-! DEFINITION. What an uncorrectable error does at once (R416), and the EVENTs of the management port (R360, R441). -/

namespace Sys2Proof.Machine

/-- The low `n` bytes of a number, most significant first (network byte order). -/
def beBytes (n x : Nat) : List Byte := (leBytes n x).reverse

/-- The number that a byte string in network byte order holds. -/
def ofBe (bs : List Byte) : Nat := ofLe bs.reverse

/-- A management header (Table 13.12). -/
def mgmtHdr (type seq len node status : Nat) : BitVec 128 :=
  BitVec.ofNat 128 (0xB51A * 2 ^ 112 + 1 * 2 ^ 104 + type % 256 * 2 ^ 96 + seq % 2 ^ 32 * 2 ^ 64
    + len % 65536 * 2 ^ 48 + node % 4096 * 2 ^ 32 + status % 256 * 2 ^ 24)

/-- The management port is in service (HIF_MGMT_CTRL). -/
def State.mgmtOn (s : State) : Bool := (s.dev .sw).on F.HIF_MGMT_CTRL_ENABLE

def State.modHif (s : State) (f : Hif → Hif) : State := { s with sw := { s.sw with hif := f s.sw.hif } }

/-! ### Datagrams at the management port (R358, R360) -/

/-- A field of the management header (Table 13.12). -/
def mh (h : BitVec 128) (hi lo : Nat) : Nat := bitsOf h.toNat hi lo

/-- R358. -/
def State.mgmtTakes (s : State) (r : MgmtReq) : Bool :=
  let v := s.dev .sw
  let ctl := if r.v6 then v.reg (A.HIF_MGMT_IP6 2) * 2 ^ 64 + v.reg (A.HIF_MGMT_IP6 3) else v.get F.HIF_MGMT_IP4_CONTROLLER
  (if r.v6 then v.on F.HIF_MGMT_CTRL_IP6_EN else v.on F.HIF_MGMT_CTRL_IP4_EN)
  && r.port == v.get F.HIF_MGMT_CFG_UDP_PORT && r.src == ctl && mh r.hdr 127 112 == 0xB51A && mh r.hdr 111 104 == 1
  && (mh r.hdr 43 32 == v.node || mh r.hdr 43 32 == 0xFFF)
  && mh r.hdr 63 48 == r.body.length && decide (r.body.length ≤ 1436)

/-- A datagram at the port in service: one that R358 does not accept is dropped. -/
def State.ifTakes (s : State) (r : MgmtReq) (go : State → State) : State :=
  if ! s.mgmtOn || s.get .sw F.CFG_BOOT_STATUS_STAGE == 0xF then s
  else if ! s.mgmtTakes r then (s.hifErr F.HIF_ERR_MGMT_DROP).count .sw 0xC9B 1
  else go s

/-- A request: one that repeats a SEQ kept for its source receives the kept reply again (R360). -/
def State.datagram (s : State) (r : MgmtReq) (go : State → State) : State :=
  s.ifTakes r (fun s =>
    match s.sw.hif.replies.find? (fun k => k.src == r.src && k.seq == mh r.hdr 95 64) with
    | some k => s.emits k.out
    | none => go s)

/-- A reply is sent, and kept with the 64 latest. -/
def State.mgmtReply (s : State) (r : MgmtReq) (os : List Out) : State :=
  (s.emits os).modHif (fun q => { q with
    replies := (q.replies ++ [(⟨r.src, mh r.hdr 95 64, os⟩ : KeptReply)]).drop (q.replies.length + 1 - 64) })

/-- An EVENT to the rack controller (R360, R441): kept until its reply, and sent once now. -/
def State.event (s : State) (kind arg node : Nat) : State :=
  let v := s.dev .sw
  let body := beBytes 1 kind ++ beBytes 1 arg ++ beBytes 2 0 ++ beBytes 4 (v.get F.TEL_MEMB_STATE_EPOCH)
    ++ beBytes 4 v.step ++ beBytes 2 node ++ beBytes 2 0
  let n := s.sw.hif.nextEvent
  let s1 := { s with sw := { s.sw with hif := { s.sw.hif with
    nextEvent := (n + 1) % 2 ^ 32, events := s.sw.hif.events ++ [⟨n, body, 1, s.now⟩] } } }
  if s.mgmtOn then s1.emit (.mgmt (mgmtHdr 0x40 n 16 v.node 0) body) else s1

/-- Membership and fault events raise vector 3 of either part (Table 13.3, Table 14.2). -/
def State.faultIrq (s : State) (d : Part) : State := s.irq d 3

/-- An uncorrectable error found in unit `u` at address `a` (R416): status bit, place, interrupt and counter. -/
def State.ue (s : State) (d : Part) (u a : Nat) : State :=
  let s1 := s.modDev d (fun v =>
    ((v.set F.TEL_FAULT_STATUS_UE 1).setReg A.TEL_UE_LAST (u * 2 ^ 60 + a % 2 ^ 48)))
  (s1.count d (0xC20 + u) 1).faultIrq d

/-- A correctable error found in unit `u` (Table 16.1): corrected, counted, CE set. -/
def State.ce (s : State) (d : Part) (u n : Nat) : State :=
  (s.set d F.TEL_FAULT_STATUS_CE 1).count d (0xC10 + u) n

/-- An access that completes without effect (R8, R334): reported for PF 0 in HIF_ERR and HIF_BAD_ACCESS, for a VF in its
HIF_VF_STATUS. The end-point reports none. -/
def State.badAccess (s : State) (d : Part) (fn addr : Nat) (write : Bool) : State :=
  match d with
  | .ep => s
  | .sw =>
    if fn = 0 then
      (s.modDev .sw (fun v => v.setReg A.HIF_BAD_ACCESS (b2n write * 2 ^ 55 + addr % 2 ^ 28))).hifErr F.HIF_ERR_BAD_REG
    else s.set .sw (F.HIF_VF_STATUS_BAD_REG fn) 1

/-- Confidential mode is on (SEC_MODE). -/
def State.conf (s : State) : Bool := s.get .sw F.SEC_MODE_CONF == 1

end Sys2Proof.Machine
end

