-- ==== Sys2Proof/Machine/Chan.lean ====
section
/-! DEFINITION. The channel table's entries (R337, R338), the channel cache (R339, R340) and the admission buckets
(R117, R377, R510). -/

namespace Sys2Proof.Machine

/-- Word `k` of a channel-table entry (Table 13.4). -/
def chanWord (raw k : Nat) : Nat := raw / 2 ^ (64 * k) % 2 ^ 64

/-- The fields of a channel-table entry. -/
structure Chan where
  ordered : Bool
  cacheable : Bool
  promised : Bool
  tc : Nat
  tenant : Nat
  pkey : Nat
  gen : Nat
  rate : Nat
  burst : Nat
  rbound : Nat
deriving DecidableEq, Repr

/-- Table 13.4. -/
def chanOf (raw : Nat) : Chan :=
  let w0 := chanWord raw 0
  let w1 := chanWord raw 1
  { ordered := bitOf w0 62, cacheable := bitOf w0 61, promised := bitOf w0 60, tc := bitsOf w0 59 57,
    tenant := bitsOf w0 56 51, pkey := bitsOf w0 50 35, gen := bitsOf w0 34 27, rate := bitsOf w1 63 45,
    burst := bitsOf w1 44 27, rbound := bitsOf (chanWord raw 2) 31 0 }

/-- Whether an entry is open (R338, R119). -/
def chanOpen (raw : Nat) : Bool :=
  let c := chanOf raw
  bitOf (chanWord raw 0) 63 && bitsOf (chanWord raw 0) 26 0 == 0 && bitsOf (chanWord raw 1) 26 0 == 0
  && raw / 2 ^ 192 % 2 ^ 832 == 0
  && (! c.promised || (c.rate != 0 && decide (8256 ≤ c.burst * 64) && c.rbound != 0))

/-- Entries of the channel table: a channel id of COUNT or more is not open (R336). -/
def Dev.chanCount (v : Dev) : Nat :=
  match v.part with
  | .sw => v.get F.HIF_CHAN_CFG_COUNT
  | .ep => v.get F.EP_CHAN_CFG_COUNT

/-- Entries that the channel cache holds (R339, Table 14.1). -/
def chanCap (d : Part) : Nat := match d with | .sw => 32768 | .ep => 8192

/-- What using a channel gives. -/
inductive ChanUse where
  | closed
  | miss
  | entry (raw : Nat)
deriving DecidableEq, Repr

/-- A use of a channel (R339): an entry in the cache becomes the most recently used; a miss starts a fetch; a fetch
that failed makes the channel not open for one use. -/
def State.useChan (s : State) (d : Part) (c : Nat) : ChanUse × State :=
  let v := s.dev d
  if v.chanCount ≤ c then (.closed, s)
  else if v.chanBad.contains c then (.closed, s.setDev d { v with chanBad := v.chanBad.erase c })
  else match v.chans.find? (fun e => e.chan == c) with
    | some e =>
      let s1 := s.setDev d { v with chans := e :: v.chans.filter (fun x => x.chan != c) }
      if chanOpen e.raw then (.entry e.raw, s1) else (.closed, s1)
    | none =>
      if v.chanMiss.contains c then (.miss, s)
      else (.miss, (s.setDev d { v with chanMiss := v.chanMiss ++ [c] }).count d 0xC9A 1)

/-- An entry of channel `c` is loaded with a GEN (R341): where it differs from the one under which the channel's flows were
numbered, every flow of the channel starts again at zero. -/
def Dev.loadGen (v : Dev) (c gen : Nat) : Dev :=
  { v with
    gens := SMap.put none v.gens c (some gen)
    flows := if SMap.at none v.gens c = some gen then v.flows
      else v.flows.map (fun f => if f.chan = c then { f with next := 0 } else f) }

/-- CHANNEL_FETCH (R339): the entry comes from the table, or the read fails (`ecc` bad). `host` is the entry that host memory
gives when LOCATION is 1; otherwise the table lies in the device's own memory, in a switch's LPDDR5X below RESV_TOP. -/
def State.chanFetched (s : State) (d : Part) (c : Nat) (ecc : Ecc) (host : BitVec 1024) : State :=
  let v := s.dev d
  if ! v.chanMiss.contains c then s
  else
    let v1 := { v with chanMiss := v.chanMiss.erase c }
    let inHost := d == .sw && v.on F.HIF_CHAN_BASE_LOCATION
    let base := match d with
      | .sw => v.get F.HIF_CHAN_BASE_BASE * 2 ^ 12
      | .ep => v.get F.EP_CHAN_BASE_BASE * 2 ^ 12
    if ecc ≠ .bad then
      let s := if inHost then s.count .sw 0xC99 128 else if d = .sw ∧ ecc = .fixed then s.ce .sw 8 1 else s
      let v := s.dev d
      let v1 := { v with chanMiss := v.chanMiss.erase c }
      let raw := if inHost then host.toNat else Memory.num v.mem (base + 128 * c) 128
      let v2 := v1.loadGen c (chanOf raw).gen
      s.setDev d { v2 with chans := (⟨c, raw⟩ :: v1.chans).take (chanCap d) }
    else
      let s1 := s.setDev d { v1 with chanBad := v1.chanBad ++ [c] }
      match d with
      -- a table in the switch's own LPDDR5X fails only by an uncorrectable word (R339, R416)
      | .sw => (if inHost then s1 else s1.ue .sw 8 (base + 128 * c)).hifErr F.HIF_ERR_CHAN_FETCH_ERR
      | .ep => s1.epEvent F.EP_EVENT_STATUS_CHAN_FETCH_ERR

/-! ### Admission buckets -/

/-- Whether a packet of a channel is waiting or outstanding at the device. -/
def Dev.chanBusy (v : Dev) (c : Nat) : Bool :=
  v.pends.any (fun p => p.pkt.hdr.channel.toNat == c) || v.txns.any (fun t => t.pkt.hdr.channel.toNat == c)
  || v.releases.any (fun r => r.pend.pkt.hdr.channel.toNat == c)

/-- Buckets of invalidated channels with no packet outstanding return to the free pool (R377): a request that has read its
entry and bucket keeps the bucket until it completes (Table 14.6). -/
def Dev.purgeBuckets (v : Dev) : Dev :=
  { v with buckets := v.buckets.filter (fun b => ! b.gone || v.chanBusy b.chan || v.claims.any (fun x => x.2 == b.id)) }

/-- The bucket of a PROMISED channel, taken full at the first use after an invalidation; none when no bucket is free. -/
def Dev.bucketFor (v : Dev) (now c : Nat) (ch : Chan) : Option (Nat × Dev) :=
  let v := v.purgeBuckets
  match v.buckets.find? (fun b => b.chan == c && ! b.gone) with
  | some b => some (b.id, v)
  | none =>
    if 4096 ≤ v.buckets.length then none
    else some (v.nextBucket,
      { v with nextBucket := v.nextBucket + 1,
               buckets := v.buckets ++ [⟨v.nextBucket, c, ch.burst * 64 * 1000, now, false⟩] })

/-- A bucket's tokens at a time, for a contract of `rate` MB/s and `burst` units of 64 B (R117). -/
def Bucket.tokensAt (b : Bucket) (now rate burst : Nat) : Nat :=
  min (burst * 64 * 1000) (b.tokens + rate * (now - b.at_))

/-- The line cost of a request's response (R117). -/
def responseCost (h : PktHdr) : Nat :=
  if h.op = Op.READ then 64 * ceilDiv (32 + 16 * h.reqUnits.toNat + 24) 64
  else if h.op = Op.AMO then 128 else 64

/-- A packet's charge: the larger of its own line cost and its response's (R117), in thousandths of a byte. -/
def admitCost (h : PktHdr) : Nat := 1000 * max (lineCost h) (responseCost h)

/-! ### Invalidation (R340) -/

/-- The entries of channels `first` to `first + count − 1` below the table's COUNT leave the cache, and their buckets are
marked (R340, R377). -/
def Dev.invChans (v : Dev) (first count : Nat) : Dev :=
  let inv (c : Nat) : Bool := decide (first ≤ c) && decide (c < first + count) && decide (c < v.chanCount)
  ({ v with chans := v.chans.filter (fun (e : ChanEnt) => ! inv e.chan),
            chanBad := v.chanBad.filter (fun (c : Nat) => ! inv c),
            buckets := v.buckets.map (fun (b : Bucket) => if inv b.chan = true then { b with gone := true } else b)
          }).purgeBuckets

/-- A write to HIF_CHAN_INV or EP_CHAN_INV (R340). -/
def State.chanInvWrite (s : State) (d : Part) (w : Nat) : State :=
  let count := bitsOf w 40 20
  let pending := match d with | .sw => F.HIF_CHAN_INV_STATUS_PENDING | .ep => F.EP_CHAN_INV_STATUS_PENDING
  let busy := match d with | .sw => F.HIF_CHAN_INV_STATUS_BUSY_REFUSED | .ep => F.EP_CHAN_INV_STATUS_BUSY_REFUSED
  if count = 0 then s
  else if (s.dev d).chanInv.isSome then s.set d busy 1
  else (s.modDev d (fun v => { v with chanInv := some (bitsOf w 19 0, count) })).set d pending 1

/-- The invalidation completes (R340): no use that starts afterwards sees the old entries. -/
def State.chanInvDone (s : State) (d : Part) : State :=
  let pending := match d with | .sw => F.HIF_CHAN_INV_STATUS_PENDING | .ep => F.EP_CHAN_INV_STATUS_PENDING
  match (s.dev d).chanInv with
  | none => s
  | some (f, n) => (s.modDev d (fun v => { v.invChans f n with chanInv := none })).set d pending 0

end Sys2Proof.Machine
end

