-- ==== Sys2Proof/Machine/Tiers.lean ====
section
/-! DEFINITION. The store of a switch (spec/11): quotas, placement and making room (R284 to R288), migration and
demotion (R289 to R291), step-versioned writes (R303 to R306) and the access to a store tile. -/

namespace Sys2Proof.Machine

/-! ### Byte ranges -/

/-- The memory with `n` bytes from `a` on zero (unlisted). -/
def Memory.clear (m : Memory) (a n : Nat) : Memory := m.filter (fun c => ! (decide (a ≤ c.1) && decide (c.1 < a + n)))

/-- The `n` bytes at `a` of `src` copied to `b` of `dst`. -/
def Memory.copy (src : Memory) (a n : Nat) (dst : Memory) (b : Nat) : Memory :=
  (src.filter (fun c => decide (a ≤ c.1) && decide (c.1 < a + n))).foldr
    (fun c m => Memory.setByte m (c.1 - a + b) c.2) (Memory.clear dst b n)

/-- Bytes of a tile. -/
def tileBytes : Nat := 65536

/-! ### The directory -/

def State.tiers (s : State) : Tiers := s.sw.tiers

def State.modTiers (s : State) (f : Tiers → Tiers) : State := { s with sw := { s.sw with tiers := f s.sw.tiers } }

def Tiers.tile (x : Tiers) (t : Nat) : Tile := SMap.at Tile.unmapped x.dir t

def State.tile (s : State) (t : Nat) : Tile := s.tiers.tile t

def State.setTile (s : State) (t : Nat) (x : Tile) : State :=
  s.modTiers (fun y => { y with dir := SMap.put Tile.unmapped y.dir t x })

def State.modTile (s : State) (t : Nat) (f : Tile → Tile) : State := s.setTile t (f (s.tile t))

/-- A directory entry's 128 bits (Table 11.3). -/
def Tile.bits (x : Tile) : Nat :=
  x.tenant * 2 ^ 122 + x.tier * 2 ^ 120 + x.home * 2 ^ 118 + x.floor * 2 ^ 116 + b2n x.mapped * 2 ^ 115
  + b2n x.stepver * 2 ^ 114 + b2n x.pinned * 2 ^ 113 + b2n x.dirty * 2 ^ 112 + b2n x.backed * 2 ^ 111
  + b2n x.shadow * 2 ^ 110 + b2n x.accessed * 2 ^ 109 + b2n x.migrating * 2 ^ 108 + b2n x.lost * 2 ^ 107
  + b2n x.shadowDirty * 2 ^ 106 + x.shadowStep % 256 * 2 ^ 96 + x.shadowLoc % 2 ^ 32 * 2 ^ 64
  + x.loc % 2 ^ 32 * 2 ^ 32 + x.stripe % 2 ^ 32

def State.dirTiles (s : State) : Nat := s.get .sw F.MEM_DIR_TILES_TILES

/-- The directory as it lies in the switch's memory: the entry of tile `t` at DIR_BASE + 16 × `t` (R283). -/
def State.writeDir (s : State) : State :=
  let base := s.get .sw F.MEM_DIR_BASE_BASE * 65536
  let n := s.dirTiles
  let put (m : Memory) : Memory :=
    (s.tiers.dir.filter (fun e => decide (e.1 < n))).foldl (fun m e => Memory.setNum m (base + 16 * e.1) 16 e.2.bits)
      (Memory.clear m base (16 * n))
  if n = 0 then s else s.modDev .sw (fun v => { v with mem := put v.mem })

/-! ### Quotas (R286, R287). Tiers are numbered as TIER is: 1 HOT, 2 DRAM, 3 CADDY. -/

def tierUse (tier t : Nat) : Fld :=
  if tier = 1 then F.MEM_QUOTA_B_HOT_USE t else if tier = 2 then F.MEM_QUOTA_B_DRAM_USE t else F.CDY_QUOTA_B_USE t

def tierQuota (tier t : Nat) : Fld :=
  if tier = 1 then F.MEM_QUOTA_A_HOT_TILES t else if tier = 2 then F.MEM_QUOTA_A_DRAM_TILES t
  else F.CDY_QUOTA_A_TILES t

def State.chargeTile (s : State) (tier t : Nat) : State := s.set .sw (tierUse tier t) (s.get .sw (tierUse tier t) + 1)

def State.uncharge (s : State) (tier t : Nat) : State := s.set .sw (tierUse tier t) (s.get .sw (tierUse tier t) - 1)

def State.quotaFree (s : State) (tier t : Nat) : Bool :=
  decide (s.get .sw (tierUse tier t) < s.get .sw (tierQuota tier t))

/-- Caddy takes demotions: it is READY, and its quotas sum to no more than LOGICAL_TILES (R299). -/
def State.caddyTakes (s : State) : Bool :=
  s.get .sw F.CDY_STATUS_STATE == 2
  && decide (((List.range 64).map (fun t => s.get .sw (F.CDY_QUOTA_A_TILES t))).sum
      ≤ s.get .sw F.CDY_CAP_LOGICAL_TILES)

/-! ### Places -/

/-- The first place of a tier and how many it has, in 64 KiB units: HOT in bonded SRAM, DRAM from RESV_TOP. -/
def State.tierSpan (s : State) (tier : Nat) : Nat × Nat :=
  if tier = 1 then (s.get .sw F.MEM_SRAM_PART3_BASE * 32, s.get .sw F.MEM_SRAM_PART3_SIZE * 32)
  else (s.get .sw F.MEM_DRAM_CFG_RESV_TOP * 16384, 16777216 - s.get .sw F.MEM_DRAM_CFG_RESV_TOP * 16384)

/-- Places in use in a tier: current copies, shadows, destinations of moves, and what is not reclaimed. -/
def Tiers.places (x : Tiers) (tier : Nat) : List Nat :=
  (x.dir.filter (fun e => e.2.tier == tier)).map (fun e => e.2.loc)
  ++ (if tier = 2 then (x.dir.filter (fun e => e.2.shadow || e.2.copying)).map (fun e => e.2.shadowLoc) else [])
  ++ (x.moves.filter (fun m => m.to_ == tier)).map (fun m => m.loc)
  ++ (x.kept.filter (fun e => e.1 == tier)).map (fun e => e.2)

/-- The first free place at or after offset `k` of a span, going round. -/
def firstFree (used : List Nat) (base n : Nat) : Nat → Nat → Nat
  | 0, k => base + k % n
  | f + 1, k => if used.contains (base + k % n) then firstFree used base n f (k + 1) else base + k % n

/-- A free place of a tier; which one the switch takes is not specified (a free value among the free places, log 1). -/
def State.pickPlace (s : State) (tier : Nat) : Nat × State :=
  let used := s.tiers.places tier
  let sp := s.tierSpan tier
  (firstFree used sp.1 sp.2 (used.length + 1) (Config.choice s.fresh), s.draw)

/-! ### Moves (R289 to R291) -/

/-- The move of a tile, if one is under way. A write-back moves nothing. -/
def State.moveOf (s : State) (t : Nat) : Option Move :=
  s.tiers.moves.find? (fun m => m.tile == t && m.kind != .writeback)

/-- The write-back of a tile, if one is under way. -/
def State.wbOf (s : State) (t : Nat) : Option Move := s.tiers.moves.find? (fun m => m.tile == t && m.kind == .writeback)

/-- A demotion or write-back of a tile whose stripe has been programmed. -/
def State.flashOf (s : State) (t : Nat) : Option Move :=
  s.tiers.moves.find? (fun m => m.tile == t && (m.kind == .demote || m.kind == .writeback) && m.stripe.isSome)

/-- A tile's move of a kind is over. -/
def State.endMove (s : State) (t : Nat) (k : MoveKind) : State :=
  s.modTiers (fun x => { x with moves := x.moves.filter (fun m => m.tile != t || m.kind != k) })

/-- A migration or promotion starts: the destination is allocated and charged, MIGRATING is set. -/
def State.startMove (s : State) (t tier : Nat) (k : MoveKind) : State :=
  let x := s.tile t
  let pl := s.pickPlace tier
  ((pl.2.chargeTile tier x.tenant).modTile t (fun y => { y with migrating := true })).modTiers
    (fun y => { y with moves := y.moves ++ [⟨t, k, tier, pl.1, none, true⟩] })

/-- A tile, or a stripe to be rewritten, joins the write buffer (R298). -/
def Caddy.push (c : Caddy) (now : Nat) (b : BufSlot) : Caddy := { c with page := c.page ++ [(b, now)] }

def Caddy.buffer (c : Caddy) (now t : Nat) (wb : Bool) : Caddy := c.push now (.tile t wb)

/-- A tile's slot in the write buffer becomes padding. -/
def Caddy.unbuffer (c : Caddy) (t : Nat) (wb : Bool) : Caddy :=
  { c with page := c.page.map (fun e => if e.1 = .tile t wb then (.pad, e.2) else e) }

def State.modCaddy (s : State) (f : Caddy → Caddy) : State := s.modTiers (fun x => { x with caddy := f x.caddy })

/-- A stripe of a tile becomes stale: its content is never read again (R298). -/
def State.dropStripe (s : State) (n t : Nat) : State :=
  s.modCaddy (fun c =>
    match SMap.at none c.stripes n with
    | none => c
    | some st => if st.tile = t then { c with stripes := SMap.put none c.stripes n (some { st with valid := false }) } else c)

/-- A demotion or write-back is given up: a stripe programmed for it is stale, and its charge is released. -/
def State.undoFlash (s : State) (m : Move) : State :=
  let t := m.tile
  let s1 := (match m.stripe with | some n => s.dropStripe n t | none => s).endMove t m.kind
  let s2 := if m.charged then s1.uncharge 3 (s.tile t).tenant else s1
  let s3 := if m.kind = .demote then s2.modTile t (fun y => { y with migrating := false }) else s2
  s3.modCaddy (fun c => c.unbuffer t (m.kind == .writeback))

/-- Slots of the 64 MiB write buffer (R298). -/
def bufSlots : Nat := 1024

/-- A tile's bytes are copied into the write buffer at CDY_BUF_BASE (R291, R298): its slots are taken in turn (log 49). -/
def State.copyToBuffer (s : State) (src : Memory) (a : Nat) : State :=
  let at_ := s.get .sw F.CDY_BUF_BASE_BASE * tileBytes + s.tiers.caddy.ring % bufSlots * tileBytes
  (s.modDev .sw (fun v => { v with mem := Memory.copy src a tileBytes v.mem at_ })).modCaddy (fun c => { c with ring := c.ring + 1 })

/-- A tile joins the write buffer for a demotion or a write-back; a tile without a backing stripe is charged for one. -/
def State.startFlash (s : State) (t : Nat) (k : MoveKind) : State :=
  let x := s.tile t
  let s1 := if x.backed then s else s.chargeTile 3 x.tenant
  ((s1.modTiers (fun y => { y with moves := y.moves ++ [⟨t, k, 3, 0, none, ! x.backed⟩] })).modCaddy
    (fun c => c.buffer s.now t (k == .writeback))).copyToBuffer s.tiers.data (t * tileBytes)

/-- A tile's DRAM copy is gone, and its stripe is its only copy (R291). -/
def State.toCaddy (s : State) (t : Nat) : State :=
  let x := s.tile t
  ((s.uncharge x.tier x.tenant).modTile t (fun y => { y with tier := 3, loc := 0 })).modTiers
    (fun y => { y with data := Memory.clear y.data (t * tileBytes) tileBytes })

/-- A demotion from DRAM to Caddy (R291): none if Caddy takes no more of the tenant's tiles. -/
def State.startDemote (s : State) (t : Nat) : Option State :=
  let x := s.tile t
  if ! s.caddyTakes then none
  else if x.backed && ! x.dirty then
    some ((s.toCaddy t).count .sw 0xC05 1)
  else if x.backed || s.quotaFree 3 x.tenant then
    some ((s.modTile t (fun y => { y with migrating := true })).startFlash t .demote)
  else none

/-- A demotion to Caddy that is under way is given up. -/
def State.giveUpDemote (s : State) (t : Nat) : State :=
  match s.moveOf t with
  | some m => if m.kind = .demote then s.undoFlash m else s
  | none => s

/-- A stripe that a tile's write-back or demotion has programmed is not to be used: the tile joins the write buffer again. -/
def State.reflash (s : State) (m : Move) : State :=
  match m.stripe with
  | none => s
  | some n =>
    ((s.dropStripe n m.tile).modTiers (fun x => { x with
      moves := x.moves.map (fun y => if y = m then { y with stripe := none } else y) })).modCaddy
        (fun c => c.buffer s.now m.tile (m.kind == .writeback))

/-- A write to a tile that is being demoted cancels the demotion (R291): a new stripe is discarded, and the charge for
it. A write to a tile that is being written back programs the tile again (log 8). -/
def State.cancelDemote (s : State) (t : Nat) : State :=
  let s1 := s.giveUpDemote t
  match s1.wbOf t with
  | some m => s1.reflash m
  | none => s1

/-! ### Making room (R288) -/

/-- R288: whether a tile may be demoted out of its tier. -/
def Tile.eligible (x : Tile) : Bool :=
  ! x.migrating && ! x.shadow && ! x.copying && decide (x.tier + 1 ≤ x.floor) && (x.tier != 2 || ! x.pinned)

/-- One pass of the clock: the tiles passed have ACCESSED cleared; the first eligible tile with ACCESSED clear is the
victim. -/
def sweep : List (Nat × Tile) → List Nat × Option Nat
  | [] => ([], none)
  | (t, x) :: l =>
    if x.eligible && ! x.accessed then ([], some t)
    else
      let r := sweep l
      (t :: r.1, r.2)

/-- The tenant's tiles in a tier, in tile order from a position on, going round (log 9). -/
def Tiers.ring (x : Tiers) (tier tenant hand : Nat) : List (Nat × Tile) :=
  let l := x.dir.filter (fun e => e.2.tier == tier && e.2.tenant == tenant && e.2.mapped)
  l.filter (fun e => decide (hand ≤ e.1)) ++ l.filter (fun e => decide (e.1 < hand))

/-- The clock sweep over a tenant's tiles in a tier: the victim and the state after the sweep; none if no tile is
eligible. -/
def State.victim (s : State) (tier tenant : Nat) : Option (Nat × State) :=
  let hand := SMap.at 0 s.tiers.hands (tier * 64 + tenant)
  let l := s.tiers.ring tier tenant hand
  if ! l.any (fun e => e.2.eligible) then none
  else
    let r := sweep (l ++ l.map (fun e => (e.1, { e.2 with accessed := false })))
    match r.2 with
    | none => none
    | some t =>
      let s1 := r.1.foldl (fun a k => a.modTile k (fun y => { y with accessed := false })) s
      some (t, s1.modTiers (fun y => { y with hands := SMap.put 0 y.hands (tier * 64 + tenant) (t + 1) }))

/-- What asking for room gives: room now, a tile whose move makes it, or no room. -/
inductive Room where
  | yes (s : State)
  | wait (s : State) (t : Nat)
  | no

/-- Room in DRAM for one more tile of a tenant. -/
def State.roomDram (s : State) (tenant : Nat) : Room :=
  if s.quotaFree 2 tenant then .yes s
  else match s.tiers.moves.find? (fun m => m.kind == .demote && (s.tile m.tile).tenant == tenant) with
    | some m => .wait s m.tile
    | none =>
      match s.victim 2 tenant with
      | none => .no
      | some (t, s1) =>
        match s1.startDemote t with
        | none => .no
        | some s2 => if (s2.tile t).tier = 3 then .yes s2 else .wait s2 t

/-- The hot tile that a tenant's sweep has chosen, or that it chooses now: one that waits for room below stays the
victim while it is eligible. -/
def State.hotVictim (s : State) (tenant : Nat) : Option (Nat × State) :=
  match SMap.at none s.tiers.chosen tenant with
  | some t =>
    if (s.tile t).tier = 1 ∧ (s.tile t).tenant = tenant ∧ (s.tile t).eligible then some (t, s) else s.victim 1 tenant
  | none => s.victim 1 tenant

/-- Room in HOT for one more tile of a tenant. -/
def State.roomHot (s : State) (tenant : Nat) : Room :=
  let choose (s : State) (o : Option Nat) : State :=
    s.modTiers (fun y => { y with chosen := SMap.put none y.chosen tenant o })
  if s.quotaFree 1 tenant then .yes s
  else match s.tiers.moves.find? (fun m => m.kind == .migrate && m.to_ == 2 && (s.tile m.tile).tenant == tenant) with
    | some m => .wait s m.tile
    | none =>
      match s.hotVictim tenant with
      | none => .no
      | some (t, s1) =>
        match s1.roomDram tenant with
        | .no => .no
        | .wait s2 u => .wait (choose s2 (some t)) u
        | .yes s2 => .wait ((choose s2 none).startMove t 2 .migrate) t

def State.room (s : State) (tier tenant : Nat) : Room :=
  if tier = 1 then s.roomHot tenant else s.roomDram tenant

/-! ### Access to a tile -/

/-- An access to memory: a read, a write with byte enables for a one-unit write, or an AMO (Table 6.2). -/
inductive Access where
  | read (n : Nat)
  | write (bytes : List Byte) (byteEn : Nat)
  | amo (op : Nat) (a b : Word)
deriving DecidableEq, Repr

def Access.isWrite : Access → Bool
  | .read _ => false
  | _ => true

/-- The permissions an access needs, as bits READ, WRITE, ATOMIC (Table 12.4). -/
def Access.needs : Access → Nat
  | .read _ => 1
  | .write _ _ => 2
  | .amo _ _ _ => 6

/-- Table 6.2: the new value of the word. -/
def amoNew (op : Nat) (old a b : Word) : Word :=
  match op with
  | 0 => old + a
  | 1 => old &&& a
  | 2 => old ||| a
  | 3 => old ^^^ a
  | 4 => if old.toInt ≤ a.toInt then old else a
  | 5 => if old.toInt ≤ a.toInt then a else old
  | 6 => if old.toNat ≤ a.toNat then old else a
  | 7 => if old.toNat ≤ a.toNat then a else old
  | 8 => a
  | _ => if old = b then a else old

/-- Bytes written under byte enables: enable `i` covers byte `i` of a one-unit write; longer writes enable all (R90). -/
def Memory.setEnabled (m : Memory) (a : Nat) (bytes : List Byte) (en : Nat) : Memory :=
  if bytes.length ≠ 16 ∨ en = 0xFFFF then Memory.setBytes m a bytes
  else (List.range 16).foldl (fun x i => if bitOf en i then Memory.setByte x (a + i) (bytes.getD i 0) else x) m

/-- An access applied to a memory: the bytes it returns and the memory after it. -/
def Memory.access (m : Memory) (a : Nat) : Access → List Byte × Memory
  | .read n => (Memory.bytes m a n, m)
  | .write bytes en => ([], Memory.setEnabled m a bytes en)
  | .amo op x y =>
    let old := BitVec.ofNat 64 (Memory.num m a 8)
    (leBytes 16 old.toNat, Memory.setNum m a 8 (amoNew op old x y).toNat)

/-- What an access to the store gives: the data, a STATUS, or what it waits for. -/
inductive AccRes where
  | ok (data : List Byte)
  | fail (status : Nat)
  | wait (b : Blocker)
deriving DecidableEq, Repr

/-- A tile's bytes are gone: LOST (R416, Table 16.2). -/
def State.loseTile (s : State) (t : Nat) : State :=
  if (s.tile t).lost then s
  else (((s.modTile t (fun y => { y with lost := true })).set .sw F.MEM_TIER_STATUS_TILE_LOST 1).count .sw 0xC07 1).event
    5 0 (s.dev .sw).node

/-- A tile whose directory entry is uncorrectable (Table 16.2): it is treated as LOST, and its storage is not reclaimed. -/
def State.entryLost (s : State) (t : Nat) : State := (s.loseTile t).modTile t (fun x => { x with entryBad := true })

/-- Which unit of TEL_UE_LAST a tile's current copy lies in, and its address there. -/
def Tile.unit (x : Tile) : Nat × Nat := if x.tier = 1 then (2, x.loc * tileBytes) else (7, x.loc * tileBytes)

/-- A promotion from Caddy (R289, R291): to HOT if HOME is HOT and the quota has a free tile, else to DRAM. -/
def State.promote (s : State) (t : Nat) : State × AccRes :=
  let x := s.tile t
  if x.migrating then (s, .wait (.tile t))
  else if x.home = 1 ∧ s.quotaFree 1 x.tenant then (s.startMove t 1 .promote, .wait (.tile t))
  else match s.roomDram x.tenant with
    | .yes s1 => (s1.startMove t 2 .promote, .wait (.tile t))
    | .wait s1 u => (s1, .wait (.tile u))
    | .no => (s.set .sw F.MEM_TIER_STATUS_QUOTA 1, .fail Code.QUOTA)

/-- Materialising a tile filled with zeros (R284). -/
def State.materialise (s : State) (t : Nat) : State × AccRes :=
  let x := s.tile t
  let place (s1 : State) (tier : Nat) : State × AccRes :=
    let pl := s1.pickPlace tier
    ((pl.2.chargeTile tier x.tenant).modTile t (fun y => { y with tier := tier, loc := pl.1 }), .ok [])
  let dram (s1 : State) : State × AccRes :=
    match s1.roomDram x.tenant with
    | .yes s2 => place s2 2
    | .wait s2 u => (s2, .wait (.tile u))
    | .no => (s.set .sw F.MEM_TIER_STATUS_QUOTA 1, .fail Code.QUOTA)
  if x.home = 1 then
    match s.roomHot x.tenant with
    | .yes s1 => place s1 1
    | .wait s1 u => (s1, .wait (.tile u))
    | .no => if 2 ≤ x.floor then dram s else (s.set .sw F.MEM_TIER_STATUS_QUOTA 1, .fail Code.QUOTA)
  else dram s

/-- Taking a shadow before the first write of a step (R304). A tile with a shadow is not written back (R289): a write-back
under way is given up (log 49). -/
def State.takeShadow (s : State) (t : Nat) : State × AccRes :=
  let s := match s.wbOf t with | some m => s.undoFlash m | none => s
  let x := s.tile t
  let step := (s.dev .sw).step % 256
  let done (loc : Nat) : State × AccRes :=
    ((s.modTile t (fun y => { y with
        shadow := true, shadowDirty := y.dirty, shadowStep := step, shadowLoc := loc, shadowBad := false })).set .sw F.MEM_STEP_STATUS_SHADOWS (s.get .sw F.MEM_STEP_STATUS_SHADOWS + 1), .ok [])
  if x.tier = 0 then done 0xFFFFFFFE
  else if x.backed && ! x.dirty then done 0xFFFFFFFF
  else match s.roomDram x.tenant with
    | .yes s1 =>
      let pl := s1.pickPlace 2
      ((pl.2.chargeTile 2 x.tenant).modTile t (fun y => { y with
        copying := true, shadowDirty := y.dirty, shadowLoc := pl.1, shadowBad := false }), .wait (.tile t))
    | .wait s1 u => (s1, .wait (.tile u))
    | .no => ((s.set .sw F.MEM_TIER_STATUS_QUOTA 1).set .sw F.MEM_TIER_STATUS_SHADOW_QUOTA 1, .fail Code.QUOTA)

/-- SHADOW_COPY_DONE (R304): the copy is complete, and the shadow stands. -/
def State.shadowDone (s : State) (t : Nat) : State :=
  let x := s.tile t
  if ! x.copying then s
  else
    (((s.modTile t (fun y => { y with
        copying := false, shadow := true, shadowStep := (s.dev .sw).step % 256 })).modTiers
      (fun y => { y with shadows := Memory.copy y.data (t * tileBytes) tileBytes y.shadows (t * tileBytes) })).set .sw
      F.MEM_STEP_STATUS_SHADOWS (s.get .sw F.MEM_STEP_STATUS_SHADOWS + 1)).count .sw 0xC06 1

/-- The access applied to the current copy (R285), and the promotion on access that R289 then gives. -/
def State.applyTile (s : State) (t off : Nat) (k : Access) : State × AccRes :=
  let s0 := if k.isWrite then s.cancelDemote t else s
  let r := Memory.access s0.tiers.data (t * tileBytes + off) k
  let s1 := (s0.modTiers (fun y => { y with data := r.2 })).modTile t (fun y =>
    { y with accessed := true, dirty := y.dirty || k.isWrite })
  let x := s1.tile t
  if x.tier = 2 ∧ x.home = 1 ∧ ! x.migrating ∧ ! x.shadow ∧ ! x.copying ∧ s1.quotaFree 1 x.tenant then
    (s1.startMove t 1 .migrate, .ok r.1)
  else (s1, .ok r.1)

/-- A move or write-back is given up: its destination and charge are freed. -/
def State.undoMove (s : State) (m : Move) : State :=
  if m.kind = .demote ∨ m.kind = .writeback then s.undoFlash m
  else ((s.uncharge m.to_ (s.tile m.tile).tenant).endMove m.tile m.kind).modTile m.tile (fun y => { y with migrating := false })

/-- Whatever is under way for a tile is given up. -/
def State.dropMove (s : State) (t : Nat) : State :=
  (s.tiers.moves.filter (fun m => m.tile == t)).foldl (fun a m => a.undoMove m) s

/-- A tile's current copy holds an uncorrectable word at an offset (Table 16.2): a clean one that is BACKED is discarded, with
whatever was under way for it, and promoted again from its stripe; any other tile is LOST. -/
def State.copyBad (s : State) (t off : Nat) : State × AccRes :=
  let x := s.tile t
  let s1 := s.ue .sw x.unit.1 (x.unit.2 + off)
  if x.backed && ! x.dirty then ((s1.dropMove t).toCaddy t).promote t else (s1.loseTile t, .fail Code.RESULT_UNKNOWN)

/-- A tile that holds a current copy in HOT or DRAM is accessed: an error in it (Table 16.1, Table 16.2), the shadow that
a step-versioned write needs, and the access. A write that finds no room for its shadow has no effect (R288, R304): the
demotion or write-back that it would have ended goes on. -/
def State.accessCopy (s : State) (t off : Nat) (k : Access) (ecc : Ecc) : State × AccRes :=
  let x := s.tile t
  let s := if ecc = .fixed then s.ce .sw x.unit.1 1 else s
  if ecc = .bad then s.copyBad t off
  else if k.isWrite && x.stepver && ! x.shadow then
    if x.copying then (s, .wait (.tile t))
    else if x.migrating && (match s.moveOf t with | some m => m.kind == .migrate | none => false) then
      (s, .wait (.tile t))
    else
      match (s.cancelDemote t).takeShadow t with
      | (s1, .ok _) => s1.applyTile t off k
      | (_, .fail c) =>
        ((s.set .sw F.MEM_TIER_STATUS_QUOTA 1).set .sw F.MEM_TIER_STATUS_SHADOW_QUOTA 1, .fail c)
      | (s1, .wait b) => (s1, .wait b)
  else s.applyTile t off k

/-- An access to a store tile, after translation and the directory checks of R314 (R284, R289, R291, R303). `tag` is
the STEP_TAG it carries. -/
def State.accessTile (s : State) (t off : Nat) (k : Access) (tag : Nat) (ecc : Ecc) : State × AccRes :=
  let x := s.tile t
  if k.isWrite && x.stepver && tag != (s.dev .sw).step % 256 then
    (s.set .sw F.MEM_TIER_STATUS_STEP_STALE 1, .fail Code.UNSUPPORTED)
  else if x.lost then (s, .fail Code.RESULT_UNKNOWN)
  else if x.tier = 3 then s.promote t
  else if x.tier = 0 then
    match k with
    | .read n => (s, .ok (List.replicate n 0))
    | _ =>
      match s.materialise t with
      | (s1, .ok _) =>
        if x.stepver && ! x.shadow then
          (((s1.modTile t (fun y => { y with
              shadow := true, shadowDirty := x.dirty, shadowStep := (s.dev .sw).step % 256,
              shadowLoc := 0xFFFFFFFE, shadowBad := false })).set .sw
            F.MEM_STEP_STATUS_SHADOWS (s.get .sw F.MEM_STEP_STATUS_SHADOWS + 1))).applyTile t off k
        else s1.applyTile t off k
      | r => r
  else s.accessCopy t off k ecc

/-! ### The step's end (R305, R306) and freeing -/

/-- A tile's current copy, its charge and its bytes are freed. -/
def State.freeCopy (s : State) (t : Nat) : State :=
  let x := s.tile t
  let s1 := if x.tier = 1 ∨ x.tier = 2 then s.uncharge x.tier x.tenant else s
  s1.modTiers (fun y => { y with data := Memory.clear y.data (t * tileBytes) tileBytes })

/-- A tile's backing stripe and its charge are freed. -/
def State.freeStripe (s : State) (t : Nat) : State :=
  let x := s.tile t
  if x.backed then (s.uncharge 3 x.tenant).dropStripe x.stripe t else s

/-- FREE of one tile (Table 11.6): copies, stripe and charges are released and MAPPED is cleared. The storage of a tile
whose directory entry met an uncorrectable error is not reclaimed (Table 16.2). -/
def State.freeTile (s : State) (t : Nat) : State :=
  let x := s.tile t
  (if x.entryBad then
    (s.dropMove t).modTiers (fun y => { y with
      kept := y.kept ++ (if x.tier = 1 ∨ x.tier = 2 then [(x.tier, x.loc)] else [])
      data := Memory.clear y.data (t * tileBytes) tileBytes })
  else ((s.dropMove t).freeCopy t).freeStripe t).setTile t Tile.unmapped

/-- A tile's shadow is released (R305): its DRAM copy and charge become free, unless the tile's directory entry met an
uncorrectable error (Table 16.2). -/
def State.dropShadow (s : State) (t : Nat) : State :=
  let x := s.tile t
  let s1 := if x.shadowLoc = 0xFFFFFFFE ∨ x.shadowLoc = 0xFFFFFFFF then s
    else if x.entryBad then s.modTiers (fun y => { y with kept := y.kept ++ [(2, x.shadowLoc)] })
    else s.uncharge 2 x.tenant
  ((s1.modTile t (fun y => { y with
      shadow := false, shadowDirty := false, shadowStep := 0, shadowLoc := 0, shadowBad := false })).modTiers
    (fun y => { y with shadows := Memory.clear y.shadows (t * tileBytes) tileBytes })).set .sw
    F.MEM_STEP_STATUS_SHADOWS (s.get .sw F.MEM_STEP_STATUS_SHADOWS - 1)

/-- The promotion that a deferred POLICY asks for when a tile lies below its new FLOOR (Table 11.6): it starts, stays due
while room is being made or the tile is on the move, or leaves the tile where it is for want of room, which is counted. -/
def State.raise (s : State) (t : Nat) : State :=
  let x := s.tile t
  let due (b : Bool) (s : State) : State := s.modTile t (fun y => { y with raiseDue := b })
  if x.tier = 0 ∨ x.tier ≤ x.floor then due false s
  else if (s.moveOf t).isSome || x.copying || x.shadow then due true s
  else match s.room x.floor x.tenant with
    | .yes s1 => (due false s1).startMove t x.floor (if x.tier = 3 then .promote else .migrate)
    | .wait s1 _ => due true s1
    | .no => ((due false s).set .sw F.MEM_TIER_STATUS_QUOTA 1).modTiers (fun y => { y with raiseFails := y.raiseFails + 1 })

/-- Deferred promotions that wait are tried again. -/
def State.raises (s : State) : State :=
  ((s.tiers.dir.filter (fun e => e.2.raiseDue)).map (fun e => e.1)).foldl (fun a t => a.raise t) s

/-- What waited for the end of a tile's step: a FREE, or a POLICY's STEPVER and promotion (Table 11.6). -/
def State.afterStep (s : State) (t : Nat) : State :=
  let x := s.tile t
  if x.freeDue then s.freeTile t
  else match x.policyDue with
    | none => s
    | some b => (s.modTile t (fun y => { y with stepver := b, policyDue := none })).raise t

/-- Tiles that hold a shadow. -/
def Tiers.shadowed (x : Tiers) : List Nat := (x.dir.filter (fun e => e.2.shadow)).map (fun e => e.1)

/-- R305: every shadow is released at one instant. -/
def State.sealTiles (s : State) : State :=
  s.tiers.shadowed.foldl (fun a t => (a.dropShadow t).afterStep t) s

/-- R306 for one tile. One whose directory entry met an uncorrectable error stays LOST (Table 16.2). -/
def State.restoreTile (s : State) (t : Nat) : State :=
  let x := s.tile t
  if x.entryBad then s.dropShadow t else
  let s0 := (s.dropMove t).freeCopy t
  if x.shadowLoc = 0xFFFFFFFE then
    (s0.modTile t (fun y => { y with tier := 0, loc := 0, dirty := x.shadowDirty, lost := false })).dropShadow t
  else if x.shadowLoc = 0xFFFFFFFF then
    (s0.modTile t (fun y => { y with tier := 3, loc := 0, dirty := x.shadowDirty, lost := x.stripeBad })).dropShadow t
  else
    let s1 := s0.modTiers (fun y =>
      { y with data := Memory.copy y.shadows (t * tileBytes) tileBytes y.data (t * tileBytes) })
    -- the shadow's charge passes to the restored copy
    ((s1.chargeTile 2 x.tenant).modTile t (fun y =>
      { y with tier := 2, loc := x.shadowLoc, dirty := x.shadowDirty, lost := x.shadowBad })).dropShadow t

/-- R306: every shadow is restored at one instant. -/
def State.discardTiles (s : State) : State :=
  s.tiers.shadowed.foldl (fun a t => (a.restoreTile t).afterStep t) s

/-- A tile being shredded (R410, R412): its shadow, or the copy of one that is being made, goes with it. -/
def State.shredTile (s : State) (t : Nat) : State :=
  let x := s.tile t
  let s1 := if x.shadow then s.dropShadow t else if x.copying then s.uncharge 2 x.tenant else s
  s1.freeTile t

end Sys2Proof.Machine
end

