-- ==== Sys2Proof/Machine/Xlt.lean ====
section
/-! DEFINITION. Address translation (spec/12): table geometry, the walk of R313, the translation cache, walkers,
invalidation, and the fabric-level fault batch. -/

namespace Sys2Proof.Machine

/-! ### Geometry (Table 12.2) -/

/-- The lowest address bit that a level's index takes. -/
def lvlShift (l : Nat) : Nat := match l with | 0 => 39 | 1 => 30 | 2 => 21 | _ => 16

def lvlEntries (l : Nat) : Nat := match l with | 0 => 8192 | 1 => 512 | 2 => 512 | _ => 32

def lvlSize (l : Nat) : Nat := 8 * lvlEntries l

/-! Causes of Table 12.5. -/

namespace XCause
def NOT_MAPPED : Nat := 1
def PERMISSION : Nat := 2
def MALFORMED : Nat := 3
def TABLE_ECC : Nat := 4
def NO_ROOT : Nat := 5
def ADDR_HIGH : Nat := 6
def DIR_MISMATCH : Nat := 7
end XCause

/-- Whose table: its root, if valid (R315). -/
def Dev.root (v : Dev) (id : Nat) : Option Nat :=
  match v.part with
  | .sw => if v.on (F.XLT_ROOT_VALID id) then some (v.get (F.XLT_ROOT_ROOT id) * 65536) else none
  | .ep => if v.on (F.EP_XLT_CTX_VALID id) then some (v.get (F.EP_XLT_CTX_ROOT id) * 65536) else none

/-- R313, table_in_bounds. -/
def Dev.tableInBounds (v : Dev) (t l : Nat) : Bool :=
  match v.part with
  | .sw => decide (t + lvlSize l ≤ v.resvTop)
  | .ep =>
    let b := v.get F.EP_L2_REGION_A_BASE * 65536
    decide (b ≤ t) && decide (t + lvlSize l ≤ b + v.get F.EP_L2_REGION_B_SIZE * 65536)

/-- How a walk ends: the output address and the level of the PAGE entry, or a fault. -/
inductive WalkRes where
  | page (addr level : Nat)
  | fault (cause level : Nat)
deriving DecidableEq, Repr

/-- What reading one entry decides (R313). -/
inductive EntryRes where
  | next (t : Nat)
  | done (r : WalkRes)

/-- The checks of R313 on entry `e` read at level `l` for an address and an access. -/
def Dev.entry (v : Dev) (addr needs l e : Nat) : EntryRes :=
  let ty := e % 4
  if ty = 0 then .done (.fault XCause.NOT_MAPPED l)
  else if ty = 3 then .done (.fault XCause.MALFORMED l)
  else if ty = 1 then
    let t := bitsOf e 51 8 * 256
    if bitsOf e 63 52 ≠ 0 ∨ bitsOf e 7 2 ≠ 0 ∨ l = 3 ∨ t % lvlSize (l + 1) ≠ 0 ∨ ¬ v.tableInBounds t (l + 1) then
      .done (.fault XCause.MALFORMED l)
    else .next t
  else
    let a := e / 65536 * 65536
    if bitsOf e 15 5 ≠ 0 ∨ (v.part = .sw ∧ bitsOf e 63 47 ≠ 0) ∨ l = 0 ∨ a % 2 ^ lvlShift l ≠ 0 then
      .done (.fault XCause.MALFORMED l)
    else if Nat.land (bitsOf e 4 2) needs ≠ needs then .done (.fault XCause.PERMISSION l)
    else .done (.page (a + addr % 2 ^ lvlShift l) l)

/-- The cached entry of a level for an address (R318). -/
def Dev.cached (v : Dev) (id addr l : Nat) : Option XEnt :=
  v.xcache.find? (fun x => x.id == id && x.level == l && x.index == addr / 2 ^ lvlShift l)

/-- The rest of a walk: the levels still to read, the table of the first of them, and the entries read from memory so
far. `bad` is the level whose word in memory is uncorrectable, if any. -/
def Dev.walkFrom (v : Dev) (id addr needs : Nat) (bad : Option Nat) : List Nat → Nat → List XEnt → WalkRes × List XEnt
  | [], _, acc => (.fault XCause.MALFORMED 3, acc)
  | l :: ls, t, acc =>
    match v.cached id addr l with
    | some x =>
      match v.entry addr needs l x.word with
      | .next t' => v.walkFrom id addr needs bad ls t' acc
      | .done r => (r, acc)
    | none =>
      let e := Memory.num v.mem (t + 8 * (addr / 2 ^ lvlShift l % lvlEntries l)) 8
      let acc' := acc ++ [⟨id, l, addr / 2 ^ lvlShift l, e⟩]
      if bad = some l then (.fault XCause.TABLE_ECC l, acc)
      else match v.entry addr needs l e with
        | .next t' => v.walkFrom id addr needs bad ls t' acc'
        | .done r => (r, acc')

/-- Where the uncorrectable word of a walk lies: the entry of level `bad`, if the walk reads it. -/
def Dev.badFrom (v : Dev) (id addr needs : Nat) (bad : Option Nat) : List Nat → Nat → Option Nat
  | [], _ => none
  | l :: ls, t =>
    let a := t + 8 * (addr / 2 ^ lvlShift l % lvlEntries l)
    let hit := (v.cached id addr l).map (fun x => x.word)
    if hit.isNone ∧ bad = some l then some a
    else match v.entry addr needs l (hit.getD (Memory.num v.mem a 8)) with
      | .next t' => v.badFrom id addr needs bad ls t'
      | .done _ => none

def Dev.badEntry (v : Dev) (id addr needs : Nat) (bad : Option Nat) : Option Nat :=
  match v.root id with
  | none => none
  | some t => v.badFrom id addr needs bad [0, 1, 2, 3] t

/-- A whole walk (R313): an end-point first checks address bits [63:52]. -/
def Dev.walk (v : Dev) (id addr needs : Nat) (bad : Option Nat) : WalkRes × List XEnt :=
  if v.part = .ep ∧ addr / 2 ^ 52 ≠ 0 then (.fault XCause.ADDR_HIGH 0, [])
  else match v.root id with
    | none => (.fault XCause.NO_ROOT 0, [])
    | some t => v.walkFrom id addr needs bad [0, 1, 2, 3] t []

/-- What a translation gives now: an answer, or the walk it waits for. -/
inductive Xlate where
  | done (r : WalkRes)
  | miss (walk : Nat)
deriving DecidableEq, Repr

def Dev.walkers (v : Dev) : Nat := v.get F.XLT_CFG_WALKERS

/-- A translation (R316, R318): from the cache alone if every entry it needs is there; otherwise it waits on the walk
for its page, started now unless one is under way. A promised miss that joins a walk which has still to begin makes it a
promised one. -/
def State.translate (s : State) (d : Part) (id addr needs : Nat) (promised : Bool) : Xlate × State :=
  let v := s.dev d
  let w := v.walk id addr needs none
  if w.2.isEmpty then
    let hits := (List.range 4).filter (fun l => (v.cached id addr l).isSome)
    (.done w.1, hits.foldl (fun a l => a.count d (0xC61 + l) 1) s)
  else match v.walks.find? (fun x => x.id == id && x.addr / 65536 == addr / 65536 && ! x.stale) with
    | some x =>
      (.miss x.num, (s.setDev d { v with
        walks := v.walks.map (fun y => if y.num = x.num then { y with promised := y.promised || promised } else y) }).count d
          0xC69 1)
    | none =>
      let busy := decide ((v.walks.filter (fun x => x.busy)).length < v.walkers)
      (.miss v.nextWalk,
        s.setDev d { v with nextWalk := v.nextWalk + 1, walks := v.walks ++ [⟨v.nextWalk, id, addr, needs, promised, busy, false⟩] })

/-- Entries placed in the cache: never twice, and within the capacity of the partition at a switch (R318); the cache may
drop an entry of its own accord (free, log 1). -/
def State.cacheEntries (s : State) (d : Part) (xs : List XEnt) : State :=
  xs.foldl (fun a x =>
    let v := a.dev d
    let l0 := v.xcache.filter (fun y => ! (y.id == x.id && y.level == x.level && y.index == x.index))
    let cap := match d with | .sw => v.get F.MEM_SRAM_PART0_SIZE * 2097152 / 16 | .ep => Config.xltEntries
    let l1 := match Config.cacheVictim a.fresh with
      | some k => l0.eraseIdx k
      | none => if cap ≤ l0.length then l0.eraseIdx (Config.choice a.fresh % (l0.length + 1)) else l0
    (a.setDev d { v with xcache := (x :: l1).take cap }).draw) s

/-- Free walkers take the next misses, promised ones first (R316); `n` bounds how many. -/
def Dev.startWalks : Nat → Dev → Dev
  | 0, v => v
  | n + 1, v =>
    if v.walkers ≤ (v.walks.filter (fun x => x.busy)).length then v
    else match (v.walks.find? (fun x => ! x.busy && x.promised)).or (v.walks.find? (fun x => ! x.busy)) with
      | some w => Dev.startWalks n { v with walks := v.walks.map (fun x => if x.num = w.num then { x with busy := true } else x) }
      | none => v

/-- A walk ends: its walker takes the next miss. -/
def Dev.endWalk (v : Dev) (n : Nat) : Dev :=
  Dev.startWalks v.walks.length { v with walks := v.walks.filter (fun x => x.num != n) }

/-- The counters of a walk (Table 18.1). Each access that faults on it counts its own fault. -/
def State.countWalk (s : State) (d : Part) (id addr : Nat) (read : List XEnt) : State :=
  let s1 := s.count d 0xC60 1
  let s2 := ((List.range 4).filter (fun l => ((s.dev d).cached id addr l).isSome)).foldl
    (fun a l => a.count d (0xC61 + l) 1) s1
  read.foldl (fun a x => a.count d (0xC65 + x.level) 1) s2

/-! ### Invalidation (R320, R321) -/

/-- Whether an invalidation covers an entry of `id` that maps from address `lo` on, `n` bytes. -/
def XInv.covers (i : XInv) (id lo n : Nat) : Bool :=
  match i.kind with
  | 0 => id == i.id && decide (lo < (i.first + i.count) * 65536) && decide (i.first * 65536 < lo + n)
  | 1 => id == i.id
  | _ => true

def XInv.coversEntry (i : XInv) (x : XEnt) : Bool :=
  i.covers x.id (x.index * 2 ^ lvlShift x.level) (2 ^ lvlShift x.level)

/-- The walks that have begun place nothing in the cache any more, and what they serve is translated again; those that still
wait for a walker begin afterwards (R321, R322). -/
def Walk.ends (w : Walk) : Walk := { w with stale := w.stale || w.busy }

/-- A write to XLT_INV (R320, R321). -/
def State.xltInvWrite (s : State) (d : Part) (w : Nat) : State :=
  let kind := bitsOf w 1 0
  let count := bitsOf w 27 12
  if kind = 3 ∨ (kind = 0 ∧ count = 0) then s
  else if (s.dev d).xinv.isSome then s.set d F.XLT_INV_STATUS_BUSY_REFUSED 1
  else
    (s.modDev d (fun v => { v with
      xinv := some ⟨kind, bitsOf w 11 4, bitsOf w 63 28, count⟩,
      walks := v.walks.map (fun x => x.ends) })).set d F.XLT_INV_STATUS_PENDING 1

/-- The entries that an invalidation covers leave the cache. -/
def Dev.dropEntries (v : Dev) (i : XInv) : Dev := { v with xcache := v.xcache.filter (fun x => ! i.coversEntry x) }

/-! ### Fabric-level faults (R324) -/

/-- A fault record's bits (Table 12.6). -/
def FaultRec.bits (r : FaultRec) : Nat :=
  r.off * 2 ^ 204 + r.src * 2 ^ 192 + r.tenant * 2 ^ 186 + r.opcode * 2 ^ 178 + r.cause * 2 ^ 174 + r.level * 2 ^ 172
  + r.txn * 2 ^ 140 + r.count * 2 ^ 116 + r.us * 2 ^ 92 + r.step * 2 ^ 60

/-- The pending batch goes to the fault log, with the translation interrupt (R324). -/
def State.flushFaults (s : State) : State :=
  let v := s.dev .sw
  if v.fbatch.isEmpty then s
  else ((v.fbatch.foldl (fun a r => a.flog .sw r.bits) s).modDev .sw (fun x => { x with fbatch := [] })).irq .sw 2

/-- A fault is gathered (R324): merged with a pending record of the same tenant, page and cause, or a new record. -/
def State.gatherFault (s : State) (r : FaultRec) : State :=
  let v := s.dev .sw
  if ¬ v.on F.XLT_FLOG_CTRL_ENABLE then s
  else
    let same (x : FaultRec) : Bool := x.tenant == r.tenant && x.off / 65536 == r.off / 65536 && x.cause == r.cause
    if v.fbatch.any same then
      s.setDev .sw { v with fbatch := v.fbatch.map (fun x => if same x then { x with count := min (x.count + 1) 16777215 } else x) }
    else
      let s1 := s.setDev .sw { v with fbatch := v.fbatch ++ [r] }
      if 64 ≤ v.fbatch.length + 1 then s1.flushFaults else s1

end Sys2Proof.Machine
end

