-- ==== Sys2Proof/Machine/Store.lean ====
section
/-! DEFINITION. An access to a tenant's store at a switch: the checks of R410, translation, the directory checks of
R314 and R282, and the access to the tile. -/

namespace Sys2Proof.Machine

/-- What an access to the store gives: the data, a STATUS, or what it waits for with the store address it has reached and what
is left of the error that its word meets: none once the word has been read (R13). -/
inductive StoreRes where
  | ok (data : List Byte)
  | fail (status : Nat)
  | wait (b : Blocker) (store : Option (Nat × Nat)) (ecc : Ecc)
deriving DecidableEq, Repr

/-- The access at a store address (R282, R314): `f` is the fault record that a DIR_MISMATCH would leave. -/
def State.accessStore (s : State) (tenant a : Nat) (k : Access) (tag : Nat) (ecc : Ecc) (f : FaultRec) :
    State × StoreRes :=
  let t := bitsOf a 46 16
  let x := s.tile t
  if s.dirTiles ≤ t then (s, .fail Code.OUT_OF_RANGE)
  else if ! x.mapped || x.tenant != tenant then
    ((s.gatherFault { f with cause := XCause.DIR_MISMATCH }).count .sw (0xC70 + XCause.DIR_MISMATCH) 1,
      .fail Code.XLT_FAULT)
  else match s.accessTile t (a % 65536) k tag ecc with
    | (s1, .ok d) => (s1, .ok d)
    | (s1, .fail c) => (s1, .fail c)
    | (s1, .wait b) => (s1, .wait b (some (a, f.level)) (if x.tier = 1 ∨ x.tier = 2 then .clean else ecc))

/-- An access to `off` of a tenant's store (R282, R323, R410). `store` is the store address if the access has been
translated before. -/
def State.storeAccess (s : State) (tenant off : Nat) (k : Access) (tag : Nat) (promised : Bool) (ecc : Ecc)
    (store : Option (Nat × Nat)) (f : FaultRec) : State × StoreRes :=
  if s.get .sw (F.SEC_TENANT_REMOVING tenant) = 1 then (s, .fail Code.OUT_OF_RANGE)
  else match store with
    | some (a, l) => s.accessStore tenant a k tag ecc { f with level := l }
    | none =>
      match s.translate .sw tenant off k.needs promised with
      | (.miss w, s1) => (s1, .wait (.walk w) none ecc)
      | (.done (.fault c l), s1) =>
        ((s1.gatherFault { f with cause := c, level := l }).count .sw (0xC70 + c) 1, .fail Code.XLT_FAULT)
      | (.done (.page a l), s1) => s1.accessStore tenant a k tag ecc { f with level := l }

/-- The fault record of an access that a packet makes (Table 12.6). -/
def State.faultRecOf (s : State) (h : PktHdr) (tenant : Nat) : FaultRec :=
  { off := h.offset.toNat, src := h.src.toNat, tenant := tenant, opcode := h.op, cause := 0, level := 0,
    txn := h.txn.toNat, count := 1, us := s.timeUs .sw, step := (s.dev .sw).step, at_ := s.now }

/-- The fault record of a write that the switch makes into its own tiers (Table 12.6). -/
def State.faultRecOwn (s : State) (tenant off : Nat) : FaultRec :=
  { off := off, src := (s.dev .sw).node, tenant := tenant, opcode := 0, cause := 0, level := 0, txn := 0, count := 1,
    us := s.timeUs .sw, step := (s.dev .sw).step, at_ := s.now }

end Sys2Proof.Machine
end

