-- ==== Sys2Proof/Machine/Source.lean ====
section
/-! DEFINITION. The source side of remote operations (spec/06): splitting (R92), issue (R131, R132, R101, R117),
completion, fences (R151), releases and acquires (R153, R154), and remote-fault records (R162). -/

namespace Sys2Proof.Machine

/-! ### Splitting a transfer (R92) -/

/-- Offsets and lengths of the packets of a transfer of `n` bytes from `a` on: at most 8,192 B each, none across a
64 KiB boundary. -/
def splitRange : Nat → Nat → Nat → List (Nat × Nat)
  | 0, _, _ => []
  | f + 1, a, n =>
    if n = 0 then []
    else
      let k := min n (min 8192 (65536 - a % 65536))
      (a, k) :: splitRange f (a + k) (n - k)

/-- The packets of a transfer (R92). -/
def packetsOf (a n : Nat) : List (Nat × Nat) := splitRange (n / 16 + 1) a n

/-! ### Agents -/

/-- AGENT and AGENT_KIND of a remote-fault record (Table 6.11). -/
def Agent.bits : Agent → Nat
  | .engine n => n * 2
  | .core n => n * 2 + 1
  | .host _ => 0x3FF * 2 + 1
  | .window _ => 0x3FE * 2 + 1

/-- Whether a node lies in a scope of the device's agents (Table 6.8): 0 .E, 1 .D, 2 .T, 3 .F. -/
def Dev.inScope (v : Dev) (scope n : Nat) : Bool :=
  if scope = 0 then false
  else if scope = 1 then n == v.node
  else if scope = 2 then
    let b := v.get F.MEM_SCOPE_TRAY_BASE
    decide (b ≤ n) && decide (n < b + v.get F.MEM_SCOPE_TRAY_COUNT)
  else true

/-! ### Cores' local memory and registers, as landing data needs them -/

def State.core (s : State) (n : Nat) : Core := SMap.at Core.initial s.sw.cores n

def State.setCore (s : State) (n : Nat) (c : Core) : State :=
  { s with sw := { s.sw with cores := SMap.put Core.initial s.sw.cores n c } }

def State.modCore (s : State) (n : Nat) (f : Core → Core) : State := s.setCore n (f (s.core n))

/-! ### Jobs -/

/-- Of two completion codes, the lowest other than OK (R151, R372). -/
def worse (a b : Nat) : Nat := if a = 0 then b else if b = 0 then a else min a b

/-- A new job of `n` parts for an owner: its id and the device with it. -/
def Dev.newJob (v : Dev) (o : Owner) (n : Nat) : Nat × Dev :=
  (v.nextJob, { v with nextJob := v.nextJob + 1, jobs := v.jobs ++ [⟨v.nextJob, o, n, n, 0, 0, false⟩] })

def Dev.modJob (v : Dev) (id : Nat) (f : Job → Job) : Dev :=
  { v with jobs := mapFirst (fun j => j.id == id) f v.jobs }

/-- One part of a job completes with a code. -/
def Dev.jobPart (v : Dev) (id code : Nat) : Dev :=
  v.modJob id (fun j => { j with left := j.left - 1, code := worse j.code code })

/-! ### Remote-fault records (Table 6.11) -/

def rfaultBits (txn dst off op code tc chan agent step us units reissues : Nat) : Nat :=
  txn % 2 ^ 32 * 2 ^ 224 + dst % 2 ^ 12 * 2 ^ 212 + off % 2 ^ 52 * 2 ^ 160 + op % 2 ^ 8 * 2 ^ 152 + code % 16 * 2 ^ 148
  + tc % 8 * 2 ^ 145 + chan % 2 ^ 20 * 2 ^ 125 + agent % 2 ^ 11 * 2 ^ 114 + step % 2 ^ 32 * 2 ^ 82
  + us % 2 ^ 24 * 2 ^ 58 + units % 2 ^ 10 * 2 ^ 48 + min reissues 255 * 2 ^ 40

/-- PAY_UNITS or REQ_UNITS of a request. -/
def reqUnitsOf (h : PktHdr) : Nat := if h.op = Op.READ then h.reqUnits.toNat else h.payUnits.toNat

/-- The record of a transaction that completes with a code other than OK (R146, R162). -/
def State.faultTxn (s : State) (d : Part) (h : PktHdr) (txn : Nat) (a : Agent) (step reissues code : Nat) : State :=
  s.rfault d (rfaultBits txn h.dst.toNat h.offset.toNat h.op code h.cls h.channel.toNat a.bits step
    (s.timeUs d) (reqUnitsOf h) reissues)

/-! ### Landing -/

/-- The switch's own write of landed data: it completes now, or waits. -/
def State.ownWrite (s : State) (w : OwnWrite) (store : Option (Nat × Nat)) : State :=
  let r := s.storeAccess w.tenant w.off (.write w.bytes 0xFFFF) w.step false .clean store (s.faultRecOwn w.tenant w.off)
  match r.2 with
  | .ok _ => r.1.modDev .sw (fun v => (v.land w.lctr w.units).jobPart w.job Code.OK)
  | .fail c => r.1.modDev .sw (fun v => v.jobPart w.job c)
  | .wait b st e => r.1.modDev .sw (fun v => { v with waiting := v.waiting ++ [⟨.own w, b, st, e⟩] })

/-- The bytes of a range of the switch's own store, read for a tenant: none while an access waits. A read that fails
gives all ones (R138). -/
def State.readOwn (s : State) (tenant tag : Nat) : List (Nat × Nat) → List Byte → State × Option (List Byte)
  | [], acc => (s, some acc)
  | (a, n) :: rest, acc =>
    match s.storeAccess tenant a (.read n) tag false .clean none (s.faultRecOwn tenant a) with
    | (s1, .ok d) => s1.readOwn tenant tag rest (acc ++ d)
    | (s1, .fail _) => s1.readOwn tenant tag rest (acc ++ List.replicate n 0xFF)
    | (s1, .wait _ _ _) => (s1, none)

/-- The 8 B word of a returned unit. -/
def wordOf (data : List Byte) (half : Nat) : Word := BitVec.ofNat 64 (ofLe ((data.drop (8 * half)).take 8))

/-- The response belongs to what a core issued before it was halted or reset: it is discarded (R231). -/
def State.disowned (s : State) (t : Txn) : Bool :=
  match t.agent with
  | .core n => decide (t.uid < (s.core n).since)
  | _ => false

/-- Data that a transaction returns goes where it lands, LCTR counts it if the transaction completed OK (R149), and the
job has one part fewer. -/
def State.landData (s : State) (d : Part) (t : Txn) (code : Nat) (data : List Byte) : State :=
  if s.disowned t then s.modDev d (fun v => v.jobPart t.job code) else
  let lctr := if code = Code.OK ∧ t.pkt.hdr.op = Op.READ then t.pkt.hdr.lctr.toNat else 0
  let units := t.pkt.hdr.reqUnits.toNat
  let fin (s : State) : State := s.modDev d (fun v => (v.land lctr units).jobPart t.job code)
  match t.land with
  | .drop => fin s
  | .carry _ _ _ => fin s
  | .word half => fin (s.modDev d (fun v => v.modJob t.job (fun j => { j with data := wordOf data half })))
  | .local_ n a => fin (s.modCore n (fun c => { c with mem := Memory.setBytes c.mem a data }))
  | .own off =>
    -- the packet's data may cross a 64 KiB boundary of the landing side: one write for each tile it touches
    let ps := packetsOf off data.length
    ps.foldl (fun a p => a.ownWrite
        ⟨t.tenant, p.1, (data.drop (p.1 - off)).take p.2, t.step % 256, t.job, lctr, p.2 / 16⟩ none)
      (s.modDev d (fun v => v.modJob t.job (fun j => { j with left := j.left + ps.length - 1, code := worse j.code code })))
  | .host num off =>
    fin { s with sw := { s.sw with hif := { s.sw.hif with cmds := s.sw.hif.cmds.map (fun c =>
      if c.num = num then { c with got := c.got ++ [(off, data)] } else c) } } }
  | .accel a => fin ((s.modDev .ep (fun v => { v with mem := Memory.setBytes v.mem a data })).emit (.dieWrite 0 a data))
  | .weight num tag =>
    { s with ep := { s.ep with segs := s.ep.segs.map (fun g =>
      if g.num = num then
        (if tag then { g with tag := some data, failed := worse g.failed code }
         else { g with data := some data, failed := worse g.failed code, txn := t.id.toNat, tc := t.pkt.hdr.cls, step := t.step })
      else g) } }

/-! ### Completion (R143, R146) -/

/-- Every line of the remote read cache goes, and no READ sent before may fill it (R154, R383). -/
def State.flushReadCache (s : State) : State :=
  { s with ep := { s.ep with rcache := [], dev := { s.ep.dev with
      txns := s.ep.dev.txns.map (fun (t : Txn) => { t with fill := false }),
      pends := s.ep.dev.pends } } }

/-- The set of the read cache in which a line lies (R382): 64 MiB of 256 B lines are 16,384 sets of 16 ways. Which set is
not specified (free, log 1). -/
def cacheSet (chan addr : Nat) : Nat := Config.cacheSet chan addr % 16384

/-- The lines that READ_DATA covers whole go into the read cache (R382); a full set, or a cache that chooses to, drops
another line (free, log 1). -/
def State.fillLines (s : State) (chan addr : Nat) (data : List Byte) : State :=
  let first := ceilDiv addr 256
  let n := (addr + data.length) / 256 - first
  (List.range n).foldl (fun a i =>
    let la := (first + i) * 256
    let l0 := a.ep.rcache.filter (fun l => ! (l.addr == la && l.chan == chan))
    let ways := l0.filter (fun l => cacheSet l.chan l.addr == cacheSet chan la)
    let l1 := match Config.cacheVictim a.fresh with
      | some k => l0.eraseIdx k
      | none => l0
    let l2 := if ways.length < 16 then l1
      else match ways[Config.choice a.fresh % ways.length]? with
        | some x => l1.erase x
        | none => l1
    { a with ep := { a.ep with rcache := ⟨la, chan, (data.drop (la - addr)).take 256⟩ :: l2 } }.draw) s

/-- A request is over: fences and acquires no longer wait for it. -/
def Dev.settleUid (v : Dev) (a : Agent) (uid code : Nat) : Dev :=
  { v with fences := v.fences.map (fun (f : Fence) =>
             if f.waits.contains uid then { f with waits := f.waits.erase uid, code := worse f.code code } else f),
           acquires := v.acquires.filter (fun (x : Agent × Nat) => ! (x.1 == a && x.2 == uid)) }

/-- A code other than OK is kept for the agent's later fences, by target (R151). -/
def Dev.addFailed (v : Dev) (a : Agent) (dst code : Nat) : Dev :=
  if v.failed.any (fun x => x.1 == a && x.2.1 == dst) then
    { v with failed := v.failed.map (fun x => if x.1 == a && x.2.1 == dst then (a, dst, worse x.2.2 code) else x) }
  else { v with failed := v.failed ++ [(a, dst, code)] }

/-- A transaction has completed with a code: one that a core issued before its START no longer counts for its fences
(R231), and no fence covers what a window emits. -/
def State.noteFail (s : State) (d : Part) (a : Agent) (uid dst code : Nat) : State :=
  if code = Code.OK then s
  else match a with
    | .window _ => s
    | .core n => if uid < (s.core n).since then s else s.modDev d (fun v => v.addFailed a dst code)
    | _ => s.modDev d (fun v => v.addFailed a dst code)

/-- The lowest code other than OK among an agent's completed transactions whose target lies in a scope; OK where there is
none (R151). -/
def Dev.failedIn (v : Dev) (a : Agent) (scope : Nat) : Nat :=
  v.failed.foldl (fun c x => if x.1 == a && v.inScope scope x.2.1 then worse c x.2.2 else c) 0

/-- The bytes a request was to return, all ones (R146). -/
def onesFor (h : PktHdr) : List Byte :=
  if h.op = Op.READ then List.replicate (16 * h.reqUnits.toNat) 0xFF
  else if h.op = Op.AMO then List.replicate 16 0xFF else []

/-- A transaction completes with a code (R143, R146): its data lands, or all ones; an error is recorded; fences and
acquires see it. -/
def State.retire (s : State) (d : Part) (t : Txn) (code : Nat) (data : List Byte) : State :=
  let s1 := s.modDev d (fun v => ({ v with txns := v.txns.filter (fun x => x.id != t.id) }).settleUid t.agent t.uid code)
  let s2 := if code = Code.OK then s1 else s1.faultTxn d t.pkt.hdr t.id.toNat t.agent t.step t.reissues code
  let s3 := if code = Code.DEAD_TARGET then s2.count d 0xC03 1 else s2
  let s4 := if t.acquire = some true ∧ d = .ep then s3.flushReadCache else s3
  let h := t.pkt.hdr
  let s4 := s4.noteFail d t.agent t.uid h.dst.toNat code
  let s5 := if t.fill && code == Code.OK && t.acquire != some true then
      s4.fillLines h.channel.toNat (h.dst.toNat * 2 ^ 52 + h.offset.toNat) data else s4
  (s5.landData d t code (if code = Code.OK then data else onesFor h)).modDev d Dev.purgeBuckets

/-! ### Issue -/

/-- The oldest packet of an ordered flow that has not retired. -/
def Dev.oldestSeq (v : Dev) (dst chan : Nat) : Option Nat :=
  (v.txns.find? (fun t => t.pkt.hdr.ordered == 1 && t.pkt.hdr.dst.toNat == dst && t.pkt.hdr.channel.toNat == chan)).map
    (fun t => t.pkt.hdr.ordSeq.toNat)

/-- The next ORD_SEQ of a flow (R101): zero for a new flow. -/
def Dev.nextSeq (v : Dev) (dst chan : Nat) : Nat :=
  match v.flows.find? (fun f => f.dst == dst && f.chan == chan) with
  | some f => f.next
  | none => 0

/-- Whether the flow table has, or can make, an entry for a flow (R378; the switch's chapters give it no limit). -/
def Dev.flowRoom (v : Dev) (dst chan : Nat) : Bool :=
  v.part == .sw || v.flows.any (fun f => f.dst == dst && f.chan == chan) || decide (v.flows.length < 65536)
  || v.flows.any (fun f => (v.oldestSeq f.dst f.chan).isNone)

/-- Whether an ordered packet may be sent now (R101, R378). -/
def Dev.orderRoom (v : Dev) (p : Pend) : Bool :=
  p.pkt.hdr.ordered != 1 ||
    (let dst := p.pkt.hdr.dst.toNat
     let chan := p.pkt.hdr.channel.toNat
     v.flowRoom dst chan &&
      match v.oldestSeq dst chan with
      | none => true
      | some o => decide ((v.nextSeq dst chan + 65536 - o) % 65536 < 32767))

/-- R132: no outstanding transaction to the target is 65,536 or more below the new TXN_ID. -/
def Dev.windowRoom (v : Dev) (dst : BitVec 12) : Bool :=
  v.txns.all (fun t => t.pkt.hdr.dst != dst || decide ((v.nextTxn - t.id).toNat < 65536))

/-- Whether the bucket of a promised packet holds its charge (R117). -/
def Dev.bucketRoom (v : Dev) (now : Nat) (p : Pend) : Bool :=
  ! p.promised || v.buckets.any (fun b => b.id == p.bucket && decide (admitCost p.pkt.hdr ≤ b.tokensAt now p.rate p.burst))

/-- Whether an acquire that an agent issued before request `uid` has no response yet: it is outstanding, waits, or is held
as a release (R154). -/
def Dev.acquireOpen (v : Dev) (a : Agent) (uid : Nat) : Bool :=
  v.acquires.any (fun x => x.1 == a && decide (x.2 < uid))
  || v.pends.any (fun q => q.agent == a && q.acquire.isSome && decide (q.uid < uid))
  || v.releases.any (fun r => r.pend.agent == a && r.pend.acquire.isSome && decide (r.pend.uid < uid))

/-- Whether an acquire of the agent holds this READ or AMO (R154). -/
def Dev.acquireHolds (v : Dev) (p : Pend) : Bool :=
  (p.pkt.hdr.op == Op.READ || p.pkt.hdr.op == Op.AMO) && v.acquireOpen p.agent p.uid

/-- Whether request `q`, which waits, keeps a later one of its channel behind it: an end-point admits the requests of a channel
in the order of their issue, whatever their targets (R373, R376); a switch holds no transaction to another target (R132). -/
def Dev.precedes (v : Dev) (q p : Pend) : Bool :=
  decide (q.uid < p.uid) && q.pkt.hdr.channel == p.pkt.hdr.channel && (v.part == .ep || q.pkt.hdr.dst == p.pkt.hdr.dst)

/-- Whether an earlier request that waits holds this one back. A release held under R153 keeps its place in its channel at an
end-point (R373), and in its ordered flow (R101); at a switch it holds nothing else (R151, R255). -/
def Dev.heldBehind (v : Dev) (p : Pend) : Bool :=
  v.pends.any (fun q => v.precedes q p)
  || v.releases.any (fun r => v.precedes r.pend p && (v.part == .ep || r.pend.pkt.hdr.ordered == 1))

/-- Whether the flight table has a free entry (Table 1.3, R226): 2,097,152 for a switch, of which its cores hold no more than
1,048,576 and one core 16,384; an end-point's limits are its engines' (R374). A parked transaction keeps its entry. -/
def Dev.flightRoom (v : Dev) (a : Agent) : Bool :=
  v.part == .ep ||
    (decide (v.txns.length < 2097152) &&
      (match a with
       | .core n =>
         decide ((v.txns.filter (fun t => match t.agent with | .core _ => true | _ => false)).length < 1048576)
         && decide ((v.txns.filter (fun t => t.agent == .core n)).length < 16384)
       | _ => true))

/-- Whether nothing but room at port 32 keeps a waiting request from being issued now. -/
def Dev.admits (v : Dev) (now : Nat) (p : Pend) : Bool :=
  ! v.heldBehind p && v.windowRoom p.pkt.hdr.dst && ! v.draining p.pkt.hdr.dst.toNat && v.orderRoom p
  && ! v.acquireHolds p && v.bucketRoom now p && v.flightRoom p.agent

/-- Whether a waiting request can be issued now. In a fenced device each completes at once (`State.issue`). -/
def Dev.canIssue (v : Dev) (now : Nat) (p : Pend) : Bool :=
  v.fenced || (v.admits now p && (v.ownOff p.pkt.hdr || v.ownRoom p.pkt.hdr))

/-- The flow's numbering advanced; at a full table, a flow with no outstanding packet is reclaimed: which one is not
specified (free, log 1). -/
def State.takeSeq (s : State) (d : Part) (dst chan : Nat) : State :=
  let v := s.dev d
  let n := v.nextSeq dst chan
  let rest := v.flows.filter (fun f => ! (f.dst == dst && f.chan == chan))
  let new : SrcFlow := ⟨dst, chan, (n + 1) % 65536⟩
  if d = .ep ∧ 65536 ≤ rest.length then
    let idle := rest.filter (fun f => (v.oldestSeq f.dst f.chan).isNone)
    match idle[Config.choice s.fresh % max 1 idle.length]? with
    | some g => ((s.setDev d { v with flows := rest.erase g ++ [new] }).count d 0xD67 1).draw
    | none => s.setDev d { v with flows := rest ++ [new] }
  else s.setDev d { v with flows := rest ++ [new] }

/-- The key epoch that a switch stamps (R338, R401); an end-point stamps it at the port the packet leaves by. -/
def Dev.keyEpoch (v : Dev) (tenant : Nat) : Nat :=
  match v.part with
  | .sw => v.get (F.SEC_TENANT_LIVE_EPOCH tenant)
  | .ep => 0

/-- The addresses of the read cache's lines of 256 B that `n` bytes at an address touch. -/
def linesOf (addr n : Nat) : List Nat :=
  if n = 0 then [] else (List.range ((addr + n - 1) / 256 - addr / 256 + 1)).map (fun i => (addr / 256 + i) * 256)

/-- Lines leave the read cache, and no READ under way that covers one of them fills it: its data is delivered and fills
nothing (R383, Table 14.6). -/
def State.dropLines (s : State) (hit : Nat → Nat → Bool) : State :=
  { s with ep := { s.ep with
      rcache := s.ep.rcache.filter (fun l => ! hit l.chan l.addr),
      dev := { s.ep.dev with
        txns := s.ep.dev.txns.map (fun (t : Txn) =>
          let h := t.pkt.hdr
          let a := h.dst.toNat * 2 ^ 52 + h.offset.toNat
          if t.fill && (linesOf a h.span).any (fun l => hit h.channel.toNat l) then { t with fill := false } else t) } } }

/-- The source's own WRITE or AMO takes the lines it touches out of the read cache (R158, Table 14.6). -/
def State.touchLines (s : State) (addr n : Nat) : State := s.dropLines (fun _ l => (linesOf addr n).contains l)

/-- The bytes that a request's own store touches: a WRITE's units, an AMO's word. -/
def storeBytes (h : PktHdr) : Nat := if h.op = Op.AMO then 8 else 16 * h.payUnits.toNat

/-- A request that can be issued is issued: it takes its TXN_ID, its ORD_SEQ and its tokens, and goes to the injection
point; this instant is its acceptance (R118). In a class that is disabled at port 32 it completes UNSUPPORTED at once
and no packet is sent (R110); in a fenced device it completes DEAD_TARGET so (R429; DEDUCED, log 53). -/
def State.issue (s : State) (d : Part) (p : Pend) : State :=
  let v := s.dev d
  let h0 := p.pkt.hdr
  let seq := if h0.ordered = 1 then v.nextSeq h0.dst.toNat h0.channel.toNat else 0
  let h : PktHdr := { h0 with
    txn := v.nextTxn, ordSeq := BitVec.ofNat 16 seq, keyEpoch := BitVec.ofNat 8 (v.keyEpoch p.keyTenant),
    stepTag := BitVec.ofNat 8 p.step }
  let pkt : Packet := ⟨h, p.pkt.pay⟩
  let first := if p.promised then max p.rbound 1000 else v.get F.MEM_SEM_CTRL_RETRY_100NS * 100
  let t : Txn := {
    id := v.nextTxn, uid := p.uid, pkt := pkt, agent := p.agent, job := p.job, land := p.land,
    promised := p.promised, rbound := p.rbound, late := false, acceptAt := s.now, issueAt := s.now, timeout := first,
    reissues := 0, parked := false, tenant := p.tenant, step := v.step, acquire := p.acquire, fill := p.fill,
    stamped := decide (d = .sw) }
  let s1 := s.setDev d { v with
    nextTxn := v.nextTxn + 1, pends := v.pends.filter (fun q => q.uid != p.uid),
    acquires := if p.acquire.isSome then v.acquires ++ [(p.agent, p.uid)] else v.acquires }
  if v.fenced then s1.retire d t Code.DEAD_TARGET []
  else if v.ownOff h then (s1.classOff d).retire d t Code.UNSUPPORTED []
  else
    let s1 := if d = .ep ∧ (h.op = Op.WRITE ∨ h.op = Op.AMO) then
        s1.touchLines (h.dst.toNat * 2 ^ 52 + h.offset.toNat) (storeBytes h) else s1
    let s2 := if h0.ordered = 1 then s1.takeSeq d h0.dst.toNat h0.channel.toNat else s1
    let s3 := s2.modDev d (fun w => { w with buckets := w.buckets.map (fun (b : Bucket) =>
      if p.promised && b.id == p.bucket then
        { b with tokens := b.tokensAt s.now p.rate p.burst - admitCost h, at_ := s.now } else b) })
    s3.modDev d (fun w => Dev.inject { w with txns := w.txns ++ [t] } s.now pkt p.tenant)

/-- A request that can be issued is sent. One whose payload lies in this switch's own store reads it as it leaves (R257), and
waits while that access does. -/
def State.sendNow (s : State) (d : Part) (p : Pend) : State :=
  match p.src with
  | none => s.issue d p
  | some off =>
    match s.readOwn p.tenant p.step (packetsOf off (16 * p.pkt.hdr.payUnits.toNat)) [] with
    | (s1, some bytes) => s1.issue d { p with pkt := ⟨p.pkt.hdr, bytes⟩, src := none }
    | (s1, none) => s1.modDev d (fun v =>
        { v with pends := if v.pends.any (fun q => q.uid == p.uid) then v.pends else v.pends ++ [p] })

/-- A request of an agent: it is issued at once if it can be, and waits otherwise (R132, R104, R101, R117, R109). -/
def State.submit (s : State) (d : Part) (p : Pend) : State :=
  let v := s.dev d
  let q := { p with uid := v.nextUid }
  let s1 := s.setDev d { v with nextUid := v.nextUid + 1 }
  let s2 := if q.promised ∧ ¬ v.bucketRoom s.now q ∧ d = .ep then s1.count .ep 0xD60 1 else s1
  if (s2.dev d).canIssue s.now q then s2.sendNow d q
  else s2.modDev d (fun w => { w with pends := w.pends ++ [q] })

/-- The first waiting request that can be issued now, among the promised ones or the others. -/
def Dev.firstReady (v : Dev) (now : Nat) (promised : Bool) : Option Pend :=
  v.pends.find? (fun p => p.promised == promised && v.canIssue now p)

/-! ### Fences and releases -/

/-- The requests of an agent that a fence of a scope covers (R151). `since` leaves out what a core issued before its
START (R231). -/
def Dev.fenceSet (v : Dev) (a : Agent) (scope since : Nat) : List Nat :=
  (v.txns.filter (fun t => t.agent == a && v.inScope scope t.pkt.hdr.dst.toNat && decide (since ≤ t.uid))).map (·.uid)
  ++ (v.pends.filter (fun p => p.agent == a && v.inScope scope p.pkt.hdr.dst.toNat && decide (since ≤ p.uid))).map (·.uid)
  ++ (v.releases.filter (fun r => r.pend.agent == a && v.inScope scope r.pend.pkt.hdr.dst.toNat
        && decide (since ≤ r.pend.uid))).map (·.pend.uid)
  ++ (v.tierReqs.filter (fun r => .core r.core == a && v.inScope scope r.hdr.dst.toNat && decide (since ≤ r.uid))).map (·.uid)

/-- A fence starts, from the lowest code of what has completed already (R151): its id and the state with it. Fences share the numbers of jobs. -/
def State.newFence (s : State) (d : Part) (o : Owner) (a : Agent) (scope since : Nat) : Nat × State :=
  let v := s.dev d
  (v.nextJob, s.setDev d { v with
    nextJob := v.nextJob + 1, fences := v.fences ++ [⟨v.nextJob, o, a, v.fenceSet a scope since, v.failedIn a scope⟩] })

/-- A release (R153): held until a fence of its scope over the agent's earlier requests has completed; sent at once when
that fence has nothing to wait for and nothing to report. -/
def State.submitRelease (s : State) (d : Part) (p : Pend) (scope since : Nat) : State :=
  if ((s.dev d).fenceSet p.agent scope since).isEmpty ∧ (s.dev d).failedIn p.agent scope = 0 then s.submit d p
  else
    let f := s.newFence d .none p.agent scope since
    f.2.modDev d (fun v => { v with
      nextUid := v.nextUid + 1, releases := v.releases ++ [⟨{ p with uid := v.nextUid }, f.1⟩] })

/-- A held release whose fence has completed: sent, or completed RELEASE_ABORTED with a record (R153). -/
def State.releaseNow (s : State) (d : Part) (r : Release) (f : Fence) : State :=
  let s1 := s.modDev d (fun v => { v with
    releases := v.releases.filter (fun x => x.fence != r.fence), fences := v.fences.filter (fun x => x.id != f.id) })
  if f.code = Code.OK then
    if (s1.dev d).canIssue s.now r.pend then s1.issue d r.pend
    else s1.modDev d (fun v => { v with pends := v.pends ++ [r.pend] })
  else
    let h := r.pend.pkt.hdr
    let s2 := s1.noteFail d r.pend.agent r.pend.uid h.dst.toNat Code.RELEASE_ABORTED
    ((s2.faultTxn d h (Config.unassigned s.fresh).toNat r.pend.agent (s.dev d).step 0 Code.RELEASE_ABORTED).draw).modDev d
      (fun v => ((v.settleUid r.pend.agent r.pend.uid Code.RELEASE_ABORTED).modJob r.pend.job
        (fun j => { j with data := if h.op = Op.AMO then 0xFFFFFFFFFFFFFFFF else j.data })).jobPart r.pend.job
          Code.RELEASE_ABORTED)

/-- Requests that have not been sent are given up with their agent (R349, R348, R403): their jobs no longer count them,
and a release held among them needs its fence no more. -/
def Dev.giveUp (v : Dev) (p : Pend → Bool) : Dev :=
  let rs := v.releases.filter (fun r => p r.pend)
  let gone := v.pends.filter p ++ rs.map (·.pend)
  let v1 := { v with
    pends := v.pends.filter (fun x => ! p x), releases := v.releases.filter (fun r => ! p r.pend)
    fences := v.fences.filter (fun f => ! rs.any (fun r => r.fence == f.id)) }
  gone.foldl (fun a x => (a.settleUid x.agent x.uid 0).modJob x.job (fun j => { j with left := j.left - 1 })) v1

/-! ### Timing faults (R128, R129, R379) -/

/-- A promised transaction has passed its RBOUND. -/
def State.timingFault (s : State) (d : Part) (t : Txn) : State :=
  let h := t.pkt.hdr
  let rec_ := min (s.now - t.acceptAt) 16777215 * 2 ^ 40 + h.dst.toNat * 2 ^ 28 + h.channel.toNat
  let s1 := s.modDev d (fun v => { v with txns := v.txns.map (fun (x : Txn) => if x.id = t.id then { x with late := true } else x) })
  match d with
  | .sw => (s1.set .sw F.SWC_EVENT_STATUS_TIMING_FAULT 1).modDev .sw (fun v => v.setReg A.SWC_TIMING_LAST rec_)
  | .ep => (s1.modDev .ep (fun v => (v.setReg A.EP_TIMING_LAST rec_).modJob t.job (fun j => { j with late := true }))).epEvent
      F.EP_EVENT_STATUS_TIMING_FAULT

/-! ### Reissue (R144) -/

/-- A transaction's packet goes out again with RETRY set; with no room at port 32 it waits there (R109). -/
def State.resend (s : State) (d : Part) (t : Txn) : State :=
  let pkt : Packet := ⟨{ t.pkt.hdr with retry := 1, hops := 0 }, t.pkt.pay⟩
  let t1 : Txn := { t with
    pkt := pkt, reissues := t.reissues + 1, timeout := min (2 * t.timeout) 256000, issueAt := s.now, parked := false }
  let s1 := s.modDev d (fun v => { v with txns := v.txns.map (fun (x : Txn) => if x.id = t.id then t1 else x) })
  if (s.dev d).ownOff pkt.hdr then (s1.classOff d).retire d t Code.UNSUPPORTED []
  else (s1.respond d pkt t.tenant).count d 0xC00 1

/-- Reissues that wait for room at port 32 in a class that is disabled there now are refused: each sets and counts CLASS_OFF,
and its transaction completes UNSUPPORTED at once (R110, Table 6.6). -/
def State.turnAway (s : State) (d : Part) : State :=
  let v := s.dev d
  let off (p : Packet × Nat) : Bool := isRequest p.1.hdr.op && v.ownOff p.1.hdr
  let s1 := s.modDev d (fun v => { v with outbox := v.outbox.filter (fun p => ! off p) })
  (v.outbox.filter off).foldl (fun a p =>
    match (a.dev d).txns.find? (fun t => t.id == p.1.hdr.txn) with
    | some t => (a.classOff d).retire d t Code.UNSUPPORTED []
    | none => a) s1

end Sys2Proof.Machine
end

