-- ==== Sys2Proof/Machine/Pot.lean ====
section
/-! DEFINITION. The Pot (spec/02): who holds it, its commands (Table 2.7), staged writes, and its release. -/

namespace Sys2Proof.Machine

/-! STATE and RESULT of CFG_POT_STATUS (Table 2.5). -/

namespace Pot
def EMPTY : Nat := 0
def STAGING : Nat := 1
def CHECKING : Nat := 2
def CHECKED : Nat := 3
def POURING : Nat := 4
def NONE : Nat := 0
def CHECK_PASS : Nat := 1
def CHECK_FAIL : Nat := 2
def POURED : Nat := 3
def POUR_STALE : Nat := 4
def POUR_ABORTED_DRAIN : Nat := 5
def BUSY : Nat := 6
def DISCARDED : Nat := 7
def NOT_POT : Nat := 8
end Pot

def Dev.potState (v : Dev) : Nat := v.get F.CFG_POT_STATUS_STATE
def Dev.potHolder (v : Dev) : Nat := v.get F.CFG_POT_STATUS_HOLDER
def Dev.setPotState (v : Dev) (x : Nat) : Dev := v.set F.CFG_POT_STATUS_STATE x
def Dev.setPotHolder (v : Dev) (x : Nat) : Dev := v.set F.CFG_POT_STATUS_HOLDER x
def Dev.setPotResult (v : Dev) (x : Nat) : Dev := v.set F.CFG_POT_STATUS_RESULT x

/-- HOLDER for the owner function and for a core (Table 2.5). -/
def ownerHolds : Nat := 1
def coreHolds (n : Nat) : Nat := 0x40 + n

/-- A holder's command may be taken: the requester holds the Pot, and no check or Pour is being decided (Table 2.7). -/
def Dev.potMay (v : Dev) (who : Nat) : Bool :=
  v.potHolder == who && (v.potState == Pot.STAGING || v.potState == Pot.CHECKED)

/-- Staged copies revert to the live values (R21). -/
def Dev.revert (v : Dev) : Dev := { v with staged := [], potPassed := false }

/-- The Pot has no holder. -/
def Dev.potFree (v : Dev) : Dev := { v with potPassed := false, potRelease := false }.setPotHolder 0 |>.setPotState Pot.EMPTY

/-! ### Staged writes (R16, R22) -/

/-- The bits that an access of `size` bytes at `a` reaches of a register that starts at `b`. -/
def accessMask (b a size : Nat) : Nat := (2 ^ (8 * size) - 1) * 2 ^ (8 * (a - b))

/-- A register's value after a write of `size` bytes at `a`: the bits of `mask` that the access reaches. -/
def merged (old mask b a size x : Nat) : Nat :=
  let m := Nat.land mask (accessMask b a size)
  Nat.lor (old - Nat.land old m) (Nat.land (x % 2 ^ (8 * size) * 2 ^ (8 * (a - b))) m)

/-- The Pot register that an access of `size` bytes at live address `a` falls in, if it is aligned and within it. -/
def potReg (d : Part) (a size : Nat) : Option (RegRow × Nat) :=
  if a % size ≠ 0 then none
  else match findReg d a with
    | some (r, b) => if r.staged && decide (a + size ≤ b + r.bytes) then some (r, b) else none
    | none => none

/-- The bytes accessed hold a Pot field (R269). -/
def potBits (r : RegRow) (b a size : Nat) : Bool := r.rw / 2 ^ (8 * (a - b)) % 2 ^ (8 * size) != 0

/-- A staged copy written: the register's RW fields are its Pot fields. -/
def Dev.stage (v : Dev) (r : RegRow) (b a size x : Nat) : Dev :=
  { v with staged := SMap.put (BitVec.ofNat 64 (v.reg b)) v.staged b
            (BitVec.ofNat 64 (merged (v.stagedReg b) r.rw b a size x)), potPassed := false }.setPotState Pot.STAGING

/-! ### Commands of the host (R19 to R22, R28, R507, R508) -/

def State.potResult (s : State) (d : Part) (x : Nat) : State := s.modDev d (fun v => v.setPotResult x)

/-- CLAIM; before READY it reports BUSY (R481). -/
def State.potClaim (s : State) (d : Part) : State :=
  let v := s.dev d
  if v.get F.CFG_BOOT_STATUS_STAGE ≠ 7 then s.potResult d Pot.BUSY
  else if v.potState = Pot.EMPTY then s.setDev d (((v.setPotHolder ownerHolds).setPotState Pot.STAGING).setPotResult Pot.NONE)
  else if v.potMay ownerHolds then s.potResult d Pot.NONE
  else s.potResult d Pot.BUSY

/-- The core that holds the Pot learns at its next command that it was taken (R20). -/
def State.tellTaken (s : State) (d : Part) : State :=
  let h := s.get d F.CFG_POT_STATUS_HOLDER
  if d = .sw ∧ 0x40 ≤ h then s.modCore (h - 0x40) (fun c => { c with potTaken := true }) else s

/-- CLAIM with FORCE. -/
def State.potForce (s : State) (d : Part) : State :=
  let v := s.dev d
  if v.potState = Pot.CHECKING ∨ v.potState = Pot.POURING ∨ v.get F.CFG_BOOT_STATUS_STAGE ≠ 7 then s.potResult d Pot.BUSY
  else (s.tellTaken d).modDev d (fun v =>
    ((v.revert.setPotHolder ownerHolds).setPotState Pot.STAGING).setPotResult Pot.NONE)

/-- CHECK. -/
def State.potCheck (s : State) (d : Part) : State :=
  if (s.dev d).potMay ownerHolds then s.modDev d (fun v => v.setPotState Pot.CHECKING) else s.potResult d Pot.BUSY

/-- POUR. -/
def State.potPour (s : State) (d : Part) : State :=
  let v := s.dev d
  if ! v.potMay ownerHolds then s.potResult d Pot.BUSY
  else if v.potPassed && v.potState == Pot.CHECKED then s.setDev d (v.setPotState Pot.POURING)
  else s.potResult d Pot.POUR_STALE

/-- DISCARD. -/
def State.potDiscard (s : State) (d : Part) : State :=
  if (s.dev d).potMay ownerHolds then s.modDev d (fun v => v.revert.potFree.setPotResult Pot.NONE)
  else s.potResult d Pot.BUSY

/-- A write of the host to a staged copy, at the field's live address (R16, R22). -/
def State.potWrite (s : State) (d : Part) (a size x : Nat) : State :=
  let v := s.dev d
  if ! v.potMay ownerHolds then s.potResult d Pot.BUSY
  else match potReg d a size with
    | some (r, b) => s.setDev d ((v.stage r b a size x).setPotResult Pot.NONE)
    | none => s

/-- A write to CFG_POT_CTRL (R33). -/
def State.potCtrl (s : State) (d : Part) (w : Nat) : State :=
  let claim := bitOf w 0
  let n := b2n claim + b2n (bitOf w 1) + b2n (bitOf w 2) + b2n (bitOf w 3)
  if 1 < n ∨ (bitOf w 7 ∧ ! claim) then s.potResult d Pot.BUSY
  else if claim then (if bitOf w 7 then s.potForce d else s.potClaim d)
  else if bitOf w 1 then s.potCheck d
  else if bitOf w 2 then s.potPour d
  else if bitOf w 3 then s.potDiscard d
  else s

/-! ### Commands of a core (R269, R507, R508) -/

/-- What a core's Pot command answers: at once, or when a check or a Pour has been decided. -/
inductive PotAns where
  | result (x : Nat)
  | later
deriving DecidableEq, Repr

/-- A core's command after FORCE took its Pot answers DISCARDED, once (R20). -/
def State.potTold (s : State) (n : Nat) (go : State → PotAns × State) : PotAns × State :=
  if (s.core n).potTaken then (.result Pot.DISCARDED, s.modCore n (fun c => { c with potTaken := false })) else go s

/-- STAGE. -/
def State.coreStage (s : State) (n a size x : Nat) : PotAns × State :=
  s.potTold n (fun s =>
    let v := s.dev .sw
    if ! (v.potState == Pot.EMPTY || v.potMay (coreHolds n)) then (.result Pot.BUSY, s)
    else match potReg .sw a size with
      | none => (.result Pot.NOT_POT, s)
      | some (r, b) =>
        if ! potBits r b a size then (.result Pot.NOT_POT, s)
        else (.result 0, s.setDev .sw (((v.stage r b a size x).setPotHolder (coreHolds n)).setPotResult Pot.NONE)))

/-- CHECK of a core. -/
def State.coreCheck (s : State) (n : Nat) : PotAns × State :=
  s.potTold n (fun s =>
    if (s.dev .sw).potMay (coreHolds n) then (.later, s.modDev .sw (fun v => v.setPotState Pot.CHECKING))
    else (.result Pot.BUSY, s))

/-- POUR of a core. -/
def State.corePour (s : State) (n : Nat) : PotAns × State :=
  s.potTold n (fun s =>
    let v := s.dev .sw
    if ! v.potMay (coreHolds n) then (.result Pot.BUSY, s)
    else if v.potPassed && v.potState == Pot.CHECKED then (.later, s.setDev .sw (v.setPotState Pot.POURING))
    else (.result Pot.POUR_STALE, s.potResult .sw Pot.POUR_STALE))

/-- DISCARD of a core. -/
def State.coreDiscard (s : State) (n : Nat) : PotAns × State :=
  s.potTold n (fun s =>
    if (s.dev .sw).potMay (coreHolds n) then (.result 0, s.modDev .sw (fun v => v.revert.potFree.setPotResult Pot.NONE))
    else (.result Pot.BUSY, s))

/-- A core that holds the Pot is reset or takes an exception (R21): the Pot is released now, or when the check or the
Pour under way has been decided. -/
def State.potCoreStops (s : State) (n : Nat) : State :=
  let v := s.dev .sw
  if v.potHolder ≠ coreHolds n then s
  else if v.potState = Pot.CHECKING ∨ v.potState = Pot.POURING then s.setDev .sw { v with potRelease := true }
  else s.setDev .sw (v.revert.potFree.setPotResult Pot.DISCARDED)

/-! ### The membership service's Pour (R428) -/

/-- Every Strainer entry of some ports is REVOKED in one Pour, if the Pot is EMPTY. -/
def Dev.potRevoke (v : Dev) (ports : List Nat) : Option Dev :=
  if v.potState ≠ Pot.EMPTY ∨ v.get F.CFG_BOOT_STATUS_STAGE ≠ 7 then none
  else
    let es := ports.flatMap (fun p => (List.range 256).map (fun e => (p, e)))
    let v1 := es.foldl (fun w x =>
      if w.get (F.PKT_STRAINER_STATE x.1 x.2) = 0 then w else w.set (F.PKT_STRAINER_STATE x.1 x.2) 2) v
    some ((v1.setReg A.CFG_POT_GEN ((v.reg A.CFG_POT_GEN + 1) % 2 ^ 32)).setPotResult Pot.POURED)

end Sys2Proof.Machine
end

