-- ==== Sys2Proof/Machine/Drain.lean ====
section
/-! DEFINITION. Draining a node (R26, R104, R105). -/

namespace Sys2Proof.Machine

/-- The packets that hold cells of a device's packet buffer, or wait behind its link: those that have arrived, that are
queued, and that wait here for their target's step. The copies that a link keeps for replay are in its replay buffer, not
in cells (R109, log 55). -/
def Dev.inBuffer (v : Dev) : List Packet :=
  v.queues.flatMap (fun q => q.2.map (fun x => x.pkt)) ++ v.ports.flatMap (fun p => p.2.arrived.map (fun a => a.pkt))
    ++ v.inbox.map (fun i => i.pkt) ++ v.waiting.filterMap (fun w => match w.item with | .packet i => some i.pkt | .own _ => none)

/-- Every packet that a device buffers: these, those that wait for room at port 32, and those that an end-point holds in
its reorder buffer (R102). -/
def State.buffered (s : State) (d : Part) : List Packet :=
  let v := s.dev d
  v.inBuffer ++ v.outbox.map (fun p => p.1)
    ++ (match d with | .sw => [] | .ep => s.ep.rflows.flatMap (fun f => f.held.map (fun i => i.pkt)))

/-- The drain condition of a node (R26, R104): nothing for it is buffered, and no transaction to it is in flight. A
parked transaction does not count as in flight. -/
def State.drained (s : State) (d : Part) (n : Nat) : Bool :=
  ! (s.buffered d).any (fun p => p.hdr.dst.toNat == n) && ! (s.dev d).txns.any (fun t => t.pkt.hdr.dst.toNat == n && ! t.parked)

/-- PKT_DRAINED k: bit i for node 64 k + i. -/
def State.drainedWord (s : State) (d : Part) (k : Nat) : Nat :=
  (List.range 64).foldl (fun a i => a + b2n (s.drained d (64 * k + i)) * 2 ^ i) 0

/-- PKT_DRAIN k written (R104): for a node whose bit clears, its parked transactions go out again under their
TXN_IDs. -/
def State.drainWrite (s : State) (d : Part) (k x : Nat) : State :=
  let old := (s.dev d).reg (A.PKT_DRAIN k)
  let cleared (n : Nat) : Bool := n / 64 == k && bitOf old (n % 64) && ! bitOf x (n % 64)
  let s1 := s.modDev d (fun v => v.setReg (A.PKT_DRAIN k) x)
  ((s.dev d).txns.filter (fun t => t.parked && cleared t.pkt.hdr.dst.toNat)).foldl (fun a t => a.resend d t) s1

end Sys2Proof.Machine
end

