-- ==== Sys2Proof/Machine/Seq.lean ====
section
/-! DEFINITION. Linal cores (spec/09, spec/10): instruction words and their legality (R242, R243, R261), the core's
registers and time, exceptions (R232), channels (R237), service queues (R235, R236) and how an instruction runs and
ends. -/

namespace Sys2Proof.Machine

/-! ### Instruction words (Table 10.1, Table 10.2) -/

def wOp (w : Nat) : Nat := bitsOf w 7 0
def wSd (w : Nat) : Nat := bitsOf w 12 8
def wSa (w : Nat) : Nat := bitsOf w 17 13
def wSb (w : Nat) : Nat := bitsOf w 22 18
def wDn (w : Nat) : Nat := bitsOf w 25 23
def wDm (w : Nat) : Nat := bitsOf w 28 26
def wForm (w : Nat) : Nat := bitsOf w 29 29
def wSel (w : Nat) : Nat := bitsOf w 33 30
def wScope (w : Nat) : Nat := bitsOf w 36 35
def wOrd (w : Nat) : Nat := bitsOf w 38 37
def wSc (w : Nat) : Nat := bitsOf w 43 39
def wOfs (w : Nat) : Nat := bitsOf w 63 44
def wImm (w : Nat) : Nat := bitsOf w 63 32

/-- The immediate, sign-extended to 64 bits. -/
def wImmX (w : Nat) : Word := BitVec.ofInt 64 (signedOf 32 (wImm w))

/-- OFS, sign-extended to 64 bits. -/
def wOfsX (w : Nat) : Word := BitVec.ofInt 64 (signedOf 20 (wOfs w))

/-- The counter register that a word names in SD. -/
def wCn (w : Nat) : Nat := bitsOf w 11 8

/-- Every field of a list is zero. -/
def allZero (l : List Nat) : Bool := l.all (fun x => x == 0)

/-- Which of SD, SA, SB, DN and IMM a BASE instruction leaves unused (Tables 10.3 to 10.14). -/
structure Unused where
  sd : Bool
  sa : Bool
  sb : Bool
  dn : Bool
  imm : Bool

/-- The unused fields of a BASE opcode; none when the opcode is not one. -/
def baseUnused (op : Nat) : Option Unused :=
  if op = 0x01 then some ⟨true, true, true, true, true⟩
  else if op = 0x02 then some ⟨true, true, true, true, false⟩
  else if 0x03 ≤ op ∧ op ≤ 0x05 then some ⟨false, true, true, true, true⟩
  else if 0x10 ≤ op ∧ op ≤ 0x1D then some ⟨false, false, false, true, true⟩
  else if op = 0x20 ∨ (0x22 ≤ op ∧ op ≤ 0x27) ∨ op = 0x2C ∨ op = 0x2D then some ⟨false, false, true, true, false⟩
  else if op = 0x2E ∨ op = 0x2F then some ⟨false, true, true, true, false⟩
  else if 0x30 ≤ op ∧ op ≤ 0x35 then some ⟨true, false, false, true, false⟩
  else if op = 0x38 then some ⟨false, true, true, true, false⟩
  else if op = 0x39 then some ⟨false, false, true, true, false⟩
  else if 0x40 ≤ op ∧ op ≤ 0x46 then some ⟨false, false, true, true, false⟩
  else if 0x48 ≤ op ∧ op ≤ 0x4B then some ⟨true, false, false, true, false⟩
  else if op = 0x50 ∨ op = 0x52 then some ⟨false, false, true, true, true⟩
  else if op = 0x51 then some ⟨false, true, false, true, true⟩
  else if op = 0x53 ∨ op = 0x54 then some ⟨false, false, true, true, false⟩
  else if op = 0x58 ∨ op = 0x59 then some ⟨true, false, true, false, false⟩
  else if op = 0x5A then some ⟨true, false, true, false, true⟩
  else if op = 0x67 then some ⟨false, true, true, true, true⟩
  else if op = 0x68 then some ⟨false, false, true, true, true⟩
  else if op = 0x69 then some ⟨true, false, false, true, true⟩
  else if op = 0x80 ∨ op = 0x83 then some ⟨false, false, false, true, false⟩
  else if op = 0x81 then some ⟨false, false, false, true, true⟩
  else if op = 0x82 then some ⟨false, false, true, true, true⟩
  else if op = 0x84 ∨ op = 0x88 ∨ op = 0x89 then some ⟨false, false, true, true, false⟩
  else if op = 0x90 then some ⟨true, false, true, true, true⟩
  else if op = 0x91 then some ⟨false, false, true, true, true⟩
  else if op = 0x98 then some ⟨false, true, true, true, true⟩
  else if 0x99 ≤ op ∧ op ≤ 0x9B then some ⟨false, false, true, true, true⟩
  else if op = 0xA0 then some ⟨true, false, true, true, true⟩
  else if op = 0xA1 ∨ op = 0xA8 ∨ op = 0xAA then some ⟨false, false, true, true, true⟩
  else if op = 0xA4 ∨ op = 0xA9 then some ⟨false, false, false, true, false⟩
  else if 0xA5 ≤ op ∧ op ≤ 0xA7 then some ⟨false, true, true, true, true⟩
  else none

/-- The fields that some BASE opcodes restrict further. -/
def baseExtra (w : Nat) : Bool :=
  let op := wOp w
  let imm := wImm w
  if 0x25 ≤ op ∧ op ≤ 0x27 then decide (imm < 64)
  else if op = 0x50 ∨ (0x52 ≤ op ∧ op ≤ 0x54) ∨ op = 0x67 then bitsOf w 12 12 == 0
  else if op = 0x51 then bitsOf w 22 22 == 0
  else if op = 0x80 then decide (1 ≤ imm) && decide (imm ≤ 4)
  else if op = 0x83 then decide (imm < 512)
  else if op = 0x84 then decide (imm < 2)
  else if op = 0x88 then decide (imm < 32)
  else if op = 0x89 then decide (imm < 65536)
  else if op = 0xA4 then decide (imm < 512)
  else if op = 0xA9 then decide (imm < 2)
  else true

/-- ORD and SCOPE by opcode (Table 10.10). -/
def ordOk (w : Nat) : Bool :=
  let o := wOrd w
  let plain := o == 0 && wScope w == 0
  if wOp w = 0x60 then plain || o == 2
  else if wOp w = 0x61 then plain || o == 1
  else if wOp w = 0x66 then o == 0
  else if 0x70 ≤ wOp w ∧ wOp w ≤ 0x79 then plain || o == 1 || o == 2
  else plain

/-- A FAB word's unused and reserved fields are zero (Tables 10.6, 10.7, 10.8, 10.13). -/
def fabUnused (w : Nat) : Bool :=
  let op := wOp w
  let rest := allZero [wSel w, wForm w, wDm w]
  bitsOf w 34 34 == 0 &&
  (if op = 0x60 then rest && wSb w == 0
   else if op = 0x61 then rest && wSd w == 0
   else if 0x70 ≤ op ∧ op ≤ 0x79 then rest
   else if op = 0x62 then allZero [wSd w, wForm w, wDm w, wOfs w]
   else if op = 0x63 ∨ op = 0x64 then
     allZero [wSd w, wSb w, wSel w, wOfs w] && (if wForm w = 1 then wSa w == 0 else wDm w == 0)
   else if op = 0x65 then allZero [wSd w, wSa w, wSb w, wForm w, wDm w, wOfs w] && decide (wSel w ≤ 4)
   else if op = 0x66 then rest && allZero [wSd w, wSa w, wSb w, wDn w, wOfs w]
   else false)

/-- An opcode of the FAB layout. -/
def isFab (op : Nat) : Bool := (decide (0x60 ≤ op) && decide (op ≤ 0x66)) || (decide (0x70 ≤ op) && decide (op ≤ 0x79))

/-- The word is not ILLEGAL by its own bits (R243). -/
def legal (w : Nat) : Bool :=
  if isFab (wOp w) then fabUnused w && ordOk w
  else match baseUnused (wOp w) with
    | none => false
    | some u =>
      bitsOf w 31 26 == 0 && (! u.sd || wSd w == 0) && (! u.sa || wSa w == 0) && (! u.sb || wSb w == 0)
      && (! u.dn || wDn w == 0) && (! u.imm || wImm w == 0) && baseExtra w

/-! ### Registers (R223 to R225) -/

/-- A general register: s0 reads as zero. -/
def Core.sreg (c : Core) (i : Nat) : Word := if i = 0 then 0 else SMap.at 0 c.s i

/-- A general register written: s0 discards it. -/
def Core.setS (c : Core) (i : Nat) (x : Word) : Core := if i = 0 then c else { c with s := SMap.put 0 c.s i x }

def Core.creg (c : Core) (i : Nat) : Word := SMap.at 0 c.c i
def Core.setC (c : Core) (i : Nat) (x : Word) : Core := { c with c := SMap.put 0 c.c i x }
def Core.dreg (c : Core) (i : Nat) : Nat := SMap.at 0 c.dsc i
def Core.setD (c : Core) (i x : Nat) : Core := { c with dsc := SMap.put 0 c.dsc i (x % 2 ^ 256) }

/-- The landing counter and the count that a counter register names (Table 9.1). -/
def ctrLctr (x : Word) : Nat := bitsOf x.toNat 63 48
def ctrTarget (x : Word) : Nat := bitsOf x.toNat 47 0

/-! A descriptor's fields (Table 9.2). -/

def dAddr (d : Nat) : Nat := bitsOf d 255 192
def dPitch (d : Nat) : Nat := bitsOf d 191 160
def dRows (d : Nat) : Nat := bitsOf d 159 144
def dRowUnits (d : Nat) : Nat := bitsOf d 143 128
def dChan (d : Nat) : Nat := bitsOf d 127 108
def dLctr (d : Nat) : Nat := bitsOf d 107 92

/-- R225. -/
def descOk (d : Nat) : Bool :=
  dRows d != 0 && dRowUnits d != 0 && decide (16 * dRowUnits d ≤ dPitch d) && dPitch d % 16 == 0 && dAddr d % 16 == 0
  && bitsOf d 91 0 == 0

/-! ### Core states (Table 9.6) -/

namespace CoreSt
def OFF : Nat := 0
def LOADING : Nat := 1
def LOADED : Nat := 2
def RUNNING : Nat := 3
def HALTING : Nat := 4
def HALTED : Nat := 5
def FAULTED : Nat := 6
end CoreSt

def State.coreState (s : State) (n : Nat) : Nat := s.get .sw (F.SEQ_CORE_STATUS_STATE n)
def State.setCoreState (s : State) (n x : Nat) : State := s.set .sw (F.SEQ_CORE_STATUS_STATE n) x
def State.pc (s : State) (n : Nat) : Nat := s.get .sw (F.SEQ_CORE_STATUS_PC n)
def State.setPc (s : State) (n x : Nat) : State := s.set .sw (F.SEQ_CORE_STATUS_PC n) x
def State.corePriv (s : State) (n bit : Nat) : Bool := bitOf (s.get .sw (F.SEQ_CORE_STATUS_PRIV n)) bit
def State.coreTenant (s : State) (n : Nat) : Nat := s.get .sw (F.SEQ_CORE_STATUS_TENANT n)

/-! Privileges (Table 9.4). -/

namespace Priv
def CONFIG : Nat := 0
def LINK : Nat := 1
def STEP : Nat := 2
def SERVICE : Nat := 3
def HOSTQ : Nat := 4
def ANY_TENANT : Nat := 5
end Priv

/-! ### Cycles and sampling (R239, R245, R445) -/

/-- A core waits for something. -/
def Core.waiting (c : Core) : Bool := c.wait != .none

/-- A core's counts brought up to the present: the sequencer clock runs at 1.7 GHz × (16 − level) ÷ 16, so a ns holds
17 × (16 − level) 160ths of a cycle. -/
def State.accrue (s : State) (n : Nat) : State :=
  let d := (s.now - (s.core n).cycAt) * 17 * (16 - s.get .sw F.PWR_CLK_STATUS_SEQ_LEVEL)
  let runs := s.coreState n == CoreSt.RUNNING || s.coreState n == CoreSt.HALTING
  let c := s.core n
  let stalled := runs && c.waiting
  let s1 := s.setCore n { c with
    cycAt := s.now, cycles := if runs then c.cycles + d else c.cycles,
    stallCycles := if stalled then c.stallCycles + d else c.stallCycles }
  if stalled then s1.count .sw (0xB80 + n) ((c.stallCycles + d) / 160 - c.stallCycles / 160) else s1

/-- A core that waits for something goes on. -/
def State.resume (s : State) (n : Nat) (go : State → State) : State := go (s.accrue n)

/-- What a core counts for sampling under a MODE (Table 9.13). -/
def Core.counted (c : Core) (mode : Nat) : Nat :=
  match mode with
  | 0 => c.retired
  | 1 => c.cycles / 160
  | _ => c.stallCycles / 160

/-- A retiring instruction takes a sample for each multiple of PERIOD that the count has passed (R239). -/
def State.checkSample (s : State) (n : Nat) : State :=
  let v := s.dev .sw
  let period := v.get (F.SEQ_SAMPLE_CTRL_PERIOD n)
  let c := s.core n
  let k := (c.counted (v.get (F.SEQ_SAMPLE_CTRL_MODE n)) - c.evBase) / period
  if v.on (F.SEQ_SAMPLE_CTRL_ENABLE n) && decide (0 < period) && v.get (F.SEQ_SAMPLE_CTRL_MODE n) != 3
      && decide (c.events < k) then
    s.setCore n { c with
      events := k, cross := c.cross ++ List.replicate (k - c.events) ⟨v.step, c.retired, c.cycles / 160, c.stall, [s.pc n]⟩ }
  else s

/-! ### The end of an instruction -/

/-- A sample not yet recorded notes the address of an instruction that retires, up to the eighth after its own (R239). -/
def Sample.follow (x : Sample) (pc : Nat) : Sample := if x.pcs.length < 9 then { x with pcs := x.pcs ++ [pc] } else x

/-- The instruction retires and the core goes on at an address. -/
def State.retireTo (s : State) (n pc : Nat) : State :=
  let s1 := s.modCore n (fun c => { c with
    retired := c.retired + 1, wait := .none, cross := c.cross.map (fun x => x.follow (s.pc n)) })
  let s2 := (s1.count .sw (0xB40 + n) 1).checkSample n
  (s2.modCore n (fun c => { c with stall := 0 })).setPc n pc

/-- The instruction retires and the core goes on with the next. -/
def State.retireI (s : State) (n : Nat) : State := s.retireTo n (s.pc n + 8)

/-- The instruction writes a register and retires. -/
def State.retireS (s : State) (n sd : Nat) (x : Word) : State := (s.modCore n (fun c => c.setS sd x)).retireI n

/-- The instruction stalls, for a cause of Table 9.11, until what it waits for has come about. -/
def State.stallOn (s : State) (n : Nat) (w : Wait) (cause : Nat) : State :=
  s.modCore n (fun c =>
    { c with wait := w, stall := cause, stallAt := if c.wait = .none then s.now else c.stallAt })

/-! ### Exceptions (R232) -/

namespace Exc
def ILLEGAL : Nat := 1
def PRIV : Nat := 2
def LOCAL_RANGE : Nat := 3
def ALIGN : Nat := 4
def LOCAL_ECC : Nat := 5
def CHANNEL_DENIED : Nat := 6
def DESC_INVALID : Nat := 7
def WATCHDOG : Nat := 8
def BREAK : Nat := 9
def QUEUE : Nat := 10
end Exc

/-- An exception: the core becomes FAULTED with the cause, the PC and the detail, its pending bit and the sequencer
interrupt; a Pot it holds is released (R21, R231, R232). -/
def State.except (s : State) (n cause detail : Nat) : State :=
  let s1 := s.modDev .sw (fun v =>
    ((((v.set (F.SEQ_CORE_STATUS_STATE n) CoreSt.FAULTED).set (F.SEQ_CORE_STATUS_EXC_CAUSE n) cause).set
      (F.SEQ_EXC_INFO_PC n) (v.get (F.SEQ_CORE_STATUS_PC n))).set (F.SEQ_EXC_INFO_DETAIL n) detail).setReg
        A.SEQ_EXC_PENDING (setBits (v.reg A.SEQ_EXC_PENDING) n n 1))
  let s2 := s1.modCore n (fun c => { c with wait := .none, stall := 0 })
  ((s2.potCoreStops n).irq .sw 1).count .sw 0xBC2 1

/-- SEQ_CORE_MAP k (Table 9.10). -/
def coreMapReg (k : Nat) : Nat := 0x05000000 + 8 * k

/-- The physical core behind a logical core (R219). -/
def State.corePhys (s : State) (n : Nat) : Nat := bitsOf ((s.dev .sw).reg (coreMapReg (n / 8))) (8 * (n % 8) + 7) (8 * (n % 8))

/-- A physical core is marked failed, in SEQ_SPARE_STATUS where it is a spare (R437). -/
def State.failCore (s : State) (p : Nat) : State :=
  let s1 := { s with sw := { s.sw with badCores := if s.sw.badCores.contains p then s.sw.badCores else s.sw.badCores ++ [p] } }
  if 64 ≤ p then s1.set .sw F.SEQ_SPARE_STATUS_FAILED (setBit (s.get .sw F.SEQ_SPARE_STATUS_FAILED) (p - 64) true) else s1

/-- An uncorrectable error in local memory is reported as every other is (R416): UE, the place, vector 3. TEL_UE_LAST has no
UNIT for local memory: the unit is a free value, and no counter counts it (log 52). -/
def State.localUe (s : State) (a : Nat) : State :=
  ((s.modDev .sw (fun v => (v.set F.TEL_FAULT_STATUS_UE 1).setReg A.TEL_UE_LAST
    (Config.choice s.fresh % 16 * 2 ^ 60 + a % 2 ^ 48))).draw).faultIrq .sw

/-- LOCAL_ECC at a local address; a second one at the same address since the load marks the physical core failed (R437). -/
def State.localEcc (s : State) (n a : Nat) : State :=
  let s1 := (s.localUe a).modCore n (fun c => { c with eccAt := c.eccAt ++ [a] })
  (if (s.core n).eccAt.contains a then s1.failCore (s.corePhys n) else s1).except n Exc.LOCAL_ECC a

/-! ### Running an instruction -/

/-- The word at a core's PC, when the fetch lies in the code region (R222). -/
def State.fetch (s : State) (n : Nat) : Option Nat :=
  if s.pc n + 8 ≤ (s.core n).codeBytes then some (Memory.num (s.core n).mem (s.pc n) 8) else none

/-- A core can take an instruction now: it runs, and the instruction at its PC waits for nothing. -/
def State.coreReady (s : State) (n : Nat) : Bool :=
  s.coreState n == CoreSt.RUNNING && ((s.core n).wait == .none || (s.core n).wait == .retry)

/-- The step of core `n` that executes an instruction: it happens when the core can take one and the legal word at its
PC is one that the step names. -/
def State.instr (s : State) (n : Nat) (names : Nat → Bool) (run : Nat → State → State) : State :=
  let s := s.accrue n
  if s.coreReady n then
    match s.fetch n with
    | some w => if legal w && names w then run w s else s
    | none => s
  else s

/-- The word's opcode. -/
def opIs (op : Nat) (w : Nat) : Bool := wOp w == op

/-- ILLEGAL (R243): a word with no meaning raises ILLEGAL; a fetch outside the code region raises LOCAL_RANGE. -/
def State.illegal (s : State) (n : Nat) : State :=
  let s := s.accrue n
  if s.coreReady n then
    match s.fetch n with
    | some w => if legal w then s else s.except n Exc.ILLEGAL (w % 2 ^ 46)
    | none => s.except n Exc.LOCAL_RANGE (s.pc n)
  else s

/-- A privilege that an instruction needs (R228). -/
def State.needPriv (s : State) (n bit : Nat) (go : State → State) : State :=
  if s.corePriv n bit then go s else s.except n Exc.PRIV bit

/-! ### Local memory (R221, R222, R249) -/

def localSize : Nat := 0x40000

/-- The checks of a local access of `size` bytes at `a`: ALIGN, then LOCAL_RANGE. -/
def State.localAcc (s : State) (n a size : Nat) (write : Bool) (go : State → State) : State :=
  if a % size ≠ 0 then s.except n Exc.ALIGN a
  else if localSize < a + size ∨ (write ∧ a < (s.core n).codeBytes) then s.except n Exc.LOCAL_RANGE a
  else go s

def State.setLocal (s : State) (n a : Nat) (bs : List Byte) : State :=
  s.modCore n (fun c => { c with mem := Memory.setBytes c.mem a bs })

/-! ### Channels of a core (R237, R251, R510) -/

/-- What a core's use of a channel comes to. -/
inductive CoreChan where
  | denied (closed : Bool)
  | miss
  | ok (raw bucket : Nat)
deriving DecidableEq, Repr

/-- The channel check of R237, with the admission bucket of R510 where `bucket` asks for it: it is found here, and taken by
`State.grant` once no check can stop the instruction (R244). -/
def State.coreChan (s : State) (n chan : Nat) (bucket : Bool) : CoreChan × State :=
  if bucket && (s.dev .sw).fenced then (.denied false, s)
  else match s.useChan .sw chan with
  | (.closed, s1) => (.denied true, s1)
  | (.miss, s1) => (.miss, s1)
  | (.entry raw, s1) =>
    let c := chanOf raw
    if ¬ s1.corePriv n Priv.ANY_TENANT ∧ c.tenant ≠ s1.coreTenant n then (.denied false, s1)
    else if bucket && c.promised then
      match (s1.dev .sw).bucketFor s1.now chan c with
      | none => (.denied false, s1)
      | some (b, _) => (.ok raw b, s1)
    else (.ok raw 0, s1)

/-- A promised channel's bucket is taken as the instruction's first packet is handed over (R244, R510). -/
def State.grant (s : State) (chan raw : Nat) : State :=
  if (chanOf raw).promised then
    match (s.dev .sw).bucketFor s.now chan (chanOf raw) with
    | some (_, v) => s.setDev .sw v
    | none => s
  else s

/-- A fabric instruction's channel: the instruction goes on with the entry, waits for it, or raises CHANNEL_DENIED. -/
def State.withChan (s : State) (n chan : Nat) (go : Nat → Nat → State → State) : State :=
  match s.coreChan n chan true with
  | (.denied _, s1) => s1.except n Exc.CHANNEL_DENIED chan
  | (.miss, s1) => s1.stallOn n .retry 0
  | (.ok raw b, s1) => go raw b s1

/-- A descriptor that an instruction uses (R225). -/
def State.withDesc (s : State) (n dn : Nat) (go : Nat → State → State) : State :=
  let d := (s.core n).dreg dn
  if descOk d then go d s else s.except n Exc.DESC_INVALID dn

/-! ### Service queues (R235, R236) -/

def State.squeue (s : State) (q : Nat) : SQueue := SMap.at ⟨0, []⟩ s.sw.squeues q

def State.setSqueue (s : State) (q : Nat) (x : SQueue) : State :=
  { s with sw := { s.sw with squeues := SMap.put ⟨0, []⟩ s.sw.squeues q x } }

/-- Slots of a record. -/
def slotsOf (bytes : Nat) : Nat := ceilDiv bytes 64

/-- Slots that a queue's records and their padding take; COUNT shows its low 16 bits (log 48). -/
def SQueue.used (x : SQueue) : Nat := x.recs.foldl (fun k r => k + r.slots + r.pad) 0

/-- Appends a record to a service queue (R235): none when it does not fit or the queue is not enabled. -/
def State.enqueue (s : State) (q tenant : Nat) (data : List Byte) : Option State :=
  let v := s.dev .sw
  let depth := v.get (F.SEQ_QUEUE_B_DEPTH_M1 q) + 1
  let x := s.squeue q
  let n := slotsOf data.length
  let pad := if x.wr + n ≤ depth then 0 else depth - x.wr
  if ¬ v.on (F.SEQ_QUEUE_B_ENABLE q) ∨ depth < x.used + pad + n ∨ depth < n then none
  else
    let at_ := if pad = 0 then x.wr else 0
    let r : QRec := ⟨at_, n, pad, data.length / 16, data, tenant⟩
    some ((s.setSqueue q ⟨(at_ + n) % depth, x.recs ++ [r]⟩).set .sw (F.SEQ_QUEUE_B_COUNT q) (x.used + pad + n))

/-- Takes the oldest record of a queue and frees its slots and its padding (R235, R263). -/
def State.dequeue (s : State) (q : Nat) : Option (QRec × State) :=
  match (s.squeue q).recs with
  | [] => none
  | r :: rs =>
    some (r, (s.setSqueue q { s.squeue q with recs := rs }).set .sw (F.SEQ_QUEUE_B_COUNT q) (SQueue.used ⟨0, rs⟩))

/-- SEQ_QUEUE_DISABLE (R236): the queue takes no more records, and those it holds are discarded and counted; DROPPED says so, and
the records themselves leave COUNT. -/
def State.disableQueue (s : State) (q : Nat) : State :=
  if s.get .sw (F.SEQ_QUEUE_B_ENABLE q) = 0 then s
  else
    let s := { s with sw := { s.sw with
      qDiscards := SMap.put 0 s.sw.qDiscards q (SMap.at 0 s.sw.qDiscards q + (s.squeue q).recs.length) } }
    ((s.setSqueue q ⟨0, []⟩).modDev .sw (fun v =>
      ((v.set (F.SEQ_QUEUE_B_ENABLE q) 0).set (F.SEQ_QUEUE_B_COUNT q) 0).set (F.SEQ_QUEUE_B_DROPPED q)
        (if (s.squeue q).recs.isEmpty then v.get (F.SEQ_QUEUE_B_DROPPED q) else 1)))

/-! ### A core's outstanding transactions (R226) -/

def Dev.coreOut (v : Dev) (n : Nat) : Nat :=
  (v.txns.filter (fun t => t.agent == .core n)).length + (v.pends.filter (fun p => p.agent == .core n)).length
  + (v.releases.filter (fun r => r.pend.agent == .core n)).length

/-- The entries that the 64 cores hold together. -/
def Dev.coresOut (v : Dev) : Nat :=
  let is (a : Agent) : Bool := match a with | .core _ => true | _ => false
  (v.txns.filter (fun t => is t.agent)).length + (v.pends.filter (fun p => is p.agent)).length
  + (v.releases.filter (fun r => is r.pend.agent)).length

/-- Some packet of a job still has to be handed to port 32, and only room there, or in the flight table, holds it back
(R109, R226). -/
def Dev.handsOver (v : Dev) (now job : Nat) : Bool :=
  v.pends.any (fun p => p.job == job && (v.admits now p || ! v.flightRoom p.agent))

/-- The stall cause of an instruction that still hands packets over (Table 9.11). -/
def Dev.handCause (v : Dev) (n : Nat) : Nat := if v.flightRoom (.core n) then 3 else 4

/-- WATCHDOG may end what a core waits for: a wait that R233 names, or a REDUCE (spec/10, section Windows and emission). An
instruction whose first packet has been handed over, or whose command a block has taken, raises no exception any more
(R244; log 48). -/
def State.mayBark (s : State) (n : Nat) : Bool :=
  let v := s.dev .sw
  let unsent (job : Nat) : Bool := v.jobs.any (fun j => j.id == job && j.parts ==
    (v.pends.filter (fun p => p.job == job)).length + (v.releases.filter (fun r => r.pend.job == job)).length)
  match (s.core n).wait with
  | .job id _ _ => unsent id
  | .handing id _ => unsent id
  | .fence _ _ => true
  | .counter => true
  | .take _ _ _ => true
  | .emit _ _ => true
  | .retry => true
  | _ => false

/-- What an instruction that waits has not sent yet is taken back: packets of its job, and a release held for it (R231,
R232). A posted release stays held at the source (R255). -/
def State.takeBack (s : State) (n : Nat) : State :=
  let drop (job : Nat) : State := s.modDev .sw (fun v => v.giveUp (fun p => p.agent == .core n && p.job == job))
  match (s.core n).wait with
  | .job id _ _ => drop id
  | .handing id _ => drop id
  | .fence id _ => s.modDev .sw (fun v => { v with fences := v.fences.filter (fun f => f.id != id) })
  | _ => s

/-- A transaction-starting instruction stalls at the limit (cause 0x4) and when port 32 has no room (cause 0x3). -/
def State.roomFor (s : State) (n : Nat) (h : PktHdr) (go : State → State) : State :=
  let v := s.dev .sw
  if 16384 ≤ v.coreOut n ∨ 1048576 ≤ v.coresOut then s.stallOn n .retry 4
  else if ¬ (v.ownOff h ∨ v.ownRoom h) then s.stallOn n .retry 3
  else go s

end Sys2Proof.Machine
end

