-- ==== Sys2Proof/Machine/Dedup.lean ====
section
/-! DEFINITION. Exactly once at the target (R139 to R142): the slots, the decision of Table 6.4, and the end of a
request at its target. -/

namespace Sys2Proof.Machine

/-- The index of a request's slot: source and TXN_ID[15:0] (R139). -/
def slotKey (h : PktHdr) : Nat := h.src.toNat * 65536 + h.txn.toNat % 65536

def Dev.slot (v : Dev) (k : Nat) : Option Slot := SMap.at none v.slots k

def Dev.setSlot (v : Dev) (k : Nat) (x : Option Slot) : Dev := { v with slots := SMap.put none v.slots k x }

/-- A covered request (R139). -/
def covered (op : Nat) : Bool := op == Op.WRITE || op == Op.AMO || op == Op.REDUCE || op == Op.MSG

/-- What Table 6.4 decides. -/
inductive Decision where
  | apply
  | unknown
  | again (resp : Packet)
  | hold
deriving DecidableEq, Repr

/-- Table 6.4 (R140). -/
def Dev.dedup (v : Dev) (h : PktHdr) : Decision :=
  match v.slot (slotKey h) with
  | none => if h.retry = 1 then .unknown else .apply
  | some x =>
    if x.txn = h.txn then
      match x.state with
      | .pending => .hold
      | .done => match x.resp with | some r => .again r | none => .unknown
      | .expired => .unknown
    else
      let diff := (h.txn - x.txn).toNat
      if 1 ≤ diff ∧ diff ≤ 2147483647 then .apply else .unknown

/-- The slot becomes PENDING with the request's TXN_ID. -/
def Dev.pendSlot (v : Dev) (now : Nat) (h : PktHdr) : Dev :=
  v.setSlot (slotKey h) (some ⟨h.txn, .pending, none, now, 0⟩)

/-- A consumed packet leaves the inbox's accounts: its cells are free. -/
def State.consumed (s : State) (d : Part) (i : Inbox) : State :=
  s.modDev d (fun v => v.freeCells s.now i.port i.pkt.hdr.cls i.resv i.shared)

/-- A response to a request of a tenant, counting RESULT_UNKNOWN answers (Table 18.1). -/
def State.answer (s : State) (d : Part) (tenant : Nat) (r : Packet) : State :=
  let s1 := if r.hdr.status.toNat = Code.RESULT_UNKNOWN then s.count d 0xC02 1 else s
  s1.respond d r tenant

/-- The response that a request gets when it cannot complete (R137, R138). -/
def errorFor (h : PktHdr) (status : Nat) : Packet :=
  if h.op = Op.READ then responseTo h Op.READ_DATA status (List.replicate (16 * h.reqUnits.toNat) 0xFF)
  else responseTo h Op.ERROR status []

/-- A request ends at its target with its response: a covered request's slot becomes DONE and holds the response, copies
that were held are answered too, and the packet's cells are free (R135, R140). A request of which the window cannot tell
whether it was applied leaves its slot as it is. -/
def State.finish (s : State) (d : Part) (i : Inbox) (r : Packet) : State :=
  let h := i.pkt.hdr
  let s1 := (s.consumed d i).answer d i.tenant r
  if covered h.op ∧ i.note = .plain then
    match (s.dev d).slot (slotKey h) with
    | some x =>
      if x.txn = h.txn then
        let s2 := s1.modDev d (fun v => v.setSlot (slotKey h) (some ⟨h.txn, .done, some r, s.now, 0⟩))
        (List.range x.held).foldl (fun a _ => a.answer d i.tenant r) s2
      else s1
    | none => s1
  else s1

/-- The inbound window that holds a whole range for a tenant, and the address it maps to (R380). -/
def Dev.inbound (v : Dev) (tenant off n : Nat) : Option (Nat × Nat) :=
  (List.range 16).findSome? (fun w =>
    let base := v.get (F.EP_INBOUND_A_BASE w) * 65536
    let size := v.get (F.EP_INBOUND_B_SIZE w) * 65536
    if v.on (F.EP_INBOUND_B_ENABLE w) ∧ v.get (F.EP_INBOUND_B_TENANT w) = tenant ∧ base ≤ off ∧ off + n ≤ base + size then
      some (w, v.get (F.EP_INBOUND_C_ACCEL_ADDR w) * 65536 + (off - base))
    else none)

/-- The first request in the inbox with an opcode that may be taken now: an ordered packet waits for every earlier packet
of its flow (R157), and at an end-point an AMO waits for an earlier AMO to its word, by whatever window it came (R381). -/
def Dev.firstOf (v : Dev) (op : Nat) : Option Inbox :=
  let sameFlow (a b : PktHdr) : Bool := a.ordered == 1 && b.ordered == 1 && a.src == b.src && a.channel == b.channel
  let busy (i : Inbox) : Bool := v.part == .ep && v.waiting.any (fun w =>
    match w.item with
    | .packet j => sameFlow j.pkt.hdr i.pkt.hdr || (j.pkt.hdr.op == Op.AMO && i.pkt.hdr.op == Op.AMO
        && (v.inbound i.tenant i.pkt.hdr.offset.toNat 8).any (fun x => w.store.any (fun y => y.1 == x.2)))
    | .own _ => false)
  (List.range v.inbox.length).findSome? (fun k =>
    match v.inbox[k]? with
    | some i =>
      if i.pkt.hdr.op = op ∧ ¬ busy i ∧ ¬ (v.inbox.take k).any (fun j => sameFlow j.pkt.hdr i.pkt.hdr) then some i
      else none
    | none => none)

/-- The inbox without an item. -/
def Dev.takeInbox (v : Dev) (i : Inbox) : Dev := { v with inbox := v.inbox.erase i }

/-- A request's OP_ARG is one that R134 allows (REDUCE has its own rule, spec/07). -/
def argAllowed (h : PktHdr) : Bool :=
  if h.op = Op.AMO then decide (h.opArg.toNat ≤ 9)
  else if h.op = Op.MSG ∨ h.op = Op.REDUCE then true
  else h.opArg == 0

/-- The conditions of UNSUPPORTED that need no memory (Table 6.3, R103, R136, R380). -/
def Dev.unsupported (v : Dev) (h : PktHdr) : Bool :=
  ! argAllowed h
  || (v.part == .sw && h.ordered == 1)
  || (h.op == Op.AMO && (h.offset.toNat % 8 != 0 || h.payUnits != 1))
  || (covered h.op && decide (v.get F.MEM_DEDUP_CFG_SOURCES ≤ h.src.toNat))
  || (v.part == .ep && (h.op == Op.REDUCE || h.op == Op.MSG))

/-- What a request meets before it is carried out: it has been answered, it goes on with its slot PENDING, or the window
cannot tell whether it was applied: then it is answered RESULT_UNKNOWN, unless an earlier condition of Table 6.3 that can be
seen without carrying it out holds (R137). -/
inductive Admission where
  | answered (s : State)
  | go (s : State)
  | unsure (s : State)

/-- Unsupported requests and the decision of R140, for a request already taken from the inbox; `ecc` says what its slot
met (Table 16.1, Table 16.2). The duplicate of an ordered packet is never applied again: with no response held for
it, it is taken as one of which the window cannot tell (DESIGN CHOICE, log 44). A REDUCE is checked only once it is applied
(R169), so it answers RESULT_UNKNOWN at once. -/
def State.admitReq (s : State) (d : Part) (i : Inbox) (ecc : Ecc) : Admission :=
  let h := i.pkt.hdr
  let v := s.dev d
  -- the window lies below RESV_TOP at a switch, in the end-point's buffers at an end-point
  let unit := match d with | .sw => 8 | .ep => 11
  let s := if ecc = .fixed ∧ covered h.op ∧ ¬ v.unsupported h then s.ce d unit 1 else s
  let unsure (s : State) : Admission :=
    if h.op = Op.REDUCE then .answered ((s.consumed d i).answer d i.tenant (errorFor h Code.RESULT_UNKNOWN)) else .unsure s
  if v.unsupported h then .answered ((s.consumed d i).answer d i.tenant (errorFor h Code.UNSUPPORTED))
  else if ! covered h.op then .go s
  else if ecc = .bad then
    let s1 := (s.modDev d (fun v => v.setSlot (slotKey h) (some ⟨h.txn, .expired, none, s.now, 0⟩))).ue d unit
      (v.get F.MEM_DEDUP_CFG_BASE * 2 ^ 20 + h.src.toNat * 2 ^ 20 + 16 * (h.txn.toNat % 65536))
    unsure s1
  else match v.dedup h with
    | .unknown => unsure s
    | .again r => .answered ((s.consumed d i).answer d i.tenant r)
    | .hold =>
      .answered ((s.consumed d i).modDev d (fun v =>
        match v.slot (slotKey h) with
        | some x => v.setSlot (slotKey h) (some { x with held := x.held + 1 })
        | none => v))
    | .apply => if i.note = .dup then unsure s else .go (s.modDev d (fun v => v.pendSlot s.now h))

/-- SLOT_EXPIRE (R141): a DONE slot becomes EXPIRED no sooner than 4.0 ms after its response was sent. -/
def State.slotExpire (s : State) (d : Part) (src slot : Nat) : State :=
  let k := src * 65536 + slot
  match (s.dev d).slot k with
  | some x =>
    if x.state = .done ∧ x.at_ + 4000000 ≤ s.now then
      s.modDev d (fun v => v.setSlot k (some { x with state := .expired, resp := none }))
    else s
  | none => s

end Sys2Proof.Machine
end

