-- ==== Sys2Proof/Machine/TierCmd.lean ====
section
/-! DEFINITION. Tile-control commands (R292, R293) and the ends of the moves they and accesses start (R290, R291). -/

namespace Sys2Proof.Machine

/-- What a command has come to on one tile. -/
inductive TileRes where
  | done
  | begun
  | wait
  | fail (status : Nat)
deriving DecidableEq, Repr

/-- A tile is moved to HOT or DRAM for a command: it begins, or waits for room, or finds none. -/
def State.tileTo (s : State) (t tier : Nat) (k : MoveKind) : State × TileRes :=
  match s.room tier (s.tile t).tenant with
  | .yes s1 => (s1.startMove t tier k, .begun)
  | .wait s1 _ => (s1, .wait)
  | .no => (s.set .sw F.MEM_TIER_STATUS_QUOTA 1, .fail Code.QUOTA)

/-- A tile joins the write buffer for a WRITEBACK (R291, Table 11.6). -/
def State.startWriteback (s : State) (t : Nat) : State × TileRes :=
  let x := s.tile t
  if ! s.caddyTakes || (! x.backed && ! s.quotaFree 3 x.tenant) then
    (s.set .sw F.MEM_TIER_STATUS_QUOTA 1, .fail Code.QUOTA)
  else (s.startFlash t .writeback, .begun)

/-- Table 11.6: a command on one tile. `begun` says that its move has already begun. A DEMOTE, which no one needs for room,
waits while background work is deferred (R454). -/
def State.tileStep (s : State) (c : TileCmd) (t : Nat) (begun : Bool) : State × TileRes :=
  let x := s.tile t
  let moving := (s.moveOf t).isSome
  if begun then (s, if (if c.cmd = 8 then (s.wbOf t).isSome else moving) then .wait else .done)
  else match c.cmd with
  | 0x01 =>
    if x.mapped then (s, .fail Code.OUT_OF_RANGE)
    else (s.setTile t { Tile.unmapped with
      mapped := true, tenant := c.tenant, home := c.home, floor := c.floor, stepver := c.stepver }, .done)
  | 0x02 =>
    if x.shadow || x.copying then (s.modTile t (fun y => { y with freeDue := true }), .wait)
    else if ! x.mapped then (s, .done)
    else (s.freeTile t, .done)
  | 0x03 =>
    if x.shadow then
      (s.modTile t (fun y => { y with home := c.home, floor := c.floor, policyDue := some c.stepver }), .done)
    else if x.copying then (s.modTile t (fun y => { y with home := c.home, floor := c.floor }), .wait)
    else
      let s0 := s.modTile t (fun y => { y with home := c.home, floor := c.floor, stepver := c.stepver })
      let s1 := if c.floor < 3 then s0.giveUpDemote t else s0
      match s1.moveOf t with
      | some m => (s1, if max x.tier m.to_ ≤ c.floor then .done else .wait)
      | none =>
        if x.tier = 0 ∨ x.tier ≤ c.floor then (s1, .done)
        else s1.tileTo t c.floor (if x.tier = 3 then .promote else .migrate)
  | 0x04 =>
    if x.tier = 0 ∨ x.tier = 1 ∨ x.shadow then (s, .done)
    else if moving || x.copying then (s, .wait)
    else s.tileTo t 1 (if x.tier = 3 then .promote else .migrate)
  | 0x05 =>
    if x.tier ≠ 3 ∨ x.shadow then (s, .done)
    else if moving then (s, .wait)
    else s.tileTo t 2 .promote
  | 0x06 =>
    let s1 := (s.modTile t (fun y => { y with pinned := true })).giveUpDemote t
    if x.tier ≠ 3 then (s1, .done)
    else if moving then (s1, .wait)
    else s1.tileTo t 2 .promote
  | 0x07 => (s.modTile t (fun y => { y with pinned := false }), .done)
  | 0x08 =>
    if x.floor ≠ 3 ∨ ! x.dirty ∨ x.tier = 0 ∨ x.tier = 3 ∨ x.shadow then (s, .done)
    else if moving || x.copying || (s.wbOf t).isSome then (s, .wait)
    else s.startWriteback t
  | _ =>
    if x.tier = 0 ∨ x.tier = 3 ∨ x.shadow ∨ x.floor ≤ x.tier ∨ (x.tier = 2 ∧ x.pinned) then (s, .done)
    else if moving ∨ x.copying ∨ s.deferred then (s, .wait)
    else if x.tier = 1 then s.tileTo t 2 .migrate
    else match s.startDemote t with
      | some s1 => (s1, if (s1.tile t).tier = 3 then .done else .begun)
      | none => (s.set .sw F.MEM_TIER_STATUS_QUOTA 1, .fail Code.QUOTA)

/-- A command's pass over the tiles it has still to do: the state, the tiles left, those whose move has begun, and the
STATUS of the first tile that fails, which ends the command (R292). -/
def State.tilePass (s : State) (c : TileCmd) : List Nat → State × List Nat × List Nat × Option Nat
  | [] => (s, [], [], none)
  | t :: ts =>
    match s.tileStep c t (c.begun.contains t) with
    | (s1, .done) => s1.tilePass c ts
    | (s1, .begun) =>
      let r := s1.tilePass c ts
      (r.1, t :: r.2.1, t :: r.2.2.1, r.2.2.2)
    | (s1, .wait) =>
      let r := s1.tilePass c ts
      (r.1, t :: r.2.1, if c.begun.contains t then t :: r.2.2.1 else r.2.2.1, r.2.2.2)
    | (s1, .fail code) => (s1, [], [], some code)

/-- A tile command has ended with a STATUS: its packet is answered, or its job's part completes. -/
def State.tileCmdDone (s : State) (c : TileCmd) (status : Nat) : State :=
  let s1 := match c.packet with
    | some i =>
      if status = Code.OK then
        (s.modDev .sw (fun v => v.land i.pkt.hdr.lctr.toNat i.pkt.hdr.payUnits.toNat)).finish .sw i
          (responseTo i.pkt.hdr Op.ACK 0 [])
      else s.finish .sw i (errorFor i.pkt.hdr status)
    | none => s
  match c.job with
  | some j => s1.modDev .sw (fun v => v.jobPart j status)
  | none => s1

/-- A command goes as far as it can now; it is kept while tiles are left. -/
def State.runTileCmd (s : State) (c : TileCmd) : State :=
  match s.tilePass c c.tiles with
  | (s1, _, _, some code) => s1.tileCmdDone c code
  | (s1, [], _, none) => s1.tileCmdDone c Code.OK
  | (s1, left, begun, none) =>
    s1.modTiers (fun x => { x with cmds := x.cmds ++ [{ c with tiles := left, begun := begun }] })

/-- Every command that waits is tried again, oldest first. -/
def State.tileCmds (s : State) : State :=
  s.tiers.cmds.foldl (fun a c => a.runTileCmd c) (s.modTiers (fun x => { x with cmds := [] }))

/-- A command has nothing more to wait for on a tile: its move has ended or been cancelled, or a FREE has taken effect at the
step's end (R292, Table 11.6). -/
def State.tileOver (s : State) (c : TileCmd) (t : Nat) : Bool :=
  if c.begun.contains t then (if c.cmd = 8 then (s.wbOf t).isNone else (s.moveOf t).isNone)
  else c.cmd == 2 && ! (s.tile t).shadow && ! (s.tile t).copying

/-- Commands that have completed for a tile go on at once. -/
def State.tilesOver (s : State) : State :=
  if s.tiers.cmds.any (fun c => c.tiles.any (fun t => s.tileOver c t)) then s.tileCmds else s

/-- A DEMOTE that background work's deferral held (R454) goes on once THROTTLE is below 8. -/
def State.resumeDemotes (s : State) : State :=
  if ! s.deferred && s.tiers.cmds.any (fun c => c.cmd == 9 && c.tiles.any (fun t => ! c.begun.contains t)) then s.tileCmds else s

/-- The tiles of a command's range. -/
def tileRange (first count : Nat) : List Nat := (List.range count).map (fun i => first + i)

/-- R293: the checks of a command before any tile is touched, then its run. -/
def State.tileCommand (s : State) (c : TileCmd) (first count : Nat) (reserved : Bool) : State :=
  if c.cmd = 0 ∨ 9 < c.cmd ∨ count = 0 ∨ 256 < count ∨ reserved then s.tileCmdDone c Code.UNSUPPORTED
  else if s.dirTiles < first + count then s.tileCmdDone c Code.OUT_OF_RANGE
  else if c.cmd ≠ 1 ∧ (tileRange first count).any (fun t => ! (s.tile t).mapped || (s.tile t).tenant != c.tenant) then
    s.tileCmdDone c Code.OUT_OF_RANGE
  else s.runTileCmd { c with tiles := tileRange first count, begun := [] }

/-- A command from the 32 B of Table 11.5. -/
def tileCmdOf (pay : List Byte) (packet : Option Inbox) (job : Option Nat) : TileCmd × Nat × Nat × Bool :=
  let w0 := ofLe (pay.take 8)
  let w1 := ofLe ((pay.drop 8).take 8)
  ({ cmd := bitsOf w1 63 56, tenant := bitsOf w1 55 50, home := bitsOf w1 49 48, floor := bitsOf w1 47 46,
     stepver := bitOf w1 45, tiles := [], begun := [], packet := packet, job := job },
   bitsOf w0 63 32, bitsOf w0 8 0,
   bitsOf w0 31 9 != 0 || bitsOf w1 44 0 != 0 || ofLe ((pay.drop 16).take 16) != 0)

/-! ### Ends of moves -/

/-- What the reads of a tile that is copied whole met (R13): a corrected word is counted. Which word of the tile it is is not
specified (free, log 1). -/
def State.copyRead (s : State) (t : Nat) (ecc : Ecc) (go : State → State) (bad : State → State) : State :=
  match ecc with
  | .clean => go s
  | .fixed => go (s.ce .sw (s.tile t).unit.1 1)
  | .bad => bad ((s.copyBad t (Config.choice s.fresh % tileBytes)).1.draw)

/-- A move has read its source with an uncorrectable error (Table 16.2): the tile is LOST, and the move is given up; a clean
tile that is BACKED is being promoted again from its stripe. -/
def State.moveSpoilt (s : State) (t : Nat) : State := if (s.tile t).lost then s.dropMove t else s

/-- The copy for a shadow has met an uncorrectable error in the current copy: the tile is LOST, and no shadow is taken. -/
def State.shadowSpoilt (s : State) (t : Nat) : State :=
  (s.uncharge 2 (s.tile t).tenant).modTile t (fun y => { y with copying := false, shadowDirty := false, shadowLoc := 0 })

/-- MIGRATION_COMPLETE (R290): at one instant LOC and TIER change; the source and its charge are freed. -/
def State.migrated (s : State) (t : Nat) : State :=
  match s.moveOf t with
  | none => s
  | some m =>
    if m.kind = .migrate then
      let x := s.tile t
      ((((s.uncharge x.tier x.tenant).endMove t .migrate).modTile t (fun y =>
        { y with tier := m.to_, loc := m.loc, migrating := false })).count .sw (if m.to_ = 1 then 0xC04 else 0xC05) 1)
    else s

/-- DEMOTION_COMPLETE (R291): the stripe stands; BACKED, STRIPE and DIRTY change, and for a demotion TIER does too. -/
def State.demoted (s : State) (t : Nat) : State :=
  match s.flashOf t with
  | none => s
  | some m =>
    let x := s.tile t
    let s0 := (if x.backed then s.dropStripe x.stripe t else s).endMove t m.kind
    -- a tile that was backed meanwhile is charged for one stripe only
    let s1 := if x.backed && m.charged then s0.uncharge 3 x.tenant else s0
    let s2 := s1.modTile t (fun y => { y with backed := true, stripe := m.stripe.getD 0, dirty := false, stripeBad := false })
    if m.kind = .demote then
      let s3 := match s2.wbOf t with | some w => s2.undoFlash w | none => s2
      ((s3.modTile t (fun y => { y with migrating := false })).toCaddy t).count .sw 0xC05 1
    else s2

end Sys2Proof.Machine
end

