-- ==== Sys2Proof/Machine/Target.lean ====
section
/-! DEFINITION. READ, WRITE and AMO at their target: a switch's store (spec/11, spec/12), the tile-control aperture
(R292), an end-point's inbound windows (R380, R381), and the accesses that wait. -/

namespace Sys2Proof.Machine

/-- The access a request makes. -/
def accessOf (p : Packet) : Access :=
  let h := p.hdr
  if h.op = Op.READ then .read (16 * h.reqUnits.toNat)
  else if h.op = Op.AMO then .amo h.opArg.toNat (wordOf p.pay 0) (wordOf p.pay 1)
  else .write p.pay h.byteEn.toNat

/-- A request has been carried out: LCTR counts a WRITE (R148), and the response goes (R135, R136). -/
def State.applied (s : State) (d : Part) (i : Inbox) (data : List Byte) : State :=
  let h := i.pkt.hdr
  if h.op = Op.READ then s.finish d i (responseTo h Op.READ_DATA 0 data)
  else if h.op = Op.AMO then s.finish d i (responseTo h Op.AMO_RESULT 0 (data.take 8 ++ List.replicate 8 0))
  else (s.modDev d (fun v => v.land h.lctr.toNat h.payUnits.toNat)).finish d i (responseTo h Op.ACK 0 [])

/-! ### At a switch -/

/-- R292: the tile-control aperture takes packets from port 32 only, issued by a program that holds ANY_TENANT or by a
host command of the owner function. -/
def Dev.tileAllowed (v : Dev) (i : Inbox) : Bool :=
  i.port == ownPort && i.pkt.hdr.src.toNat == v.node && v.txns.any (fun t => t.id == i.pkt.hdr.txn &&
    match t.agent with
    | .core n => bitOf (v.get (F.SEQ_CORE_STATUS_PRIV n)) 5
    | .host q => v.get (F.HIF_SQ_B_FUNC q) == 0
    | _ => false)

/-- A request in the tile-control aperture (R292); an entry read in error is treated as in Table 16.2. -/
def State.tileAperture (s : State) (i : Inbox) (ecc : Ecc) : State :=
  let h := i.pkt.hdr
  let low := h.offset.toNat % 2 ^ 48
  if ! (s.dev .sw).tileAllowed i then s.finish .sw i (errorFor h Code.OUT_OF_RANGE)
  else if h.op = Op.READ ∧ low < 2 ^ 47 then
    let t := low / 16
    let n := h.reqUnits.toNat
    -- which of the entries read holds the word is not specified (free, log 1)
    let b := t + Config.choice s.fresh % n
    let at_ := s.get .sw F.MEM_DIR_BASE_BASE * 65536 + 16 * b
    let read (s : State) : State :=
      s.finish .sw i (responseTo h Op.READ_DATA 0 ((List.range n).flatMap (fun k => leBytes 16 (s.tile (t + k)).bits)))
    if s.dirTiles < t + n then s.finish .sw i (errorFor h Code.OUT_OF_RANGE)
    else match ecc with
      | .clean => read s
      | .fixed => read (s.ce .sw 8 1)
      | .bad => (((s.ue .sw 8 at_).entryLost b).draw).finish .sw i (errorFor h Code.RESULT_UNKNOWN)
  else if h.op = Op.WRITE ∧ low = 2 ^ 47 then
    if i.note = .unsure then s.finish .sw i (errorFor h Code.RESULT_UNKNOWN)
    else if h.payUnits = 2 then
      let c := tileCmdOf i.pkt.pay (some i) none
      s.tileCommand c.1 c.2.1 c.2.2.1 c.2.2.2
    else s.finish .sw i (errorFor h Code.UNSUPPORTED)
  else s.finish .sw i (errorFor h Code.OUT_OF_RANGE)

/-- A request on the switch's own range, from its translation on. -/
def State.runStore (s : State) (i : Inbox) (ecc : Ecc) (store : Option (Nat × Nat)) : State :=
  let h := i.pkt.hdr
  let r := s.storeAccess i.tenant h.offset.toNat (accessOf i.pkt) h.stepTag.toNat
    ((s.dev .sw).mode i.port h.cls == 1) ecc store (s.faultRecOf h i.tenant)
  match r.2 with
  | .ok data => r.1.applied .sw i data
  | .fail c => r.1.finish .sw i (errorFor h c)
  | .wait b st e => r.1.modDev .sw (fun v => { v with waiting := v.waiting ++ [⟨.packet i, b, st, e⟩] })

/-- A READ, WRITE or AMO at a switch, once admitted (R282). The switch decides a request under R140 before it translates it
(R323): where the window cannot tell whether it was applied, it is answered without a translation. -/
def State.runSwitch (s : State) (i : Inbox) (ecc : Ecc) : State :=
  let region := i.pkt.hdr.offset.toNat / 2 ^ 48
  if region = 0xF then s.finish .sw i (errorFor i.pkt.hdr Code.OUT_OF_RANGE)
  else if region = 0xE then s.tileAperture i ecc
  else if i.note = .unsure then
    s.finish .sw i (errorFor i.pkt.hdr
      (if s.get .sw (F.SEC_TENANT_REMOVING i.tenant) = 1 then Code.OUT_OF_RANGE else Code.RESULT_UNKNOWN))
  else s.runStore i ecc none

/-! ### At an end-point -/

/-- The window's permission bits, as READ, WRITE, ATOMIC (Table 14.7). -/
def Dev.windowPerms (v : Dev) (w : Nat) : Nat :=
  v.get (F.EP_INBOUND_B_READ w) + 2 * v.get (F.EP_INBOUND_B_WRITE w) + 4 * v.get (F.EP_INBOUND_B_ATOMIC w)

/-- A READ, WRITE or AMO at an end-point, once admitted: it is handed to the compute die, or answered OUT_OF_RANGE
(R380, R381). An uncorrectable error in the ingress or reorder buffer drops the packet (Table 16.2); the spec gives the word
no address, and TEL_UE_LAST takes 0 (DESIGN CHOICE, log 52). -/
def State.runEndPoint (s : State) (i : Inbox) (ecc : Ecc) : State :=
  let h := i.pkt.hdr
  let v := s.dev .ep
  let k := accessOf i.pkt
  let n := if h.op = Op.AMO then 8 else h.span
  let s := if ecc = .fixed then s.ce .ep 0xB 1 else s
  if ecc = .bad then
    ((s.ue .ep 0xB 0).consumed .ep i).modDev .ep (fun v => if covered h.op ∧ i.note = .plain then v.setSlot (slotKey h) none else v)
  else match v.inbound i.tenant h.offset.toNat n with
    | none => s.finish .ep i (errorFor h Code.OUT_OF_RANGE)
    | some (w, a) =>
      if Nat.land (v.windowPerms w) k.needs ≠ k.needs then s.finish .ep i (errorFor h Code.OUT_OF_RANGE)
      else if i.note = .unsure then s.finish .ep i (errorFor h Code.RESULT_UNKNOWN)
      else
        let id := v.nextDie + 1
        let s1 := s.setDev .ep { v with nextDie := id, waiting := v.waiting ++ [⟨.packet i, .die id, some (a, 0), .clean⟩] }
        match k with
        | .write bytes _ => s1.emit (.dieWrite id a bytes)
        | .amo op x y => if Config.dieAtomic op then s1.emit (.dieAmo id a op x y) else s1.emit (.dieRead id a n)
        | .read _ => s1.emit (.dieRead id a n)

/-- COMPUTE_DIE_ACKNOWLEDGE (R135, R381): the access has been made in the accelerator's memory, and its response goes. An AMO
reads its word and then writes the new value: its AMO_RESULT waits for the acknowledgement of that write, with the old value
kept beside the address (as value + 1; 0 while the read is under way). Where the die offers an atomic of its own, the
end-point uses it, and one acknowledgement ends the AMO (R136, R381). Nothing crosses an attach that does not run (R367). -/
def State.dieDone (s : State) (id : Nat) : State :=
  let v := s.dev .ep
  match v.waiting.find? (fun w => w.on == .die id) with
  | some ⟨.packet i, _, some (a, was), _⟩ =>
    if ! s.attachOn then s else
    let k := accessOf i.pkt
    let r := Memory.access v.mem a k
    let rest := v.waiting.filter (fun w => w.on != .die id)
    match k, was with
    | .amo op _ _, 0 =>
      if Config.dieAtomic op then (s.setDev .ep { v with waiting := rest, mem := r.2 }).applied .ep i r.1 else
      let n := v.nextDie + 1
      (s.setDev .ep { v with
        nextDie := n, mem := r.2, waiting := rest ++ [⟨.packet i, .die n, some (a, ofLe r.1 + 1), .clean⟩] }).emit
          (.dieWrite n a (Memory.bytes r.2 a 8))
    | .amo _ _ _, x + 1 => (s.setDev .ep { v with waiting := rest }).applied .ep i (leBytes 16 x)
    | _, _ => (s.setDev .ep { v with waiting := rest, mem := r.2 }).applied .ep i r.1
  | _ => s

/-! ### A request taken from the inbox -/

/-- What a target's step met (R13): `ue` is 1 when the memory addressed meets an uncorrectable error, 2 when the
deduplication slot does; 3 and 4 when one or two bits are corrected there. -/
def memEcc (ue : Nat) : Ecc := if ue = 1 then .bad else if ue = 3 then .fixed else .clean

def slotEcc (ue : Nat) : Ecc := if ue = 2 then .bad else if ue = 4 then .fixed else .clean

/-- TARGET_READ, TARGET_WRITE and TARGET_AMO: the oldest request of the opcode that may be taken. -/
def State.target (s : State) (d : Part) (op ue : Nat) : State :=
  let run (s : State) (i : Inbox) : State :=
    match d with
    | .sw => s.runSwitch i (memEcc ue)
    | .ep => s.runEndPoint i (memEcc ue)
  match (s.dev d).firstOf op with
  | none => s
  | some i =>
    match (s.modDev d (fun v => v.takeInbox i)).admitReq d i (slotEcc ue) with
    | .answered s1 => s1
    | .go s1 => run s1 i
    | .unsure s1 => run s1 { i with note := .unsure }

/-! ### Accesses that wait -/

/-- An access that waited goes on, with what the word it has still to reach meets (R13). -/
def State.rerun (s : State) (w : Waiting) (store : Option (Nat × Nat)) : State :=
  match w.item with
  | .packet i => s.runStore i w.ecc store
  | .own o => s.ownWrite o store

/-- An access that waited faults in its walk (R323), and is counted (Table 18.1). -/
def State.walkFault (s0 : State) (w : Waiting) (cause level : Nat) : State :=
  let s := s0.count .sw (0xC70 + cause) 1
  match w.item with
  | .packet i =>
    (s.gatherFault { s.faultRecOf i.pkt.hdr i.tenant with cause := cause, level := level }).finish .sw i
      (errorFor i.pkt.hdr Code.XLT_FAULT)
  | .own o =>
    (s.gatherFault { s.faultRecOwn o.tenant o.off with cause := cause, level := level }).modDev .sw
      (fun v => v.jobPart o.job Code.XLT_FAULT)

/-- The tenant, offset and permissions that a waiting access translates. -/
def Waiting.request (w : Waiting) : Nat × Nat × Nat :=
  match w.item with
  | .packet i => (i.tenant, i.pkt.hdr.offset.toNat, (accessOf i.pkt).needs)
  | .own o => (o.tenant, o.off, 2)

/-- A tile's move or shadow copy has ended: accesses to it and tile commands go on. -/
def State.wakeTile (s : State) (t : Nat) : State :=
  let ws := (s.dev .sw).waiting.filter (fun w => w.on == .tile t)
  let s1 := s.modDev .sw (fun v => { v with waiting := v.waiting.filter (fun w => w.on != .tile t) })
  (ws.foldl (fun a w => a.rerun w w.store) s1).tileCmds.raises

/-- Accesses that wait for a tile that is no longer on the move go on. -/
def State.wakeIdle (s : State) : State :=
  let ts := (s.dev .sw).waiting.filterMap (fun w => match w.on with
    | .tile t => if (s.moveOf t).isNone && ! (s.tile t).copying then some t else none
    | _ => none)
  ts.eraseDups.foldl (fun a t => a.wakeTile t) s

/-- WALK_COMPLETE at a switch (R313, R316, R318, R321): the walk's entries are cached unless it faulted or an
invalidation was written since it began; every access that waited on it goes on or faults. -/
def State.walkDone (s : State) (n : Nat) (bad : Option Nat) : State :=
  let v := s.dev .sw
  match v.walks.find? (fun w => w.num == n) with
  | none => s
  | some w =>
    if ! w.busy then s
    else
      let r := v.walk w.id w.addr w.access bad
      let s1 := (s.countWalk .sw w.id w.addr r.2).modDev .sw (fun x => x.endWalk n)
      let ws := v.waiting.filter (fun x => x.on == .walk n)
      let s2 := s1.modDev .sw (fun x => { x with waiting := x.waiting.filter (fun y => y.on != .walk n) })
      let s2 := match v.badEntry w.id w.addr w.access bad with | some a => s2.ue .sw 8 a | none => s2
      if w.stale then ws.foldl (fun a x => a.rerun x none) s2
      else
        let s3 := match r.1 with
          | .page _ _ => s2.cacheEntries .sw r.2
          | .fault _ _ => s2
        ws.foldl (fun a x =>
          let q := x.request
          match (v.walk q.1 q.2.1 q.2.2 bad).1 with
          | .page ad l => a.rerun x (some (ad, l))
          | .fault c l => a.walkFault x c l) s3

/-! ### Responses at their source -/

/-- The outstanding transaction that a response answers. -/
def Dev.txnOf (v : Dev) (h : PktHdr) : Option Txn := v.txns.find? (fun t => t.id == h.txn && t.pkt.hdr.dst == h.src)

/-- READ_DATA, ACK, AMO_RESULT and ERROR at their source (R91, R143, R146, R149): the first response retires its
transaction; a later one is discarded and counted; a READ_DATA of the wrong length is dropped as not well-formed. -/
def State.response (s : State) (d : Part) (op : Nat) : State :=
  match (s.dev d).inbox.find? (fun i => i.pkt.hdr.op == op) with
  | none => s
  | some i =>
    let h := i.pkt.hdr
    let s1 := (s.modDev d (fun v => v.takeInbox i)).consumed d i
    match (s.dev d).txnOf h with
    | none => s1.count d 0xC01 1
    | some t =>
      if op = Op.READ_DATA ∧ (t.pkt.hdr.op ≠ Op.READ ∨ h.payUnits ≠ t.pkt.hdr.reqUnits) then s1.drop d i.port h 1
      else s1.retire d t h.status.toNat i.pkt.pay

end Sys2Proof.Machine
end

