-- ==== Sys2Proof/Machine/Window.lean ====
section
/-! DEFINITION. Reduction windows (spec/07): arming and clearing (R191), contributions (R166 to R170) and emission
(R181 to R183). -/

namespace Sys2Proof.Machine

/-! ### A window's settings -/

def State.win (s : State) (w : Nat) : Win := SMap.at Win.idle s.sw.wins w

def State.setWin (s : State) (w : Nat) (x : Win) : State :=
  { s with sw := { s.sw with wins := SMap.put Win.idle s.sw.wins w x } }

def State.modWin (s : State) (w : Nat) (f : Win → Win) : State := s.setWin w (f (s.win w))

/-- A window's arithmetic (word B of Table 7.17). -/
def Dev.redCfg (v : Dev) (w : Nat) : RedCfg :=
  { fmt := v.get (F.RED_WIN_B_FORMAT w), outFmt := v.get (F.RED_WIN_B_OUT_FORMAT w), op := v.get (F.RED_WIN_B_OP w),
    sat := v.on (F.RED_WIN_B_SAT w), weighted := v.on (F.RED_WIN_B_WEIGHTED w), carryIn := v.on (F.RED_WIN_B_CARRY_IN w),
    scaleLo := v.get (F.RED_WIN_B_SCALE_LO w) }

def Dev.contribs (v : Dev) (w : Nat) : Nat := v.get (F.RED_WIN_B_CONTRIBS_M1 w) + 1
def Dev.pieces (v : Dev) (w : Nat) : Nat := v.get (F.RED_WIN_B_PIECES_M1 w) + 1
def Dev.lastElems (v : Dev) (w : Nat) : Nat := v.get (F.RED_WIN_B_LAST_ELEMS w)

/-- Elements per source piece (R167). -/
def Dev.srcElems (v : Dev) (w : Nat) : Nat := elemsPerPiece (v.redCfg w).inCode

/-- Elements of a window. -/
def Dev.totalElems (v : Dev) (w : Nat) : Nat := (v.pieces w - 1) * v.srcElems w + v.lastElems w

/-- The window's output goes into a reduction aperture (R183). -/
def Dev.toAperture (v : Dev) (w : Nat) : Bool := bitsOf (v.get (F.RED_WIN_C_OUT_ADDR w)) 51 48 == 0xF

/-- Source pieces that destination piece `j` touches (R183). -/
def Dev.sourcesOf (v : Dev) (w j : Nat) : List Nat :=
  let ed := elemsPerPiece (v.redCfg w).outFmt
  let es := v.srcElems w
  let lo := j * ed
  let hi := min (lo + ed) (v.totalElems w)
  (List.range (v.pieces w)).filter (fun p => decide (p * es < hi) && decide (lo < (p + 1) * es))

/-- Destination pieces that span a source-piece boundary: each needs an assembly block (R183). -/
def Dev.assemblyBlocks (v : Dev) (w : Nat) : Nat :=
  if v.toAperture w then
    let ed := elemsPerPiece (v.redCfg w).outFmt
    ((List.range (ceilDiv (v.totalElems w) ed)).filter (fun j => decide (1 < (v.sourcesOf w j).length))).length
  else 0

/-! ### Arming and clearing (R191) -/

namespace Arm
def OK : Nat := 0
def GEOMETRY : Nat := 1
def FORMAT : Nat := 2
def WEIGHTED : Nat := 3
def MX_ALIGN : Nat := 4
def NOT_IDLE : Nat := 5
def DISABLED : Nat := 6
end Arm

/-- R189: a carry output goes into a reduction aperture, and, where its window is this switch's own, to one that takes
it. -/
def Dev.carryTarget (v : Dev) (w : Nat) : Bool :=
  let c := v.redCfg w
  if isCarry c.outFmt then
    let a := v.get (F.RED_WIN_C_OUT_ADDR w)
    v.toAperture w &&
      (a / 2 ^ 52 != v.node ||
        (let d := v.redCfg (bitsOf a 47 40)
         d.fmt == c.fmt && d.op == c.op && d.carryIn && (! isMx c.fmt || d.scaleLo == c.scaleLo)))
  else true

/-- Every reason for which ARM would fail. -/
def Dev.armFaults (v : Dev) (w : Nat) : List Nat :=
  let c := v.redCfg w
  let n := v.lastElems w
  (if v.contribs w * v.pieces w + v.assemblyBlocks w > v.get (F.RED_WIN_A_SIZE w) ∨ n = 0 ∨ v.srcElems w < n then
    [Arm.GEOMETRY] else [])
  ++ (if ! c.allowed || ! v.carryTarget w then [Arm.FORMAT] else [])
  ++ (if c.weighted && ! (c.op == 0 && decide (c.fmt ≤ 1) && ! c.carryIn && v.get (F.RED_WIN_D_ROW_32 w) != 0) then
    [Arm.WEIGHTED] else [])
  ++ (if (isMx c.fmt || isMx c.outFmt) && v.totalElems w % 512 != 0 then [Arm.MX_ALIGN] else [])
  ++ (if v.get (F.RED_WIN_STATUS_STATE w) ≠ 0 then [Arm.NOT_IDLE] else [])
  ++ (if v.on (F.RED_WIN_A_ENABLE w) then [] else [Arm.DISABLED])

/-- The result of ARM: OK, or one of the reasons; which one when there are several is not specified (free, log 1). -/
def State.armResult (s : State) (w : Nat) : Nat :=
  match (s.dev .sw).armFaults w with
  | [] => Arm.OK
  | [r] => r
  | rs => rs.getD (Config.choice s.fresh % rs.length) Arm.GEOMETRY

/-- ARM (R191). -/
def State.arm (s : State) (w tag : Nat) : Nat × State :=
  let r := s.armResult w
  let s1 := s.draw.set .sw (F.RED_WIN_STATUS_ARM_RESULT w) r
  (r,
    if r = Arm.OK then
      (((s1.set .sw (F.RED_WIN_STATUS_STATE w) 1).set .sw (F.RED_WIN_STATUS_STEP_TAG w) tag).set .sw
        (F.RED_WIN_STATUS_EMITTED w) 0).setWin w Win.idle
    else s1)

/-- An emission command has come to its end with a code of Table 7.9. -/
def EmitCmd.over (c : EmitCmd) (code : Nat) : EmitCmd := { c with left := [], result := some code }

/-- Commands that work on windows which a clear or a reset takes back end NOT_ARMED. -/
def State.endEmits (s : State) (p : EmitCmd → Bool) : State :=
  { s with sw := { s.sw with emits := s.sw.emits.map (fun (c : EmitCmd) => if p c && c.result.isNone then c.over 2 else c) } }

/-- CLEAR (R191): every binding and every block being assembled is dropped at once, and the window is CLEARING. -/
def State.clearWin (s : State) (w : Nat) : State :=
  if s.get .sw (F.RED_WIN_STATUS_STATE w) = 1 then
    ((s.set .sw (F.RED_WIN_STATUS_STATE w) 2).setWin w Win.idle).endEmits (fun c => c.win == w)
  else s

/-- The window is IDLE again (WIN_CLEAR_COMPLETE). -/
def State.winCleared (s : State) (w : Nat) : State :=
  if s.get .sw (F.RED_WIN_STATUS_STATE w) = 2 then s.set .sw (F.RED_WIN_STATUS_STATE w) 0 else s

/-! ### Contributions (R166 to R170) -/

/-- A counter of the selected window (TEL_RED_SEL). -/
def State.redCount (s : State) (w i : Nat) : State :=
  if s.get .sw F.TEL_RED_SEL_ALL = 1 ∨ s.get .sw F.TEL_RED_SEL_WINDOW = w then s.count .sw i 1 else s

/-- A slot's index in a window. -/
def slotOf (piece contrib : Nat) : Nat := 4096 * piece + contrib

def Win.slot (x : Win) (piece contrib : Nat) : List Byte := SMap.at [] x.bound (slotOf piece contrib)

/-- A piece's bound count. -/
def Win.boundCount (x : Win) (piece contribs : Nat) : Nat :=
  ((List.range contribs).filter (fun c => ! (x.slot piece c).isEmpty)).length

/-- PAY_UNITS of a piece (R166): the last one carries LAST_ELEMS elements in whole units. -/
def Dev.pieceUnits (v : Dev) (w piece : Nat) : Nat :=
  let code := (v.redCfg w).inCode
  ceilDiv (elemsBytes code (if piece + 1 = v.pieces w then v.lastElems w else elemsPerPiece code)) 16

/-- R189 at the receiving window: the contribution is no carry image of this switch's own, or its window has the FORMAT,
the OP and, for MX, the SCALE_LO that the image was summed with. A packet of another node names its carry code alone
(log 46). -/
def Dev.carryFits (v : Dev) (w : Nat) (h : PktHdr) : Bool :=
  let c := v.redCfg w
  h.src.toNat != v.node || (v.txns.filter (fun t => t.id == h.txn)).all (fun t =>
    match t.land with
    | .carry fmt op lo => c.fmt == fmt && c.op == op && (! isMx fmt || c.scaleLo == lo)
    | _ => true)

/-- The checks of Table 7.3: none, or the number of the first that fails. -/
def State.reduceCheck (s : State) (tenant : Nat) (h : PktHdr) : Option Nat :=
  let v := s.dev .sw
  let o := h.offset.toNat
  let w := bitsOf o 47 40
  let contrib := bitsOf o 39 28
  let piece := bitsOf o 27 13
  if o / 2 ^ 48 ≠ 0xF ∨ ¬ v.on (F.RED_WIN_A_ENABLE w) ∨ v.get (F.RED_WIN_STATUS_STATE w) ≠ 1 then some 1
  else if tenant ≠ v.get (F.RED_WIN_A_TENANT w) then some 2
  else if h.opArg.toNat ≠ (v.redCfg w).inCode ∨ v.carryFits w h = false then some 3
  else if h.stepTag.toNat ≠ v.get (F.RED_WIN_STATUS_STEP_TAG w) then some 4
  else if v.contribs w ≤ contrib ∨ v.pieces w ≤ piece then some 5
  else if h.payUnits.toNat ≠ v.pieceUnits w piece then some 6
  else if (s.win w).emitted.contains piece then some 7
  else if ! ((s.win w).slot piece contrib).isEmpty then some 8
  else none

/-- STATUS and status bit of a failing check (Table 7.3). -/
def reduceStatus (k : Nat) : Nat := if k = 5 ∨ k = 6 then Code.OUT_OF_RANGE else Code.UNSUPPORTED

def reduceBit (k w : Nat) : Option Fld :=
  match k with
  | 2 => some (F.RED_WIN_STATUS_FMT_MISMATCH w)
  | 3 => some (F.RED_WIN_STATUS_FMT_MISMATCH w)
  | 4 => some (F.RED_WIN_STATUS_STEP_STALE w)
  | 7 => some (F.RED_WIN_STATUS_LATE w)
  | 8 => some (F.RED_WIN_STATUS_REBOUND w)
  | _ => none

/-- A contribution binds (R170). -/
def State.bind (s : State) (w piece contrib : Nat) (pay : List Byte) : State :=
  let n := (s.dev .sw).contribs w
  (s.modWin w (fun x =>
    let y := { x with bound := SMap.put [] x.bound (slotOf piece contrib) pay }
    if y.boundCount piece n = n then { y with ready := y.ready ++ [piece] } else y)).count .sw (0x900 + w) 1

/-- A REDUCE once admitted (R169, R170). -/
def State.runReduce (s : State) (i : Inbox) : State :=
  let h := i.pkt.hdr
  let w := bitsOf h.offset.toNat 47 40
  match s.reduceCheck i.tenant h with
  | some k =>
    let s1 := match reduceBit k w with
      | some f => s.set .sw f 1
      | none => s
    (s1.redCount w (0xB00 + k - 1)).finish .sw i (errorFor h (reduceStatus k))
  | none =>
    ((s.bind w (bitsOf h.offset.toNat 27 13) (bitsOf h.offset.toNat 39 28) i.pkt.pay).modDev .sw (fun v =>
      v.land h.lctr.toNat h.payUnits.toNat)).finish .sw i (responseTo h Op.ACK 0 [])

/-- TARGET_REDUCE: the oldest REDUCE that may be taken. An end-point answers it UNSUPPORTED (R380). -/
def State.targetReduce (s : State) (d : Part) (ecc : Ecc) : State :=
  match (s.dev d).firstOf Op.REDUCE with
  | none => s
  | some i =>
    match d, (s.modDev d (fun v => v.takeInbox i)).admitReq d i ecc with
    | _, .answered s1 => s1
    | _, .unsure s1 => s1
    | .sw, .go s1 => s1.runReduce i
    | .ep, .go s1 => s1.finish .ep i (errorFor i.pkt.hdr Code.UNSUPPORTED)

/-! ### Emission commands (R181) -/

/-- The result of a command whose pieces have all been dealt with; the code when both ALREADY and INCOMPLETE apply is not
specified (free, log 1). -/
def State.emitCode (s : State) (c : EmitCmd) : Nat :=
  if c.already ∧ c.incomplete then (if Config.choice s.fresh % 2 = 0 then 4 else 1)
  else if c.already then 4 else if c.incomplete then 1 else 0

/-- Commands with no piece left complete. -/
def State.closeEmits (s : State) : State :=
  { s with sw := { s.sw with emits := s.sw.emits.map (fun (c : EmitCmd) =>
      if c.result.isNone && c.left.isEmpty then c.over (s.emitCode c) else c) } }.draw

/-- The earliest command without PARTIAL that names a piece and has still to emit it (R181). -/
def State.namedBy (s : State) (w piece : Nat) : Option EmitCmd :=
  s.sw.emits.find? (fun d => d.win == w && d.result.isNone && ! d.partial_ && d.left.contains piece)

/-- A ready piece that an earlier command is emitting: a later command finds it ALREADY (Table 7.14). -/
def State.beingEmitted (s : State) (w piece : Nat) : Bool :=
  (s.win w).ready.contains piece && (s.namedBy w piece).isSome

/-- A piece becomes EMITTED for one command; other commands that name it find it ALREADY. -/
def State.claimPiece (s : State) (cmd w piece : Nat) : State :=
  let s1 := { s with sw := { s.sw with emits := s.sw.emits.map (fun (c : EmitCmd) =>
    if c.win = w ∧ c.id ≠ cmd ∧ c.result.isNone ∧ c.left.contains piece ∧ ! c.partial_ then
      { c with left := c.left.erase piece, already := true } else c) } }
  ((s1.modWin w (fun x => { x with emitted := x.emitted ++ [piece], ready := x.ready.erase piece })).set .sw
    (F.RED_WIN_STATUS_EMITTED w) (s1.get .sw (F.RED_WIN_STATUS_EMITTED w) + 1)).count .sw (0xA00 + w) 1

/-- An emission command (R181): its id. With PARTIAL every named piece becomes EMITTED now, from the slots bound now;
the lanes work them off in PIECE_EMIT. -/
def State.startEmit (s : State) (w first count : Nat) (part : Bool) (o : Owner) : Nat × State :=
  let id := s.sw.nextEmit
  let v := s.dev .sw
  let c : EmitCmd := ⟨id, w, [], o, part, false, false, none⟩
  let add (c : EmitCmd) : State :=
    { s with sw := { s.sw with nextEmit := id + 1, emits := s.sw.emits ++ [c] } }
  if v.get (F.RED_WIN_STATUS_STATE w) ≠ 1 then (id, add (c.over 2))
  else if v.pieces w < first + count then (id, add (c.over 3))
  else
    let named := (List.range count).map (fun k => first + k)
    let gone := named.filter (fun p => (s.win w).emitted.contains p || s.beingEmitted w p)
    let todo := named.filter (fun p => ! ((s.win w).emitted.contains p || s.beingEmitted w p))
    let short := part && todo.any (fun p => decide ((s.win w).boundCount p (v.contribs w) < v.contribs w))
    let s1 := add { c with left := todo, already := ! gone.isEmpty, incomplete := short }
    let s2 := if part then todo.foldl (fun a p => a.claimPiece id w p) s1 else s1
    let s3 := if short then s2.set .sw (F.RED_WIN_STATUS_INCOMPLETE w) 1 else s2
    (id, s3.closeEmits)

/-- Whether a command's piece can be emitted now: at once with PARTIAL, else as the first of the window's ready pieces
that some command names, by the earliest command that names it (Table 7.14). -/
def State.canEmit (s : State) (c : EmitCmd) (piece : Nat) : Bool :=
  c.result.isNone && c.left.contains piece &&
    (c.partial_ || ((s.win c.win).ready.find? (fun p => (s.namedBy c.win p).isSome) == some piece &&
      (s.namedBy c.win piece).any (fun d => d.id == c.id)))

/-! ### The arithmetic of a piece -/

/-- First element and number of elements of a source piece. -/
def Dev.pieceRange (v : Dev) (w piece : Nat) : Nat × Nat :=
  (piece * v.srcElems w, if piece + 1 = v.pieces w then v.lastElems w else v.srcElems w)

/-- The weight rows that a piece touches: the first, and how many. -/
def Dev.weightRows (v : Dev) (w piece : Nat) : Nat × Nat :=
  let r := v.pieceRange w piece
  let row := 32 * v.get (F.RED_WIN_D_ROW_32 w)
  (r.1 / row, (r.1 + r.2 - 1) / row - r.1 / row + 1)

/-- A piece's weights, row by row, one BF16 for each contribution slot (R177); none while an access waits. -/
def State.pieceWeights (s : State) (w piece : Nat) : State × Option (List Byte) :=
  let v := s.dev .sw
  if v.on (F.RED_WIN_B_WEIGHTED w) then
    let r := v.weightRows w piece
    let k := v.contribs w
    s.readOwn (v.get (F.RED_WIN_A_TENANT w)) (v.get (F.RED_WIN_STATUS_STEP_TAG w))
      (packetsOf (v.get (F.RED_WIN_E_WEIGHT_ADDR w) + 2 * (r.1 * k)) (2 * (r.2 * k))) []
  else (s, some [])

/-- The accumulators of a piece (R182); an uncorrectable error in a staging block sets OVF in each (Table 16.2). -/
def State.pieceAccs (s : State) (w piece : Nat) (weights : List Byte) (bad : Bool) : List Acc :=
  let v := s.dev .sw
  let c := v.redCfg w
  let k := v.contribs w
  let r := v.pieceRange w piece
  let row := 32 * v.get (F.RED_WIN_D_ROW_32 w)
  let slots := (List.range k).filterMap (fun j =>
    let d := (s.win w).slot piece j
    if d.isEmpty then none else some (j, d))
  (List.range r.2).map (fun i =>
    let a := accOf c (slots.map (fun x => (x.2,
      if c.weighted then
        some (ofLe ((weights.drop (2 * (((r.1 + i) / row - (v.weightRows w piece).1) * k + x.1))).take 2))
      else none))) i
    if bad then { a with ovf := true } else a)

/-- What emitting a piece sets in the window's status (Table 7.18), each counted once for the piece. -/
def State.emitStatus (s : State) (w : Nat) (f : EmitFlags) : State :=
  [(f.nan, F.RED_WIN_STATUS_NAN_SEEN w, 0xB0D), (f.inf, F.RED_WIN_STATUS_INF_SEEN w, 0xB0E),
   (f.ovf, F.RED_WIN_STATUS_OVF w, 0xB0F), (f.sat, F.RED_WIN_STATUS_SAT_EVENT w, 0xB10),
   (f.inexact, F.RED_WIN_STATUS_INEXACT_IN w, 0xB11)].foldl
    (fun a x => if x.1 then (a.set .sw x.2.1 1).redCount w x.2.2 else a) s

/-! ### Output (R182, R183) -/

/-- The byte enables of bytes `lo` to `lo + n − 1` of a unit. -/
def enablesOf (lo n : Nat) : Nat := (2 ^ n - 1) * 2 ^ lo

/-- A run of bytes at an address as WRITEs: whole units in as few packets as R92 allows, and a unit covered in part as a
packet of its own with its byte enables. Each is offset, payload and BYTE_EN. -/
def writesOf (off : Nat) (bs : List Byte) : List (Nat × List Byte × Nat) :=
  let n := bs.length
  let part (a : Nat) (d : List Byte) : Nat × List Byte × Nat :=
    (a / 16 * 16, List.replicate (a % 16) 0 ++ d ++ List.replicate (16 - a % 16 - d.length) 0, enablesOf (a % 16) d.length)
  let head := if off % 16 = 0 then 0 else min n (16 - off % 16)
  let mid := (n - head) / 16 * 16
  (if head = 0 then [] else [part off (bs.take head)])
  ++ (packetsOf (off + head) mid).map (fun p => (p.1, (bs.drop (p.1 - off)).take p.2, 0xFFFF))
  ++ (if head + mid = n then [] else [part (off + head + mid) (bs.drop (head + mid))])

/-- The items of a list with a mark on the last. -/
def markLast {α : Type} (l : List α) : List (α × Bool) :=
  (List.range l.length).zipWith (fun k a => (a, k + 1 == l.length)) l

/-- An output packet of a window. -/
def Dev.emitOut (v : Dev) (w dst off : Nat) (pay : List Byte) (en : Nat) (code : Option Nat) (last : Bool) : EmitOut :=
  { win := w, dst := dst, off := off, pay := pay, byteEn := en, code := code, last := last,
    cfg := ((v.redCfg w).fmt, (v.redCfg w).op, (v.redCfg w).scaleLo),
    chan := v.get (F.RED_WIN_D_OUT_CHANNEL w), lctr := v.get (F.RED_WIN_D_OUT_LCTR w),
    tenant := v.get (F.RED_WIN_A_TENANT w), step := v.get (F.RED_WIN_STATUS_STEP_TAG w) }

/-- A destination piece as a REDUCE, padded to whole units (R183). -/
def Dev.destPiece (v : Dev) (w j : Nat) (bytes : List Byte) : EmitOut :=
  let a := v.get (F.RED_WIN_C_OUT_ADDR w)
  let pay := bytes ++ List.replicate (16 * ceilDiv bytes.length 16 - bytes.length) 0
  v.emitOut w (a / 2 ^ 52) ((a % 2 ^ 52 + j * 8192) % 2 ^ 52) pay 0xFFFF (some (v.redCfg w).outFmt) true

/-- Bytes in the order of their offsets. -/
def joinShares (l : List (Nat × List Byte)) : List Byte :=
  let bytes (o : Nat) : Option (List Byte) := (l.find? (fun x => x.1 == o)).map (fun x => x.2)
  (List.range l.length).foldl (fun (acc : List Byte) _ => acc ++ (bytes acc.length).getD []) []

/-- A source piece's share of destination piece `j`: sent when the piece is whole, else assembled (R183). -/
def State.share (s : State) (w piece j : Nat) (out : List Byte) : State :=
  let v := s.dev .sw
  let c := v.redCfg w
  let ed := elemsPerPiece c.outFmt
  let r := v.pieceRange w piece
  let lo := max r.1 (j * ed)
  let hi := min (r.1 + r.2) ((j + 1) * ed)
  let bytes := (out.drop (elemsBytes c.outFmt (lo - r.1))).take (elemsBytes c.outFmt (hi - lo))
  let send (a : State) (bs : List Byte) : State := { a with sw := { a.sw with outs := a.sw.outs ++ [v.destPiece w j bs] } }
  let srcs := v.sourcesOf w j
  if srcs.length ≤ 1 then send s bytes
  else
    let x := s.win w
    let old := (x.asm.find? (fun m => m.dest == j)).getD ⟨j, [], []⟩
    let m : Assembly := ⟨j, old.bytes ++ [(elemsBytes c.outFmt (lo - j * ed), bytes)], old.got ++ [piece]⟩
    let rest := x.asm.filter (fun m => m.dest != j)
    if srcs.all (fun p => m.got.contains p) then send (s.setWin w { x with asm := rest }) (joinShares m.bytes)
    else s.setWin w { x with asm := rest ++ [m] }

/-- An emitted piece's bytes go where OUT_ADDR says (R182). -/
def State.output (s : State) (w piece : Nat) (out : List Byte) : State :=
  let v := s.dev .sw
  let c := v.redCfg w
  let a := v.get (F.RED_WIN_C_OUT_ADDR w)
  let r := v.pieceRange w piece
  let at_ := a + elemsBytes c.outFmt r.1
  if v.toAperture w then
    let ed := elemsPerPiece c.outFmt
    ((List.range ((r.1 + r.2 - 1) / ed - r.1 / ed + 1)).map (fun k => r.1 / ed + k)).foldl
      (fun st j => st.share w piece j out) s
  else if a / 2 ^ 52 = v.node then
    let ps := packetsOf (at_ % 2 ^ 52) out.length
    let jb := v.newJob .none ps.length
    ps.foldl (fun st p =>
      st.ownWrite ⟨v.get (F.RED_WIN_A_TENANT w), p.1, (out.drop (p.1 - at_ % 2 ^ 52)).take p.2,
        v.get (F.RED_WIN_STATUS_STEP_TAG w), jb.1, 0, 0⟩ none) (s.setDev .sw jb.2)
  else
    let os := (markLast (writesOf (at_ % 2 ^ 52) out)).map (fun x =>
      v.emitOut w (at_ / 2 ^ 52 % 4096) x.1.1 x.1.2.1 x.1.2.2 none x.2)
    { s with sw := { s.sw with outs := s.sw.outs ++ os } }

/-- The request packet of an emission output, with its channel's fields (R338). -/
def EmitOut.packet (o : EmitOut) (node : Nat) (c : Chan) : Packet :=
  ⟨{ PktHdr.blank with
      dst := BitVec.ofNat 12 o.dst, offset := BitVec.ofNat 52 o.off, src := BitVec.ofNat 12 node,
      pkey := BitVec.ofNat 16 c.pkey, tc := BitVec.ofNat 3 c.tc, channel := BitVec.ofNat 20 o.chan,
      ordered := if c.ordered then 1 else 0, lctr := BitVec.ofNat 16 o.lctr,
      opcode := if o.code.isSome then 7 else 3, opArg := BitVec.ofNat 4 (o.code.getD 0),
      payUnits := BitVec.ofNat 10 (o.pay.length / 16), byteEn := BitVec.ofNat 16 o.byteEn,
      last := if o.last then 1 else 0 }, o.pay⟩

/-- One output packet is submitted, unless its channel entry is still to be fetched. A channel that is not open, or that
finds no bucket, sends nothing, and its transaction completes UNSUPPORTED with a fault record (R510; log 11); in a fenced
switch it is answered DENIED so (R429). -/
def State.sendOut (s : State) (o : EmitOut) : Option State :=
  let denied (code : Nat) (a : State) : State :=
    (a.faultTxn .sw ((o.packet (a.dev .sw).node (chanOf 0)).hdr) (Config.unassigned a.fresh).toNat (.window o.win)
      (a.dev .sw).step 0 code).draw
  if (s.dev .sw).fenced then some (denied Code.DENIED s)
  else match s.useChan .sw o.chan with
  | (.miss, _) => none
  | (.closed, s1) => some (denied Code.UNSUPPORTED s1)
  | (.entry raw, s1) =>
    let c := chanOf raw
    let go (a : State) (b : Nat) : State :=
      let jb := (a.dev .sw).newJob .none 1
      (a.setDev .sw jb.2).submit .sw
        { uid := 0, pkt := o.packet (a.dev .sw).node c, agent := .window o.win, job := jb.1,
          land := if isCarry (o.code.getD 0) then .carry o.cfg.1 o.cfg.2.1 o.cfg.2.2 else .drop,
          promised := c.promised, rate := c.rate, burst := c.burst, rbound := c.rbound, bucket := b, keyTenant := c.tenant,
          tenant := o.tenant, step := o.step, acquire := none, fill := false }
    if c.promised then
      match (s1.dev .sw).bucketFor s1.now o.chan c with
      | none => some (denied Code.UNSUPPORTED s1)
      | some (b, v) => some (go (s1.setDev .sw v) b)
    else some (go s1 0)

/-- Output packets go out in order, until one waits for its channel entry. -/
def State.flushOuts : List EmitOut → State → State
  | [], s => { s with sw := { s.sw with outs := [] } }
  | o :: os, s =>
    match s.sendOut o with
    | some s1 => State.flushOuts os s1
    | none =>
      let s1 := (s.useChan .sw o.chan).2
      { s1 with sw := { s1.sw with outs := o :: os } }

def State.flushEmit (s : State) : State := State.flushOuts s.sw.outs s

/-- A command is done with a piece. -/
def State.pieceDone (s : State) (cmd piece : Nat) : State :=
  { s with sw := { s.sw with emits := s.sw.emits.map (fun (c : EmitCmd) =>
      if c.id = cmd then { c with left := c.left.erase piece } else c) } }

/-- PIECE_EMIT (R181, R182): a piece that a command names is read, summed, rounded once and sent. `ecc` says what the words of
its staging blocks meet (R13): a block that is uncorrectable is noted, for the step that it fails (R430). While a weight is
still to be translated or fetched, nothing is emitted. -/
def State.emitPiece (s : State) (cmd piece : Nat) (ecc : Ecc) : State :=
  match s.sw.emits.find? (fun c => c.id == cmd) with
  | none => s
  | some c =>
    if ! s.canEmit c piece then s
    else match s.pieceWeights c.win piece with
      | (s1, none) => s1
      | (s1, some ws) =>
        let v := s1.dev .sw
        let bad := ecc == .bad || (s1.win c.win).bad.contains piece
        let e := emitElems (v.redCfg c.win) (s1.pieceAccs c.win piece ws bad)
        -- where in the partition the block lies is not specified (free, log 1)
        let s2 := match ecc with
          | .clean => s1
          | .fixed => s1.ce .sw 3 1
          | .bad => ((s1.ue .sw 3 (Config.choice s1.fresh)).modWin c.win (fun x => { x with bad := x.bad ++ [piece] })).draw
        let s3 := if c.partial_ then s2 else s2.claimPiece cmd c.win piece
        (((s3.emitStatus c.win e.2).pieceDone cmd piece).output c.win piece e.1).flushEmit.closeEmits

end Sys2Proof.Machine
end

