-- ==== Sys2Proof/Machine/CoreFabric.lean ====
section
/-! DEFINITION. What the fabric, window, queue, channel, tier, step and configuration instructions of a Linal core do
(R251 to R271). Each is the effect of its step; Machine/LinalFabric.lean names the steps. -/

namespace Sys2Proof.Machine

/-! ### Packets of a core (R251) -/

/-- The header fields that a channel gives every packet of a core. -/
def Dev.chanHdr (v : Dev) (raw chan : Nat) : PktHdr :=
  let c := chanOf raw
  { PktHdr.blank with
    src := BitVec.ofNat 12 v.node, pkey := BitVec.ofNat 16 c.pkey, tc := BitVec.ofNat 3 c.tc,
    channel := BitVec.ofNat 20 chan, ordered := if c.ordered then 1 else 0 }

/-- A request of an agent on a channel. -/
def Dev.chanPend (v : Dev) (a : Agent) (job raw bucket : Nat) (pkt : Packet) (land : Land) (acq : Option Bool) : Pend :=
  let c := chanOf raw
  { uid := 0, pkt := pkt, agent := a, job := job, land := land, promised := c.promised, rate := c.rate,
    burst := c.burst, rbound := c.rbound, bucket := bucket, keyTenant := c.tenant, tenant := c.tenant, step := v.step % 256,
    acquire := acq, fill := false }

/-- The fabric address of a scalar access: dN.ADDR + sa + sext(OFS). -/
def State.fabAddr (s : State) (n w d : Nat) : Nat :=
  (BitVec.ofNat 64 (dAddr d) + (s.core n).sreg (wSa w) + wOfsX w).toNat

/-- The instruction's transactions have been handed over under a job: it stalls until they have completed when it names a
completion register or returns data, and goes on otherwise (R252). -/
def State.coreWait (s : State) (n job sd sc : Nat) (always : Bool) (cause : Nat) : State :=
  if always || sc != 0 then s.stallOn n (.job job sd sc) cause else s.retireI n

/-- A new job for a core's instruction; a posted instruction's answers nobody. -/
def State.coreJob (s : State) (n parts sc : Nat) (always : Bool) : Nat × State :=
  let j := (s.dev .sw).newJob (if always || sc != 0 then .core n else .none) parts
  (j.1, s.setDev .sw j.2)

/-- The header of a scalar access. -/
def Dev.scalarHdr (v : Dev) (raw chan addr : Nat) : PktHdr :=
  { v.chanHdr raw chan with
    dst := BitVec.ofNat 12 (addr / 2 ^ 52), offset := BitVec.ofNat 52 (addr % 2 ^ 52), last := 1 }

/-- A scalar READ or WRITE at an address that is no multiple of 8 (R253): nothing is sent; it completes UNSUPPORTED with a
fault record. The TXN_ID it never had is free (log 1). -/
def State.misaligned (s : State) (n w : Nat) (h : PktHdr) (returns : Bool) : State :=
  let s1 := ((s.faultTxn .sw h (Config.unassigned s.fresh).toNat (.core n) (s.dev .sw).step 0 Code.UNSUPPORTED)).draw
  let s2 := s1.modDev .sw (fun v => v.addFailed (.core n) h.dst.toNat Code.UNSUPPORTED)
  ((s2.modCore n (fun c =>
    (if returns then c.setS (wSd w) (BitVec.allOnes 64) else c).setS (wSc w) (BitVec.ofNat 64 Code.UNSUPPORTED)))).retireI n

/-- READ and READ.ACQ (R253, R154). -/
def State.coreRead (s : State) (n w : Nat) : State :=
  s.withDesc n (wDn w) (fun d s => s.withChan n (dChan d) (fun raw b s =>
    let v := s.dev .sw
    let a := s.fabAddr n w d
    let h : PktHdr := { v.scalarHdr raw (dChan d) (a / 16 * 16) with
      opcode := 1, reqUnits := 1, lctr := BitVec.ofNat 16 (dLctr d) }
    if a % 8 ≠ 0 then s.misaligned n w h true
    else s.roomFor n h (fun s =>
      let j := (s.grant (dChan d) raw).coreJob n 1 (wSc w) true
      let acq := if wOrd w = 2 then some (decide (2 ≤ wScope w)) else none
      (j.2.submit .sw (v.chanPend (.core n) j.1 raw b ⟨h, []⟩ (.word (a / 8 % 2)) acq)).coreWait n j.1 (wSd w) (wSc w)
        true 0)))

/-- A request is submitted, or held as a release under R153. -/
def State.coreSubmit (s : State) (n w : Nat) (p : Pend) : State :=
  if wOrd w = 1 then s.submitRelease .sw p (wScope w) (s.core n).since else s.submit .sw p

/-- The stall cause of an instruction that waits: 0x2 for a release that is held. -/
def heldCause (w : Nat) : Nat := if wOrd w = 1 then 2 else 0

/-- WRITE and WRITE.REL (R253, R153). -/
def State.coreWrite (s : State) (n w : Nat) : State :=
  s.withDesc n (wDn w) (fun d s => s.withChan n (dChan d) (fun raw b s =>
    let v := s.dev .sw
    let a := s.fabAddr n w d
    let half := a / 8 % 2
    let h : PktHdr := { v.scalarHdr raw (dChan d) (a / 16 * 16) with
      opcode := 3, payUnits := 1, lctr := BitVec.ofNat 16 (dLctr d), byteEn := if half = 0 then 0x00FF else 0xFF00 }
    if a % 8 ≠ 0 then s.misaligned n w h false
    else s.roomFor n h (fun s =>
      let j := (s.grant (dChan d) raw).coreJob n 1 (wSc w) false
      let pay := leBytes 16 (((s.core n).sreg (wSb w)).toNat * 2 ^ (64 * half))
      (j.2.coreSubmit n w (v.chanPend (.core n) j.1 raw b ⟨h, pay⟩ .drop none)).coreWait n j.1 0 (wSc w) false
        (heldCause w))))

/-- AMO.op, plain, release or acquire (R254). -/
def State.coreAmo (s : State) (n w op : Nat) : State :=
  s.withDesc n (wDn w) (fun d s => s.withChan n (dChan d) (fun raw b s =>
    let v := s.dev .sw
    let a := s.fabAddr n w d
    let h : PktHdr := { v.scalarHdr raw (dChan d) a with opcode := 5, opArg := BitVec.ofNat 4 op, payUnits := 1 }
    s.roomFor n h (fun s =>
      let j := (s.grant (dChan d) raw).coreJob n 1 (wSc w) true
      let cmp := if op = 9 then ((s.core n).sreg (wSd w)).toNat else 0
      let acq := if wOrd w = 2 then some (decide (2 ≤ wScope w)) else none
      (j.2.coreSubmit n w (v.chanPend (.core n) j.1 raw b
        ⟨h, leBytes 16 (((s.core n).sreg (wSb w)).toNat + cmp * 2 ^ 64)⟩ (.word 0) acq)).coreWait n j.1 (wSd w) (wSc w)
          true (heldCause w))))

/-! ### Tiles and messages (R256 to R258) -/

/-- The issue buffer still holds the data of an earlier TPUT or MSG: some packet of it has not left (R257). -/
def State.bufBusy (s : State) (n : Nat) : Bool :=
  match (s.core n).buf with
  | none => false
  | some j => (s.dev .sw).pends.any (fun p => p.job == j)

/-- An uncorrectable word of a local range: which one is not specified (free, log 1). -/
def State.eccIn (s : State) (n a bytes : Nat) : State :=
  s.draw.localEcc n (a + 8 * (Config.choice s.fresh % max 1 (bytes / 8)))

/-- A range of local memory that an instruction reads: ALIGN, LOCAL_RANGE, LOCAL_ECC, then the issue buffer. -/
def State.fromLocal (s : State) (n a bytes : Nat) (ue : Bool) (go : State → State) : State :=
  if a % 16 ≠ 0 then s.except n Exc.ALIGN a
  else if localSize < a + bytes then s.except n Exc.LOCAL_RANGE a
  else if ue then s.eccIn n a bytes
  else if s.bufBusy n then s.stallOn n .retry 3
  else go s

/-- MSG (R258). -/
def State.coreMsg (s : State) (n w : Nat) (ue : Bool) : State :=
  let units := bitsOf ((s.core n).sreg (wSb w)).toNat 9 0
  if units = 0 ∨ 512 < units then s.except n Exc.ILLEGAL (w % 2 ^ 46)
  else s.withDesc n (wDn w) (fun d s => s.withChan n (dChan d) (fun raw b s =>
    let a := ((s.core n).sreg (wSa w)).toNat
    s.fromLocal n a (16 * units) ue (fun s =>
      let v := s.dev .sw
      let h : PktHdr := { v.scalarHdr raw (dChan d) (dAddr d / 2 ^ 52 * 2 ^ 52) with
        opcode := 8, opArg := BitVec.ofNat 4 (wSel w), payUnits := BitVec.ofNat 10 units }
      s.roomFor n h (fun s =>
        let j := (s.grant (dChan d) raw).coreJob n 1 (wSc w) false
        let s1 := j.2.modCore n (fun c => { c with buf := some j.1 })
        (s1.submit .sw (v.chanPend (.core n) j.1 raw b ⟨h, Memory.bytes (s.core n).mem a (16 * units)⟩ .drop none)).coreWait
          n j.1 0 (wSc w) false 0))))

/-- The packets of a tile's fabric side (R92, R256): fabric address, bytes, and their place in the packed tile. -/
def tilePackets (d : Nat) : List (Nat × Nat × Nat) :=
  let n := 16 * dRowUnits d
  (List.range (dRows d)).flatMap (fun i =>
    let row := dAddr d + i * dPitch d
    (packetsOf row n).map (fun p => (p.1 % 2 ^ 64, p.2, i * n + (p.1 - row))))

/-- The place of byte `o` of a packed tile on a descriptor's side, as an offset. -/
def tileAt (d o : Nat) : Nat :=
  let n := 16 * dRowUnits d
  (dAddr d + o / n * dPitch d + o % n) % 2 ^ 52

/-- The second side of TPUT and TGET (R256): the local range, or the descriptor of this switch's own side. -/
inductive TileSide where
  | local_ (a : Nat)
  | own (d : Nat)

/-- The checks of R256 on the second side, before the channel's: FORM 1's descriptor, or FORM 0's size. -/
def State.tileSide (s : State) (n w d : Nat) (go : TileSide → State → State) : State :=
  if wForm w = 1 then
    let m := (s.core n).dreg (wDm w)
    if ! descOk m then s.except n Exc.DESC_INVALID (wDm w)
    else if dAddr m / 2 ^ 52 ≠ (s.dev .sw).node ∨ dRows m ≠ dRows d ∨ dRowUnits m ≠ dRowUnits d then
      s.except n Exc.DESC_INVALID (wDn w)
    else go (.own m) s
  else if 65536 < 16 * dRows d * dRowUnits d then s.except n Exc.DESC_INVALID (wDn w)
  else go (.local_ ((s.core n).sreg (wSa w)).toNat) s

/-- A WRITE or READ packet of a tile. -/
def Dev.tileHdr (v : Dev) (raw d : Nat) (write last : Bool) (addr bytes : Nat) : PktHdr :=
  { v.scalarHdr raw (dChan d) addr with
    opcode := if write then 3 else 1, lctr := BitVec.ofNat 16 (dLctr d),
    payUnits := if write then BitVec.ofNat 10 (bytes / 16) else 0,
    reqUnits := if write then 0 else BitVec.ofNat 10 (bytes / 16), last := if last then 1 else 0 }

/-- The packets of a tile have been handed over as far as port 32 has room: the instruction, which issues them one by one,
stalls for the rest (R109, R257), and then goes on as `coreWait` says. -/
def State.coreHand (s : State) (n job sc : Nat) : State :=
  if (s.dev .sw).handsOver s.now job then s.stallOn n (.handing job sc) ((s.dev .sw).handCause n) else s.coreWait n job 0 sc false 0

/-- TPUT (R256, R257). -/
def State.coreTput (s : State) (n w : Nat) (ue : Bool) : State :=
  s.withDesc n (wDn w) (fun d s => s.tileSide n w d (fun side s => s.withChan n (dChan d) (fun raw b s =>
    let v := s.dev .sw
    let ps := tilePackets d
    let first := v.tileHdr raw d true false (dAddr d) 16
    let pend (job : Nat) (x : (Nat × Nat × Nat) × Bool) (pay : List Byte) : Pend :=
      v.chanPend (.core n) job raw b ⟨v.tileHdr raw d true x.2 x.1.1 x.1.2.1, pay⟩ .drop none
    match side with
    | .local_ a =>
      s.fromLocal n a (16 * dRows d * dRowUnits d) ue (fun s => s.roomFor n first (fun s =>
        let j := (s.grant (dChan d) raw).coreJob n ps.length (wSc w) false
        ((markLast ps).foldl (fun st x =>
          st.submit .sw (pend j.1 x (Memory.bytes (s.core n).mem (a + x.1.2.2) x.1.2.1)))
            (j.2.modCore n (fun c => { c with buf := some j.1 }))).coreHand n j.1 (wSc w)))
    | .own m => s.roomFor n first (fun s =>
        let j := (s.grant (dChan d) raw).coreJob n ps.length (wSc w) false
        ((markLast ps).foldl (fun st x =>
          st.submit .sw { pend j.1 x [] with src := some (tileAt m x.1.2.2) }) j.2).coreHand n j.1 (wSc w)))))

/-- TGET (R256, R257). -/
def State.coreTget (s : State) (n w : Nat) : State :=
  s.withDesc n (wDn w) (fun d s => s.tileSide n w d (fun side s => s.withChan n (dChan d) (fun raw b s =>
    let v := s.dev .sw
    let ps := tilePackets d
    let send (land : Nat → Land) (s : State) : State := s.roomFor n (v.tileHdr raw d false false (dAddr d) 16) (fun s =>
      let j := (s.grant (dChan d) raw).coreJob n ps.length (wSc w) false
      ((markLast ps).foldl (fun a x =>
        a.submit .sw (v.chanPend (.core n) j.1 raw b ⟨v.tileHdr raw d false x.2 x.1.1 x.1.2.1, []⟩ (land x.1.2.2) none)) j.2).coreHand
          n j.1 (wSc w))
    match side with
    | .local_ a =>
      if a % 16 ≠ 0 then s.except n Exc.ALIGN a
      else if localSize < a + 16 * dRows d * dRowUnits d ∨ a < (s.core n).codeBytes then s.except n Exc.LOCAL_RANGE a
      else send (fun o => .local_ n (a + o)) s
    | .own m => send (fun o => .own (tileAt m o)) s)))

/-! ### Fences and counters (R259, R260) -/

/-- FENCE.s. -/
def State.coreFence (s : State) (n w : Nat) : State :=
  if ((s.dev .sw).fenceSet (.core n) (wScope w) (s.core n).since).isEmpty then
    s.retireS n (wSc w) (BitVec.ofNat 64 ((s.dev .sw).failedIn (.core n) (wScope w)))
  else
    let f := s.newFence .sw (.core n) (.core n) (wScope w) (s.core n).since
    f.2.stallOn n (.fence f.1 (wSc w)) 2

/-- A counter register's wait is over (R224). -/
def State.ctrMet (s : State) (x : Word) : Bool :=
  ctrLctr x == 0 || decide (ctrTarget x ≤ (s.dev .sw).lctr (ctrLctr x))

/-- WAITC. -/
def State.coreWaitc (s : State) (n w : Nat) : State :=
  if s.ctrMet ((s.core n).creg (wCn w)) then s.retireI n else s.stallOn n .counter 1

/-- LCTR.RD and LCTR.SET: index 0 reads zero and is not written. -/
def State.lctrRead (s : State) (i : Nat) : Word := if i = 0 then 0 else BitVec.ofNat 64 ((s.dev .sw).lctr i)

def State.lctrWrite (s : State) (d : Part) (i x : Nat) : State :=
  if i = 0 then s else s.modDev d (fun v => v.setReg (A.MEM_LCTR i) (x % 2 ^ 48))

/-! ### Windows (R262) -/

/-- A window that the program may act on; else the instruction only returns DENIED. -/
def State.mayWin (s : State) (n w sd : Nat) (go : State → State) : State :=
  if s.corePriv n Priv.ANY_TENANT || s.get .sw (F.RED_WIN_A_TENANT w) == s.coreTenant n then go s else s.retireS n sd 0xF

/-- An operation word of a window written while it is IDLE (R191): the RW bits of Table 7.17. -/
def State.winWord (s : State) (w word x : Nat) : State :=
  let put (a mask : Nat) : State := s.modDev .sw (fun v => v.setReg a (merged (v.reg a) mask a a 8 x))
  match word with
  | 1 => put (A.RED_WIN_B w) (2 ^ 64 - 1)
  | 2 => put (A.RED_WIN_C w) (2 ^ 64 - 1)
  | 3 => put (A.RED_WIN_D w) (2 ^ 64 - 2 ^ 12)
  | _ => put (A.RED_WIN_E w) (2 ^ 52 - 1)

/-- WIN.SET. -/
def State.coreWinSet (s : State) (n w : Nat) : State :=
  let c := s.core n
  let k := (c.sreg (wSa w)).toNat % 256
  s.mayWin n k (wSd w) (fun s =>
    if s.get .sw (F.RED_WIN_A_ENABLE k) = 0 then s.retireS n (wSd w) 6
    else if s.get .sw (F.RED_WIN_STATUS_STATE k) ≠ 0 then s.retireS n (wSd w) 5
    else (s.winWord k (wImm w) (c.sreg (wSb w)).toNat).retireS n (wSd w) 0)

/-- WIN.ARM. -/
def State.coreWinArm (s : State) (n w : Nat) : State :=
  let c := s.core n
  let k := (c.sreg (wSa w)).toNat % 256
  s.mayWin n k (wSd w) (fun s =>
    let r := s.arm k ((c.sreg (wSb w)).toNat % 256)
    r.2.retireS n (wSd w) (BitVec.ofNat 64 r.1))

/-- WIN.CLEAR: stalls until the window is IDLE. -/
def State.coreWinClear (s : State) (n w : Nat) : State :=
  let k := ((s.core n).sreg (wSa w)).toNat % 256
  s.mayWin n k (wSd w) (fun s =>
    if s.get .sw (F.RED_WIN_A_ENABLE k) = 0 then s.retireS n (wSd w) 6
    else
      let s1 := s.clearWin k
      if s1.get .sw (F.RED_WIN_STATUS_STATE k) = 0 then s1.retireS n (wSd w) 0
      else s1.stallOn n (.winClear k (wSd w)) 0)

/-- REDUCE: an emission command, and the wait for its result. -/
def State.coreReduce (s : State) (n w : Nat) : State :=
  let c := s.core n
  let k := wImm w % 256
  s.mayWin n k (wSd w) (fun s =>
    let e := s.startEmit k (c.sreg (wSa w)).toNat (c.sreg (wSb w)).toNat (bitOf (wImm w) 8) (.core n)
    e.2.stallOn n (.emit e.1 (wSd w)) 0)

/-- WIN.STAT: the status register, whose RW1C bits that read as 1 it may clear. -/
def State.coreWinStat (s : State) (n w : Nat) : State :=
  let k := ((s.core n).sreg (wSa w)).toNat % 256
  s.mayWin n k (wSd w) (fun s =>
    let x := (s.dev .sw).reg (A.RED_WIN_STATUS k)
    (if wImm w % 2 = 1 then s.modDev .sw (fun v => v.setReg (A.RED_WIN_STATUS k) (x / 1024 * 1024)) else s).retireS n (wSd w)
      (BitVec.ofNat 64 x))

/-! ### TAKE (R263) -/

/-- What the slots of the oldest record meet (R13): an uncorrectable error discards the record and counts it (Table 16.2), one
that is corrected is counted. -/
def State.badRecord (s : State) (q : Nat) (ecc : Ecc) : State :=
  match s.dequeue q, ecc with
  | some (r, s1), .bad => s1.ue .sw 2 (s.get .sw (F.SEQ_QUEUE_A_BASE q) * 64 + 64 * r.slot)
  | some _, .fixed => s.ce .sw 2 1
  | _, _ => s

/-- The oldest record goes into local memory. -/
def State.takeRecord (s : State) (n q sa sd : Nat) : Option State :=
  match s.dequeue q with
  | some (r, s1) => some ((s1.setLocal n sa r.data).retireS n sd (BitVec.ofNat 64 r.units))
  | none => none

/-- TAKE; the record that a bad slot discards is passed over for the next one. -/
def State.coreTake (s : State) (n w : Nat) (ecc : Ecc) : State :=
  let q := wImm w % 16
  let sa := ((s.core n).sreg (wSa w)).toNat
  let go (s : State) : State :=
    if s.get .sw (F.SEQ_QUEUE_B_CORE q) ≠ n then s.except n Exc.QUEUE q
    else if sa % 16 ≠ 0 then s.except n Exc.ALIGN sa
    else if localSize < sa + 8192 ∨ sa < (s.core n).codeBytes then s.except n Exc.LOCAL_RANGE sa
    else
      let s := s.badRecord q ecc
      match s.takeRecord n q sa (wSd w) with
      | some s1 => s1
      | none => if bitOf (wImm w) 4 then s.retireS n (wSd w) 0 else s.stallOn n (.take q sa (wSd w)) 5
  if q < 8 then s.needPriv n Priv.SERVICE go else go s

/-! ### Channels, tiers and steps (R265 to R267) -/

/-- CHAN.INV. -/
def State.coreChanInv (s : State) (n w : Nat) : State :=
  (s.modDev .sw (fun v => v.invChans (((s.core n).sreg (wSa w)).toNat % 2 ^ 20) 1)).retireI n

/-- CHAN.CHK. -/
def State.coreChanChk (s : State) (n w : Nat) : State :=
  match s.coreChan n (((s.core n).sreg (wSa w)).toNat % 2 ^ 20) false with
  | (.ok _ _, s1) => s1.retireS n (wSd w) 0
  | (.denied closed, s1) => s1.retireS n (wSd w) (if closed then 1 else 2)
  | (.miss, s1) => s1.stallOn n .retry 0

/-- The pages of 64 KiB that a descriptor's range touches, each once, in order. -/
def descPages (d : Nat) : List Nat :=
  ((List.range (dRows d)).flatMap (fun i =>
    let a := (dAddr d + i * dPitch d) % 2 ^ 52
    (List.range ((a + 16 * dRowUnits d - 1) / 65536 - a / 65536 + 1)).map (fun k => a / 65536 + k))).eraseDups

/-- The store tiles of pages, translated for a tenant: none while a walk is under way; a page that does not translate
gives no tile. -/
def State.pageTiles (s : State) (tenant : Nat) : List Nat → List (Option Nat) → State × Option (List (Option Nat))
  | [], acc => (s, some acc)
  | p :: ps, acc =>
    match s.translate .sw tenant (p * 65536) 0 false with
    | (.miss _, s1) => (s1, none)
    | (.done (.page a _), s1) => s1.pageTiles tenant ps (acc ++ [some (a / 65536)])
    | (.done (.fault _ _), s1) => s1.pageTiles tenant ps (acc ++ [none])

/-- The CMD code of a TIER request (R266, Table 11.6). -/
def tierCmd (sel : Nat) : Nat := sel + 4

/-- A tier request on a set of tiles, each a part of a job (R266, R294). -/
def State.tierRequest (s : State) (tenant cmd job : Nat) (tiles : List Nat) : State :=
  tiles.foldl (fun a t =>
    a.tileCommand { cmd := cmd, tenant := tenant, home := 0, floor := 0, stepver := false, tiles := [], begun := [],
                    packet := none, job := some job } t 1 false) s

/-- The store tiles of a request: none where a page is not mapped to the tenant, which refuses the whole of it (R293,
R294). -/
def State.wholeTiles (s : State) (tenant : Nat) (pages : List (Option Nat)) : Option (List Nat) :=
  pages.foldr (fun p acc =>
    match p, acc with
    | some t, some ts => if (s.tile t).mapped ∧ (s.tile t).tenant = tenant then some (t :: ts) else none
    | _, _ => none) (some [])

/-- The fault record of a TIER that completes with a code other than OK (R162, R252). It sends no packet: the fields that
only a packet has are free (log 48). -/
def State.tierFault (s : State) (n uid : Nat) (h : PktHdr) (code : Nat) : State :=
  let h : PktHdr := { h with opcode := BitVec.ofNat _ (Config.unassigned s.fresh).toNat }
  ((s.faultTxn .sw h (Config.unassigned (s.fresh + 1)).toNat (.core n) (s.dev .sw).step 0 code).draw.draw).noteFail .sw (.core n)
    uid h.dst.toNat code

/-- A TIER that the service has ended: later fences no longer wait for it and see its code (R252). -/
def State.tierOver (s : State) (j : Job) : State :=
  (((s.dev .sw).tierReqs.filter (fun r => r.job == j.id)).foldl (fun a r =>
    let a1 := if j.code = Code.OK then a else a.tierFault r.core r.uid r.hdr j.code
    a1.modDev .sw (fun v => v.settleUid (.core r.core) r.uid j.code)) s).modDev .sw (fun v =>
      { v with tierReqs := v.tierReqs.filter (fun r => r.job != j.id) })

/-- TIER (R266). The request takes its place among those that a later fence covers (R252). -/
def State.coreTier (s : State) (n w : Nat) : State :=
  s.withDesc n (wDn w) (fun d s => s.withChan n (dChan d) (fun raw _ s =>
    let tenant := (chanOf raw).tenant
    let h := (s.dev .sw).scalarHdr raw (dChan d) (dAddr d)
    let refuse (s : State) : State :=
      (s.tierFault n (s.dev .sw).nextUid h Code.OUT_OF_RANGE).retireS n (wSc w) (BitVec.ofNat 64 Code.OUT_OF_RANGE)
    if dAddr d / 2 ^ 52 ≠ (s.dev .sw).node then refuse s
    else
      match s.pageTiles tenant (descPages d) [] with
      | (s1, none) => s1.stallOn n .retry 0
      | (s1, some pages) =>
        match s1.wholeTiles tenant pages with
        | none => refuse s1
        | some tiles =>
          let j := s1.coreJob n tiles.length (wSc w) false
          let s2 := j.2.modDev .sw (fun v => { v with
            nextUid := v.nextUid + 1, tierReqs := v.tierReqs ++ [⟨j.1, v.nextUid, n, h⟩] })
          (s2.tierRequest tenant (tierCmd (wSel w)) j.1 tiles).coreWait n j.1 0 (wSc w) false 0))

/-- A write is held under an unsealed step (R267): some tile has a shadow. -/
def State.stepHeld (s : State) : Bool := s.tiers.dir.any (fun e => e.2.shadow || e.2.copying)

/-- The service forgets the operations of steps before the previous one (R196). -/
def State.forgetOps (s : State) (step : Nat) : State :=
  { s with sw := { s.sw with coll := s.sw.coll.filter (fun o => o.step == step % 2 ^ 32 || (o.step + 1) % 2 ^ 32 == step % 2 ^ 32) } }

/-- STEP.SET. -/
def State.coreStepSet (s : State) (n w : Nat) : State :=
  s.needPriv n Priv.STEP (fun s =>
    if s.stepHeld then s.retireS n (wSd w) 1
    else (s.set .sw F.MEM_STEP_STEP ((s.core n).sreg (wSa w)).toNat).retireS n (wSd w) 0)

/-- The step is sealed (R267, R305): the shadows go and the step number advances. -/
def State.sealStep (s : State) : State :=
  let k := (s.get .sw F.MEM_STEP_STEP + 1) % 2 ^ 32
  (s.sealTiles.set .sw F.MEM_STEP_STEP k).forgetOps k

/-- Shadow copies are in progress. -/
def State.copying (s : State) : Bool := s.tiers.dir.any (fun e => e.2.copying)

/-- STEP.SEAL: the seal is handed over. It waits for shadow copies in progress (Table 11.9), and goes on if the core is
stopped meanwhile (R246). -/
def State.coreStepSeal (s : State) (n w : Nat) : State :=
  s.needPriv n Priv.STEP (fun s =>
    let k := ((s.core n).sreg (wSa w)).toNat % 2 ^ 32
    if k ≠ s.get .sw F.MEM_STEP_STEP then s.retireS n (wSd w) 2
    else if s.copying then
      let j := s.coreJob n 1 0 true
      { j.2 with sw := { j.2.sw with seals := j.2.sw.seals ++ [(j.1, k)] } }.stallOn n (.job j.1 (wSd w) 0) 0
    else s.sealStep.retireS n (wSd w) 0)

/-- Seals that wait are applied, in the order they came, once no shadow copy is in progress (R267, Table 10.16). -/
def State.pumpSeals (s : State) : State :=
  if s.sw.seals = [] ∨ s.copying then s
  else s.sw.seals.foldl (fun a x =>
    let ok := x.2 == a.get .sw F.MEM_STEP_STEP
    (if ok then a.sealStep else a).modDev .sw (fun v =>
      (v.modJob x.1 (fun j => { j with data := if ok then 0 else 2 })).jobPart x.1 Code.OK))
    { s with sw := { s.sw with seals := [] } }

/-- STEP.DISCARD (R267, R306). -/
def State.coreStepDiscard (s : State) (n w : Nat) : State :=
  s.needPriv n Priv.STEP (fun s =>
    if ((s.core n).sreg (wSa w)).toNat % 2 ^ 32 ≠ s.get .sw F.MEM_STEP_STEP then s.retireS n (wSd w) 2
    else s.discardTiles.retireS n (wSd w) 0)

/-! ### Configuration (R269, R271) -/

/-- A Pot command's answer goes to sd, now or once it is decided. -/
def State.potAnswer (n sd : Nat) (w : Wait) : PotAns × State → State
  | (.result x, s) => s.retireS n sd (BitVec.ofNat 64 x)
  | (.later, s) => s.stallOn n w 6

/-- STAGE. -/
def State.coreStageI (s : State) (n w : Nat) : State :=
  s.needPriv n Priv.CONFIG (fun s =>
    let c := s.core n
    State.potAnswer n (wSd w) .none (s.coreStage n ((wImm w % 256) * 2 ^ 24 + (c.sreg (wSa w)).toNat % 2 ^ 24)
      (if bitOf (wImm w) 8 then 8 else 4) (c.sreg (wSb w)).toNat))

/-- CHECK, POUR and DISCARD. -/
def State.coreCheckI (s : State) (n w : Nat) : State :=
  s.needPriv n Priv.CONFIG (fun s => State.potAnswer n (wSd w) (.check (wSd w)) (s.coreCheck n))

def State.corePourI (s : State) (n w : Nat) : State :=
  s.needPriv n Priv.CONFIG (fun s => State.potAnswer n (wSd w) (.pour (wSd w)) (s.corePour n))

def State.coreDiscardI (s : State) (n w : Nat) : State :=
  s.needPriv n Priv.CONFIG (fun s => State.potAnswer n (wSd w) .none (s.coreDiscard n))

/-- DRAIN. -/
def State.coreDrain (s : State) (n w : Nat) : State :=
  s.needPriv n Priv.CONFIG (fun s =>
    let c := s.core n
    let k := (c.sreg (wSa w)).toNat % 64
    let old := (s.dev .sw).reg (A.PKT_DRAIN k)
    let m := (c.sreg (wSb w)).toNat
    (s.drainWrite .sw k (if wImm w % 2 = 0 then Nat.lor old m else old - Nat.land old m)).retireS n (wSd w) 0)

/-- DRAINED. -/
def State.coreDrained (s : State) (n w : Nat) : State :=
  s.retireS n (wSd w) (BitVec.ofNat 64 (s.drainedWord .sw (((s.core n).sreg (wSa w)).toNat % 64)))

end Sys2Proof.Machine
end

