-- ==== Sys2Proof/Machine/Coll.lean ====
section
/-! DEFINITION. The collective service (spec/08): collectives in HUB and TREE layout, expert dispatch and combine, and
their outcomes. The service is a program of the core that takes service queue 4; its requests are that core's. -/

namespace Sys2Proof.Machine

/-! ### Records (Tables 8.1 to 8.3, 8.9 to 8.12, 8.14) -/

/-- Word `k` of a descriptor or table entry. -/
def dWord (d k : Nat) : Nat := d / 2 ^ (64 * k) % 2 ^ 64

def cOpid (d : Nat) : Nat := bitsOf (dWord d 0) 63 32
def cKind (d : Nat) : Nat := bitsOf (dWord d 1) 63 60
def cFormat (d : Nat) : Nat := bitsOf (dWord d 1) 59 56
def cOutFormat (d : Nat) : Nat := bitsOf (dWord d 1) 55 52
def cOp (d : Nat) : Nat := bitsOf (dWord d 1) 51 49
def cSat (d : Nat) : Nat := bitsOf (dWord d 1) 48 48
def cRole (d : Nat) : Nat := bitsOf (dWord d 1) 47 44
def cMembers (d : Nat) : Nat := bitsOf (dWord d 1) 43 32 + 1
def cWindow (d : Nat) : Nat := bitsOf (dWord d 1) 31 24
def cShard (d : Nat) : Nat := bitsOf (dWord d 1) 23 18
def cShards (d : Nat) : Nat := bitsOf (dWord d 1) 17 12 + 1
def cArbiter (d : Nat) : Nat := bitsOf (dWord d 1) 11 0
def cStep (d : Nat) : Nat := bitsOf (dWord d 2) 63 32
def cChunk (d : Nat) : Nat := bitsOf (dWord d 2) 31 16
def cSegPieces (d : Nat) : Nat := bitsOf (dWord d 2) 15 0
def cShardElems (d : Nat) : Nat := bitsOf (dWord d 3) 63 32
def cRoot (d : Nat) : Nat := bitsOf (dWord d 3) 31 20
def cHubLctr (d : Nat) : Nat := bitsOf (dWord d 3) 15 0
def cParent (d : Nat) : Nat := bitsOf (dWord d 4) 63 52
def cParentWindow (d : Nat) : Nat := bitsOf (dWord d 4) 51 44
def cParentSlot (d : Nat) : Nat := bitsOf (dWord d 4) 43 32
def cResultLctr (d : Nat) : Nat := bitsOf (dWord d 4) 31 16
def cDoneLctr (d : Nat) : Nat := bitsOf (dWord d 4) 15 0
def cMemberTable (d : Nat) : Nat := dWord d 5
def cRecordAddr (d : Nat) : Nat := dWord d 6
def cRecordLctr (d : Nat) : Nat := bitsOf (dWord d 7) 63 48

/-- The roles and kinds of Table 8.2. -/
def isLeaf (d : Nat) : Bool := cRole d == 1
def isRoot (d : Nat) : Bool := cRole d == 2

/-- The schedule uses windows: a reduction, or any part of a TREE. -/
def reduces (d : Nat) : Bool := cRole d != 0 || cKind d == 1 || cKind d == 2

def dHomes (d : Nat) : Nat := bitsOf (dWord d 1) 31 20 + 1
def dK (d : Nat) : Nat := bitsOf (dWord d 1) 19 16
def dCmbWindow (d : Nat) : Nat := bitsOf (dWord d 1) 15 8
def dStep (d : Nat) : Nat := bitsOf (dWord d 1) 63 32
def dHomeTable (d : Nat) : Nat := dWord d 2
def dExpertMap (d : Nat) : Nat := dWord d 3
def dTopkBase (d : Nat) : Nat := dWord d 4
def dTopkStride (d : Nat) : Nat := bitsOf (dWord d 5) 63 32
def dTopkLctr (d : Nat) : Nat := bitsOf (dWord d 5) 31 16
def dRecordLctr (d : Nat) : Nat := bitsOf (dWord d 5) 15 0
def dRowFormat (d : Nat) : Nat := bitsOf (dWord d 6) 63 60
def dOutFormat (d : Nat) : Nat := bitsOf (dWord d 6) 59 56
def dRow32 (d : Nat) : Nat := bitsOf (dWord d 6) 55 40
def dExperts (d : Nat) : Nat := bitsOf (dWord d 6) 39 28 + 1
def dCmbLctr (d : Nat) : Nat := bitsOf (dWord d 6) 27 12
def dRecordAddr (d : Nat) : Nat := dWord d 7

/-! Causes of Table 8.14. -/

namespace Cause
def NONE : Nat := 0
def REQUESTED : Nat := 1
def MEMBER_DEAD : Nat := 2
def TRANSFER_ERROR : Nat := 3
def WINDOW : Nat := 4
def NO_ROUTE : Nat := 5
def BAD_DESCRIPTOR : Nat := 6
end Cause

/-- A STATUS record. -/
def statusRec (o : CollOp) (node outcome cause seg : Nat) : List Byte :=
  leBytes 16 (o.id * 2 ^ 96 + o.step * 2 ^ 64 + node * 2 ^ 52 + outcome * 2 ^ 48 + cause * 2 ^ 40 + seg % 65536 * 2 ^ 24 + 0x10)

/-- A HUB_DONE (TYPE 0x03) or STOP (TYPE 0x04) record. -/
def hubRec (type id step node status cause : Nat) : List Byte :=
  leBytes 16 (id * 2 ^ 96 + step * 2 ^ 64 + node * 2 ^ 52 + status * 2 ^ 48 + cause * 2 ^ 40 + type)

/-! ### Sizes -/

/-- Elements of one piece of the shard's contribution data. -/
def cPieceElems (d : Nat) : Nat := elemsPerPiece (cFormat d)

/-- The format of the result that a switch hands on. A leaf's OUT_FORMAT is that of its partials; the result its root sends
is in the members' own format, as Table 8.8 has it (log 47). -/
def cResultFormat (d : Nat) : Nat := if isLeaf d then cFormat d else cOutFormat d

/-- Bytes of a chunk as it leaves the switch: the result's chunk, or 8 KiB a piece for ALL_GATHER and BROADCAST. -/
def cChunkBytes (d : Nat) : Nat :=
  if reduces d then elemsBytes (cResultFormat d) (cChunk d * cPieceElems d) else cChunk d * 8192

/-- Bytes of a whole shard as it leaves, for one member. -/
def cShardBytes (d : Nat) : Nat :=
  if reduces d then elemsBytes (cResultFormat d) (cShardElems d) else elemsBytes (cFormat d) (cShardElems d)

/-- Pieces of the shard. -/
def cPieces (d : Nat) : Nat :=
  if reduces d then cShardElems d / max 1 (cPieceElems d) else elemsBytes (cFormat d) (cShardElems d) / 8192

def cChunks (d : Nat) : Nat := cPieces d / max 1 (cChunk d)

/-- Chunks that the switch handles in all: an ALL_GATHER has those of every member. -/
def cAllChunks (d : Nat) : Nat := if cKind d = 3 ∧ cRole d = 0 then cMembers d * cChunks d else cChunks d

def cSegments (d : Nat) : Nat := ceilDiv (cPieces d) (max 1 (cSegPieces d))

/-- The segment of a chunk, and its first piece in that segment. -/
def cSegOf (d c : Nat) : Nat := c % max 1 (cChunks d) * cChunk d / max 1 (cSegPieces d)
def cFirst (d c : Nat) : Nat := c % max 1 (cChunks d) * cChunk d % max 1 (cSegPieces d)

/-- Pieces of segment `g`. -/
def cSegLen (d g : Nat) : Nat := min (cSegPieces d) (cPieces d - g * cSegPieces d)

/-- The staging area (R197), as an offset. -/
def cStaging (d : Nat) : Nat := (cMemberTable d + ceilDiv (32 * cMembers d) 65536 * 65536) % 2 ^ 52

/-- Where a chunk of output lies in the staging area, which holds two segments. -/
def cStaged (d c : Nat) : Nat :=
  cStaging d + cSegOf d c % 2 * elemsBytes (cOutFormat d) (cSegPieces d * cPieceElems d)
    + elemsBytes (cOutFormat d) (cFirst d c * cPieceElems d)

/-- Fields of a member-table entry (Table 8.3). -/
def mResult (e : Nat) : Nat := dWord e 0
def mDone (e : Nat) : Nat := dWord e 1
def mIn (e : Nat) : Nat := dWord e 2

/-! ### Operations held -/

def State.collOp (s : State) (id step : Nat) : Option CollOp := s.sw.coll.find? (fun o => o.id == id && o.step == step)

def State.modOp (s : State) (o : CollOp) (f : CollOp → CollOp) : State :=
  { s with sw := { s.sw with coll := mapFirst (fun x => x.id == o.id && x.step == o.step) f s.sw.coll } }

/-- An operation of which nothing is known yet. -/
def CollOp.new (id step : Nat) : CollOp :=
  { id := id, step := step, desc := 0, dispatch := false, table := [], experts := [], begun := 0, closed := [],
    emitting := [], emitted := [], done := [], part := .running, rule := .open_, ok := [], stopped := [], outcome := none,
    cause := 0, deadNode := 0, later := [], planned := false, job := 0, tokens := [], served := [], ripe := [],
    armed := [] }

/-- The core that takes service queue 4. -/
def State.serviceCore (s : State) : Nat := s.get .sw (F.SEQ_QUEUE_B_CORE 4)

/-- The operation with its entry made where there is none. A fence of the service covers "its own transactions" (R204):
those sent since it last had no operation (log 19). -/
def State.withOp (s : State) (id step : Nat) : State :=
  if (s.collOp id step).isSome then s
  else
    let s1 := if s.sw.coll.isEmpty then
        s.modDev .sw (fun v => { v with failed := v.failed.filter (fun x => x.1 != .core s.serviceCore) }) else s
    { s1 with sw := { s1.sw with coll := s1.sw.coll ++ [CollOp.new id step] } }

/-- The first window of an operation; its tenant reads the tables, and its OUT_CHANNEL carries the records (R203). -/
def CollOp.window (o : CollOp) : Nat := if o.dispatch then dCmbWindow o.desc else cWindow o.desc

def State.opChan (s : State) (o : CollOp) : Nat :=
  if o.desc = 0 then Config.serviceChan else s.get .sw (F.RED_WIN_D_OUT_CHANNEL o.window)

/-- The window that a chunk leaves, and with it the channel of the chunk's TPUTs (R201, R203). -/
def CollOp.chunkWindow (o : CollOp) (c : Nat) : Nat :=
  if reduces o.desc then cWindow o.desc + cSegOf o.desc c % 2 else o.window

/-! ### What the service sends -/

/-- A transfer of the service: a WRITE of bytes at a fabric address naming a counter, or a MSG to queue 4 of a node. -/
structure SvcReq where
  addr : Nat
  bytes : List Byte
  lctr : Nat
  msg : Bool

/-- Its packets: address, payload, and whether it is the transfer's last. -/
def SvcReq.packets (r : SvcReq) : List ((Nat × List Byte) × Bool) :=
  markLast ((packetsOf r.addr r.bytes.length).map (fun p => (p.1, (r.bytes.drop (p.1 - r.addr)).take p.2)))

/-- The header of a service packet. -/
def Dev.svcHdr (v : Dev) (raw chan : Nat) (r : SvcReq) (addr : Nat) (pay : List Byte) (last : Bool) : PktHdr :=
  { v.scalarHdr raw chan addr with
    opcode := if r.msg then 8 else 3, opArg := if r.msg then 4 else 0, lctr := BitVec.ofNat 16 r.lctr,
    payUnits := BitVec.ofNat 10 (pay.length / 16), last := if last then 1 else 0 }

/-- Transfers go out on a channel whose entry is in the cache. On a channel that is not open, or finds no bucket, nothing
is sent, and each packet's transaction completes UNSUPPORTED with a fault record, as R510 has it for emission (log 13); in a
fenced switch each is answered DENIED so (R429). -/
def State.sendAs (s : State) (n c : Nat) (rs : List SvcReq) : State :=
  let ps := rs.flatMap (fun r => r.packets.map (fun p => (r, p)))
  let denied (code : Nat) (a : State) (x : SvcReq × (Nat × List Byte) × Bool) : State :=
    let h := (a.dev .sw).svcHdr 0 c x.1 x.2.1.1 x.2.1.2 x.2.2
    (a.faultTxn .sw h (Config.unassigned a.fresh).toNat (.core n)
      (a.dev .sw).step 0 code).draw.modDev .sw (fun v => v.addFailed (.core n) h.dst.toNat code)
  if (s.dev .sw).fenced then ps.foldl (denied Code.DENIED) s
  else match s.useChan .sw c with
  | (.miss, s1) => s1
  | (.closed, s1) => ps.foldl (denied Code.UNSUPPORTED) s1
  | (.entry raw, s1) =>
    let jb := (s1.dev .sw).newJob .none ps.length
    let go (a : State) (b : Nat) : State :=
      ps.foldl (fun a x => a.submit .sw ((a.dev .sw).chanPend (.core n) jb.1 raw b
        ⟨(a.dev .sw).svcHdr raw c x.1 x.2.1.1 x.2.1.2 x.2.2, x.2.1.2⟩ .drop none)) a
    if (chanOf raw).promised then
      match (s1.dev .sw).bucketFor s1.now c (chanOf raw) with
      | none => ps.foldl (denied Code.UNSUPPORTED) s1
      | some (b, v) => go (s1.setDev .sw { v with nextJob := jb.2.nextJob, jobs := jb.2.jobs }) b
    else go (s1.setDev .sw jb.2) 0

/-- What the collective service sends. -/
def State.svcSend (s : State) (c : Nat) (rs : List SvcReq) : State := s.sendAs s.serviceCore c rs

/-- What needs a channel's entry waits until it is in the cache. -/
def State.whenChan (s : State) (c : Nat) (go : State → State) : State :=
  match s.useChan .sw c with
  | (.miss, s1) => s1
  | _ => go s

/-- A MSG to queue 4 of a node. -/
def msgTo (node : Nat) (bytes : List Byte) : SvcReq := ⟨node * 2 ^ 52, bytes, 0, true⟩

/-- A fence of the service over its own transactions (R204, R210, R214, R216): its id. -/
def State.svcFence (s : State) (scope : Nat) : Nat × State :=
  s.newFence .sw (.service 0) (.core s.serviceCore) scope 0

/-- A fence of the service that has completed: its code, and the state without it. -/
def State.fenceDone (s : State) (id : Nat) : Option (Nat × State) :=
  match (s.dev .sw).fences.find? (fun f => f.id == id) with
  | some f =>
    if f.waits.isEmpty then
      some (f.code, s.modDev .sw (fun v => { v with fences := v.fences.filter (fun x => x.id != id) }))
    else none
  | none => some (Code.OK, s)

/-! ### Outcomes (R215 to R217) -/

/-- The arbiter takes an outcome, once. -/
def CollOp.decide_ (o : CollOp) (outcome cause node : Nat) : CollOp :=
  if o.rule = .open_ then { o with rule := .decided, outcome := some outcome, cause := cause, deadNode := node } else o

/-- This switch's part of an operation fails: HUB_DONE with STATUS ERROR goes to the arbiter. A dispatch's hub is its
arbiter and takes the outcome. -/
def CollOp.fail (o : CollOp) (cause : Nat) : CollOp :=
  if o.dispatch then o.decide_ 2 cause 0 else { o with part := .report 1 cause }

/-- Windows that an operation's schedule uses. -/
def CollOp.windows (o : CollOp) : List Nat :=
  if o.dispatch then (List.range (dHomes o.desc)).map (fun h => dCmbWindow o.desc + h)
  else if reduces o.desc then [cWindow o.desc, cWindow o.desc + 1].take (min 2 (cSegments o.desc)) else []

/-- What the operation's windows have emitted. -/
def CollOp.emitted? (o : CollOp) (a : Agent) : Bool := o.windows.any (fun w => a == .window w)

/-- A fence waits for the output packets of an operation's windows too (R216: no result write lands after ABORTED). -/
def Dev.coverOutput (v : Dev) (o : CollOp) (fence : Nat) : Dev :=
  let uids := ((v.txns.filter (fun t => o.emitted? t.agent)).map (fun t => t.uid))
    ++ ((v.pends.filter (fun p => o.emitted? p.agent)).map (fun p => p.uid))
  { v with fences := v.fences.map (fun (f : Fence) => if f.id = fence then { f with waits := f.waits ++ uids } else f) }

/-- This switch stops its part (R216): emission and TPUTs stop, the windows it has armed are cleared, output not yet
sent is dropped, and a fence begins over its outstanding transactions, its windows' output among them. -/
def State.stopOp (s : State) (o : CollOp) : State :=
  let s1 := { s with sw := { s.sw with
    emits := s.sw.emits.filter (fun c => ! o.emitting.any (fun e => e.2 == c.id)),
    outs := s.sw.outs.filter (fun x => ! (o.windows.contains x.win && x.step == o.step % 256)) } }
  let s2 := o.armed.foldl (fun a w => a.clearWin w) s1
  let f := s2.svcFence 3
  (f.2.modDev .sw (fun v => v.coverOutput o f.1)).modOp o (fun x =>
    { x with part := .stopFence f.1, emitting := [], later := [], armed := [] })

/-- A node that this switch has seen declared dead (R424). -/
def Dev.dead (v : Dev) (n : Nat) : Bool := bitOf (v.reg (A.TEL_MEMB_DEAD (n / 64))) (n % 64)

/-- The arbiter's own table lists every other switch of the collective: it is the root of a TREE of one shard. -/
def CollOp.lone (o : CollOp) : Bool := isRoot o.desc && cShards o.desc == 1

/-- The switches of a collective that its arbiter knows beside itself: a root's leaves, and those that no table at the
arbiter lists (log 47). -/
def CollOp.switches (o : CollOp) : List Nat :=
  if o.dispatch then []
  else (if isRoot o.desc then o.table.map (fun e => mResult e / 2 ^ 52) else []) ++ (if o.lone then [] else Config.hubsOf o.desc)

/-- The other switches of an operation that its arbiter has to stop. -/
def State.others (s : State) (o : CollOp) : List Nat :=
  o.switches.filter (fun n => n != (s.dev .sw).node && ! (s.dev .sw).dead n)

/-- The member-table entries of a collective's members: at a hub its own table, in a TREE the end-points (Table 8.5). -/
def CollOp.members (o : CollOp) : List Nat :=
  if o.dispatch then [] else if cRole o.desc = 0 then o.table else Config.membersOf o.desc

/-- The final STATUS records (R204, R214, R216). -/
def State.finalRecs (s : State) (o : CollOp) : List SvcReq :=
  let outcome := o.outcome.getD 2
  let node := if outcome = 2 ∧ o.cause = Cause.MEMBER_DEAD then o.deadNode else (s.dev .sw).node
  let rec_ := statusRec o node outcome (if outcome = 2 then o.cause else Cause.NONE) 0
  let ms := if o.dispatch then o.table.map (fun e => ⟨dWord e 1 - 16, rec_, bitsOf (dWord e 2) 47 32, false⟩)
    else o.members.map (fun e => ⟨mDone e, rec_, cDoneLctr o.desc, false⟩)
  let a := if o.dispatch then dRecordAddr o.desc else cRecordAddr o.desc
  let l := if o.dispatch then dRecordLctr o.desc else cRecordLctr o.desc
  ms ++ (if a = 0 then [] else [⟨a, rec_, l, false⟩])

/-- The arbiter goes on as far as it can (R204, R214, R216). -/
def State.ruleOp (s : State) (o : CollOp) : State :=
  match o.rule with
  | .decided =>
    if o.outcome = some 1 then
      (match o.part with
       | .closeFence _ => s
       | _ => s.whenChan (s.opChan o) (fun s => (s.svcSend (s.opChan o) (s.finalRecs o)).modOp o (fun x => { x with rule := .told })))
    else s.whenChan (s.opChan o) (fun s =>
      let node := (s.dev .sw).node
      let s1 := s.svcSend (s.opChan o) ((s.others o).map (fun n => msgTo n (hubRec 4 o.id o.step node 0 0)))
      (s1.modOp o (fun x => { x with rule := .stopping })).stopOp o)
  | .stopping =>
    if o.part = .over && (s.others o).all (fun n => o.stopped.contains n) then
      s.whenChan (s.opChan o) (fun s => (s.svcSend (s.opChan o) (s.finalRecs o)).modOp o (fun x => { x with rule := .told }))
    else s
  | _ => s

/-! ### Segments and chunks (R201, Tables 8.4 and 8.5) -/

/-- The window settings that a descriptor gives for segment `g`; the other fields of the window stay as software has set
them. -/
def State.setSegment (s : State) (d g : Nat) : State :=
  let w := cWindow d + g % 2
  let out := if isLeaf d then cParent d * 2 ^ 52 + 0xF * 2 ^ 48 + cParentWindow d * 2 ^ 40 + cParentSlot d * 2 ^ 28
    else (s.dev .sw).node * 2 ^ 52 + cStaging d + g % 2 * elemsBytes (cOutFormat d) (cSegPieces d * cPieceElems d)
  [(F.RED_WIN_B_FORMAT w, cFormat d), (F.RED_WIN_B_OUT_FORMAT w, cOutFormat d), (F.RED_WIN_B_OP w, cOp d),
   (F.RED_WIN_B_SAT w, cSat d), (F.RED_WIN_B_WEIGHTED w, 0), (F.RED_WIN_B_CONTRIBS_M1 w, cMembers d - 1),
   (F.RED_WIN_B_PIECES_M1 w, cSegLen d g - 1), (F.RED_WIN_B_LAST_ELEMS w, cPieceElems d),
   (F.RED_WIN_C_OUT_ADDR w, out)].foldl (fun a x => a.set .sw x.1 x.2) s

/-- Segment `g` begins (R201): its window is armed, and READY goes to every member. -/
def State.beginSegment (s : State) (o : CollOp) : State :=
  let d := o.desc
  let g := o.begun
  let w := cWindow d + g % 2
  let ready (a : State) : State :=
    (a.svcSend (a.opChan o) (o.table.map (fun e => ⟨mDone e, statusRec o (a.dev .sw).node 0 0 g, cDoneLctr d, false⟩))).modOp o
      (fun x => { x with begun := g + 1 })
  if g < cSegments d ∧ g < o.closed.length + 2 then
    if reduces d then
      if s.get .sw (F.RED_WIN_STATUS_STATE w) ≠ 0 then s
      else s.whenChan (s.opChan o) (fun s =>
        let r := (s.setSegment d g).arm w (cStep d % 256)
        if r.1 = Arm.OK then ready (r.2.modOp o (fun x => { x with armed := x.armed ++ [w] }))
        else r.2.modOp o (fun x => x.fail Cause.WINDOW))
    else s.whenChan (s.opChan o) ready
  else s

/-- Where a chunk goes: fabric addresses, and the counter named. -/
def chunkTargets (o : CollOp) (c : Nat) : List Nat × Nat :=
  let d := o.desc
  let k := cChunkBytes d
  let at_ (e off : Nat) : Nat := mResult e + off
  let lctr := cResultLctr d
  if isRoot d then (o.table.map (fun e => at_ e (c * k)), (cResultLctr d + c) % 65536)
  else if isLeaf d then (o.table.map (fun e => at_ e (cShard d * cShardBytes d + c * k)), lctr)
  else
    match cKind d with
    | 2 =>
      -- the members' portions divide the whole of E, of which this is chunk `g`
      let per := cShards d * cChunks d / max 1 (cMembers d)
      let g := cShard d * cChunks d + c
      (match o.table[g / max 1 per]? with
       | some e => ([at_ e (g % max 1 per * k)], lctr)
       | none => ([], lctr))
    | 3 =>
      let r := c / max 1 (cChunks d)
      ((List.range o.table.length).filterMap (fun m =>
        if m = r then none
        else (o.table[m]?).map (fun e => at_ e ((r * cShards d + cShard d) * cShardBytes d + c % max 1 (cChunks d) * k))), lctr)
    | 4 =>
      ((List.range o.table.length).filterMap (fun m =>
        if m = cRoot d then none else (o.table[m]?).map (fun e => at_ e (cShard d * cShardBytes d + c * k))), lctr)
    | _ => (o.table.map (fun e => at_ e (cShard d * cShardBytes d + c * k)), lctr)

/-- Where a chunk's bytes lie at this switch, as an offset. -/
def chunkSource (o : CollOp) (c : Nat) : Nat :=
  let d := o.desc
  if isLeaf d then cStaging d + c * cChunkBytes d
  else if reduces d then cStaged d c
  else
    let r := if cKind d = 3 then c / max 1 (cChunks d) else cRoot d
    match o.table[r]? with
    | some e => (mIn e + c % max 1 (cChunks d) * cChunkBytes d) % 2 ^ 52
    | none => 0

/-- The window's own writes into the staging area that still wait. -/
def Dev.stagingBusy (v : Dev) (lo n : Nat) : Bool :=
  v.waiting.any (fun w => match w.item with
    | .own o => decide (o.off < lo + n) && decide (lo < o.off + o.bytes.length)
    | .packet _ => false)

/-- A chunk is TPUT to its members, and is done. -/
def State.putChunk (s : State) (o : CollOp) (c : Nat) : State :=
  let n := cChunkBytes o.desc
  let src := chunkSource o c
  if (s.dev .sw).stagingBusy src n then s
  else
    let w := o.chunkWindow c
    let chan := s.get .sw (F.RED_WIN_D_OUT_CHANNEL w)
    s.whenChan chan (fun s =>
    match s.readOwn (s.get .sw (F.RED_WIN_A_TENANT w)) (o.step % 256) (packetsOf src n) [] with
    | (s1, none) => s1
    | (s1, some bytes) =>
      let t := chunkTargets o c
      (s1.svcSend chan (t.1.map (fun a => ⟨a, bytes, t.2, false⟩))).modOp o (fun x =>
        { x with done := x.done ++ [c], emitting := x.emitting.filter (fun e => e.1 != c) }))

/-- The counter of a chunk is full (R201, Table 8.5). -/
def State.chunkFull (s : State) (o : CollOp) (c : Nat) : Bool :=
  let i := cHubLctr o.desc + c
  decide (cChunkBytes o.desc / 16 ≤ (s.dev .sw).lctr (i % 65536))

/-- Every piece of a chunk is bound in full. -/
def State.chunkBound (s : State) (o : CollOp) (c : Nat) : Bool :=
  let w := cWindow o.desc + cSegOf o.desc c % 2
  (List.range (cChunk o.desc)).all (fun i =>
    decide ((s.win w).boundCount (cFirst o.desc c + i) (cMembers o.desc) = cMembers o.desc))

/-- An emission command for a chunk. -/
def State.emitChunk (s : State) (o : CollOp) (c : Nat) : State :=
  let e := s.startEmit (cWindow o.desc + cSegOf o.desc c % 2) (cFirst o.desc c) (cChunk o.desc) false (.service o.id)
  e.2.modOp o (fun x => { x with emitting := x.emitting ++ [(c, e.1)] })

/-- CHUNK_READY (R201, Table 8.5): a chunk whose pieces are bound in full is emitted; one whose counter is full is TPUT.
At a leaf emission starts once the root's READY has landed. -/
def State.chunkReady (s : State) (o : CollOp) (c : Nat) : State :=
  let d := o.desc
  if d = 0 ∨ o.dispatch ∨ o.part ≠ .running ∨ cAllChunks d ≤ c ∨ o.begun ≤ cSegOf d c ∨ o.done.contains c
      ∨ o.emitting.any (fun e => e.1 == c) then s
  else if isLeaf d then
    if o.emitted.contains c then (if s.chunkFull o c then s.putChunk o c else s)
    else if 1 ≤ (s.dev .sw).lctr (cDoneLctr d) then s.emitChunk o c
    else s
  else if reduces d then (if s.chunkBound o c then s.emitChunk o c else s)
  else if s.chunkFull o c then s.putChunk o c
  else s

/-- Emissions of an operation that have come to their end: their commands are forgotten, and their chunks go on. -/
def State.endEmission (s : State) (o : CollOp) (e : Nat × Nat) : State :=
  match s.sw.emits.find? (fun c => c.id == e.2) with
  | none => s
  | some cmd =>
    match cmd.result with
    | none => s
    | some code =>
      let drop (a : State) : State :=
        { a with sw := { a.sw with emits := a.sw.emits.filter (fun c => c.id != e.2) } }.redCount cmd.win (0xB08 + code)
      if o.dispatch then
        -- INCOMPLETE is expected, and the service clears it (R213)
        ((drop s).set .sw (F.RED_WIN_STATUS_INCOMPLETE (dCmbWindow o.desc + e.1)) 0).modOp o (fun x =>
          { x with emitting := x.emitting.filter (fun y => y.1 != e.1), done := x.done ++ [e.1] })
      else if code ≠ 0 then
        (drop s).modOp o (fun x => { x.fail Cause.WINDOW with emitting := x.emitting.filter (fun y => y.1 != e.1) })
      else if isLeaf o.desc then
        (drop s).modOp o (fun x =>
          { x with emitting := x.emitting.filter (fun y => y.1 != e.1), emitted := x.emitted ++ [e.1] })
      else
        let s1 := s.putChunk o e.1
        if (s1.collOp o.id o.step).any (fun x => x.emitting.contains e) then s1 else drop s1

/-- A segment whose every chunk is done is closed: its window is cleared (Table 8.4). -/
def State.closeSegments (s : State) (o : CollOp) : State :=
  let d := o.desc
  (List.range o.begun).foldl (fun a g =>
    if o.closed.contains g then a
    else if (List.range (cAllChunks d)).all (fun c => cSegOf d c != g || o.done.contains c) then
      (if reduces d then a.clearWin (cWindow d + g % 2) else a).modOp o (fun x =>
        { x with closed := x.closed ++ [g], armed := x.armed.erase (cWindow d + g % 2) })
    else a) s

/-- The switch's own part goes on: HUB_DONE is sent, or a fence has completed. -/
def State.partOp (s : State) (o : CollOp) : State :=
  match o.part with
  | .report st cause =>
    let c := if o.desc = 0 then Config.serviceChan else s.opChan o
    s.whenChan c (fun s =>
      (s.svcSend c [msgTo (cArbiter o.desc) (hubRec 3 o.id o.step (s.dev .sw).node st cause)]).modOp o
        (fun x => { x with part := .over }))
  | .shardFence id =>
    match s.fenceDone id with
    | some (code, s1) => s1.modOp o (fun x => { x with
        part := if code = Code.OK then .report 0 Cause.NONE else .report 1 Cause.TRANSFER_ERROR })
    | none => s
  | .stopFence id =>
    match s.fenceDone id with
    | some (_, s1) => s1.modOp o (fun x => { x with part := if x.rule = .open_ then .report 2 Cause.NONE else .over })
    | none => s
  | .closeFence id =>
    match s.fenceDone id with
    | some (_, s1) => s1.modOp o (fun x => { x with part := .over })
    | none => s
  | .planFence id =>
    if (s.dev .sw).jobs.any (fun j => j.id == o.job && j.left != 0) then s
    else s.whenChan (s.opChan o) (fun s =>
      match s.fenceDone id with
      | some (_, s1) =>
        ((s1.svcSend (s1.opChan o) (o.later.map (fun r => ⟨r.1, r.2.1, r.2.2, false⟩))).modDev .sw (fun v =>
          { v with jobs := v.jobs.filter (fun j => j.id != o.job) })).modOp o
            (fun x => { x with part := .running, later := [] })
      | none => s)
  | _ => s

/-- A dispatch whose every home has been emitted is COMPLETED; its windows are cleared and its FENCE.F begins (R214,
R215). -/
def State.closeDispatch (s : State) (o : CollOp) : State :=
  if o.dispatch ∧ o.planned ∧ o.part = .running ∧ o.rule = .open_ ∧ (List.range (dHomes o.desc)).all (fun h => o.done.contains h) then
    let s1 := o.windows.foldl (fun a w => a.clearWin w) s
    let f := s1.svcFence 3
    f.2.modOp o (fun x => { x.decide_ 1 Cause.NONE 0 with part := .closeFence f.1, armed := [] })
  else s

/-- The units that home `h`'s counter reaches when every served row of it has come (R213). -/
def CollOp.homeUnits (o : CollOp) (h : Nat) : Nat :=
  o.served.getD h 0 * elemsBytes (dRowFormat o.desc) (32 * dRow32 o.desc) / 16

/-- Homes whose counts have completed are noted, in the order they do (R213). -/
def State.noteRipe (s : State) (o : CollOp) : State :=
  if o.dispatch ∧ o.planned ∧ o.part = .running then
    let new := (List.range (dHomes o.desc)).filter (fun h => ! o.ripe.contains h &&
      decide (o.homeUnits h ≤ (s.dev .sw).lctr ((dCmbLctr o.desc + h) % 65536)))
    if new = [] then s else s.modOp o (fun x => { x with ripe := x.ripe ++ new })
  else s

/-- An operation goes on as far as it can; each stage reads the operation as the stage before left it. -/
def State.pumpOp (s : State) (id step : Nat) : State :=
  let stage (f : State → CollOp → State) (a : State) : State :=
    match a.collOp id step with
    | some o => if o.desc = 0 then a else f a o
    | none => a
  let running (f : State → CollOp → State) (a : State) (o : CollOp) : State :=
    if o.part = .running ∧ ! o.dispatch then f a o else a
  let emits (a : State) (o : CollOp) : State := o.emitting.foldl (fun b e => stage (fun c p => c.endEmission p e) b) a
  s |> stage emits |> stage (running State.closeSegments) |> stage (running State.beginSegment) |> stage State.closeDispatch
    |> stage State.partOp |> stage State.ruleOp |> stage State.partOp |> stage State.ruleOp |> stage State.noteRipe

def State.pumpColl (s : State) : State := s.sw.coll.foldl (fun a o => a.pumpOp o.id o.step) s

/-! ### Records taken (R195) -/

/-- Records of an unknown TYPE at the head of queue 4 are dropped and counted. -/
def State.dropUnknown : Nat → State → State
  | 0, s => s
  | k + 1, s =>
    match s.dequeue 4 with
    | some (r, s1) =>
      let t := ofLe (r.data.take 8) % 256
      if 1 ≤ t ∧ t ≤ 5 then s
      else State.dropUnknown k { s1 with sw := { s1.sw with collDropped := s1.sw.collDropped + 1 } }
    | none => s

/-- The oldest record of queue 4, if it has a TYPE: its bytes as a number. -/
def State.svcTake (s : State) (type : Nat) (go : Nat → State → State → State) : State :=
  let s := State.dropUnknown (s.squeue 4).recs.length s
  match s.dequeue 4 with
  | some (r, s1) => if ofLe (r.data.take 8) % 256 = type then go (ofLe r.data) s s1 else s
  | none => s

/-- A node's route entry is empty (R98), and the node is not this one. -/
def Dev.noRoute (v : Dev) (n : Nat) : Bool := n != v.node && v.get (F.PKT_ROUTE_LINKS n) == 0

/-- R198: the cause for which a descriptor is rejected, 0 when it is not. -/
def State.rejects (s : State) (d : Nat) (table : List Nat) : Nat :=
  let v := s.dev .sw
  let per := if reduces d then cPieceElems d else 1
  let fieldsOk := decide (1 ≤ cKind d) && decide (cKind d ≤ 4) && decide (cRole d ≤ 2) && decide (cFormat d ≤ 0xC)
    && decide (cOutFormat d ≤ 0xE) && decide (cOp d ≤ 5)
    && decide (cShard d < cShards d) && decide (1 ≤ cChunk d) && decide (cChunk d ≤ 32768) && decide (1 ≤ cSegPieces d)
    && decide (cSegPieces d ≤ 32768) && (cKind d != 4 || decide (cRoot d < cMembers d))
    && cMemberTable d / 2 ^ 52 == v.node && (! reduces d || decide (cWindow d + min 2 (cSegments d) ≤ 256))
  let chunks := decide (0 < cShardElems d) && cSegPieces d % max 1 (cChunk d) == 0 && decide (0 < per)
    && (if reduces d then cShardElems d % (max 1 (cChunk d) * max 1 per) == 0
        else elemsBytes (cFormat d) (cShardElems d) % (max 1 (cChunk d) * 8192) == 0)
    && (cKind d != 2 || cRole d != 0 || cShards d * cChunks d % cMembers d == 0)
    && (cRole d == 0 || cSegPieces d == cPieces d)
  let wins := ! reduces d || (List.range (min 2 (cSegments d))).all (fun i =>
    let w := cWindow d + i
    v.on (F.RED_WIN_A_ENABLE w) && decide (cMembers d * cSegLen d i + ((s.setSegment d i).dev .sw).assemblyBlocks w
      ≤ v.get (F.RED_WIN_A_SIZE w)))
  if ! (fieldsOk && chunks && wins) then Cause.BAD_DESCRIPTOR
  else if table.any (fun e => v.noRoute (mResult e / 2 ^ 52)) || v.noRoute (cArbiter d) || (isLeaf d && v.noRoute (cParent d)) then
    Cause.NO_ROUTE
  else 0

/-- The 256-bit entries of a table. -/
def entriesOf (n : Nat) (bytes : List Byte) : List Nat := (List.range n).map (fun i => ofLe ((bytes.drop (32 * i)).take 32))

/-- COLL_SUBMIT. A table that does not lie in this switch's own range reads as empty. -/
def State.collSubmit (s : State) : State :=
  s.svcTake 1 (fun d s s1 =>
    let o := ((s.collOp (cOpid d) (cStep d)).getD (CollOp.new (cOpid d) (cStep d)))
    if o.desc ≠ 0 then s1
    else
      let own := cMemberTable d / 2 ^ 52 = (s.dev .sw).node
      match if own then s.readOwn (s.get .sw (F.RED_WIN_A_TENANT (cWindow d))) (cStep d % 256)
              (packetsOf (cMemberTable d % 2 ^ 52) (32 * cMembers d)) [] else (s, some []) with
      | (s2, none) => s2
      | (s2, some bytes) =>
        match s2.dequeue 4 with
        | none => s2
        | some (_, s3) =>
          let table := if own then entriesOf (cMembers d) bytes else []
          let cause := s3.rejects d table
          (s3.withOp (cOpid d) (cStep d)).modOp o (fun x => { x with
            desc := d, table := table, part := if cause = 0 ∨ x.part = .over then x.part else .report 1 cause }))

/-- SHARD_DONE (R204): after the last segment a FENCE.F begins; HUB_DONE follows it. -/
def State.shardDone (s : State) (o : CollOp) : State :=
  if o.desc ≠ 0 ∧ ! o.dispatch ∧ o.part = .running ∧ o.closed.length = cSegments o.desc then
    let f := s.svcFence 3
    f.2.modOp o (fun x => { x with part := .shardFence f.1 })
  else s

/-- HUB_DONE with STATUS OK has come from every switch of the collective (R204): in HUB layout one for each shard, in a TREE
every switch that the arbiter knows and itself. -/
def CollOp.allDone (o : CollOp) (node : Nat) : Bool :=
  if cRole o.desc = 0 then o.ok.length == cShards o.desc else (node :: o.switches).all (fun n => o.ok.contains n)

/-- HUB_DONE (R204, R215). -/
def State.hubDone (s : State) : State :=
  s.svcTake 3 (fun r _ s1 =>
    let id := bitsOf r 127 96
    let step := bitsOf r 95 64
    let node := bitsOf r 63 52
    let s2 := s1.withOp id step
    match s2.collOp id step with
    | none => s2
    | some o =>
      match bitsOf r 51 48 with
      | 0 =>
        let ok := if o.ok.contains node then o.ok else o.ok ++ [node]
        s2.modOp o (fun x => { x with ok := ok })
      | 1 => s2.modOp o (fun x => x.decide_ 2 (bitsOf r 47 40) 0)
      | 2 => s2.modOp o (fun x => { x with stopped := x.stopped ++ [node] })
      | _ => s2)

/-- The arbiter that holds HUB_DONE with STATUS OK from every switch takes the outcome COMPLETED. -/
def State.countDone (s : State) : State :=
  { s with sw := { s.sw with coll := s.sw.coll.map (fun (o : CollOp) =>
      if o.desc ≠ 0 ∧ ! o.dispatch ∧ o.allDone (s.dev .sw).node then o.decide_ 1 Cause.NONE 0 else o) } }

/-- The operation that an OPID names: the latest one held. -/
def State.opNamed (s : State) (id : Nat) : Option CollOp := s.sw.coll.reverse.find? (fun o => o.id == id && o.desc != 0)

/-- This switch is an operation's arbiter. -/
def State.arbitrates (s : State) (o : CollOp) : Bool := o.dispatch || cArbiter o.desc == (s.dev .sw).node

/-- ABORT (R217). -/
def State.collAbort (s : State) : State :=
  s.svcTake 2 (fun r s s1 =>
    let id := bitsOf r 63 32
    let o := (s.opNamed id).filter (fun o => s.arbitrates o)
    let res := match o with
      | none => 3
      | some o => if o.rule = .open_ then 0 else if o.outcome = some 1 then 1 else 2
    let c := match o with | some o => s.opChan o | none => Config.serviceChan
    s.whenChan c (fun _ =>
      let s2 := match o with
        | some o => s1.modOp o (fun x => x.decide_ 2 Cause.REQUESTED 0)
        | none => s1
      s2.svcSend c [⟨dWord r 1, leBytes 16 (id * 2 ^ 96 + res * 2 ^ 88 + 0x11), bitsOf (dWord r 2) 63 48, false⟩]))

/-- STOP (R216). A switch that does not hold the operation has nothing to stop, and answers at once; the operation's
descriptor, should it come later, starts nothing. -/
def State.collStop (s : State) : State :=
  s.svcTake 4 (fun r s s1 =>
    let id := bitsOf r 127 96
    let step := bitsOf r 95 64
    match (s.collOp id step).filter (fun o => o.desc != 0) with
    | some o => s1.stopOp o
    | none => s.whenChan Config.serviceChan (fun _ =>
        ((s1.withOp id step).modOp (CollOp.new id step) (fun x => { x with part := .over })).svcSend Config.serviceChan
          [msgTo (bitsOf r 63 52) (hubRec 3 id step (s1.dev .sw).node 2 0)]))

/-- An epoch declares nodes dead (R215): an operation that one of them belongs to, as member, home, expert or switch, is
ABORTED by its arbiter. -/
def State.collDead (s : State) (dead : List Nat) : State :=
  let nodes (o : CollOp) : List Nat := (o.table ++ o.experts ++ o.members).map (fun e => dWord e 0 / 2 ^ 52) ++
    (if o.dispatch then o.table.map (fun e => dWord e 1 / 2 ^ 52) else o.switches)
  { s with sw := { s.sw with coll := s.sw.coll.map (fun (o : CollOp) =>
      if o.desc ≠ 0 && s.arbitrates o then
        (match (nodes o).find? (fun n => dead.contains n) with
         | some n => o.decide_ 2 Cause.MEMBER_DEAD n
         | none => o)
      else o) } }

/-- A step is replayed (R196, R218): its operations and those before it are forgotten, and their windows cleared. -/
def State.forgetReplayed (s : State) : State :=
  let s1 := s.sw.coll.foldl (fun a o => o.armed.foldl (fun b w => b.clearWin w) a) s
  { s1 with sw := { s1.sw with coll := [], emits := s1.sw.emits.filter (fun c =>
      match c.owner with | .service _ => false | _ => true) } }

/-! ### Dispatch and combine (R206 to R214) -/

/-- Elements of a row. -/
def dRowElems (d : Nat) : Nat := 32 * dRow32 d

/-- Pieces per row (R207). -/
def dPieces (d : Nat) : Nat := dRowElems d / elemsPerPiece (dRowFormat d)

/-- DISPATCH_SUBMIT (R207, R208). A rejected dispatch keeps what its tables in this switch's own range hold: its homes are
told of its outcome (R214, R216). A table that lies elsewhere reads as empty. -/
def State.dispatchSubmit (s : State) : State :=
  s.svcTake 5 (fun d s s1 =>
    let node := (s.dev .sw).node
    let o := CollOp.new (cOpid d) (dStep d)
    let tag := dStep d % 256
    let tenant := s.get .sw (F.RED_WIN_A_TENANT (dCmbWindow d))
    let own (a : Nat) : Bool := a / 2 ^ 52 == node
    if (s.collOp (cOpid d) (dStep d)).isSome then s1
    else
      let ok := own (dHomeTable d) && own (dExpertMap d) && own (dTopkBase d) && decide (dHomes d ≤ 32) && decide (1 ≤ dK d)
        && decide (dK d ≤ 8) && decide (dRowFormat d ≤ 1) && decide (dOutFormat d ≤ 1)
        && decide (dCmbWindow d + dHomes d ≤ 256) && decide (0 < dRow32 d)
        && dRowElems d % elemsPerPiece (dRowFormat d) == 0 && dTopkStride d % 16 == 0
      let homeBytes := if own (dHomeTable d) then 32 * dHomes d else 0
      let expertBytes := if own (dExpertMap d) then 32 * dExperts d else 0
      match s.readOwn tenant tag (packetsOf (dHomeTable d % 2 ^ 52) homeBytes
          ++ packetsOf (dExpertMap d % 2 ^ 52) expertBytes) [] with
      | (s2, none) => s2
      | (s2, some bytes) =>
        match s2.dequeue 4 with
        | none => s2
        | some (_, s3) =>
          let homes := entriesOf (homeBytes / 32) bytes
          let experts := entriesOf (expertBytes / 32) (bytes.drop homeBytes)
          let held (x : CollOp) : CollOp := { x with desc := d, dispatch := true, table := homes, experts := experts }
          if ! ok then (s3.withOp o.id o.step).modOp o (fun x => (held x).fail Cause.BAD_DESCRIPTOR)
          else
            let lost := (homes.map (fun e => dWord e 1) ++ experts.map (fun e => dWord e 0)).any (fun a =>
              (s3.dev .sw).noRoute (a / 2 ^ 52))
            (s3.withOp o.id o.step).modOp o (fun x => if lost then (held x).fail Cause.NO_ROUTE else held x))

/-- A choice of a top-k table (Table 8.11): expert, valid, weight. -/
def choiceOf (table : List Byte) (k t j : Nat) : Nat × Bool × Nat :=
  let x := ofLe ((table.drop (16 + 4 * (t * k + j))).take 4)
  (bitsOf x 31 20, bitOf x 19, bitsOf x 15 0)

/-- What the plan of R209 holds of one choice: home, token, choice, its expert, the row given, and its weight. -/
structure Planned where
  home : Nat
  token : Nat
  choice : Nat
  expert : Nat
  row : Option Nat
  weight : Nat
deriving DecidableEq, Repr

/-- R209, choice by choice in the order given: `fill` counts the rows given at each expert. An expert that the map does not
hold has no capacity. -/
def planChoices (cap : Nat → Nat) : List (Nat × Nat × Nat × Nat × Bool × Nat) → SMap Nat → List Planned
  | [], _ => []
  | (h, t, j, e, valid, w) :: rest, fill =>
    let r := SMap.at 0 fill e
    if ! valid ∨ cap e ≤ r then ⟨h, t, j, e, none, 0⟩ :: planChoices cap rest fill
    else ⟨h, t, j, e, some r, w⟩ :: planChoices cap rest (SMap.put 0 fill e (r + 1))

/-- The choices of every home, in the order of R209. -/
def allChoices (k : Nat) (tables : List (Nat × List Byte)) (tokens : List Nat) : List (Nat × Nat × Nat × Nat × Bool × Nat) :=
  tables.flatMap (fun x => (List.range (tokens.getD x.1 0)).flatMap (fun t => (List.range k).map (fun j =>
    let c := choiceOf x.2 k t j
    (x.1, t, j, c.1, c.2.1, c.2.2))))

/-- A plan entry (Table 8.12). -/
def planEntry (experts : List Nat) (rowBytes : Nat) (p : Planned) : Nat :=
  let e := experts.getD p.expert 0
  match p.row with
  | some r => (dWord e 0 + r * rowBytes) % 2 ^ 64 * 2 ^ 64 + bitsOf (dWord e 2) 63 48 * 2 ^ 48 + p.expert * 2 ^ 36
  | none => bitsOf (dWord e 2) 63 48 * 2 ^ 48 + p.expert * 2 ^ 36 + 2 ^ 35

/-- A row-list entry (Table 8.12, R210). -/
def listEntry (d node : Nat) (p : Planned) : Nat :=
  let cmb := node * 2 ^ 52 + 0xF * 2 ^ 48 + (dCmbWindow d + p.home) * 2 ^ 40 + p.choice * 2 ^ 28 + p.token * dPieces d * 2 ^ 13
  cmb * 2 ^ 64 + p.home * 2 ^ 52 + p.token * 2 ^ 36 + p.choice * 2 ^ 32 + (dCmbLctr d + p.home) % 65536 * 2 ^ 16

/-- The writes of plans and lists (R210): every plan and every list, those that are empty too. -/
def planWrites (o : CollOp) (node : Nat) (plan : List Planned) : List (Nat × List Byte × Nat) :=
  let d := o.desc
  (List.range o.table.length).map (fun h =>
    let e := o.table.getD h 0
    (dWord e 0, (plan.filter (fun p => p.home == h)).flatMap (fun p => leBytes 16 (planEntry o.experts (2 * dRowElems d) p)),
      bitsOf (dWord e 2) 63 48))
  ++ (List.range o.experts.length).map (fun x =>
    let e := o.experts.getD x 0
    let rows := plan.filter (fun p => p.expert == x && p.row.isSome)
    (dWord e 1, leBytes 16 (o.step * 2 ^ 96 + rows.length * 2 ^ 80) ++ rows.flatMap (fun p => leBytes 16 (listEntry d node p)),
      bitsOf (dWord e 2) 47 32))

/-- The settings of home `h`'s combine window (R212). -/
def State.setCombine (s : State) (o : CollOp) (h tokens : Nat) : State :=
  let d := o.desc
  let w := dCmbWindow d + h
  let e := o.table.getD h 0
  [(F.RED_WIN_B_OP w, 0), (F.RED_WIN_B_WEIGHTED w, 1), (F.RED_WIN_B_FORMAT w, dRowFormat d), (F.RED_WIN_B_CARRY_IN w, 0),
   (F.RED_WIN_B_OUT_FORMAT w, dOutFormat d), (F.RED_WIN_B_CONTRIBS_M1 w, dK d - 1),
   (F.RED_WIN_B_PIECES_M1 w, tokens * dPieces d - 1), (F.RED_WIN_B_LAST_ELEMS w, elemsPerPiece (dRowFormat d)),
   (F.RED_WIN_D_ROW_32 w, dRow32 d), (F.RED_WIN_E_WEIGHT_ADDR w, Config.weightsAt o.id h),
   (F.RED_WIN_C_OUT_ADDR w, dWord e 1), (F.RED_WIN_D_OUT_LCTR w, bitsOf (dWord e 2) 47 32)].foldl
    (fun a x => a.set .sw x.1 x.2) s

/-- The combine windows are armed, home by home, until one fails. -/
def State.armCombine (s : State) (o : CollOp) (tokens : List Nat) : List Nat → Bool × State
  | [] => (true, s)
  | h :: hs =>
    let r := (s.setCombine o h (tokens.getD h 0)).arm (dCmbWindow o.desc + h) (o.step % 256)
    if r.1 = Arm.OK then r.2.armCombine o tokens hs else (false, r.2)

/-- The combine windows that are ARMED in `b` and were not before. -/
def State.newlyArmed (s b : State) (o : CollOp) : List Nat :=
  o.windows.filter (fun w => b.get .sw (F.RED_WIN_STATUS_STATE w) == 1 && s.get .sw (F.RED_WIN_STATUS_STATE w) != 1)

/-- DISPATCH_PLAN (R208 to R212): once TOPK_LCTR has reached its total, the tables are read and checked, every choice is
planned, the windows armed and the weight arrays written; the plans and lists follow the FENCE.D. -/
def State.dispatchPlan (s : State) (o : CollOp) : State :=
  let d := o.desc
  let n := dHomes d
  let stride := dTopkStride d
  if ! (o.dispatch ∧ ! o.planned ∧ o.part = .running ∧ o.rule = .open_ ∧ n * stride / 16 ≤ (s.dev .sw).lctr (dTopkLctr d)) then s
  else
    let tenant := s.get .sw (F.RED_WIN_A_TENANT (dCmbWindow d))
    match s.readOwn tenant (o.step % 256) (packetsOf (dTopkBase d % 2 ^ 52) (n * stride)) [] with
    | (s1, none) => s1
    | (s1, some bytes) =>
      let tables := (List.range n).map (fun h => (h, (bytes.drop (h * stride)).take stride))
      let head (t : List Byte) : Nat := ofLe (t.take 16)
      let tokens := tables.map (fun x => bitsOf (head x.2) 95 80)
      let good := tables.all (fun x =>
        let t := bitsOf (head x.2) 95 80
        bitsOf (head x.2) 127 96 == o.step && decide (1 ≤ t) && decide (t ≤ 16384) && decide (4 * t * dK d + 16 ≤ stride)
        && decide (t * dPieces d ≤ 32768))
      if ! good then s1.modOp o (fun x => x.fail Cause.BAD_DESCRIPTOR)
      else
        match s1.armCombine o tokens (List.range n) with
        | (false, s2) => s2.modOp o (fun x => { x.fail Cause.WINDOW with armed := s1.newlyArmed s2 o })
        | (true, s2) =>
          let cap (e : Nat) : Nat := bitsOf (dWord (o.experts.getD e 0) 2) 31 16
          let plan := planChoices cap (allChoices (dK d) tables tokens) []
          let ws := (List.range n).flatMap (fun h =>
            let b := (plan.filter (fun p => p.home == h)).flatMap (fun p => leBytes 2 p.weight)
            (packetsOf (Config.weightsAt o.id h) b.length).map (fun p => (p.1, (b.drop (p.1 - Config.weightsAt o.id h)).take p.2)))
          let jb := (s2.dev .sw).newJob (.service o.id) ws.length
          let s3 := ws.foldl (fun a x => a.ownWrite ⟨tenant, x.1, x.2, o.step % 256, jb.1, 0, 0⟩ none) (s2.setDev .sw jb.2)
          let f := s3.svcFence 1
          f.2.modOp o (fun x => { x with
            planned := true, part := .planFence f.1, job := jb.1, tokens := tokens, armed := o.windows,
            served := (List.range n).map (fun h => (plan.filter (fun p => p.home == h && p.row.isSome)).length),
            later := planWrites o (s3.dev .sw).node plan })

/-- The home to be emitted next: the first, in the order their counts completed, whose emission has not begun (R213). -/
def CollOp.nextHome (o : CollOp) : Option Nat :=
  o.ripe.find? (fun h => ! o.done.contains h && ! o.emitting.any (fun e => e.1 == h))

/-- COMBINE_EMIT (R213): the home that is next in the order in which the counts completed is emitted with PARTIAL. -/
def State.combineEmit (s : State) (o : CollOp) (h : Nat) : State :=
  let d := o.desc
  if o.dispatch ∧ o.planned ∧ o.part = .running ∧ o.rule = .open_ ∧ o.nextHome = some h then
    let e := s.startEmit (dCmbWindow d + h) 0 (o.tokens.getD h 0 * dPieces d) true (.service o.id)
    e.2.modOp o (fun x => { x with emitting := x.emitting ++ [(h, e.1)] })
  else s

end Sys2Proof.Machine
end

