-- ==== Sys2Proof/Machine/Link.lean ====
section
/-! DEFINITION. A link port (spec/03): its state and counters, the per-hop bound it publishes (R120 to R122), and what it
sends: frames, markers, acknowledgements, replays, credit. -/

namespace Sys2Proof.Machine

/-! ### State and status (R84, R87) -/

/-! STATE of LNK_STATUS (Table 3.9). -/

namespace Lnk
def OFF : Nat := 0
def TRAINING : Nat := 1
def ACTIVE : Nat := 2
def DEEP_ENTRY : Nat := 3
def DEEP : Nat := 4
def WAKING : Nat := 5
def IDLE : Nat := 6
def DOWN : Nat := 7
end Lnk

def State.lnk (s : State) (d : Part) (p : Nat) : Nat := s.get d (F.LNK_STATUS_STATE p)

def State.recovering (s : State) (d : Part) (p : Nat) : Bool := s.get d (F.LNK_STATUS_RECOVERING p) == 1

def State.held (s : State) (d : Part) (p : Nat) : Bool := s.get d (F.LNK_STATUS_HELD p) == 1

def State.rtt (s : State) (d : Part) (p : Nat) : Nat := s.get d (F.LNK_PARTNER_RTT_NS p)

/-- A bit of LNK_ERR is set. -/
def State.lnkErr (s : State) (d : Part) (p : Nat) (f : Nat → Fld) : State := s.set d (f p) 1

/-- A port's µs in ACTIVE or DEEP up to now enter counters 14 and 13 (Table 18.1). -/
def State.countPort (s : State) (d : Part) (p : Nat) : State :=
  let st := s.get d (F.LNK_STATUS_STATE p)
  let us := (s.now - (s.port d p).stateAt) / 1000
  if us = 0 ∨ (st ≠ 2 ∧ st ≠ 4) then s
  else (s.modPort d p (fun q => { q with stateAt := q.stateAt + us * 1000 })).count d (32 * p + (if st = 2 then 14 else 13)) us

/-- Counter `e` of a port's 32 (Table 18.1). -/
def State.countLink (s : State) (d : Part) (p e n : Nat) : State := s.count d (32 * p + e) n

/-! ### The per-hop bound (R120 to R122) -/

/-- F_max in bytes; C_min in hundredths of B/ns; T_fix in ns (Table 5.3). -/
def fMax : Nat := 8256
def cMin100 : Nat := 49261
def tFix (d : Part) : Nat := match d with | .sw => 200 | .ep => 150

/-- A rational rounded up. -/
def ratCeil (x : Rat) : Nat := (-((-x.num) / (x.den : Int))).toNat

/-- RATE_EFF in MB/s (Table 5.1), unrounded: MB/s are thousandths of B/ns. -/
def rateEff (rate resvDown rtt : Nat) : Rat :=
  if resvDown ≤ 33 then 0
  else min (rate : Rat) ((256000 * (resvDown - 33) : Nat) / ((rtt + 300 : Nat) : Rat))

/-- RES in ns (Table 5.1), for a RATE_EFF above 0. -/
def resNs (d : Part) (burst : Nat) (eff : Rat) : Rat :=
  ((burst * 64 + fMax) * 1000 : Nat) / eff + ((fMax * 100 : Nat) : Rat) / cMin100 + tFix d

/-- BOUND in ns (Table 5.1). -/
def boundNs (res : Rat) (rtt : Nat) : Rat := res + ((3 * rtt : Nat) : Rat) / 2 + ((2 * fMax * 100 : Nat) : Rat) / cMin100

/-- The reservation that the partner advertised at link-up for a class it holds promised. -/
def Dev.resvDown (v : Dev) (p c : Nat) : Option Nat := (v.port p).resvDown.getD c none

/-- RATE_EFF of a promised class at an egress port. -/
def Dev.rateEff (v : Dev) (p c : Nat) : Rat :=
  Machine.rateEff (v.get (F.SWC_CLASS_B_RATE p c)) ((v.resvDown p c).getD 0) (v.get (F.LNK_PARTNER_RTT_NS p))

/-- VALID (R121): the class is promised here, and at the partner by its last CREDIT. -/
def Dev.boundValid (v : Dev) (p c : Nat) : Bool :=
  v.mode p c == 1 && ((v.port p).credit.getD c none).isSome && v.get (F.LNK_STATUS_STATE p) == 2 && decide (33 < (v.resvDown p c).getD 0)
  && v.get (F.SWC_CLASS_B_RATE p c) != 0

def pairKey (p c : Nat) : Nat := 8 * p + c

/-- One pair's published values (R120, R122). A retraining that raises the bound sets BOUND_GROWN although VALID was 0 while it
lasted: the value replaced is the last that was VALID (DEDUCED, log 45). -/
def Dev.bound (v : Dev) (p c : Nat) : Dev :=
  if v.mode p c ≠ 1 then
    { (v.setReg (A.SWC_HOP_BOUND_A p c) 0).setReg (A.SWC_HOP_BOUND_B p c) 0 with
      boundWas := SMap.put 0 v.boundWas (pairKey p c) 0 }
  else
    let rtt := v.get (F.LNK_PARTNER_RTT_NS p)
    let eff := v.rateEff p c
    let valid := v.boundValid p c
    let res := resNs v.part (v.get (F.SWC_CLASS_B_BURST p c)) eff
    let (r, b) := if eff ≤ 0 then (0xFFFFFFFF, 0xFFFFFFFF)
      else (min 0xFFFFFFFF (ratCeil res), min 0xFFFFFFFF (ratCeil (boundNs res rtt)))
    let was := SMap.at 0 v.boundWas (pairKey p c)
    let grown := valid && decide (0 < was) && decide (was < b)
    let v1 := ({ v with boundWas := if valid then SMap.put 0 v.boundWas (pairKey p c) b else v.boundWas }.setReg (A.SWC_HOP_BOUND_A p c) (b * 2 ^ 32 + r)).setReg (A.SWC_HOP_BOUND_B p c)
      ((eff.num / (eff.den : Int)).toNat % 2 ^ 19 * 2 ^ 45 + b2n valid * 2 ^ 44 + rtt % 4096 * 2 ^ 32)
    if grown then (v1.set F.SWC_EVENT_STATUS_BOUND_GROWN 1).count 0x70F 1 else v1

/-- A port's published values are recomputed. -/
def State.bounds (s : State) (d : Part) (p : Nat) : State :=
  s.modDev d (fun v => (List.range 8).foldl (fun v c => v.bound p c) v)

/-- A link enters a state of Table 3.9: its times are counted, and VALID follows ACTIVE (R121). -/
def State.setLnk (s : State) (d : Part) (p x : Nat) : State :=
  (((s.countPort d p).set d (F.LNK_STATUS_STATE p) x).modPort d p (fun q => { q with stateAt := s.now })).bounds d p

/-! ### Sending (R50 to R61) -/

/-- A header that the port sends now: every header carries the acknowledgement of all that has been accepted (R59). -/
def Port.hdr (q : Port) (type sub bodyLen : Nat) : FrameHdr :=
  { ackSeq := q.rxSeq - 1, seq := 0, lenUnits := BitVec.ofNat 8 (unitsFor bodyLen), pktCount := 0, rsv54 := 0,
    bodyLen := BitVec.ofNat 10 bodyLen, crdClass := 0, crdCount := 0, rsv12 := 0, ackValid := 1, replay := 0,
    crdValid := 0, rsv8 := 0, type := BitVec.ofNat 4 type, subtype := BitVec.ofNat 4 sub }

/-- Units sent since the last that was not DATA, after one more frame; 127 is as good as more (R56). -/
def Port.runAfter (q : Port) (h : FrameHdr) : Nat := if h.type = 1 then min 127 (q.dataRun + h.lenUnits.toNat) else 0

/-- A frame goes onto the lanes (R42 to R46); its header has acknowledged what was due. -/
def State.txFrame (s : State) (d : Part) (p : Nat) (f : Frame) : State :=
  let q := s.port d p
  let l := sendLanes q.txScr q.txRun (frameBytes f)
  ((s.modPort d p (fun q => { q with
    txScr := l.2.1, txRun := l.2.2, ackDue := none, dataRun := q.runAfter f.hdr })).emit (.frame d p f l.1))

/-- A marker on every data lane; the scramblers reseed after it (R44, R47). -/
def State.txMarker (s : State) (d : Part) (p : Nat) : State :=
  let q := s.port d p
  let l := (List.range 16).map (fun n => markerSyms (runOf q.txRun n))
  ((s.modPort d p (fun q => { q with txScr := [], txRun := List.replicate 16 markerRun })).emit (.marker d p l))

/-- PRBS31 goes out (R45): for `units`, after which the lanes' states have moved on, or for as long as a phase lasts
(`units` 0). Which state the lane that carries no logical lane starts from is not specified (free, log 1). -/
def State.txPrbs (s : State) (d : Part) (p units : Nat) : State :=
  let q := s.port d p
  let l := prbsLanes q.txScr q.txRun units
  let scr := (List.range 16).map (scrOf q.txScr) ++ [Config.choice s.fresh % 2 ^ 31]
  ((s.draw.modPort d p (fun q => { q with txScr := l.1, txRun := l.2 })).emit (.prbs d p scr units))

/-- The transmitter has sent PRBS31 since a phase began: 8 units in a ns (R42, R44). -/
def State.prbsRan (s : State) (d : Part) (p : Nat) : State :=
  s.modPort d p (fun q =>
    let l := prbsLanes q.txScr q.txRun (8 * (s.now - q.phaseAt))
    { q with txScr := l.1, txRun := l.2 })

/-- A CONTROL frame of a subtype of Table 3.3 with its 32 B body goes out (R55). -/
def State.controlNow (s : State) (d : Part) (p sub : Nat) (body : BitVec 256) : State :=
  s.txFrame d p ⟨(s.port d p).hdr 2 sub 2, leBytes 32 body.toNat⟩

namespace Ctl
def ACK : Nat := 1
def NACK : Nat := 2
def CREDIT : Nat := 3
def HEARTBEAT : Nat := 4
def TS : Nat := 5
def NAP_REQ : Nat := 6
def NAP_ACK : Nat := 7
def NAP_NAK : Nat := 8
def DOWN : Nat := 9
end Ctl

/-- An IDLE frame: one unit with an all-zero body (R55). How many of the body's bytes BODY_LEN counts is not specified
(free among the lengths that fit one unit, log 1). -/
def State.txIdle (s : State) (d : Part) (p : Nat) : State :=
  let n := Config.choice s.fresh % 3
  s.draw.txFrame d p ⟨(s.port d p).hdr 3 0 n, List.replicate (16 * n) 0⟩

/-- A link on which frames can be sent: it is in service, or in NEGOTIATE or CREDIT. -/
def State.lineUp (s : State) (d : Part) (p : Nat) : Bool :=
  s.lnk d p == Lnk.ACTIVE || (s.port d p).phase == some .negotiate || (s.port d p).phase == some .credit

/-! ### CONTROL frames beside DATA (R56) -/

/-- Whether credit allows a packet of `n` cells of class `c` (R63). -/
def Port.mayCredit (q : Port) (c n : Nat) : Bool :=
  match q.credit.getD c none with
  | none => true
  | some k => decide ((k + 2 ^ 25 - q.sent.getD c 0 - n) % 2 ^ 24 < 2 ^ 23)

/-- The index of a (port, class) pair. -/
def Dev.queue (v : Dev) (p c : Nat) : List QPkt := SMap.at [] v.queues (pairKey p c)

/-- The head of a queue, where credit allows it (R63). -/
def Dev.sendable (v : Dev) (p c : Nat) : Option QPkt :=
  match v.queue p c with
  | [] => none
  | x :: _ => if (v.port p).mayCredit c (cellsOf x.pkt.hdr) then some x else none

/-- Bytes that the replay buffer holds; its size (R58). -/
def Port.replayBytes (q : Port) : Nat := (q.replay.map (fun f => 64 * f.frame.hdr.lenUnits.toNat)).sum

def replayRoom : Nat := 768 * 1024

/-- DATA waits that the port could send: a packet that credit allows, for whose frame the replay buffer has room. -/
def State.dataWaits (s : State) (d : Part) (p : Nat) : Bool :=
  s.lnk d p == Lnk.ACTIVE && ! s.held d p && (List.range 8).any (fun c => match (s.dev d).sendable p c with
    | some x => decide ((s.port d p).replayBytes + lineCost x.pkt.hdr ≤ replayRoom)
    | none => false)

/-- A unit that is not DATA may go: no DATA waits, or the last 127 units were DATA (R56). -/
def State.mayControl (s : State) (d : Part) (p : Nat) : Bool :=
  ! s.dataWaits d p || decide (127 ≤ (s.port d p).dataRun)

/-- A CONTROL frame goes out, or waits for its unit behind those that wait already (R56). -/
def State.sendControl (s : State) (d : Part) (p sub : Nat) (body : BitVec 256) : State :=
  if s.mayControl d p ∧ (s.port d p).ctlWait = [] then s.controlNow d p sub body
  else s.modPort d p (fun q => { q with ctlWait := q.ctlWait ++ [(sub, body)] })

/-! ### Credit (R63 to R65, R112, R509) -/

/-- C_c (R63): the reservation and the cells freed since the restart. -/
def Dev.creditCount (v : Dev) (p c : Nat) : Nat := (v.resv p c + (v.port p).freed.getD c 0) % 2 ^ 24

/-- A CREDIT body (Table 3.3): a promised class is VALID (R110). -/
def Dev.creditBody (v : Dev) (p : Nat) : BitVec 256 :=
  BitVec.ofNat 256 (((List.range 8).map (fun c => (b2n (v.mode p c == 1) * 2 ^ 31 + v.creditCount p c) * 2 ^ (32 * c))).sum)

/-- The end of a grace from an instant on (R509). -/
def graceFrom (now rtt : Nat) : Nat := now + 2 * rtt + 4000

/-- A CREDIT frame goes out: it carries every class, and starts the end of the grace of classes that a Pour changed. -/
def State.creditNow (s : State) (d : Part) (p : Nat) : State :=
  let rtt := s.rtt d p
  (s.controlNow d p Ctl.CREDIT ((s.dev d).creditBody p)).modPort d p (fun q => { q with
    creditAt := s.now, creditOwed := List.replicate 8 none, pourOwed := [],
    grace := q.grace.map (fun (g : Grace) => if g.firstAt.isSome then g
      else { g with firstAt := some s.now, endAt := some (graceFrom s.now rtt) }) })

/-- A CREDIT frame goes out, or waits for its unit; one that waits will carry the counts of that time (R56). -/
def State.sendCredit (s : State) (d : Part) (p : Nat) : State :=
  let q := s.port d p
  if s.mayControl d p ∧ q.ctlWait = [] then s.creditNow d p
  else if q.ctlWait.any (fun x => x.1 == Ctl.CREDIT) then s
  else s.modPort d p (fun q => { q with ctlWait := q.ctlWait ++ [(Ctl.CREDIT, 0)] })

/-- A CONTROL frame that waited goes out. -/
def State.waitedNow (s : State) (d : Part) (p : Nat) (x : Nat × BitVec 256) : State :=
  if x.1 = Ctl.CREDIT then s.creditNow d p else s.controlNow d p x.1 x.2

/-- The CONTROL frames that wait go out as far as they may, oldest first. -/
def State.sendWaiting (d : Part) (p : Nat) : List (Nat × BitVec 256) → State → State
  | [], s => s.modPort d p (fun q => { q with ctlWait := [] })
  | x :: r, s =>
    if s.mayControl d p then State.sendWaiting d p r (s.waitedNow d p x)
    else s.modPort d p (fun q => { q with ctlWait := x :: r })

/-- What waits goes out where R56 allows it. -/
def State.flushControl (s : State) (d : Part) (p : Nat) : State :=
  if (s.port d p).ctlWait = [] then s else State.sendWaiting d p (s.port d p).ctlWait s

/-- DOWN, after every CONTROL frame that waits: the port sends no more DATA. -/
def State.sendDown (s : State) (d : Part) (p : Nat) : State :=
  ((((s.port d p).ctlWait.foldl (fun a x => a.waitedNow d p x) s).modPort d p (fun q => { q with ctlWait := [] })).controlNow
    d p Ctl.DOWN 0)

/-- A replay or recovery during a grace extends it (R509): `begun` says that it began before the grace was over; else the
grace is extended only while it lasts. -/
def State.extendGrace (s : State) (d : Part) (p : Nat) (begun : Bool) : State :=
  let e := graceFrom s.now (s.rtt d p)
  s.modPort d p (fun q => { q with
    grace := q.grace.map (fun (g : Grace) => { g with
      endAt := g.endAt.map (fun x => if begun || decide (s.now ≤ x) then max x e else x) }) })

/-- The entries of a CREDIT body that are VALID. -/
def creditOf (body : BitVec 256) : List (Option Nat) :=
  (List.range 8).map (fun c =>
    let e := body.toNat / 2 ^ (32 * c) % 2 ^ 32
    if bitOf e 31 then some (e % 2 ^ 24) else none)

/-- Cells of a dropped arrival count as freed (R63). -/
def Dev.countFreed (v : Dev) (now p c n : Nat) : Dev :=
  v.modPort p (fun q =>
    { q with freed := listMod q.freed c (fun x => (x + n) % 2 ^ 24),
             creditOwed := if v.mode p c = 1 then
                 listMod q.creditOwed c (fun o => match o with | some t => some t | none => some now)
               else q.creditOwed })

/-! ### Acknowledgement and replay (R58 to R62) -/

/-- An ACK_SEQ covers the frames up to it (R58). -/
def coversSeq (ack seq : BitVec 16) : Bool := decide ((ack - seq).toNat < 32768)

/-- The class with the least key, the lowest of equal ones. -/
def leastBy (f : Nat → Rat) : List Nat → Option Nat
  | [] => none
  | c :: cs => match leastBy f cs with
    | none => some c
    | some b => if f c ≤ f b then some c else some b

/-- The class whose oldest unsent credit change is oldest, the lowest of equal ones (R112). -/
def Port.owedClass (q : Port) : Option Nat :=
  leastBy (fun c => (((q.creditOwed.getD c none).getD 0 : Nat) : Rat))
    ((List.range 8).filter (fun c => (q.creditOwed.getD c none).isSome))

/-- A DATA frame goes out, new or replayed: at version 2.0 its header carries the credit update of one class that is pending
(R112). -/
def State.dataFrame (s : State) (d : Part) (p : Nat) (f : Frame) : State :=
  match if s.get d (F.LNK_STATUS_VER_RUN p) = 0x20 then (s.port d p).owedClass else none with
  | some c =>
    (s.modPort d p (fun q => { q with creditOwed := setAt q.creditOwed c none })).txFrame d p { f with hdr := { f.hdr with
      crdValid := 1, crdClass := BitVec.ofNat 3 c, crdCount := BitVec.ofNat 24 ((s.dev d).creditCount p c) } }
  | none => s.txFrame d p f

/-- An acknowledgement is taken: what it covers leaves the replay buffer, which is progress (R58, R61). -/
def State.takeAck (s : State) (d : Part) (p : Nat) (ack : BitVec 16) : State :=
  let q := s.port d p
  let rest := q.replay.filter (fun f => ! coversSeq ack f.frame.hdr.seq)
  if rest.length = q.replay.length then s
  else s.modPort d p (fun q => { q with replay := rest, progressAt := s.now })

/-- Every held frame goes again, oldest first, after a marker (R50, R61). -/
def State.replayAll (s : State) (d : Part) (p : Nat) : State :=
  let again (h : HeldFrame) : HeldFrame := ⟨{ h.frame with hdr := { h.frame.hdr with replay := 1 } }, h.replays + 1⟩
  let s1 := (s.txMarker d p).modPort d p (fun q => { q with replay := q.replay.map again, progressAt := s.now })
  let ack := (s1.port d p).rxSeq - 1
  let s2 := (s1.port d p).replay.foldl (fun a h => a.dataFrame d p { h.frame with hdr := { h.frame.hdr with ackSeq := ack } }) s1
  if (s1.port d p).replay.isEmpty then s2 else (s2.countLink d p 8 1).extendGrace d p false

/-- A frame that fails draws one NACK, unless one is outstanding (R60). -/
def State.frameBad (s : State) (d : Part) (p : Nat) : State :=
  if (s.port d p).nackAt.isSome then s
  else ((s.sendControl d p Ctl.NACK 0).countLink d p 7 1).modPort d p (fun q => { q with nackAt := some s.now })

end Sys2Proof.Machine
end

