-- ==== Sys2Proof/Machine/Sched.lean ====
section
/-! DEFINITION. Egress (spec/05): the queues, the scheduler of R113, colour and early drop (R114 to R116), and the DATA
frame that carries what the scheduler picks (R58, R112, R127). -/

namespace Sys2Proof.Machine

/-! ### Queues -/

def Dev.setQueue (v : Dev) (p c : Nat) (q : List QPkt) : Dev := { v with queues := SMap.put [] v.queues (pairKey p c) q }

/-- Cells that a queue holds. -/
def queueCells (q : List QPkt) : Nat := (q.map (fun x => cellsOf x.pkt.hdr)).sum

/-- Class words A and B that govern a queue: those before a Pour, until the queue empties (R110). -/
def Dev.classWords (v : Dev) (p c : Nat) : Nat × Nat :=
  match SMap.at none v.queueOld (pairKey p c) with
  | some w => w
  | none => (v.reg (A.SWC_CLASS_A p c), v.reg (A.SWC_CLASS_B p c))

def Dev.queueMode (v : Dev) (p c : Nat) : Nat := bitsOf (v.classWords p c).1 63 62

/-- RATE_EFF in MB/s of a queue. -/
def Dev.queueRate (v : Dev) (p c : Nat) : Rat :=
  Machine.rateEff (bitsOf (v.classWords p c).2 63 45) ((v.resvDown p c).getD 0) (v.get (F.LNK_PARTNER_RTT_NS p))

def Dev.vTime (v : Dev) (p c : Nat) : Rat := SMap.at 0 v.vfin (pairKey p c)

def Dev.startTime (v : Dev) (p c : Nat) : Rat := SMap.at 0 v.headS (pairKey p c)

/-- A packet reaches the head of a queue (R113 step 1). -/
def Dev.headUp (v : Dev) (now p c : Nat) : Dev :=
  match v.queue p c with
  | [] => v
  | x :: _ =>
    if v.queueMode p c ≠ 1 then v
    else
      let k := pairKey p c
      let eff := v.queueRate p c
      if eff ≤ 0 then { v with headS := SMap.put 0 v.headS k (now : Rat) }
      else
        let st := max (now : Rat) (v.vTime p c)
        { v with headS := SMap.put 0 v.headS k st,
                 vfin := SMap.put 0 v.vfin k (st + ((lineCost x.pkt.hdr * 1000 : Nat) : Rat) / eff) }

/-- A packet joins a queue. -/
def Dev.enqueue (v : Dev) (now p c : Nat) (x : QPkt) : Dev :=
  let q := v.queue p c
  let v1 := (v.setQueue p c (q ++ [x])).count (0x600 + pairKey p c) (cellsOf x.pkt.hdr)
  if q.isEmpty then v1.headUp now p c else v1

/-- The head leaves a queue; an emptied queue is governed by its new settings (R110), and has no deficit. -/
def Dev.dequeue (v : Dev) (now p c : Nat) : Dev :=
  let rest := (v.queue p c).drop 1
  let v1 := v.setQueue p c rest
  if rest.isEmpty then
    { v1 with queueOld := SMap.put none v1.queueOld (pairKey p c) none, deficit := SMap.put 0 v1.deficit (pairKey p c) 0 }
  else v1.headUp now p c

/-! ### The scheduler (R113) -/

/-- Step 2: eligible promised heads, by V_c. -/
def Dev.pickDue (v : Dev) (now p : Nat) : Option Nat :=
  leastBy (v.vTime p) ((List.range 8).filter (fun c =>
    (v.sendable p c).isSome && v.queueMode p c == 1 && decide (0 < v.queueRate p c) && decide (v.startTime p c ≤ (now : Rat))))

/-- Step 4: promised heads, by S. -/
def Dev.pickEarly (v : Dev) (p : Nat) : Option Nat :=
  leastBy (v.startTime p) ((List.range 8).filter (fun c => (v.sendable p c).isSome && v.queueMode p c == 1))

/-- Step 3: deficit round robin over the best-effort queues. A visit adds the QUANTUM once; a queue is served while its
deficit holds the line cost of its head. -/
def Dev.pickRound (p : Nat) : Nat → Dev → Option (Nat × Dev)
  | 0, _ => none
  | n + 1, v =>
    let c := SMap.at 0 v.drrPos p % 8
    let k := pairKey p c
    let next (v : Dev) : Dev := { v with drrPos := SMap.put 0 v.drrPos p ((c + 1) % 8), drrFresh := SMap.put false v.drrFresh p false }
    match (if v.queueMode p c = 2 then v.sendable p c else none) with
    | none => Dev.pickRound p n (next v)
    | some x =>
      let visited := SMap.at false v.drrFresh p
      let have_ := SMap.at 0 v.deficit k + (if visited then 0 else bitsOf (v.classWords p c).1 13 0 * 64)
      let cost := lineCost x.pkt.hdr
      if cost ≤ have_ then
        some (c, { v with deficit := SMap.put 0 v.deficit k (have_ - cost), drrFresh := SMap.put false v.drrFresh p true })
      else Dev.pickRound p n (next { v with deficit := SMap.put 0 v.deficit k have_ })

/-- The class whose head an egress port sends next, and the device with the round robin advanced. -/
def Dev.pick (v : Dev) (now p : Nat) : Option (Nat × Dev) :=
  match v.pickDue now p with
  | some c => some (c, v)
  | none => match Dev.pickRound p 17 v with
    | some x => some x
    | none => (v.pickEarly p).map (fun c => (c, v))

/-! ### Frames of data (R58, R112, R127) -/

/-- HOP_LATE (R127): a switch's promised packet that was routed under a valid bound and stayed longer than RES_NS. -/
def State.hopLate (s : State) (d : Part) (p c : Nat) (x : QPkt) : State :=
  let v := s.dev d
  let stay := s.now - x.at_
  if d = .sw ∧ v.queueMode p c = 1 ∧ x.checked ∧ v.get (F.SWC_HOP_BOUND_A_RES_NS p c) < stay then
    (s.modDev d (fun v => (v.set F.SWC_EVENT_STATUS_HOP_LATE 1).setReg A.SWC_LATE_LAST
      (min stay (2 ^ 24 - 1) * 2 ^ 40 + x.pkt.hdr.src.toNat * 2 ^ 28 + p % 32 * 2 ^ 23 + c * 2 ^ 20
        + x.pkt.hdr.channel.toNat))).count d (0x710 + pairKey p c) 1
  else s

/-- A packet is handed to the link: its cells are free (R109), and S_c counts its own (R63). -/
def State.handOver (s : State) (d : Part) (p c : Nat) (x : QPkt) : State :=
  ((s.hopLate d p c x).modDev d (fun v =>
    ((v.dequeue s.now p c).freeCells s.now x.inPort x.pkt.hdr.cls x.resv x.shared).modPort p (fun q =>
      { q with sent := listMod q.sent c (fun n => (n + cellsOf x.pkt.hdr) % 2 ^ 24) })))

/-- Up to `n` packets for one frame, in the order of R113, while the body and the replay buffer have room. -/
def State.pack (d : Part) (p : Nat) : Nat → State → List Packet → Nat → State × List Packet
  | 0, s, ps, _ => (s, ps)
  | n + 1, s, ps, len =>
    match (s.dev d).pick s.now p with
    | none => (s, ps)
    | some (c, v) =>
      match v.sendable p c with
      | none => (s, ps)
      | some x =>
        let len' := len + pktLen x.pkt.hdr
        if len' ≤ 8224 ∧ (s.port d p).replayBytes + 64 * unitsFor (len' / 16) ≤ replayRoom then
          State.pack d p n ((s.setDev d v).handOver d p c x) (ps ++ [x.pkt]) len'
        else (s, ps)

/-- Packets that one DATA frame may carry at the link's version (Table 3.7). -/
def State.maxPack (s : State) (d : Part) (p n : Nat) : Nat := if s.get d (F.LNK_STATUS_VER_RUN p) = 0x20 then min n 255 else min n 1

/-- TX_DATA_FRAME: a DATA frame with up to `n` packets. -/
def State.txData (s : State) (d : Part) (p n : Nat) : State :=
  if s.lnk d p ≠ Lnk.ACTIVE ∨ s.held d p then s
  else
    match State.pack d p (s.maxPack d p n) s [] 0 with
    | (_, []) => s
    | (s1, ps) =>
      let q := s1.port d p
      let body := ps.flatMap packetBytes
      let h0 := q.hdr 1 0 (body.length / 16)
      let h1 : FrameHdr := { h0 with seq := q.txSeq, pktCount := BitVec.ofNat 8 ps.length }
      let s2 := (s1.modPort d p (fun q => { q with
        txSeq := q.txSeq + 1, replay := q.replay ++ [⟨⟨h1, body⟩, 0⟩],
        progressAt := if q.replay.isEmpty then s.now else q.progressAt })).dataFrame d p ⟨h1, body⟩
      ((s2.countLink d p 0 1).countLink d p 2 body.length).flushControl d p

/-! ### Colour (R114) and early drop (R115, R116) -/

/-- A meter's fill: its buckets hold at most their depths. -/
def Meter.fill (m : Meter) (now cir cbs eir ebs : Nat) : Meter :=
  { c := min (cbs * 1024000) (m.c + cir * (now - m.at_)), e := min (ebs * 1024000) (m.e + eir * (now - m.at_)), at_ := now }

/-- The colour of a packet, 0 green, 1 yellow, 2 red, and the device with the tokens taken. -/
def Dev.colour (v : Dev) (now tenant : Nat) (h : PktHdr) : Nat × Dev :=
  let k := 8 * tenant + h.cls
  let g (f : Nat → Nat → Fld) : Nat := v.get (f tenant h.cls)
  let cir := g F.SWC_METER_CIR
  if cir = 0x7FFFF then (0, v)
  else
    let cbs := g F.SWC_METER_CBS
    let ebs := g F.SWC_METER_EBS
    let m := ((SMap.at none v.meters k).getD ⟨cbs * 1024000, ebs * 1024000, now⟩).fill now cir cbs (g F.SWC_METER_EIR) ebs
    let cost := 1000 * lineCost h
    let (col, m1) := if cost ≤ m.c then (0, { m with c := m.c - cost })
      else if cost ≤ m.e then (1, { m with e := m.e - cost })
      else (2, m)
    (col, { v with meters := SMap.put none v.meters k (some m1) })

/-- One step of the early-drop generator (R116). -/
def edropNext (x : Nat) : Nat := if x % 2 = 1 then Nat.xor (x / 2) 0x80200003 else x / 2

/-- A port's generator; it is seeded to p + 1. -/
def Dev.lfsrOf (v : Dev) (p : Nat) : Nat := let x := SMap.at 0 v.lfsr p; if x = 0 then p + 1 else x

/-- What R116 decides. -/
inductive Fate where
  | enqueue
  | cap
  | early
deriving DecidableEq, Repr

/-- R116 for a packet of a colour at an egress pair, and the device with the generator advanced. -/
def Dev.fate (v : Dev) (p c colour : Nat) (h : PktHdr) : Fate × Dev :=
  let prof := v.get (F.SWC_CLASS_A_PROFILE p c)
  let lo := v.get (F.SWC_EDROP_PROFILE_K_MIN_TH prof colour)
  let hi := v.get (F.SWC_EDROP_PROFILE_K_MAX_TH prof colour)
  let a := SMap.at 0 v.avgQ (pairKey p c)
  if v.resv p c + v.get (F.SWC_CLASS_A_SHARE_CAP p c) < queueCells (v.queue p c) + cellsOf h then (.cap, v)
  else if a < 256 * lo then (.enqueue, v)
  else if 256 * hi ≤ a then (.early, v)
  else
    let x := edropNext (v.lfsrOf p)
    let v1 := { v with lfsr := SMap.put 0 v.lfsr p x }
    if x % 65536 < v.get (F.SWC_EDROP_PROFILE_K_MAXP prof colour) * (a - 256 * lo) / (hi - lo) then (.early, v1) else (.enqueue, v1)

/-- EDROP_AVERAGE_UPDATE (R115): every best-effort queue's average. -/
def Dev.averages (v : Dev) : Dev :=
  (List.range 256).foldl (fun v k =>
    let p := k / 8
    let c := k % 8
    if v.queueMode p c ≠ 2 then v
    else
      let a := SMap.at 0 v.avgQ k
      let w := v.get (F.SWC_EDROP_PROFILE_0_W (v.get (F.SWC_CLASS_A_PROFILE p c)))
      let x : Int := (a : Int) + ((queueCells (v.queue p c) * 256 : Nat) - (a : Int)) / (2 ^ w : Int)
      { v with avgQ := SMap.put 0 v.avgQ k x.toNat }) v

end Sys2Proof.Machine
end

