-- ==== Sys2Proof/Machine/News.lean ====
section
/-! DEFINITION. Membership news (R420 to R424): records, their flooding, and accusations. -/

namespace Sys2Proof.Machine

/-! ### Records (Table 16.4) -/

namespace Hb
def BEAT : Nat := 0
def ACCUSE : Nat := 1
def FATAL : Nat := 2
def JOIN : Nat := 3
def STEP_READY : Nat := 4
def STEP_FAIL : Nat := 5
def STEP_DISCARDED : Nat := 6
def LEASE_ACK : Nat := 7
def DECISION : Nat := 8
end Hb

/-- Bits of a HEARTBEAT body. -/
def hbBits (b : HbBody) (hi lo : Nat) : Nat := bitsOf b.toNat hi lo

def hbKind (b : HbBody) : Nat := hbBits b 255 252
def hbOrigin (b : HbBody) : Nat := hbBits b 251 240
def hbOseq (b : HbBody) : Nat := hbBits b 239 224
def hbEpoch (b : HbBody) : Nat := hbBits b 223 192
def hbStep (b : HbBody) : Nat := hbBits b 191 160
def hbCseq (b : HbBody) : Nat := hbBits b 159 144
/-- STEP_N of a step's record, and of a decision. -/
def hbStepN (b : HbBody) : Nat := hbBits b 143 112
def hbAct (b : HbBody) : Nat := hbBits b 143 140
def hbActStep (b : HbBody) : Nat := hbBits b 139 108

/-- A body from its fields; `low` is its bits [143:0]. -/
def hbBody (kind origin oseq epoch step cseq low : Nat) : HbBody :=
  BitVec.ofNat 256 (kind * 2 ^ 252 + origin % 4096 * 2 ^ 240 + oseq % 65536 * 2 ^ 224 + epoch % 2 ^ 32 * 2 ^ 192
    + step % 2 ^ 32 * 2 ^ 160 + cseq % 65536 * 2 ^ 144 + low)

/-! ### State (Table 16.9) -/

namespace Mb
def OFF : Nat := 0
def JOINING : Nat := 1
def MEMBER : Nat := 2
def FENCED : Nat := 3
def STALE : Nat := 4
end Mb

def State.membState (s : State) (d : Part) : Nat := s.get d F.TEL_MEMB_STATE_STATE
def State.epoch (s : State) (d : Part) : Nat := s.get d F.TEL_MEMB_STATE_EPOCH
def State.coord (s : State) (d : Part) : Nat := s.get d F.TEL_MEMB_STATE_COORD
def State.cseq (s : State) (d : Part) : Nat := s.get d F.TEL_MEMB_STATE_CSEQ

def State.memb (s : State) (d : Part) : Memb := (s.dev d).memb

def State.modMemb (s : State) (d : Part) (f : Memb → Memb) : State := s.modDev d (fun v => { v with memb := f v.memb })

/-- A device whose every ACTIVE link is HELD (R435, R483), and which originates BEAT and JOIN only. -/
def State.outside (s : State) (d : Part) : Bool := s.membState d == Mb.JOINING || s.membState d == Mb.STALE

/-- The node id of a port's partner. -/
def State.partner (s : State) (d : Part) (p : Nat) : Nat := s.get d (F.LNK_PARTNER_NODE_ID p)

/-- A partner that the local membership epoch holds dead (R428): its port stays HELD. -/
def State.partnerDead (s : State) (d : Part) (p : Nat) : Bool := (s.dev d).dead (s.partner d p)

/-! ### Sending -/

/-- A record on one link. -/
def State.tell (s : State) (d : Part) (p : Nat) (b : HbBody) : State := s.sendControl d p Ctl.HEARTBEAT b

/-- A record on every ACTIVE link but one, HELD ones included (R422). -/
def State.flood (s : State) (d : Part) (but : Option Nat) (b : HbBody) : State :=
  (List.range (linkPorts d)).foldl (fun a p =>
    if a.lnk d p = Lnk.ACTIVE ∧ but ≠ some p then a.tell d p b else a) s

/-- A record of this device, flooded under its next record number (R422). -/
def State.news (s : State) (d : Part) (kind low : Nat) : State :=
  let v := s.dev d
  (s.flood d none (hbBody kind v.node v.memb.oseq (s.epoch d) v.step 0 low)).modMemb d
    (fun m => { m with oseq := (m.oseq + 1) % 65536 })

/-- News of this device. A device that is outside the membership originates JOIN only, one that is fenced or off nothing;
a FATAL record alone leaves whatever the membership (R419). -/
def State.originate (s : State) (d : Part) (kind low : Nat) : State :=
  if s.membState d = Mb.MEMBER ∨ (kind = Hb.JOIN ∧ s.outside d) then s.news d kind low else s

/-! ### Accusations (R421, R424) -/

/-- What an accusation, or its withdrawal, leaves standing. -/
def Memb.noteAccuse (m : Memb) (accuser accused evidence : Nat) (withdraw : Bool) : Memb :=
  let rest := m.accusations.filter (fun x => ! (x.1 == accuser && x.2.1 == accused && x.2.2 == evidence))
  { m with accusations := if withdraw then rest else rest ++ [(accuser, accused, evidence)] }

/-- ACCUSE bits [143:0]. -/
def accuseLow (node evidence : Nat) (withdraw : Bool) : Nat := node * 2 ^ 132 + evidence * 2 ^ 128 + b2n withdraw * 2 ^ 127

/-- This device accuses a node: 1 LINK_DOWN, 2 SILENT, 3 JOB. -/
def State.accuse (s : State) (d : Part) (node evidence : Nat) : State :=
  if s.membState d ≠ Mb.MEMBER then s
  else
    let me := (s.dev d).node
    (((s.originate d Hb.ACCUSE (accuseLow node evidence false)).modMemb d (fun m => m.noteAccuse me node evidence false)).set d
      F.TEL_FAULT_STATUS_ACCUSE_SENT 1).count d 0xD01 1

/-- The link to an accused partner is ACTIVE again with matching epochs: the accusations are withdrawn. -/
def State.withdraw (s : State) (d : Part) (p : Nat) : State :=
  let me := (s.dev d).node
  let n := s.partner d p
  if s.membState d ≠ Mb.MEMBER then s
  else
    ((s.memb d).accusations.filter (fun x => x.1 == me && x.2.1 == n && x.2.2 != 3)).foldl (fun a x =>
      (a.originate d Hb.ACCUSE (accuseLow n x.2.2 true)).modMemb d (fun m => m.noteAccuse me n x.2.2 true)) s

end Sys2Proof.Machine
end

