-- ==== Sys2Proof/Machine/Keys.lean ====
section
/-! DEFINITION. Envelopes (R391, Table 15.1), the keys that sign (Table 15.2), the certificate chain (R398), and the tenant
key hierarchy (R395, Table 15.3). -/

namespace Sys2Proof.Machine

/-- The `n` bytes at an offset. -/
def slice (bs : List Byte) (off n : Nat) : List Byte := (bs.drop off).take n

/-! ### Hybrid envelopes -/

def envClass (e : List Byte) : Nat := ofLe (slice e 6 1)
def envContext (e : List Byte) : Nat := ofLe (slice e 7 1)
def envKey (e : List Byte) : Nat := ofLe (slice e 8 48)
def envDigest (e : List Byte) : Nat := ofLe (slice e 56 48)

/-- The length of an envelope. -/
def envBytes : Nat := 3488

/-- The to-be-signed bytes: offsets 0 to 103. -/
def envSigned (cls context key digest : Nat) : List Byte :=
  leBytes 4 0x48564E31 ++ leBytes 2 1 ++ leBytes 1 cls ++ leBytes 1 context ++ leBytes 48 key ++ leBytes 48 digest

/-- An envelope that a key of the device signs. -/
def envelope (cls context key digest : Nat) : List Byte :=
  let t := envSigned cls context key digest
  t ++ leBytes 64 (Config.edSign key t) ++ leBytes 3309 (Config.mldsaSign key t) ++ leBytes 11 0

/-- A KEY_ID names the two public keys whose bytes, one after the other, it is the SHA-384 of. -/
def keyNamed (key : Nat) : Bool := Config.sha384 (leBytes 32 (Config.edKey key) ++ Config.mldsaKey key) == key

/-- R391, but for whether its key is trusted: the form, the context, the digest of the signed content, the KEY_ID and the
two signatures. -/
def envVerifies (e : List Byte) (context digest : Nat) : Bool :=
  e.length == envBytes && ofLe (slice e 0 4) == 0x48564E31 && ofLe (slice e 4 2) == 1 && envContext e == context
  && envDigest e == digest && keyNamed (envKey e)
  && Config.edVerifies (Config.edKey (envKey e)) (slice e 0 104) (slice e 104 64)
  && Config.mldsaVerifies (Config.mldsaKey (envKey e)) (slice e 0 104) (slice e 168 3309)

/-! ### The device's own keys -/

def partNum : Part → Nat
  | .sw => 0
  | .ep => 1

/-- The device identity key, fixed for life (class 0x04). -/
def identityKey (d : Part) : Nat := Config.identityKey (partNum d)

/-- A certificate of a key, whose envelope a signer of a class has signed. -/
def certOf (key cls signer : Nat) : Cert := ⟨key, Config.mldsaKey key, envelope cls 3 signer (Config.certDigest key)⟩

/-- The chain of slot 0 (R398): the Berade root, the device identity, and the alias, which the identity key signs. -/
def certChain (d : Part) (aliasKey : Nat) : List Cert :=
  [certOf Config.rootKey 1 Config.rootKey, certOf (identityKey d) 1 Config.rootKey, certOf aliasKey 4 (identityKey d)]

/-! ### Tenant keys -/

/-- A label of Table 15.3, in ASCII. -/
def label (s : String) : List Byte := s.toList.map (fun c => BitVec.ofNat 8 c.toNat)

/-- K_t, known by the number of its random draw; a tenant that has none has no key, and what stands for it is free. -/
def masterKey (k : Option Nat) : Nat :=
  match k with
  | some n => Config.masterKey n
  | none => Config.noKey

/-- K_t,e. -/
def epochKey (k : Option Nat) (e : Nat) : Nat := Config.hkdf (masterKey k) (label "riltan-epoch" ++ leBytes 1 e) 32

/-- The queue key: kind 0 for an SQ, 1 for a CQ. -/
def queueKey (k : Option Nat) (e q kind : Nat) : Nat :=
  Config.hkdf (epochKey k e) (label "riltan-queue" ++ leBytes 2 q ++ leBytes 1 kind) 32

/-- The storage key. -/
def storageKey (k : Option Nat) : Nat := Config.hkdf (masterKey k) (label "riltan-store") 64

end Sys2Proof.Machine
end

