-- ==== Sys2Proof/Machine/Island.lean ====
section
/-! DEFINITION. The security island (spec/15): the program load checks (Table 9.5, R392, R393,
R405), SPDM sessions (R398, R399) and the island's commands (R400 to R410). -/

namespace Sys2Proof.Machine

def State.isl (s : State) (d : Part) : Island := (s.dev d).isl

def State.modIsl (s : State) (d : Part) (f : Island → Island) : State := s.modDev d (fun v => { v with isl := f v.isl })

/-! ### Keys and program images (R392, R393, R227 to R230, Table 9.5) -/

/-- Whether the island trusts a key for signing programs of a tenant (R392). -/
def Island.trusts (i : Island) (cls key tenant : Nat) : Bool :=
  match cls with
  | 1 => key == Config.beradeKey
  | 2 => i.owner == some key
  | 3 => (SMap.at [] i.progKeys tenant).contains key
  | _ => false

/-- Word `k` of a program header. -/
def hWord (h : List Byte) (k : Nat) : Nat := ofLe (slice h (8 * k) 8)

def hCodeBytes (h : List Byte) : Nat := bitsOf (hWord h 1) 63 32
def hDataBytes (h : List Byte) : Nat := bitsOf (hWord h 1) 31 0
def hEntry (h : List Byte) : Nat := bitsOf (hWord h 2) 63 32
def hPriv (h : List Byte) : Nat := bitsOf (hWord h 2) 31 0
def hVersion (h : List Byte) : Nat := bitsOf (hWord h 3) 63 32
def hProgId (h : List Byte) : Nat := bitsOf (hWord h 3) 31 0
def hMeasure (h : List Byte) : Nat := ofLe (slice h 32 48)
def hEnvBytes (h : List Byte) : Nat := bitsOf (hWord h 10) 63 32
def hTenant (h : List Byte) : Nat := bitsOf (hWord h 10) 31 26

/-- The minimum VERSION of a PROG_ID (R393): the one held, 0 where none is; for a supplied program of Table 9.8 not below the one
that the firmware carries. -/
def Island.minOf (i : Island) (p : Nat) : Nat :=
  max (if 1 ≤ p ∧ p ≤ 5 then (Config.firmwareMin p).toNat else 0) (SMap.at 0 i.minima p)

/-- The island's verdict on a firmware image (R394), as the RESULT of Table 19.6: 0, NO_IMAGE, SIGNATURE or ROLLBACK. -/
def Island.verdict (i : Island) (x : Option FwImage) : Nat :=
  match x with
  | none => 1
  | some f => if f.cls ≠ 1 ∨ f.context ≠ 1 ∨ ! f.good then 2 else if f.version < i.fusedMin then 3 else 0

/-- Firmware runs: its measurement is taken (R397), and the fused minimum advances where it is marked to advance it. -/
def Island.runs (i : Island) (index : Nat) (f : FwImage) : Island :=
  { i with firmware := SMap.put none i.firmware index (some f.digest),
           fusedMin := if f.advances then max i.fusedMin f.version else i.fusedMin }

/-- The privileges that need an owner or Berade key (Table 9.4): CONFIG, STEP, SERVICE, ANY_TENANT. -/
def privClassOk (priv cls : Nat) : Bool :=
  decide (priv < 64) && (cls == 1 || cls == 2 || ! (bitOf priv 0 || bitOf priv 2 || bitOf priv 3 || bitOf priv 5))

/-- R405: what confidential mode asks of a program. -/
def confLoadOk (cls tenant priv : Nat) : Bool := cls != 2 || (tenant == 0 && ! bitOf priv Priv.ANY_TENANT)

/-- Table 9.5: the RESULT of the checks of the image at an LPDDR5X address, in their order; 0 when all pass. -/
def State.imageCheck (s : State) (a : Nat) : Nat :=
  let v := s.dev .sw
  let h := Memory.bytes v.mem a 128
  let code := hCodeBytes h
  let size := code + hDataBytes h
  let body := Memory.bytes v.mem (a + 128) size
  let env := Memory.bytes v.mem (a + 128 + size) envBytes
  let reserved := bitsOf (hWord h 0) 15 0 == 0 && bitsOf (hWord h 10) 25 0 == 0
    && [11, 12, 13, 14, 15].all (fun k => hWord h k == 0)
  if bitsOf (hWord h 0) 63 32 ≠ 0x4C494E4C ∨ bitsOf (hWord h 0) 31 16 ≠ 1 ∨ ! reserved then 1
  else if code % 8 ≠ 0 ∨ code < 8 ∨ 262144 < size ∨ code ≤ hEntry h ∨ hEntry h % 8 ≠ 0 ∨ hEnvBytes h ≠ envBytes
      ∨ 2 ^ 40 < a + 128 + size + envBytes then 2
  else if ! (envVerifies env 2 (Config.sha384 h) && v.isl.trusts (envClass env) (envKey env) (hTenant h)) then 3
  else if ! privClassOk (hPriv h) (envClass env) || (s.conf && ! confLoadOk (envClass env) (hTenant h) (hPriv h)) then 4
  else if Config.sha384 body ≠ hMeasure h then 5
  else if hVersion h < v.isl.minOf (hProgId h) then 6
  else 0

/-- The class of the key that signed an image. -/
def State.imageClass (s : State) (a : Nat) : Nat :=
  let m := (s.dev .sw).mem
  let h := Memory.bytes m a 128
  ofLe (Memory.bytes m (a + 128 + hCodeBytes h + hDataBytes h + 6) 1)

/-! ### SPDM (R398, R399) -/

/-- The transports of a part: DOE and management datagrams of TYPE 0x30 at the switch, the attach at an end-point. -/
def okTransport (d : Part) (via : Transport) : Bool :=
  match d, via with
  | .sw, .doe => true
  | .sw, .mgmt r => mh r.hdr 103 96 == 0x30
  | .ep, .attach => true
  | _, _ => false

/-- An answer as it leaves in a management datagram. -/
def Out.inMgmt (h : BitVec 128) : Out → Out
  | .spdm _ _ rsp => .mgmtSpdm h rsp
  | .island _ ses r data => .mgmtIsland h ses r data
  | o => o

/-- What has been answered since `s`, over the transport of the request: a management datagram's answer has the request's SEQ
and TYPE 0xB0, and is kept (R359, R360). -/
def State.answerBy (s : State) (via : Transport) (u : State) : State :=
  match via with
  | .mgmt r =>
    let h := mgmtHdr 0xB0 (mh r.hdr 95 64) (Config.spdmLength u.fresh % 1437) (s.dev .sw).node 0
    let os := (u.out.drop s.out.length).map (Out.inMgmt h)
    if os.isEmpty then u else ({ u with out := u.out.take s.out.length }.mgmtReply r os).draw
  | _ => u

/-- An SPDM message as it arrives on a transport. -/
def State.carried (s : State) (via : Transport) (go : State → State) : State :=
  match via with
  | .mgmt r => s.datagram r (fun s => s.answerBy via (go s))
  | .attach => if s.attachOn then go s else s
  | .doe => go s

def State.spdm (s : State) (d : Part) (tr : Nat) (r : SpdmRsp) : State := s.emit (.spdm d tr r)

/-! Error codes of SPDM 1.3 (PRESUMED; log 14). -/

namespace SpdmErr
def INVALID_REQUEST : Nat := 1
def UNEXPECTED_REQUEST : Nat := 4
def DECRYPT_ERROR : Nat := 6
def SESSION_LIMIT : Nat := 0xA
end SpdmErr

def Island.stageOf (i : Island) (tr : Nat) : Nat := SMap.at 0 i.stage tr

def State.setStage (s : State) (d : Part) (tr x : Nat) : State :=
  s.modIsl d (fun i => { i with stage := SMap.put 0 i.stage tr x })

/-- A request that needs the transport to have negotiated as far as `n`. -/
def State.afterStage (s : State) (d : Part) (tr n : Nat) (go : State → State) : State :=
  if n ≤ (s.isl d).stageOf tr then go s else s.spdm d tr (.error SpdmErr.UNEXPECTED_REQUEST)

/-- GET_VERSION starts the negotiation afresh. -/
def State.getVersion (s : State) (d : Part) (tr : Nat) : State := (s.setStage d tr 1).spdm d tr .version

def State.getCapabilities (s : State) (d : Part) (tr : Nat) : State :=
  s.afterStage d tr 1 (fun s => (s.setStage d tr 2).spdm d tr .capabilities)

/-- NEGOTIATE_ALGORITHMS: only the algorithms of R398; a request that does not offer them gets an error. -/
def State.negotiate (s : State) (d : Part) (tr : Nat) (offers : Bool) : State :=
  s.afterStage d tr 2 (fun s =>
    if offers then (s.setStage d tr 3).spdm d tr .algorithms else s.spdm d tr (.error SpdmErr.INVALID_REQUEST))

def State.getDigests (s : State) (d : Part) (tr : Nat) : State := s.afterStage d tr 3 (fun s => s.spdm d tr .digests)

/-- Measurements 1 to 3 (R397, Table 15.4), each once the stage of start-up that takes it has completed. -/
def State.codeMeasure (s : State) (d : Part) (i : Nat) : Option Nat :=
  match d, i with
  | .ep, 2 => none
  | .sw, 1 => if s.get .sw F.CFG_BOOT_STATUS_STAGE = 0 then none else some (Config.romDigest 0)
  | .ep, 1 => some (Config.romDigest 1)
  | _, i => SMap.at none (s.isl d).firmware i

/-- The alias key of this boot (Table 15.2, class 0x05). -/
def State.aliasKey (s : State) (d : Part) : Nat := Config.aliasKey (partNum d) ([1, 2, 3].filterMap (s.codeMeasure d))

/-- Certificate slot 0 is the one there is. -/
def State.getCertificate (s : State) (d : Part) (tr slot : Nat) : State :=
  s.afterStage d tr 3 (fun s =>
    s.spdm d tr (if slot = 0 then .certificate slot (certChain d (s.aliasKey d)) else .error SpdmErr.INVALID_REQUEST))

/-- A response signed with Ed25519: the island keeps the transcript hash that the signature covers (R399). -/
def State.signed (s : State) (d : Part) (tr : Nat) (rsp : Nat → SpdmRsp) : State :=
  let h := Config.transcript s.fresh
  ((s.draw).modIsl d (fun i => { i with signed := SMap.put none i.signed tr (some h) })).spdm d tr (rsp h)

def State.challenge (s : State) (d : Part) (tr slot : Nat) : State :=
  s.afterStage d tr 3 (fun s =>
    if slot = 0 then s.signed d tr (fun h => .challengeAuth slot h) else s.spdm d tr (.error SpdmErr.INVALID_REQUEST))

/-- The measurement block of an index (R397, Table 15.4). -/
def State.measurement (s : State) (d : Part) (i : Nat) : Option Nat :=
  let isl := s.isl d
  let opt (x : Option Nat) : Nat := x.getD 0
  match d, i with
  | .ep, 4 => none
  | .ep, 5 => some (Config.digestOf (s.ep.weights.flatMap (fun w => [w.slot, w.tenant, w.object])))
  | .sw, 4 => some (Config.sha384 ((List.range 64).flatMap (fun n =>
      let h := (s.core n).header
      if h.isEmpty then List.replicate 128 (0 : Byte) else h)))
  | .sw, 5 => some (Config.digestOf ([opt isl.owner, s.get .sw F.SEC_MODE_CONF, s.get .sw F.SEC_MODE_DEBUG_OPEN]
      ++ (List.range 64).flatMap (fun t =>
        if s.get .sw (F.SEC_TENANT_EXISTS t) = 1 then
          t :: opt (if t = 0 then isl.owner else SMap.at none isl.creds t) :: SMap.at [] isl.progKeys t
        else [])))
  | _, 6 => some (Config.digestOf [isl.fusedMin, b2n isl.debugLock])
  | _, 1 => s.codeMeasure d 1
  | _, 2 => s.codeMeasure d 2
  | _, 3 => s.codeMeasure d 3
  | _, _ => none

/-- GET_MEASUREMENTS: one block, or all of them (index 0xFF). -/
def State.getMeasurements (s : State) (d : Part) (tr i : Nat) : State :=
  s.afterStage d tr 3 (fun s =>
    let is := if i = 0xFF then [1, 2, 3, 4, 5, 6] else [i]
    let bs := is.filterMap (fun k => (s.measurement d k).map (fun m => (k, m)))
    if bs.isEmpty then s.spdm d tr (.error SpdmErr.INVALID_REQUEST) else s.signed d tr (fun h => .measurements bs h))

/-- KEY_EXCHANGE: one session for each transport, four in all. -/
def State.keyExchange (s : State) (d : Part) (tr slot : Nat) (auth : Bool) : State :=
  s.afterStage d tr 3 (fun s =>
    let i := s.isl d
    if slot ≠ 0 then s.spdm d tr (.error SpdmErr.INVALID_REQUEST)
    else if i.sessions.any (fun x => x.tr == tr) || decide (4 ≤ i.sessions.length) then
      s.spdm d tr (.error SpdmErr.SESSION_LIMIT)
    else
      let n := i.nextSession
      (s.modIsl d (fun i => { i with
        nextSession := n + 1, sessions := i.sessions ++ [⟨n, tr, false, auth, none, 0, none⟩] })).signed d tr
          (fun h => .keyExchange n h))

def State.session (s : State) (d : Part) (n : Nat) : Option Session := (s.isl d).sessions.find? (fun x => x.id == n)

def State.modSession (s : State) (d : Part) (n : Nat) (f : Session → Session) : State :=
  s.modIsl d (fun i => { i with sessions := mapFirst (fun x => x.id == n) f i.sessions })

def State.endSession (s : State) (d : Part) (n : Nat) : State :=
  s.modIsl d (fun i => { i with sessions := i.sessions.filter (fun x => x.id != n) })

/-- FINISH: the session is established when the requester's message verifies (`ok`); `cred` is the credential under which
its Ed25519 signature verified. A FINISH that does not verify ends the session. -/
def State.finishSession (s : State) (d : Part) (n : Nat) (ok : Bool) (cred : Option Nat) : State :=
  match s.session d n with
  | none => s
  | some x =>
    if x.open_ then s.spdm d x.tr (.error SpdmErr.UNEXPECTED_REQUEST)
    else if ! ok then (s.endSession d n).spdm d x.tr (.error SpdmErr.DECRYPT_ERROR)
    else
      let h := Config.transcript s.fresh
      ((s.draw).modSession d n (fun x => { x with open_ := true, hash := h, cred := if x.auth then cred else none })).spdm d x.tr
        (.finish n)

/-- A message of a session: on another transport than the session's it is not understood, and has no effect (log 50). -/
def State.heardIn (s : State) (d : Part) (m : SesMsg) (go : State → State) : State :=
  s.carried m.via (fun s => if (s.session d m.id).any (fun x => x.tr != m.via.num) then s else go s)

/-- Requests inside a session. -/
def State.inSession (s : State) (d : Part) (n : Nat) (go : Session → State → State) : State :=
  match s.session d n with
  | none => s
  | some x => if x.open_ then go x s else s.spdm d x.tr (.error SpdmErr.UNEXPECTED_REQUEST)

/-- HYBRID_SIG (R399): an envelope of the alias key, class 0x05 and CONTEXT 0x04, over the transcript hash last signed. -/
def State.hybridSig (s : State) (d : Part) (tr : Nat) : State :=
  match SMap.at none (s.isl d).signed tr with
  | some h => s.spdm d tr (.hybridSig (envelope 5 4 (s.aliasKey d) h))
  | none => s.spdm d tr (.error SpdmErr.UNEXPECTED_REQUEST)

/-- The role that a registered credential gives (R399). -/
def Island.roleOf (i : Island) (key : Nat) : Option Role :=
  if i.owner = some key then some .owner
  else ((i.creds.filter (fun e => e.2 == some key)).head?).map (fun e => .tenant e.1)

/-- The KEY_CLASS under which a credential is trusted (R391): the owner's key has its class; a tenant's credential has none that
the spec names (free, log 10). -/
def Role.cls : Role → Nat
  | .owner => 2
  | .tenant _ => Config.tenantClass

/-- PEER_SIG (R399): a session is authenticated once the requester's signature in FINISH and its envelope over the FINISH
transcript hash have both verified under a registered credential. -/
def State.peerSig (s : State) (d : Part) (n : Nat) (env : List Byte) : State :=
  s.inSession d n (fun x s =>
    let role := if x.cred = some (envKey env) ∧ envVerifies env 4 x.hash = true then (s.isl d).roleOf (envKey env) else none
    match role.filter (fun r => envClass env == r.cls) with
    | some r => (s.modSession d n (fun y => { y with role := some r })).spdm d x.tr (.peerSig true)
    | none => s.spdm d x.tr (.peerSig false))

/-! ### Island commands (R400, Table 15.5) -/

namespace Res
def OK : Nat := 0
def DENIED : Nat := 1
def BAD : Nat := 2
def STATE : Nat := 3
def BUSY : Nat := 4
end Res

/-- An answer; DENIED and STATE set CMD_REFUSED (the end-point has no SEC_ registers). -/
def State.islandAns (s : State) (d : Part) (ses r : Nat) (data : List Nat) : State :=
  let s1 := if d = .sw ∧ (r = Res.DENIED ∨ r = Res.STATE) then s.set .sw F.SEC_STATUS_CMD_REFUSED 1 else s
  s1.emit (.island d ses r data)

/-- Who may give a command. -/
inductive Cred where
  | any
  | owner
  | tenant (t : Nat)
  | ownerOr (t : Nat)
deriving DecidableEq, Repr

/-- Tenant 0's credential is the owner's (R395). -/
def Session.may (x : Session) : Cred → Bool
  | .any => true
  | .owner => x.role == some .owner
  | .tenant t => x.role == some (.tenant t) || (t == 0 && x.role == some .owner)
  | .ownerOr t => x.role == some .owner || x.role == some (.tenant t)

/-- A command of a session: its answer is BUSY while a TENANT_REMOVE is being carried out, DENIED for the wrong credential,
BAD when it is malformed; else `go` runs. Outside an established session no command is accepted. -/
def State.islandCmd (s : State) (d : Part) (ses : Nat) (bad : Bool) (c : Cred) (go : State → State) : State :=
  match s.session d ses with
  | none => s.islandAns d ses Res.DENIED []
  | some x =>
    if ! x.open_ then s.islandAns d ses Res.DENIED []
    else if ! (s.isl d).removing.isEmpty then s.islandAns d ses Res.BUSY []
    else if ! x.may c then s.islandAns d ses Res.DENIED []
    else if bad then s.islandAns d ses Res.BAD []
    else go s

def State.okAns (s : State) (d : Part) (ses : Nat) : State := s.islandAns d ses Res.OK []
def State.stateAns (s : State) (d : Part) (ses : Nat) : State := s.islandAns d ses Res.STATE []

def State.exists_ (s : State) (t : Nat) : Bool := s.get .sw (F.SEC_TENANT_EXISTS t) == 1

/-- A tenant comes into being: its credential, its master key, live epoch 0 (R395). -/
def State.makeTenant (s : State) (t : Nat) (key : Nat) : State :=
  ((s.draw).modIsl .sw (fun i => { i with
    creds := if t = 0 then i.creds else SMap.put none i.creds t (some key),
    masters := SMap.put none i.masters t (some s.fresh) })).modDev .sw (fun v => v.setReg (A.SEC_TENANT t) (2 ^ 63))

def State.ownerSet (s : State) (ses : Nat) (bad : Bool) (key : Nat) : State :=
  s.islandCmd .sw ses bad .any (fun s =>
    match s.session .sw ses with
    | some x =>
      if x.tr ≠ 0 then s.islandAns .sw ses Res.DENIED []
      else if (s.isl .sw).owner.isSome then s.stateAns .sw ses
      else (((s.modIsl .sw (fun i => { i with owner := some key })).set .sw F.SEC_MODE_OWNED 1).makeTenant 0 key).okAns .sw ses
    | none => s)

def State.ownerClear (s : State) (ses : Nat) (bad : Bool) : State :=
  s.islandCmd .sw ses bad .owner (fun s => (s.modIsl .sw (fun i => { i with clearDue := true })).okAns .sw ses)

def State.tenantCreate (s : State) (ses : Nat) (bad : Bool) (t key : Nat) : State :=
  s.islandCmd .sw ses (bad || t == 0 || decide (63 < t)) .owner (fun s =>
    if s.exists_ t then s.stateAns .sw ses else (s.makeTenant t key).okAns .sw ses)

/-- R410: what must hold before a tenant is removed. -/
def State.removable (s : State) (t : Nat) : Bool :=
  let v := s.dev .sw
  (match s.sw.load with
    -- a core that is LOADING holds the program that is being copied into it
    | some l => s.get .sw F.SEQ_LOAD_STATUS_STATE != 2 || hTenant (Memory.bytes v.mem l.image 128) != t
    | none => true)
  && (List.range 64).all (fun n => s.coreTenant n != t || s.coreState n == CoreSt.LOADING ||
      ! [CoreSt.LOADED, CoreSt.RUNNING, CoreSt.HALTING, CoreSt.HALTED].contains (s.coreState n))
  && (t == 0 || (List.range 1024).all (fun q => ! (v.on (F.HIF_SQ_B_ENABLE q) && v.get (F.HIF_SQ_B_FUNC q) == t)
      && ! (v.on (F.HIF_CQ_B_ENABLE q) && v.get (F.HIF_CQ_B_FUNC q) == t)))
  && (List.range 256).all (fun w => ! (v.get (F.RED_WIN_A_TENANT w) == t && v.get (F.RED_WIN_STATUS_STATE w) == 1))

/-- A queue's key is destroyed (Table 15.3); number 1,024 + q for a CQ. -/
def State.dropKey (s : State) (k : Nat) : State :=
  { s with sw := { s.sw with hif := { s.sw.hif with queueKeys := SMap.put none s.sw.hif.queueKeys k none } } }

/-- The queue keys of a tenant are destroyed with its K_t. -/
def State.dropKeys (s : State) (t : Nat) : State :=
  (List.range 1024).foldl (fun a q =>
    let a1 := if a.get .sw (F.HIF_SQ_B_FUNC q) = t then a.dropKey q else a
    if a.get .sw (F.HIF_CQ_B_FUNC q) = t then a1.dropKey (1024 + q) else a1) s

/-- TENANT_REMOVE (R410): the tenant is REMOVING and its keys are gone; the answer follows when its last tile is free. Tenant 0
exists whenever the device is owned (R395), so that its removal answers STATE. -/
def State.tenantRemove (s : State) (m : SesMsg) (bad : Bool) (t : Nat) : State :=
  let ses := m.id
  s.islandCmd .sw ses (bad || decide (63 < t)) (.ownerOr t) (fun s =>
    if t = 0 || ! s.exists_ t || ! s.removable t then s.stateAns .sw ses
    else ((s.modIsl .sw (fun i => { i with
        masters := SMap.put none i.masters t none, removing := i.removing ++ [(t, m)] })).dropKeys t).set .sw (F.SEC_TENANT_REMOVING t) 1)

/-- The credential for program keys of a tenant. -/
def progCred (t : Nat) : Cred := if t = 0 then .owner else .tenant t

def State.progkeyAdd (s : State) (ses : Nat) (bad : Bool) (t key : Nat) : State :=
  s.islandCmd .sw ses (bad || decide (63 < t)) (progCred t) (fun s =>
    let ks := SMap.at [] (s.isl .sw).progKeys t
    if ! s.exists_ t ∨ 8 ≤ ks.length then s.stateAns .sw ses
    else
      let ks' := if ks.contains key then ks else ks ++ [key]
      ((s.modIsl .sw (fun i => { i with progKeys := SMap.put [] i.progKeys t ks' })).set .sw (F.SEC_TENANT_PROG_KEYS t)
        ks'.length).okAns .sw ses)

def State.progkeyDel (s : State) (ses : Nat) (bad : Bool) (t key : Nat) : State :=
  s.islandCmd .sw ses (bad || decide (63 < t)) (progCred t) (fun s =>
    let ks := SMap.at [] (s.isl .sw).progKeys t
    if ! ks.contains key then s.stateAns .sw ses
    else
      ((s.modIsl .sw (fun i => { i with progKeys := SMap.put [] i.progKeys t (ks.erase key) })).set .sw
        (F.SEC_TENANT_PROG_KEYS t) (ks.length - 1)).okAns .sw ses)

/-- ROLLBACK_SET (R393): a minimum never falls, and up to 1,024 are held. -/
def State.rollbackSet (s : State) (ses : Nat) (bad : Bool) (p version : Nat) : State :=
  s.islandCmd .sw ses (bad || decide (2 ^ 32 ≤ p) || decide (2 ^ 32 ≤ version)) .owner (fun s =>
    let i := s.isl .sw
    if version < i.minOf p ∨ (1024 ≤ i.minima.length ∧ SMap.at 0 i.minima p = 0) then s.stateAns .sw ses
    else (s.modIsl .sw (fun i => { i with minima := SMap.put 0 i.minima p version })).okAns .sw ses)

def State.epochAdvance (s : State) (ses : Nat) (bad : Bool) (t : Nat) : State :=
  s.islandCmd .sw ses (bad || decide (63 < t)) (.ownerOr t) (fun s =>
    let v := s.dev .sw
    if ! s.exists_ t || v.on (F.SEC_TENANT_PREV_HELD t) then s.stateAns .sw ses
    else
      let e := v.get (F.SEC_TENANT_LIVE_EPOCH t)
      (s.setDev .sw (((v.set (F.SEC_TENANT_PREV_EPOCH t) e).set (F.SEC_TENANT_PREV_HELD t) 1).set
        (F.SEC_TENANT_LIVE_EPOCH t) (e + 1))).okAns .sw ses)

/-- The commands of a submission queue issue nothing more and leave no completion entry (R349, R403). -/
def State.silence (s : State) (q : Nat) : State :=
  let mine := s.sw.hif.cmds.filter (fun c => c.q == q)
  let sw1 : Switch := { s.sw with
    hif := { s.sw.hif with cmds := s.sw.hif.cmds.map (fun (c : Cmd) => if c.q = q then { c with silent := true } else c) }
    emits := s.sw.emits.filter (fun e => ! mine.any (fun c => c.emit == some e.id)) }
  let s1 : State := { s with sw := sw1 }
  s1.modDev .sw (fun v => v.giveUp (fun (p : Pend) => p.agent == Agent.host q))

/-- A queue of a tenant that is keyed under a retired epoch stops (R403): no entry is fetched, its started commands issue
nothing more and leave no completion entry; ENABLE clears and QUEUE_RETIRED is set. -/
def State.retireQueues (s : State) (t e : Nat) : State :=
  let off (s : State) (en : Fld) (k : Nat) : State :=
    ((s.dropKey k).set .sw en 0).set .sw F.SEC_STATUS_QUEUE_RETIRED 1
  (List.range 1024).foldl (fun a q =>
    let v := a.dev .sw
    let keyed (k : Nat) : Bool := (SMap.at none a.sw.hif.queueKeys k).map (fun x => x.1) == some e
    let a1 := if v.get (F.HIF_SQ_B_FUNC q) = t ∧ v.on (F.HIF_SQ_B_ENABLE q) ∧ keyed q then
        (off (a.silence q) (F.HIF_SQ_B_ENABLE q) q).set .sw (F.HIF_SQ_B_STATE q)
          (if a.sw.hif.cmds.any (fun c => c.q == q) then 1 else 0)
      else a
    if v.get (F.HIF_CQ_B_FUNC q) = t ∧ v.on (F.HIF_CQ_B_ENABLE q) ∧ keyed (1024 + q) then
      off a1 (F.HIF_CQ_B_ENABLE q) (1024 + q)
    else a1) s

def State.epochRetire (s : State) (ses : Nat) (bad : Bool) (t : Nat) : State :=
  s.islandCmd .sw ses (bad || decide (63 < t)) (.ownerOr t) (fun s =>
    let v := s.dev .sw
    if ! s.exists_ t || ! v.on (F.SEC_TENANT_PREV_HELD t) then s.stateAns .sw ses
    else ((s.setDev .sw (v.set (F.SEC_TENANT_PREV_HELD t) 0)).retireQueues t (v.get (F.SEC_TENANT_PREV_EPOCH t))).okAns .sw ses)

/-- QUEUE_KEY_GET (R395, Table 15.5): the queue key at the live epoch, with the epoch number. -/
def State.queueKeyGet (s : State) (ses : Nat) (bad : Bool) (t q kind : Nat) : State :=
  s.islandCmd .sw ses (bad || decide (63 < t) || decide (1024 ≤ q) || decide (1 < kind)) (.tenant t) (fun s =>
    match SMap.at none (s.isl .sw).masters t with
    | some k =>
      let e := s.get .sw (F.SEC_TENANT_LIVE_EPOCH t)
      s.islandAns .sw ses Res.OK [queueKey (some k) e q kind, e]
    | none => s.stateAns .sw ses)

/-- R404: the conditions of CONF_ENTER. A Pour under way that would set LOCATION fails the first of them, as LOCATION must be 0
throughout the mode (R354, log 56). -/
def State.confReady (s : State) : Bool :=
  let v := s.dev .sw
  ! v.on F.HIF_CHAN_BASE_LOCATION && ! (v.potState == Pot.POURING && v.pot F.HIF_CHAN_BASE_LOCATION == 1)
  && (List.range 64).all (fun n => ! v.on (F.SEQ_SAMPLE_CTRL_ENABLE n))
  && ! v.on F.SEC_MODE_DEBUG_OPEN
  && (List.range 64).all (fun n => (s.core n).header.isEmpty ||
      confLoadOk (s.core n).keyClass (s.coreTenant n) (s.get .sw (F.SEQ_CORE_STATUS_PRIV n)))
  && (List.range 1024).all (fun q => ! (v.on (F.HIF_SQ_B_ENABLE q) && v.get (F.HIF_SQ_B_FUNC q) != 0
      && ! v.on (F.HIF_SQ_B_CONF q))
      && ! (v.on (F.HIF_CQ_B_ENABLE q) && v.get (F.HIF_CQ_B_FUNC q) != 0 && ! v.on (F.HIF_CQ_B_CONF q)))

/-- CONF_ENTER (R404). A passed check of a Pot that stages LOCATION 1 no longer stands, so that its POUR reports POUR_STALE and
its next CHECK fails (R354, log 56). -/
def State.confEnter (s : State) (ses : Nat) (bad : Bool) : State :=
  s.islandCmd .sw ses bad .owner (fun s =>
    if s.confReady then
      ((s.set .sw F.SEC_MODE_CONF 1).modDev .sw (fun v => if v.pot F.HIF_CHAN_BASE_LOCATION == 1 then { v with potPassed := false } else v)).okAns
        .sw ses
    else s.stateAns .sw ses)

def State.confExit (s : State) (ses : Nat) (bad : Bool) : State :=
  s.islandCmd .sw ses bad .owner (fun s =>
    if (List.range 64).any (fun t => t != 0 && s.exists_ t) then s.stateAns .sw ses
    else (s.set .sw F.SEC_MODE_CONF 0).okAns .sw ses)

def State.debugOpen (s : State) (ses : Nat) (bad : Bool) : State :=
  s.islandCmd .sw ses bad .owner (fun s =>
    if s.conf then s.islandAns .sw ses Res.DENIED [] else (s.set .sw F.SEC_MODE_DEBUG_OPEN 1).okAns .sw ses)

/-- WEIGHT_KEY_PUT (R407). -/
def State.weightPut (s : State) (ses : Nat) (bad : Bool) (key object base size tagBase tenant : Nat) : State :=
  s.islandCmd .ep ses (bad || base % 8192 != 0 || tagBase % 16 != 0 || decide (63 < tenant) || size == 0) .any (fun s =>
    let used := s.ep.weights.map (fun w => w.slot)
    let overlap := s.ep.weights.any (fun w => decide (base < w.base + 8192 * w.size) && decide (w.base < base + 8192 * size))
    match (List.range 16).filter (fun k => ! used.contains k) with
    | [] => s.stateAns .ep ses
    | k :: ks =>
      if overlap then s.stateAns .ep ses
      else
        -- which free slot is taken is not specified (free, log 1)
        let slot := (k :: ks).getD (Config.choice s.fresh % (k :: ks).length) k
        let w : WeightSlot := ⟨slot, key, object, base, size, tagBase, tenant⟩
        let s1 := { s with ep := { s.ep with weights := s.ep.weights ++ [w] } }
        s1.draw.islandAns .ep ses Res.OK [slot])

/-- WEIGHT_KEY_DESTROY: the slot is zeroed, and segments under way do not land (R412). -/
def State.weightDestroy (s : State) (ses : Nat) (bad : Bool) (slot : Nat) : State :=
  s.islandCmd .ep ses (bad || decide (16 ≤ slot)) .any (fun s =>
    let s1 := { s with ep := { s.ep with
      weights := s.ep.weights.filter (fun w => w.slot != slot),
      segs := s.ep.segs.map (fun (g : Segment) => if g.slot = slot then { g with dead := true } else g) } }
    s1.okAns .ep ses)

/-- TENANT_ZEROING_DONE (R410, R412): every tile of a tenant being removed has been zeroed and freed, with its shadow, its
stripe and any move of it; the tenant ceases to exist, and the command is answered. -/
def State.zeroingDone (s : State) (t : Nat) : State :=
  match (s.isl .sw).removing.find? (fun x => x.1 == t) with
  | none => s
  | some x =>
    let tiles := (s.tiers.dir.filter (fun e => e.2.mapped && e.2.tenant == t)).map (fun e => e.1)
    let s1 := tiles.foldl (fun a n => a.shredTile n) s
    let s2 := s1.modIsl .sw (fun i => { i with
      removing := i.removing.filter (fun y => y.1 != t), creds := SMap.put none i.creds t none,
      progKeys := SMap.put [] i.progKeys t [],
      -- its credential is registered no more: a session under it speaks for nobody (R399, R400)
      sessions := i.sessions.map (fun (y : Session) => if y.role = some (.tenant t) then { y with role := none } else y) })
    let s3 := (s2.modDev .sw (fun v => v.setReg (A.SEC_TENANT t) 0)).set .sw F.SEC_STATUS_REMOVE_DONE 1
    s3.answerBy x.2.via (s3.okAns .sw x.2.id)

end Sys2Proof.Machine
end

