-- ==== Sys2Proof/Machine/Operands.lean ====
section
/-! DEFINITION. The form of a step: a step whose operands name something that the part has happens at its time, and one
whose operands do not is no step (the fault `illFormed`). The checks on operands stand here, once. -/

namespace Sys2Proof.Machine

/-- The state that a command leaves: its effect is on everything but the clock, which its time has set, and the queue. -/
def State.keep (s u : State) : State := { u with now := s.now, pending := s.pending }

/-- A step at time `t`: its effect when its operands are well-formed. -/
def stepIf (name : String) (ok : Bool) (t : Nat) (s : State) (f : State → State) : Host.Outcome State Fault Refusal :=
  if ok then .next ((s.tick t).keep (f (s.tick t))) else .fault (.illFormed name)

/-- The device answers its host (R481, R482): a switch from the end of MAIN_FW on, an end-point over its attach while that
runs (R367); neither once start-up has STOPPED. -/
def State.barOn (s : State) (d : Part) : Bool :=
  let g := s.get d F.CFG_BOOT_STATUS_STAGE
  match d with
  | .sw => decide (3 ≤ g) && decide (g ≤ 7)
  | .ep => g != 0xF && ! s.ep.dev.boot.off && s.attachOn

/-- The register access that a command of the host is: its function, its offset in the BAR (Table 13.2, R363), and whether
it writes. -/
structure HostAcc where
  fn : Nat
  addr : Nat
  write : Bool
deriving DecidableEq, Repr

/-- A write of the owner to a register. -/
def wr (a : Nat) : HostAcc := ⟨0, a, true⟩

/-- Start-up has STOPPED: the access completes without effect, a read returns zero, and it is reported (R8, R334, R482). -/
def State.unheard (s : State) (d : Part) (x : HostAcc) : State :=
  if s.get d F.CFG_BOOT_STATUS_STAGE = 0xF then
    let s1 := s.badAccess d x.fn x.addr x.write
    if x.write then s1 else s1.emit (.readValue d 0)
  else s

/-- An access of the host at time `t`: it reaches the device only while the device answers. -/
def hostIf (name : String) (ok : Bool) (d : Part) (x : HostAcc) (t : Nat) (s : State) (f : State → State) :
    Host.Outcome State Fault Refusal :=
  stepIf name ok t s (fun s => if s.barOn d then f s else s.unheard d x)

/-- A link port of a part: 32 at a switch, 4 at an end-point (R14, R363). -/
def okPort (d : Part) (p : Nat) : Bool := decide (p < linkPorts d)

/-- A place at which packets arrive: a link port, or index 32, the device's own packets (R109). -/
def okInPort (d : Part) (p : Nat) : Bool := okPort d p || p == 32

/-- One of the 64 logical cores (R219). -/
def okCore (n : Nat) : Bool := decide (n < 64)

/-- One of the 256 reduction windows (R166). -/
def okWindow (n : Nat) : Bool := decide (n < 256)

/-- One of the 16 service queues (R235). -/
def okServiceQueue (q : Nat) : Bool := decide (q < 16)

/-- One of the 1,024 host command queues (R342). -/
def okHostQueue (q : Nat) : Bool := decide (q < 1024)

/-- One of an end-point's 1,024 engines (R369). -/
def okEngine (n : Nat) : Bool := decide (n < 1024)

/-- A function of the host interface: PF 0, or one of the 63 virtual functions (R331). -/
def okFunction (fn : Nat) : Bool := decide (fn ≤ 63)

/-- The size of a register access, in bytes. -/
def okSize (n : Nat) : Bool := n == 1 || n == 2 || n == 4 || n == 8

/-- The symbols of the sixteen logical lanes (R42). -/
def okLanes {α : Type} (l : List α) : Bool := l.length == 16

/-- A node id (R9). -/
def okNode (n : Nat) : Bool := decide (n < 4096)

end Sys2Proof.Machine
end

