-- ==== Sys2Proof/Machine/CoreControl.lean ====
section
/-! DEFINITION. Loading, starting, stopping and watching a Linal core (R219 to R222, R229 to R241). -/

namespace Sys2Proof.Machine

/-! ### Loading (R229, R230) -/

/-- The logical cores of a mask. -/
def coresOf (mask : Nat) : List Nat := (List.range 64).filter (fun n => bitOf mask n)

namespace LoadSt
def IDLE : Nat := 0
def VERIFYING : Nat := 1
def COPYING : Nat := 2
end LoadSt

/-- A write to SEQ_LOAD_CMD: verification starts, or the load is refused BUSY, as before READY (R481), or NOT_STOPPED. -/
def State.loadCmd (s : State) (mask : Nat) : State :=
  if s.get .sw F.CFG_BOOT_STATUS_STAGE ≠ 7 then s.set .sw F.SEQ_LOAD_STATUS_RESULT 7
  else if s.get .sw F.SEQ_LOAD_STATUS_STATE ≠ LoadSt.IDLE then s.set .sw F.SEQ_LOAD_STATUS_RESULT 7
  else if (coresOf mask).any (fun n => [CoreSt.LOADING, CoreSt.RUNNING, CoreSt.HALTING].contains (s.coreState n)) then
    s.set .sw F.SEQ_LOAD_STATUS_RESULT 8
  else
    let a := s.get .sw F.SEQ_LOAD_ADDR_ADDR * 2 ^ 12
    { s with sw := { s.sw with load := some ⟨coresOf mask, a⟩ } }.set .sw F.SEQ_LOAD_STATUS_STATE LoadSt.VERIFYING

/-- The load ends with a RESULT; failing check 3 or 4 sets LOAD_KEY_FAIL (Table 15.9). -/
def State.endLoad (s : State) (r : Nat) : State :=
  let s1 := ({ s with sw := { s.sw with load := none } }.set .sw F.SEQ_LOAD_STATUS_STATE LoadSt.IDLE).set .sw
    F.SEQ_LOAD_STATUS_RESULT r
  if r = 3 ∨ r = 4 then s1.set .sw F.SEC_STATUS_LOAD_KEY_FAIL 1 else s1

/-- LOAD_VERIFY_DONE: the island has finished the checks of Table 9.5. -/
def State.loadVerified (s : State) : State :=
  match s.sw.load with
  | none => s
  | some l =>
    if s.get .sw F.SEQ_LOAD_STATUS_STATE ≠ LoadSt.VERIFYING then s
    else
      let r := s.imageCheck l.image
      if r ≠ 0 then s.endLoad r
      else (l.cores.foldl (fun a n => (a.accrue n).setCoreState n CoreSt.LOADING) s).set .sw F.SEQ_LOAD_STATUS_STATE
        LoadSt.COPYING

/-- A core takes the image (R222, R229). One whose physical core has failed, with no spare taken for it (R437), or whose
domain has failed (R444), stays OFF. -/
def State.loadCore (s : State) (image n : Nat) : State :=
  let m := (s.dev .sw).mem
  let h := Memory.bytes m image 128
  let size := hCodeBytes h + hDataBytes h
  if s.sw.badCores.contains (s.corePhys n) ∨ s.get .sw (F.PWR_DOMAIN_STATUS_STATE (20 + s.corePhys n / 18)) = 3 then
    s.setCoreState n CoreSt.OFF
  else
    let c : Core := { Core.initial with
      mem := Memory.setBytes [] 0 (Memory.bytes m (image + 128) size), codeBytes := hCodeBytes h, entry := hEntry h,
      cycAt := s.now, header := h, keyClass := s.imageClass image, potTaken := (s.core n).potTaken,
      since := (s.dev .sw).nextUid }
    (s.setCore n c).modDev .sw (fun v =>
      (v.setReg (A.SEQ_CORE_STATUS n) (CoreSt.LOADED * 2 ^ 60 + hEntry h * 2 ^ 38 + hTenant h * 2 ^ 32 + hPriv h)).setReg
        (A.SEQ_CORE_PROG n) (hVersion h * 2 ^ 32 + hProgId h))

/-- LOAD_COPY_DONE: once no named core holds outstanding transactions. A program that confidential mode, entered meanwhile,
forbids fails the load with KEY_CLASS (R412), and the named cores are left without a program (log 15). -/
def State.loadCopied (s : State) : State :=
  match s.sw.load with
  | none => s
  | some l =>
    if s.get .sw F.SEQ_LOAD_STATUS_STATE ≠ LoadSt.COPYING ∨ l.cores.any (fun n => s.get .sw (F.PWR_DOMAIN_STATUS_STATE (20 + s.corePhys n / 18)) == 1)
        ∨ l.cores.any (fun n => (s.dev .sw).coreOut n != 0) then s
    else
      let h := Memory.bytes (s.dev .sw).mem l.image 128
      if s.conf && ! confLoadOk (s.imageClass l.image) (hTenant h) (hPriv h) then
        (l.cores.foldl (fun a n => (a.setCore n Core.initial).modDev .sw (fun v =>
          (v.setReg (A.SEQ_CORE_STATUS n) 0).setReg (A.SEQ_CORE_PROG n) 0)) s).endLoad 4
      else (l.cores.foldl (fun a n => a.loadCore l.image n) s).endLoad 0

/-! ### START, HALT, RESET (R231, Table 9.6) -/

/-- START. The counts since START begin again, and a fence covers what is issued from here on. -/
def State.startCore (s : State) (n : Nat) : State :=
  let st := s.coreState n
  let s := if st = CoreSt.LOADED ∨ st = CoreSt.HALTED then
      s.modDev .sw (fun v => { v with failed := v.failed.filter (fun x => x.1 != .core n) }) else s
  let s := s.accrue n
  let fresh (c : Core) : Core := { c with
    cycles := 0, cycAt := s.now, retired := 0, stallCycles := 0, evBase := 0, events := 0, cross := [],
    wait := .none, stall := 0, since := (s.dev .sw).nextUid }
  if st = CoreSt.LOADED then
    ((s.modCore n (fun c => { fresh c with s := [], c := [], dsc := [], buf := none })).setPc n (s.core n).entry).setCoreState n CoreSt.RUNNING
  else if st = CoreSt.HALTED then (s.modCore n fresh).setCoreState n CoreSt.RUNNING
  else s

/-- HALT: a waiting instruction is abandoned, its PC kept; responses to what the core has issued are discarded from here
on. -/
def State.haltCore (s : State) (n : Nat) : State :=
  if s.coreState n = CoreSt.RUNNING then
    (((s.accrue n).takeBack n).modCore n (fun c =>
      { c with wait := .none, stall := 0, since := (s.dev .sw).nextUid })).setCoreState n CoreSt.HALTING
  else s

/-- CORE_HALTED: the core stops at an instruction boundary. -/
def State.coreHalted (s : State) (n : Nat) : State :=
  if s.coreState n = CoreSt.HALTING then (s.accrue n).setCoreState n CoreSt.HALTED else s

/-- A free spare: one that is neither in use nor failed. -/
def State.freeSpares (s : State) : List Nat :=
  (List.range 8).filter (fun i => ! bitOf (s.get .sw F.SEQ_SPARE_STATUS_IN_USE) i
    && ! bitOf (s.get .sw F.SEQ_SPARE_STATUS_FAILED) i)

/-- The repair flow's substitution at a RESET (R220, R437): which free spare is taken is not specified (free, log 1). -/
def State.substituteCore (s : State) (n : Nat) : State :=
  if s.sw.badCores.contains (s.corePhys n) then
    match s.freeSpares with
    | [] => s
    | i :: is =>
      let k := (i :: is).getD (Config.choice s.fresh % (i :: is).length) i
      -- a spare that has failed serves no core any more (Table 9.10)
      let use := s.get .sw F.SEQ_SPARE_STATUS_IN_USE
      let use := if 64 ≤ s.corePhys n then setBit use (s.corePhys n - 64) false else use
      (((s.draw).modDev .sw (fun v => v.setReg (coreMapReg (n / 8))
        (setBits (v.reg (coreMapReg (n / 8))) (8 * (n % 8) + 7) (8 * (n % 8)) (64 + k)))).set .sw F.SEQ_SPARE_STATUS_IN_USE
          (setBit use k true)).set .sw F.TEL_FAULT_STATUS_SPARE_USED 1
  else s

/-- A core loses its program: what it counted is forwarded (R468), local memory and registers are zero, and it is OFF; a Pot
it held is released (R21, R231). -/
def State.clearCore (s : State) (n : Nat) : State :=
  let s := s.accrue n
  let s2 := ((s.takeBack n).potCoreStops n).setCore n { Core.initial with
    potTaken := (s.core n).potTaken, since := (s.dev .sw).nextUid }
  (s2.modDev .sw (fun v => (v.setReg (A.SEQ_CORE_STATUS n) 0).setReg (A.SEQ_CORE_PROG n) 0)).substituteCore n

/-- RESET, which a LOADING core ignores (R231, Table 9.6). -/
def State.resetCore (s : State) (n : Nat) : State := if s.coreState n = CoreSt.LOADING then s else s.clearCore n

/-- A write to SEQ_CORE_CTRL (R231): one command bit, or no effect. -/
def State.coreCtrl (s : State) (n w : Nat) : State :=
  match w % 8 with
  | 1 => s.startCore n
  | 2 => s.haltCore n
  | 4 => s.resetCore n
  | _ => s

/-! ### Watchdog, sampling, local memory window (R221, R233, R239, R240) -/

/-- WATCHDOG: one instruction has stalled for longer than LIMIT_US (R233). -/
def State.watchdog (s : State) (n : Nat) : State :=
  let s := s.accrue n
  let lim := s.get .sw (F.SEQ_WDOG_LIMIT_US n)
  let c := s.core n
  if s.coreState n = CoreSt.RUNNING ∧ s.mayBark n ∧ 0 < lim ∧ lim * 1000 < s.now - c.stallAt then
    (s.takeBack n).except n Exc.WATCHDOG c.stall
  else s

/-- A sample record (Table 9.9). -/
def sampleBits (pc n step cycle stall retired : Nat) : Nat :=
  pc % 2 ^ 18 * 2 ^ 238 + n % 64 * 2 ^ 232 + step % 2 ^ 32 * 2 ^ 200 + cycle % 2 ^ 48 * 2 ^ 152 + stall % 16 * 2 ^ 148
    + retired % 2 ^ 48 * 2 ^ 100

/-- A sample record goes to the ring that the cores share, or is lost (R239, R511). -/
def State.sampleRec (s : State) (r : Nat) : State :=
  let v := s.dev .sw
  let log2 := v.get F.SEQ_SAMPLE_RING_LOG2_ENTRIES
  let head := v.get F.SEQ_SAMPLE_RING_HEAD
  let a := v.get F.SEQ_SAMPLE_BASE_BASE * 2 ^ 12 + 32 * head
  if ringFull log2 head (v.get F.SEQ_SAMPLE_RING_TAIL) || ! v.placed a 32 then
    (s.set .sw F.SEQ_SAMPLE_RING_LOST 1).count .sw 0xBC1 1
  else
    (s.setDev .sw ({ v with mem := Memory.setBytes v.mem a (rec32 r) }.set F.SEQ_SAMPLE_RING_HEAD ((head + 1) % 2 ^ log2))).count
      .sw 0xBC0 1

/-- SAMPLE_TAKE: the oldest sample, of an instruction at which the count passed a multiple of PERIOD. Its PC is that of the
instruction `skid` places after it, at most eight, once that one has retired. -/
def State.sampleTake (s : State) (n skid : Nat) : State :=
  match (s.core n).cross with
  | [] => s
  | x :: xs =>
    match x.pcs[skid]? with
    | none => s
    | some pc =>
      (s.modCore n (fun c => { c with cross := xs })).sampleRec
        (sampleBits pc n x.step x.cycles x.stall x.retired)

/-- R221: whether the owner function may reach a core's local memory now. -/
def State.localOpen (s : State) (n : Nat) : Bool :=
  ! s.conf && [CoreSt.LOADED, CoreSt.HALTED, CoreSt.FAULTED].contains (s.coreState n)

/-- SEQ_LOCAL_DATA read or written at the register address `at_`, through SEQ_LOCAL_WIN (R221, R8, R334). -/
def State.localData (s : State) (n at_ : Nat) (write : Bool) (x : Word) : State :=
  let a := 8 * s.get .sw (F.SEQ_LOCAL_WIN_WORD n)
  if ! s.localOpen n then
    let s1 := s.badAccess .sw 0 at_ write
    if write then s1 else s1.emit (.readValue .sw 0)
  else if write then s.setLocal n a (leBytes 8 x.toNat)
  else s.emit (.readValue .sw (BitVec.ofNat 64 (Memory.num (s.core n).mem a 8)))

end Sys2Proof.Machine
end

