-- ==== Sys2Proof/Machine/Power.lean ====
section
/-! DEFINITION. Kettle (spec/17): the demand of power domains, the voltage-request link, the power cap, clock levels, and
the margin planner with its ageing log. -/

namespace Sys2Proof.Machine

def State.modKettle (s : State) (f : Kettle → Kettle) : State := { s with sw := { s.sw with kettle := f s.sw.kettle } }

/-- A PWR_EVENT bit is set, with vector 4 (Table 17.9). -/
def State.pwrEvent (s : State) (f : Fld) : State := (s.set .sw f 1).irq .sw 4

/-! ### Domains (R443, R444) -/

namespace Dom
def OFF : Nat := 0
def WAKING : Nat := 1
def ON : Nat := 2
def FAILED : Nat := 3
end Dom

/-- The demand domains of Table 17.1. -/
def demandDomains : List Nat := [8, 9, 10, 11, 12, 13, 14, 15, 16, 17, 18, 19, 20, 21, 22, 23, 26]

/-- A domain's wake latency in ns (Table 17.1). -/
def wakeNs (d : Nat) : Nat := if d < 16 then 12000 else if d < 20 then 6000 else if d < 24 then 4000 else 30000

/-- The physical cluster behind a logical one (Table 7.19). -/
def Dev.cluster (v : Dev) (c : Nat) : Nat :=
  v.get (F.RED_CLUSTER_MAP_PHYS c) + (if bitOf (v.get F.RED_CLUSTER_SPARE_SPARE) c then 16 else 0)

/-- The domain of a physical reduction cluster. -/
def redDomain (p : Nat) : Nat := if p < 5 then 16 else if p < 10 then 17 else if p < 14 then 18 else 19

/-- The index of an address in an array of registers. -/
def indexOf (base stride n a : Nat) : Option Nat :=
  if base ≤ a ∧ (a - base) % stride = 0 ∧ (a - base) / stride < n then some ((a - base) / stride) else none

/-- Domains that the registers of a list call for, by the copies of ENABLE that it holds. -/
def Dev.linkDemand (l : SMap Word) : List Nat :=
  l.filterMap (fun e => if bitOf e.2.toNat 0 then (indexOf (A.LNK_CTRL 0) 0x1000 32 e.1).map (fun p => 8 + p / 4) else none)

/-- Domains of the physical clusters that an enabled window's word A maps. -/
def Dev.redDemand (v : Dev) (l : SMap Word) : List Nat :=
  l.flatMap (fun e =>
    if bitOf e.2.toNat 0 ∧ (indexOf (A.RED_WIN_A 0) 0x40 256 e.1).isSome then
      ((List.range 16).filter (fun c => bitOf e.2.toNat (13 + c))).map (fun c => redDomain (v.cluster c))
    else [])

def Dev.caddyDemand (l : SMap Word) : List Nat :=
  if l.any (fun e => e.1 == A.CDY_CFG && bitOf e.2.toNat 0) then [26] else []

/-- The demand domains whose demand holds (Table 17.1). -/
def State.demands (s : State) : List Nat :=
  let v := s.dev .sw
  let cores := v.regs.filterMap (fun e =>
    if bitsOf e.2.toNat 63 60 ≠ 0 then indexOf (A.SEQ_CORE_STATUS 0) 0x100 64 e.1 else none)
  let loading := match s.sw.load with | some l => l.cores | none => []
  Dev.linkDemand v.regs ++ (if v.get F.CFG_POT_STATUS_STATE = 2 then Dev.linkDemand v.staged else [])
    ++ v.redDemand v.regs ++ v.redDemand v.staged ++ Dev.caddyDemand v.regs ++ Dev.caddyDemand v.staged
    ++ (cores ++ loading).map (fun n => 20 + s.corePhys n / 18)

def State.domain (s : State) (d : Nat) : Nat := s.get .sw (F.PWR_DOMAIN_STATUS_STATE d)

/-- Kettle looks at every demand domain: one that is off wakes when its demand holds, and the time since a demand stopped
is kept. A wake while a cap is ENFORCING has step 1 of R455 taken again, for the estimate includes the domain from its wake
(R457, Table 17.8; DEDUCED, log 54). -/
def State.watchDomains (s : State) : State :=
  let ds := s.demands
  let w := (s.dev .sw).reg A.PWR_DOMAIN_STATUS
  demandDomains.foldl (fun a d =>
    let st := bitsOf w (2 * d + 1) (2 * d)
    let idle := SMap.at none a.sw.kettle.idleAt d
    if ds.contains d then
      if st = Dom.OFF then
        (a.set .sw (F.PWR_DOMAIN_STATUS_STATE d) Dom.WAKING).modKettle (fun k => { k with
          wakeAt := SMap.put 0 k.wakeAt d a.now, idleAt := SMap.put none k.idleAt d none,
          capDue := k.capDue || a.get .sw F.PWR_CAP_STATUS_STATE == 2 })
      else if idle.isSome then a.modKettle (fun k => { k with idleAt := SMap.put none k.idleAt d none })
      else a
    else if (st = Dom.ON ∨ st = Dom.WAKING) ∧ idle.isNone then
      a.modKettle (fun k => { k with idleAt := SMap.put none k.idleAt d (some a.now) })
    else a) s

/-- DOMAIN_WAKE_TIMEOUT (R444): four times its latency has passed. -/
def State.wakeTimeout (s : State) (d : Nat) : State :=
  if s.domain d = Dom.WAKING ∧ SMap.at 0 s.sw.kettle.wakeAt d + 4 * wakeNs d ≤ s.now then
    (s.set .sw (F.PWR_DOMAIN_STATUS_STATE d) Dom.FAILED).pwrEvent F.PWR_EVENT_DOMAIN_FAIL
  else s

/-! ### Levels, and the counters of time at a level (Table 18.1) -/

/-- The level of clock 0 core, 1 arithmetic, 2 sequencer. -/
def clkLevel (k : Nat) : Fld :=
  match k with | 0 => F.PWR_CLK_STATUS_CORE_LEVEL | 1 => F.PWR_CLK_STATUS_ARITH_LEVEL | _ => F.PWR_CLK_STATUS_SEQ_LEVEL

/-- The lowest level of a clock (Table 17.2). -/
def clkLowest (k : Nat) : Nat := if k = 0 then 3 else 7

def State.level (s : State) (k : Nat) : Nat := s.get .sw (clkLevel k)

/-- The counters 0xCC0 to 0xCE3 take in the time that has passed: cycles of the core clock at THROTTLE 1 to 15, and µs at
each level. Cores take in the cycles of the sequencer clock. -/
def State.countLevels (s : State) : State :=
  let s := s.sw.cores.foldl (fun a c => a.accrue c.1) s
  let k := s.sw.kettle
  let us := (s.now - k.countedAt) / 1000
  if us = 0 then s
  else
    let c := k.cycles + us * 17000 * (16 - s.level 0)
    let s1 := s.modKettle (fun k => { k with
      countedAt := k.countedAt + us * 1000, cycles := if s.throttle = 0 then k.cycles else c % 160 })
    let s2 := if s.throttle = 0 then s1 else s1.count .sw (0xCC0 + s.throttle) (c / 160)
    ((s2.count .sw (0xCD0 + s.level 0) us).count .sw (0xCD4 + s.level 1) us).count .sw (0xCDC + s.level 2) us

/-! ### The voltage-request link (R448 to R450) -/

/-- CRC-8 of polynomial 0x07 over bytes, high byte first. -/
def crc8 (bs : List Nat) : Nat :=
  bs.foldl (fun c b => (List.range 8).foldl (fun c _ => if 128 ≤ c then Nat.xor (c * 2 % 256) 0x07 else c * 2) (Nat.xor c b)) 0

/-- A frame from its bits [31:8]. -/
def vrFrame (top : Nat) : BitVec 32 := BitVec.ofNat 32 (top * 256 + crc8 [top / 65536 % 256, top / 256 % 256, top % 256])

/-- A request (Table 17.3) with SLEW 5. -/
def vrRequest (cmd code : Nat) : BitVec 32 := vrFrame (0xA * 2 ^ 20 + cmd * 2 ^ 16 + code % 4096 * 16 + 5)

/-- The CODE for levels of the three clocks, with the present GUARD (R449). -/
def State.codeFor (s : State) (c a q : Nat) : Nat :=
  max 1440 (min 1640 (Config.vFused c a q + 2 * s.get .sw F.PWR_AGE_STATUS_GUARD_MV))

/-- The CODE for the present levels. -/
def State.codeNow (s : State) : Nat := s.codeFor (s.level 0) (s.level 1) (s.level 2)

/-- A request goes out. -/
def State.vrSend (s : State) (cmd code resent : Nat) : State :=
  let f := vrRequest cmd code
  ((s.emit (.vr f)).set .sw F.PWR_VR_STATUS_REQ_CODE code).modKettle (fun k => { k with
    vr := some ⟨f, code, s.now, resent⟩, vrAt := s.now })

/-- A SET for a CODE: sent now, or after the reply to the request outstanding. -/
def State.setVoltage (s : State) (code : Nat) : State :=
  if s.sw.kettle.vr.isSome then s.modKettle (fun k => { k with setDue := some code })
  else (s.modKettle (fun k => { k with setDue := none })).vrSend 1 code 0

/-- A request has drawn no ACK, a NAK or a bad CRC (R450). -/
def State.vrAgain (s : State) (r : VrReq) : State :=
  if r.resent < 3 then
    (s.emit (.vr r.frame)).modKettle (fun k => { k with vr := some { r with at_ := s.now, resent := r.resent + 1 }, vrAt := s.now })
  else
    ((s.set .sw F.PWR_VR_STATUS_FAILS (min 255 (s.get .sw F.PWR_VR_STATUS_FAILS + 1))).modKettle (fun k => { k with
      vr := none, vrHold := true })).pwrEvent F.PWR_EVENT_VR_FAIL

/-- VR_REPLY. -/
def State.vrReply (s : State) (f : BitVec 32) : State :=
  match s.sw.kettle.vr with
  | none => s
  | some r =>
    let x := f.toNat
    if vrFrame (x / 256) ≠ f ∨ bitsOf x 31 28 ≠ 5 ∨ bitsOf x 27 24 ≠ 0 then s.vrAgain r
    else
      let old := s.get .sw F.PWR_VR_STATUS_ACK_CODE
      let code := bitsOf x 23 12
      let dv := max old code - min old code
      let s1 := (s.set .sw F.PWR_VR_STATUS_ACK_CODE code).modKettle (fun k => { k with
        vr := none, vrHold := false, rampEnd := s.now + dv * 100 + 1000 })
      match s1.sw.kettle.setDue with
      | some c => s1.setVoltage c
      | none => s1

/-- VR_REPLY_TIMEOUT: no reply within 4 µs. -/
def State.vrTimeout (s : State) : State :=
  match s.sw.kettle.vr with
  | none => s
  | some r => if r.at_ + 4000 ≤ s.now then s.vrAgain r else s

/-- VR_KEEPALIVE_TIMER (R448, R450): every 1 ms; after VR_FAIL, the request is tried again. -/
def State.vrKeepalive (s : State) : State :=
  let k := s.sw.kettle
  if k.vr.isSome ∨ s.now < k.vrAt + 1000000 then s
  else if k.vrHold then s.vrSend 1 s.codeNow 0
  -- REQ_CODE is 0 until the first SET: the CODE for the present levels stands for it (R449, log 54)
  else s.vrSend 2 (if s.get .sw F.PWR_VR_STATUS_REQ_CODE = 0 then s.codeNow else s.get .sw F.PWR_VR_STATUS_REQ_CODE) 0

/-! ### The power cap (R451 to R458) -/

namespace Cap
def NONE : Nat := 0
def MET : Nat := 1
def ENFORCING : Nat := 2
def UNMET : Nat := 3
end Cap

def State.capW (s : State) : Nat := s.get .sw F.PWR_CAP_STATUS_CAP_W
def State.effectiveW (s : State) : Nat := s.get .sw F.PWR_CAP_STATUS_EFFECTIVE_W
def State.capState (s : State) : Nat := s.get .sw F.PWR_CAP_STATUS_STATE

/-- The estimate averaged over the last 100 µs. -/
def State.est100 (s : State) : Nat := s.get .sw F.PWR_EST_EST_100US_W

/-- What the model predicts at a throttle step and levels. -/
def State.predict (s : State) (t c a q : Nat) : Nat := (Config.predictW s.fresh t c a q).toNat

/-- What the model predicts at the present levels. -/
def State.predictAt (s : State) (t : Nat) : Nat := s.predict t (s.level 0) (s.level 1) (s.level 2)

/-- The smallest step that the model predicts brings EST to EFFECTIVE_W or below, at most 15. -/
def State.throttleFor (s : State) : Nat := ((List.range 16).find? (fun t => decide (s.predictAt t ≤ s.effectiveW))).getD 15

/-- EFFECTIVE_W and STATE follow CAP_W and FLOOR_W (R453); entering UNMET sets CAP_UNMET. -/
def State.capFollows (s : State) : State :=
  let w := s.capW
  let fl := s.get .sw F.PWR_CAP_STATUS_FLOOR_W
  let eff := if w = 0 then 1350 else min 1350 (max w fl)
  let was := s.capState
  let st := if w = 0 then Cap.NONE else if w < fl then Cap.UNMET
    else if was = Cap.MET ∧ s.est100 ≤ eff then Cap.MET else if s.est100 ≤ eff ∧ was = Cap.UNMET then Cap.MET else Cap.ENFORCING
  let s1 := (s.set .sw F.PWR_CAP_STATUS_EFFECTIVE_W eff).set .sw F.PWR_CAP_STATUS_STATE st
  if st = Cap.UNMET ∧ was ≠ Cap.UNMET then s1.pwrEvent F.PWR_EVENT_CAP_UNMET else s1

/-- A cap is accepted (R452, R455, R456, R457). -/
def State.capSet (s : State) (w : Nat) : State :=
  let s1 := ((s.set .sw F.PWR_CAP_STATUS_CAP_W w).set .sw F.PWR_CAP_STATUS_STATE
    (if s.capState = Cap.UNMET ∧ w ≠ 0 ∧ w < s.get .sw F.PWR_CAP_STATUS_FLOOR_W then Cap.UNMET else Cap.NONE)).capFollows
  let lower := decide (s1.effectiveW < s1.est100)
  let s2 := if w ≠ 0 ∧ ! lower ∧ s1.capState = Cap.ENFORCING then s1.set .sw F.PWR_CAP_STATUS_STATE Cap.MET else s1
  (s2.modKettle (fun k => { k with capDue := lower, stepDown := k.stepDown && lower })).pwrEvent F.PWR_EVENT_CAP_CHANGED

/-- A clock could rise one level under the cap (R457). -/
def State.couldRise (s : State) (k : Nat) : Bool :=
  let up (j : Nat) : Nat := if j = k then s.level j - 1 else s.level j
  decide (s.get .sw F.PWR_CLK_STATUS_MAX_LEVEL < s.level k) && decide (s.predict s.throttle (up 0) (up 1) (up 2) ≤ s.effectiveW)

/-- THROTTLE as R455 and R457 move it: set by step 1; lowered while a cap is being enforced, or once no clock can rise. -/
def State.moveThrottle (s : State) : State :=
  let k := s.sw.kettle
  let t := s.throttleFor
  if k.capDue then (s.countLevels.set .sw F.PWR_CAP_STATUS_THROTTLE t).modKettle (fun k => { k with capDue := false })
  else if t < s.throttle ∧ (s.capState = Cap.ENFORCING ∨ s.capState = Cap.UNMET ∨ ¬ (s.couldRise 0 ∨ s.couldRise 1 ∨ s.couldRise 2)) then
    s.countLevels.set .sw F.PWR_CAP_STATUS_THROTTLE t
  else s

/-- EST_UPDATE (R451): every 10 µs; the estimate is the part's model's (free, log 1). -/
def State.estUpdate (s : State) : State :=
  let k := s.sw.kettle
  if s.now < k.estAt + 10000 then s
  else
    let w := Config.estWatts s.fresh
    let est := (w :: k.est).take 100
    let avg (l : List Nat) : Nat := l.sum / max 1 l.length
    let e := k.energy + w * 10
    (((((s.draw.modKettle (fun k => { k with est := est, energy := e, estAt := s.now })).set .sw F.PWR_EST_EST_1MS_W (avg est)).set
      .sw F.PWR_EST_EST_100US_W (avg (est.take 10))).set .sw F.PWR_EST_ENERGY_J (e / 1000000))).moveThrottle

/-- FLOOR_RECOMPUTE (R453): every 100 µs. -/
def State.floorRecompute (s : State) : State :=
  if s.now < s.sw.kettle.floorAt + 100000 then s
  else
    ((s.set .sw F.PWR_CAP_STATUS_FLOOR_W (s.predict 15 3 7 7)).modKettle (fun k => { k with floorAt := s.now })).capFollows

/-- CAP_WINDOW (R455): a 100 µs window ends. One that ends before step 1 has been taken starts no step 2. -/
def State.capWindow (s : State) : State :=
  if s.now < s.sw.kettle.winAt + 100000 then s
  else
    let above := decide (s.effectiveW < s.est100) && decide (s.capW ≠ 0)
    let s1 := s.modKettle (fun k => { k with winAt := s.now, stepDown := above && ! k.capDue })
    if s.capState = Cap.UNMET ∨ s.capW = 0 then s1
    else s1.set .sw F.PWR_CAP_STATUS_STATE (if above then Cap.ENFORCING else Cap.MET)

/-! ### Clock steps (R445, R449, R455, R457, R462) -/

/-- CLOCK_LEVEL_STEP: a clock goes one level up or down, 20 µs after its last change at the soonest. Down: while a cap is
being enforced, the planner forbids the level, or the voltage acknowledged does not support it. Up: while the model allows
it, once the voltage for it has been reached; the voltage is asked for first. While a request is outstanding or due that might
lower the rail again, no clock rises (R449); step 1 of R455 comes before any step down for the cap. -/
def State.clockStep (s : State) (k : Nat) (up : Bool) : State :=
  let l := s.level k
  let kt := s.sw.kettle
  let top := s.get .sw F.PWR_CLK_STATUS_MAX_LEVEL
  let with_ (x j : Nat) : Nat := if j = k then x else s.level j
  if s.now < SMap.at 0 kt.stepAt k then s
  else if up then
    let code := s.codeFor (with_ (l - 1) 0) (with_ (l - 1) 1) (with_ (l - 1) 2)
    if l ≤ top ∨ kt.vrHold ∨ kt.stepDown ∨ kt.capDue ∨ ! s.couldRise k then s
    else if s.get .sw F.PWR_VR_STATUS_ACK_CODE < code then
      if s.get .sw F.PWR_VR_STATUS_REQ_CODE = code then s else s.setVoltage code
    else if kt.vr.isSome ∨ kt.setDue.isSome ∨ s.now < kt.rampEnd then s
    else (s.countLevels.set .sw (clkLevel k) (l - 1)).modKettle (fun x => { x with stepAt := SMap.put 0 x.stepAt k (s.now + 20000) })
  else
    let need := (kt.stepDown && ! kt.capDue && decide (s.effectiveW < s.est100)) || decide (l < top)
      || (kt.vrHold && decide (s.get .sw F.PWR_VR_STATUS_ACK_CODE < s.codeNow))
    if ! need ∨ clkLowest k ≤ l then s
    else
      let s1 := (s.countLevels.set .sw (clkLevel k) (l + 1)).modKettle (fun x => { x with stepAt := SMap.put 0 x.stepAt k (s.now + 20000) })
      s1.setVoltage s1.codeNow

/-! ### The margin planner and the ageing log (R459 to R464) -/

/-- Power-on time since manufacture, in ns. -/
def State.onTime (s : State) : Nat := s.sw.kettle.onNs + s.time .sw

/-- Power-on hours since manufacture. -/
def State.powerHours (s : State) : Nat := s.onTime / 3600000000000

/-- The records of the log as hours and GUARD, oldest first. -/
def Kettle.fitData (k : Kettle) : List (Nat × Nat) := k.log.map (fun e => (bitsOf e.2 127 96, bitsOf e.2 95 88))

/-- The CODE that level 0 needs, before the rail's clamp. -/
def State.code0 (s : State) : Nat := Config.vFused 0 0 0 + 2 * s.get .sw F.PWR_AGE_STATUS_GUARD_MV

/-- Temperatures that have been read, for the next record of the log. -/
def Kettle.heat (k : Kettle) (ts : List Int) : Kettle :=
  { k with temp := ts.foldl (fun m x => some (match m with | none => x | some y => max y x)) k.temp }

/-- A record of the ageing log (Table 17.6). Where no temperature has been read since the last one, TEMP_C is not known (free,
log 1). -/
def State.ageLog (s : State) (reason : Nat) : State :=
  let g := s.get .sw
  let k := s.sw.kettle
  let r := s.powerHours % 2 ^ 32 * 2 ^ 96 + g F.PWR_AGE_STATUS_GUARD_MV * 2 ^ 88 + wrapOf 8 (k.temp.getD (Config.dieTemp s.fresh)) * 2 ^ 80
    + g F.PWR_AGE_STATUS_WORST_MON * 2 ^ 72 + g F.PWR_AGE_STATUS_WORST_SLACK_PS * 2 ^ 56 + s.code0 % 4096 * 2 ^ 44
    + g F.PWR_AGE_STATUS_EOM_HOURS * 2 ^ 12 + reason
  let h := g F.PWR_AGE_LOG_IDX_HEAD
  (s.draw.modKettle (fun k => { k with log := SMap.put 0 k.log h r, logged := k.logged + 1, temp := none })).set .sw
    F.PWR_AGE_LOG_IDX_HEAD ((h + 1) % 4096)

/-- EOM_NEAR is set, with a record the first time (R463). -/
def State.eomNear (s : State) : State :=
  if s.get .sw F.PWR_EVENT_EOM_NEAR = 1 then s else (s.pwrEvent F.PWR_EVENT_EOM_NEAR).ageLog 5

/-- The sums of a least-squares fit of y against ln (x + 1) over points (x, y): how many, and the sums of ln, y, ln² and ln · y. -/
structure LogFit where
  n : Int
  sx : Int
  sy : Int
  sxx : Int
  sxy : Int
deriving DecidableEq, Repr

def logFit (ps : List (Nat × Nat)) : LogFit :=
  ps.foldl (fun (f : LogFit) p =>
    let x := Config.ln (p.1 + 1)
    let y : Int := p.2
    ⟨f.n + 1, f.sx + x, f.sy + y, f.sxx + x * x, f.sxy + x * y⟩) ⟨0, 0, 0, 0, 0⟩

/-- The numerator and the denominator of the fit's slope. -/
def LogFit.rise (f : LogFit) : Int := f.n * f.sxy - f.sx * f.sy
def LogFit.spread (f : LogFit) : Int := f.n * f.sxx - f.sx * f.sx

/-- Whether the fit's value at hour `h` exceeds half of `limit` (a GUARD in mV, the limit in CODE steps). -/
def LogFit.exceeds (f : LogFit) (limit : Int) (h : Nat) : Bool :=
  decide (limit * f.n * f.spread < 2 * (f.sy * f.spread + f.rise * (f.n * Config.ln (h + 1) - f.sx)))

/-- The first hour below 2^32 - 1 at which something that stays true once it is true holds, by halving; 2^32 - 1 where there is none. -/
def firstHour (p : Nat → Bool) : Nat :=
  (List.range 32).foldl (fun lo i => let m := lo + 2 ^ (31 - i); if p (m - 1) then lo else m) 0

/-- EOM_HOURS (R464): the hour at which the fit first makes V_fused(0) + GUARD exceed 0.82 V, CODE 1,640. -/
def eomOf (ps : List (Nat × Nat)) (fused : Nat) : Nat :=
  let f := logFit ps
  if ps.length < 8 ∨ f.rise ≤ 0 ∨ f.spread ≤ 0 then 0xFFFFFFFF else firstHour (f.exceeds (1640 - fused))

/-- The forecast, and the highest level that fits the rail (R462, R464). -/
def State.forecast (s : State) : State :=
  let eom := eomOf s.sw.kettle.fitData (Config.vFused 0 0 0)
  let s1 := s.set .sw F.PWR_AGE_STATUS_EOM_HOURS eom
  let s2 := if eom < s1.powerHours + 8760 then s1.eomNear else s1
  let g := 2 * s2.get .sw F.PWR_AGE_STATUS_GUARD_MV
  if s2.code0 ≤ 1640 then s2.set .sw F.PWR_CLK_STATUS_MAX_LEVEL 0
  else
    (s2.set .sw F.PWR_CLK_STATUS_MAX_LEVEL
      (((List.range 8).find? (fun l => decide (Config.vFused (min l 3) l l + g ≤ 1640))).getD 7)).eomNear

/-- GUARD changes by 5 mV, within 10 mV to 60 mV, through a SET and with a record (R459, R463). -/
def State.moveGuard (s : State) (up : Bool) : State :=
  let g := s.get .sw F.PWR_AGE_STATUS_GUARD_MV
  let n := if up then min 60 (g + 5) else max 10 (g - 5)
  if n = g then s
  else
    let s1 := s.set .sw F.PWR_AGE_STATUS_GUARD_MV n
    (s1.setVoltage s1.codeNow).ageLog (if up then 3 else 4)

/-- GUARD rises, and GUARD_RAISED is set. -/
def State.raiseGuard (s : State) : State := (s.moveGuard true).pwrEvent F.PWR_EVENT_GUARD_RAISED

/-- AGEING_MONITOR_READ (R459): once a second, the 128 slacks in ps; below 5 ps GUARD rises at once. -/
def State.monitorRead (s : State) (slacks : List Int) : State :=
  if s.now < s.sw.kettle.monAt + 1000000000 then s
  else
  let low := slacks.zipIdx.foldl (fun (m : Option (Int × Nat)) e =>
    match m with
    | some x => if e.1 < x.1 then some e else some x
    | none => some e) s.sw.kettle.slack
  let s1 := s.modKettle (fun k => { k with slack := low, monAt := s.now })
  if slacks.any (fun x => decide (x < 5)) then s1.raiseGuard.forecast else s1

/-- MARGIN_PLAN (R459, R460): the first plan 10 s after the stepped clocks first reached their levels, then every 60
minutes. -/
def State.marginPlan (s : State) : State :=
  let k := s.sw.kettle
  let due := match k.planAt, k.levelsAt with
    | some p, _ => decide (p + 3600000000000 ≤ s.now)
    | none, some l => decide (l + 10000000000 ≤ s.now)
    | none, none => false
  match due, k.slack with
  | true, some (x, mon) =>
    let good := if x < 25 then none else some (k.goodSince.getD s.now)
    let s1 := ((((s.modKettle (fun k => { k with slack := none, planAt := some s.now, goodSince := good })).set .sw
      F.PWR_AGE_STATUS_WORST_MON mon).set .sw F.PWR_AGE_STATUS_WORST_SLACK_PS (wrapOf 16 x)).count .sw 0xCE5 1)
    let s2 := if x < 15 then s1.raiseGuard
      else match good with
        | some g => if g + 86400000000000 ≤ s.now then s1.moveGuard false else s1
        | none => s1
    s2.forecast
  | _, _ => s

/-- AGEING_LOG_DAILY (R463): every 24 hours of power-on time. -/
def State.agelogDaily (s : State) : State :=
  if s.sw.dev.boot.off ∨ s.onTime < s.sw.kettle.dailyAt + 86400000000000 then s
  else (s.modKettle (fun k => { k with dailyAt := s.onTime })).ageLog 2

end Sys2Proof.Machine
end

