-- ==== Sys2Proof/Machine/LinkTrain.lean ====
section
/-! DEFINITION. Training, recovery, DEEP and the end of service of a link (R66 to R82, R386, R387, R415). -/

namespace Sys2Proof.Machine

/-! ### What leaving service does -/

/-- Packets queued for a port that no pinned packet can use any more are dropped, PATH_DOWN (R97). -/
def State.dropQueues (s : State) (d : Part) (p : Nat) : State :=
  (List.range 8).foldl (fun a c =>
    let b := ((a.dev d).queue p c).foldl (fun b x =>
      (b.drop d x.inPort x.pkt.hdr 10).modDev d (fun v => v.freeCells s.now x.inPort x.pkt.hdr.cls x.resv x.shared)) a
    b.modDev d (fun v => { v.setQueue p c [] with
      queueOld := SMap.put none v.queueOld (pairKey p c) none, deficit := SMap.put 0 v.deficit (pairKey p c) 0 })) s

/-- A core that waits in NAP on a port has its answer: 0 ENTERED, 1 REFUSED (R268). -/
def State.answerNap (s : State) (d : Part) (p x : Nat) : State :=
  match d with
  | .ep => s
  | .sw => s.sw.cores.foldl (fun a c =>
      match (a.core c.1).wait with
      | .nap q sd => if q = p then a.resume c.1 (fun a => a.retireS c.1 sd (BitVec.ofNat 64 x)) else a
      | _ => a) s

/-- A link leaves service: what it held for replay is discarded and nothing is awaited. -/
def State.leaveService (s : State) (d : Part) (p x : Nat) : State :=
  let s1 := ((((s.setLnk d p x).set d (F.LNK_STATUS_RECOVERING p) 0).set d (F.LNK_STATUS_HELD p) 0).set d
    (F.LNK_STATUS_VER_RUN p) 0).modPort d p (fun q => { q with
      phase := none, replay := [], nackAt := none, ackDue := none, napAt := none, wakeHeld := false, attemptAt := s.now,
      grace := [], pourOwed := [], ctlWait := [], catchUp := none })
  (s1.answerNap d p 1).dropQueues d p

/-- A link goes to DOWN from service (R75, R415): DOWN is set and counted, and the partner is accused
(R424). -/
def State.linkDown (s : State) (d : Part) (p : Nat) : State :=
  let s1 := ((s.leaveService d p Lnk.DOWN).lnkErr d p F.LNK_ERR_DOWN).countLink d p 10 1
  let s2 := match d with | .sw => s1.event 4 p (s.partner d p) | .ep => s1
  s2.accuse d (s2.partner d p) 1

/-- ENABLE is 0 (R83): DOWN is sent where the line is up, and the lanes are powered off. -/
def State.linkOff (s : State) (d : Part) (p : Nat) : State :=
  let s1 := if s.lineUp d p then s.sendDown d p else s
  (s1.leaveService d p Lnk.OFF).emit (.lanesOff d p)

/-! ### NAP and WAKE (R67 to R69, R80) -/

/-- The port may enter DEEP: its TARGET allows it, and its version has it. -/
def State.mayDeep (s : State) (d : Part) (p : Nat) : Bool :=
  s.get d (F.LNK_CTRL_TARGET p) != 0 && s.get d (F.LNK_STATUS_VER_RUN p) != 0x10

/-- A NAP that the port refuses is recorded (R68, R268). -/
def State.napNo (s : State) (d : Part) (p : Nat) : State := (s.lnkErr d p F.LNK_ERR_NAP_REFUSED).countLink d p 12 1

/-- The partner has refused the NAP, or has not answered (R68). -/
def State.napRefused (s : State) (d : Part) (p : Nat) : State :=
  ((s.napNo d p).modPort d p (fun q => { q with napAt := none })).answerNap d p 1

/-- The port takes a NAP now (R68): it is ACTIVE and may enter DEEP. -/
def State.takesNap (s : State) (d : Part) (p : Nat) : Bool := s.lnk d p == Lnk.ACTIVE && s.mayDeep d p

/-- A NAP (R68): NAP_REQ is sent, or the NAP is refused. One that is refused at once leaves an earlier NAP of the port as it
is. -/
def State.startNap (s : State) (d : Part) (p : Nat) : State :=
  if s.takesNap d p then
    if (s.port d p).napAt.isSome then s
    else (s.sendControl d p Ctl.NAP_REQ 0).modPort d p (fun q => { q with napAt := some s.now })
  else s.napNo d p

/-- Both ends stop sending; CONTROL frames that wait for their unit are dropped (DESIGN CHOICE, log 42). Where a Pour has made TARGET ACTIVE_HELD since the NAP_REQ, it counts as a WAKE that arrives
during entry (R67, R69; DEDUCED, log 20). -/
def State.enterDeep (s : State) (d : Part) (p : Nat) : State :=
  (s.setLnk d p Lnk.DEEP_ENTRY).modPort d p (fun q => { q with
    napAt := none, phaseAt := s.now, ctlWait := [], wakeHeld := q.wakeHeld || s.get d (F.LNK_CTRL_TARGET p) == 0 })

/-- Credit and training state as every training and every exit from DEEP restarts it (R64). -/
def Port.restart (q : Port) (now : Nat) (k : TrainKind) (ph : Phase) : Port :=
  { q with phase := some ph, kind := k, phaseAt := now, attemptAt := now, wakeHeld := false, verSel := 0, tsDone := false,
           tsTwo := none, earlyTs := none, earlyCredit := none, ctlWait := [],
           sent := List.replicate 8 0, freed := List.replicate 8 0, credit := List.replicate 8 none,
           resvDown := List.replicate 8 none, creditOwed := List.replicate 8 none, pourOwed := [], grace := [],
           nackAt := none, laneErrs := [] }

/-- An exit from DEEP starts (R69): a beacon on the clock lane. -/
def State.startWake (s : State) (d : Part) (p : Nat) : State :=
  ((s.modPort d p (fun q => q.restart s.now .deepExit .detect)).setLnk d p Lnk.WAKING).emit (.beacon d p)

/-- A WAKE (R67, R69, R86). -/
def State.wakeLink (s : State) (d : Part) (p : Nat) : State :=
  if s.lnk d p = Lnk.DEEP then s.startWake d p
  else if s.lnk d p = Lnk.DEEP_ENTRY then s.modPort d p (fun q => { q with wakeHeld := true })
  else s

/-- A packet pinned to a link in DEEP wakes it (R70). -/
def State.demandWake (s : State) (d : Part) (p : Nat) : State :=
  if s.lnk d p = Lnk.DEEP ∨ s.lnk d p = Lnk.DEEP_ENTRY ∧ ! (s.port d p).wakeHeld then
    ((s.lnkErr d p F.LNK_ERR_DEMAND_WAKE).countLink d p 11 1).wakeLink d p
  else s

/-- The egress side for a port is empty (R68). -/
def Dev.egressEmpty (v : Dev) (p : Nat) : Bool := (List.range 8).all (fun c => (v.queue p c).isEmpty)

/-- DEEP entry has completed. A wake that was held starts the exit; a packet that is still queued for the link wakes it
(R70). -/
def State.deepDone (s : State) (d : Part) (p : Nat) : State :=
  if s.lnk d p ≠ Lnk.DEEP_ENTRY then s
  else
    let s1 := ((s.setLnk d p Lnk.DEEP).emit (.lanesOff d p)).answerNap d p 0
    if (s.port d p).wakeHeld then s1.startWake d p
    else if (s.dev d).egressEmpty p then s1
    else s1.demandWake d p

/-! ### Training (R71 to R82) -/

/-- The port can train: its domain is up, where it has one (Table 17.1), and the device is neither in the fatal state of
R419 nor in a warm reset. -/
def State.portOn (s : State) (d : Part) (p : Nat) : Bool :=
  let b := (s.dev d).boot
  ! b.fatal && ! b.warm && (match d with | .sw => s.domain (8 + p / 4) == Dom.ON | .ep => true)

/-- The coefficients from which a cold training adapts: the factory preset on the first after power-on reset, then those
stored (R72). -/
def Port.startCoeffs (q : Port) : List Nat := if q.presetUsed then q.coeffs else (List.range 17).map Config.presetCoeff

/-- Cold training starts (R71): sequence numbers begin again, VER_CEIL takes effect (R83), and the NAP of TARGET DEEP is
due again when the link reaches ACTIVE (R67; DESIGN CHOICE, log 42). -/
def State.startTraining (s : State) (d : Part) (p : Nat) : State :=
  if ! s.portOn d p then s
  else
    let s1 := (s.set d (F.LNK_STATUS_VER_RUN p) 0).set d (F.LNK_STATUS_HELD p) 0
    ((s1.modPort d p (fun q => { q.restart s.now .cold .detect with
      rested := false, txSeq := 0, rxSeq := 0, replay := [], ackDue := none, napAt := none,
      verCeil := s.get d (F.LNK_CTRL_VER_CEIL p), coeffs := q.startCoeffs, presetUsed := true })).setLnk
        d p Lnk.TRAINING).emit (.clockOn d p)

/-- An attempt fails with a LAST_RESULT code (R69, R71, R75). -/
def State.trainFail (s : State) (d : Part) (p code : Nat) : State :=
  match (s.port d p).kind with
  | .cold =>
    let s1 := (((s.setLnk d p Lnk.DOWN).set d (F.LNK_STATUS_LAST_RESULT p) code).set d (F.LNK_STATUS_VER_RUN p) 0).set d
      (F.LNK_STATUS_HELD p) 0
    let s2 := if (s.port d p).served then (s1.lnkErr d p F.LNK_ERR_DOWN).countLink d p 10 1 else s1
    -- the 10 ms to the next attempt run from the end of this one (DESIGN CHOICE, log 42)
    s2.modPort d p (fun q => { q with phase := none, attemptAt := s.now })
  | .deepExit => (s.set d (F.LNK_STATUS_LAST_RESULT p) code).linkDown d p
  | .recovery => s.linkDown d p

/-- LAST_RESULT of a phase that fails (Table 3.9). A NEGOTIATE that runs out of its time leaves TS_MISMATCH (DESIGN CHOICE,
log 42). CREDIT has no code of its own: which one is left is not specified (free, log 1). -/
def phaseCode (fresh : Nat) : Phase → Nat
  | .idle => 0 | .detect => 1 | .clockLock => 2 | .equalise => 3 | .deskew => 4 | .laneTest => 5 | .negotiate => 8
  | .credit => Config.choice fresh % 10

/-- The longest time of a phase in ns (Table 3.5). -/
def phaseMax : TrainKind → Phase → Nat
  | .cold, .detect => 10000 | .cold, .clockLock => 20000 | .cold, .equalise => 1500000 | .cold, .deskew => 5000
  | .cold, .laneTest => 250000 | .cold, .negotiate => 5000
  | .deepExit, .detect => 1000 | .deepExit, .clockLock => 20000 | .deepExit, .equalise => 10000
  | .deepExit, .deskew => 5000 | .deepExit, .negotiate => 1000
  | .recovery, _ => 265000
  | _, _ => 2000

/-- The phase after a phase. -/
def nextPhase : TrainKind → Phase → Option Phase
  | .recovery, .idle => some .laneTest
  | .recovery, .laneTest => some .deskew
  | .recovery, .deskew => some .negotiate
  | .recovery, _ => none
  | _, .detect => some .clockLock
  | _, .clockLock => some .equalise
  | _, .equalise => some .deskew
  | .cold, .deskew => some .laneTest
  | .cold, .laneTest => some .negotiate
  | .deepExit, .deskew => some .negotiate
  | _, _ => none

/-- A training set's 256 bits (Table 3.6). -/
def tsBits (x : TsBody) : BitVec 256 :=
  x.epoch ++ x.step ++ x.part ++ x.stepping ++ x.verMax ++ x.verSel ++ x.node ++ x.port ++ x.role ++ x.failedLane ++ x.round
    ++ x.tag ++ x.echo ++ (0 : BitVec 93)

/-- The fields of a training set. -/
def tsOf (b : BitVec 256) : TsBody :=
  { epoch := b.extractLsb' 224 32, step := b.extractLsb' 192 32, part := b.extractLsb' 176 16,
    stepping := b.extractLsb' 168 8, verMax := b.extractLsb' 160 8, verSel := b.extractLsb' 152 8,
    node := b.extractLsb' 140 12, port := b.extractLsb' 134 6, role := b.extractLsb' 132 2,
    failedLane := b.extractLsb' 127 5, round := b.extractLsb' 125 2, tag := b.extractLsb' 109 16,
    echo := b.extractLsb' 93 16 }

/-- This port's VER_MAX: it supports 2.0, and VER_CEIL is the one that its last training began with (R83). -/
def State.verMax (s : State) (d : Part) (p : Nat) : Nat := min 0x20 (s.port d p).verCeil

/-- The chosen version (R78). -/
def chosenVersion (a b : Nat) : Nat := let m := min a b; if 0x20 ≤ m then 0x20 else if 0x11 ≤ m then 0x11 else 0x10

/-- A training set of this port; its round tag is not specified (free, log 1). -/
def State.sendTs (s : State) (d : Part) (p round : Nat) : State :=
  let v := s.dev d
  let q := s.port d p
  let id := v.reg (match d with | .sw => A.CFG_DEVICE_ID | .ep => A.EP_DEVICE_ID)
  let tag := BitVec.ofNat 16 (Config.choice s.fresh)
  let x : TsBody :=
    { epoch := BitVec.ofNat 32 (s.epoch d), step := BitVec.ofNat 32 v.step, part := BitVec.ofNat 16 (id / 2 ^ 16),
      stepping := BitVec.ofNat 8 (id / 2 ^ 8), verMax := BitVec.ofNat 8 (s.verMax d p),
      verSel := if round = 2 then BitVec.ofNat 8 q.verSel else 0, node := BitVec.ofNat 12 v.node,
      port := BitVec.ofNat 6 p, role := match d with | .sw => 2 | .ep => 1,
      failedLane := BitVec.ofNat 5 (v.get (F.LNK_STATUS_FAILED_RX_LANE p)), round := BitVec.ofNat 2 round,
      tag := tag, echo := q.tsPeer }
  let s1 := s.draw.sendControl d p Ctl.TS (tsBits x)
  s1.modPort d p (fun q => if round = 1 then { q with tsTag := tag, tsAt := s.now } else { q with tsTwo := some (tag, s.now) })

/-- A phase begins. -/
def State.enterPhase (s : State) (d : Part) (p : Nat) (ph : Phase) : State :=
  let s1 := s.modPort d p (fun q => { q with phase := some ph, phaseAt := s.now })
  match ph with
  | .equalise => s1.txPrbs d p 0
  | .laneTest => s1.txPrbs d p 0
  | .deskew => s1.txMarker d p
  | .negotiate => s1.sendTs d p 1
  | .credit => ((s1.modPort d p (fun q => { q with freed := List.replicate 8 0 })).txMarker d p).sendCredit d p
  | _ => s1

/-- What LANE_TEST finds at this port's receiver (R76): none fails, or one and the spare takes its place. -/
def State.laneTest (s : State) (d : Part) (p : Nat) (failed : List Nat) : State :=
  match failed with
  | [] => (s.set d (F.LNK_STATUS_FAILED_RX_LANE p) 0x1F).set d (F.LNK_STATUS_SPARE_RX p) 0
  | l :: _ =>
    let was := s.get d (F.LNK_STATUS_FAILED_RX_LANE p)
    let s1 := (s.set d (F.LNK_STATUS_FAILED_RX_LANE p) l).set d (F.LNK_STATUS_SPARE_RX p) (b2n (l < 16))
    if l < 16 ∧ was ≠ l then s1.lnkErr d p F.LNK_ERR_SPARE_SWITCHED else s1

/-- The partner's receiver reports a failed lane: the spare carries its logical lane (R76). -/
def State.partnerLane (s : State) (d : Part) (p l : Nat) : State :=
  let was := s.get d (F.LNK_STATUS_FAILED_TX_LANE p)
  let s1 := (s.set d (F.LNK_STATUS_FAILED_TX_LANE p) l).set d (F.LNK_STATUS_SPARE_TX p) (b2n (l < 16))
  if l < 16 ∧ was ≠ l then s1.lnkErr d p F.LNK_ERR_SPARE_SWITCHED else s1

/-- A link that is in service again, after training, an exit from DEEP or a recovery, is HELD where the device is outside
the membership or fenced (R483). -/
def State.holdOutside (s : State) (d : Part) (p : Nat) : State :=
  if s.outside d || s.membState d == Mb.FENCED then s.set d (F.LNK_STATUS_HELD p) 1 else s

/-- A link comes into service (R67, R75, R82): its accusations are withdrawn unless it is HELD (R424). As it first reaches ACTIVE, the NAP of TARGET DEEP is started; at version 1.0
DEEP acts as ACTIVE_HELD, and none is (R80; DEDUCED, log 42). -/
def State.linkUp (s : State) (d : Part) (p : Nat) : State :=
  let s1 := (((s.set d (F.LNK_STATUS_LAST_RESULT p) 0).holdOutside d p).modPort d p (fun q => { q with
    phase := none, served := true, heardAt := s.now, beatAt := s.now, creditAt := s.now, progressAt := s.now })).setLnk d p Lnk.ACTIVE
  let s2 := (if s1.held d p then s1.dropQueues d p else s1.withdraw d p).modPort d p (fun q => { q with rested := true })
  if s2.get d (F.LNK_CTRL_TARGET p) = 2 ∧ s2.mayDeep d p ∧ ! (s.port d p).rested then s2.startNap d p else s2

/-- Whether the training set makes the link HELD (R82, R428, R436, R483). -/
def State.tsHolds (s : State) (d : Part) (p : Nat) (ts : TsBody) : Bool :=
  ts.epoch.toNat != s.epoch d || ((s.port d p).kind != .cold && ts.step.toNat != (s.dev d).step % 2 ^ 32)
  || (s.dev d).dead ts.node.toNat || s.outside d || s.membState d == Mb.FENCED

/-- The partner's CREDIT completes the training (R64, R122). -/
def State.creditUp (s : State) (d : Part) (p : Nat) (body : BitVec 256) : State :=
  (s.modPort d p (fun q => { q with credit := creditOf body, resvDown := creditOf body })).linkUp d p

/-- What a NEGOTIATE writes to LNK_PARTNER, whether it passes or fails (R85). A round trip beyond the field reads 4,095
(DESIGN CHOICE, log 43). -/
def State.notePartner (s : State) (d : Part) (p : Nat) (ts : TsBody) (rtt : Nat) : State :=
  s.modDev d (fun v => v.setReg (A.LNK_PARTNER p)
    (ts.part.toNat * 2 ^ 48 + ts.stepping.toNat * 2 ^ 40 + ts.verMax.toNat * 2 ^ 32 + ts.role.toNat * 2 ^ 30
      + ts.node.toNat * 2 ^ 18 + ts.port.toNat * 2 ^ 12 + min 4095 rtt))


/-- NEGOTIATE is done (R77 to R82, R85): the version, the partner and the round trip are known. -/
def State.negotiated (s : State) (d : Part) (p : Nat) (ts : TsBody) (rtt : Nat) : State :=
  let q := s.port d p
  let s1 := (s.notePartner d p ts rtt).modDev d (fun v =>
    (v.set (F.LNK_STATUS_VER_RUN p) q.verSel).set (F.LNK_STATUS_HELD p) (b2n (s.tsHolds d p ts)))
  let s2 := (s1.partnerLane d p ts.failedLane.toNat).modPort d p (fun q => { q with tsDone := true, negotiated := true })
  let s3 := if ts.epoch.toNat = s.epoch d then s2 else s2.lnkErr d p F.LNK_ERR_EPOCH_MISMATCH
  let s4 := s3.bounds d p
  if q.kind = .recovery then s4
  else
    let s5 := s4.enterPhase d p .credit
    match q.earlyCredit with
    | some body => s5.creditUp d p body
    | none => s5

/-- When the training set with a tag was sent (R81). -/
def Port.tsSentAt (q : Port) (echo : BitVec 16) : Option Nat :=
  match q.tsTwo with
  | some x => if echo = x.1 then some x.2 else if echo = q.tsTag then some q.tsAt else none
  | none => if echo = q.tsTag then some q.tsAt else none

/-- A training set arrives (R76 to R82, R387). Each that NEGOTIATE takes is written to LNK_PARTNER, however the NEGOTIATE
ends; until it has measured a round trip, RTT_NS keeps its value (R85; DESIGN CHOICE, log 43). -/
def State.takeTs (s0 : State) (d : Part) (p : Nat) (ts : TsBody) : State :=
  let q := s0.port d p
  let s := if q.phase = some .negotiate then s0.notePartner d p ts (s0.rtt d p) else s0
  if q.phase ≠ some .negotiate then
    (if (q.phase = some .deskew ∨ q.phase = some .laneTest) ∧ ts.round = 1 then
      s.modPort d p (fun q => { q with earlyTs := some ts })
    else s)
  else if d = .ep ∧ ts.role = 1 then s.trainFail d p 8
  else if ts.verMax.toNat < 0x10 then s.trainFail d p 6
  else
    let s1 := s.modPort d p (fun q => { q with tsPeer := ts.tag })
    -- the first set that shows the partner's VER_MAX fixes the version, which round 2 carries
    let s2 := if ts.round = 1 ∨ q.tsTwo.isNone then
        (s1.modPort d p (fun q => { q with verSel := chosenVersion (s.verMax d p) ts.verMax.toNat })).sendTs d p 2
      else s1
    if ts.round ≠ 2 then s2
    else if ts.verSel.toNat ≠ (s2.port d p).verSel then s2.trainFail d p 8
    else if q.tsDone then s2
    else match q.tsSentAt ts.echo with
      | none => s2
      | some at_ => if 1500 < s.now - at_ then (s2.notePartner d p ts (s.now - at_)).trainFail d p 7 else s2.negotiated d p ts (s.now - at_)

/-- Coefficients that the planner has stored take effect and are verified: a lane that fails takes those stored before
(R461). -/
def State.newCoeffs (s : State) (d : Part) (p : Nat) (failed : List Nat) : State :=
  s.modPort d p (fun q => { q with
    coeffs := q.newCoeffs.foldl (fun (l : List Nat) (e : Nat × Nat) => if failed.contains e.1 then l else setAt l e.1 e.2) q.coeffs
    newCoeffs := [] })

/-- New coefficients are stored for a lane of a link in ACTIVE (R461). -/
def State.storeCoeff (s : State) (d : Part) (p lane coeff : Nat) : State :=
  if s.lnk d p ≠ Lnk.ACTIVE then s
  else s.modPort d p (fun q => { q with newCoeffs := (q.newCoeffs.filter (fun (e : Nat × Nat) => e.1 != lane)) ++ [(lane, coeff)] })

/-- A phase begins; a training set that came early is taken as NEGOTIATE begins (log 31). -/
def State.beginPhase (s : State) (d : Part) (p : Nat) (ph : Phase) : State :=
  let s1 := s.enterPhase d p ph
  match ph, (s.port d p).earlyTs with
  | .negotiate, some ts => s1.takeTs d p ts
  | _, _ => s1

/-- A phase completes (R71): `failed` are the lanes in which LANE_TEST saw an error, `coeffs` what EQUALISE has set. -/
def State.phaseDone (s : State) (d : Part) (p : Nat) (failed coeffs : List Nat) : State :=
  let q := s.port d p
  match q.phase with
  | none => s
  | some ph =>
    match nextPhase q.kind ph with
    | none => s
    | some nx =>
      let s0 := if ph = .idle then s.setLnk d p Lnk.TRAINING
        else if ph = .equalise ∨ ph = .laneTest then s.prbsRan d p else s
      let s1 := if ph = .equalise then
          (if q.kind = .cold then s0.modPort d p (fun q => { q with coeffs := coeffs, newCoeffs := [] })
           else s0.newCoeffs d p failed)
        else if ph = .laneTest ∧ q.kind = .recovery then s0.newCoeffs d p failed else s0
      if ph = .laneTest then
        if 1 < failed.length then s1.trainFail d p 5 else (s1.laneTest d p failed).beginPhase d p nx
      else s1.beginPhase d p nx

/-- A phase has not completed in its time, or the partner, once detected, is gone (R69, R71, R84). -/
def State.phaseLate (s : State) (d : Part) (p : Nat) (gone : Bool) : State :=
  let q := s.port d p
  match q.phase with
  | none => s
  | some ph =>
    if gone then (if ph = .detect ∨ q.kind = .recovery then s else s.trainFail d p 9)
    else if s.now < (if q.kind = .recovery then q.attemptAt else q.phaseAt) + phaseMax q.kind ph then s
    else if ph = .credit then s.draw.trainFail d p (phaseCode s.fresh ph)
    else s.trainFail d p (phaseCode 0 ph)

/-- The partner's CREDIT frame (R63, R64, R122): at link-up it completes the training. In a recovery, which the credit
counts survive, it is taken as in service (R74). -/
def State.takeCredit (s : State) (d : Part) (p : Nat) (body : BitVec 256) : State :=
  if (s.port d p).phase = some .credit then s.creditUp d p body
  else if s.recovering d p then (s.modPort d p (fun q => { q with credit := creditOf body })).bounds d p
  else if (s.port d p).phase = some .negotiate then s.modPort d p (fun q => { q with earlyCredit := some body })
  else if s.lnk d p = Lnk.ACTIVE then (s.modPort d p (fun q => { q with credit := creditOf body })).bounds d p
  else s

/-! ### Recovery (R73, R74) -/

/-- A recovery starts: all data lanes in electrical idle, the clock running. CONTROL frames that wait for their unit are
dropped (DESIGN CHOICE, log 42). -/
def State.startRecovery (s : State) (d : Part) (p : Nat) : State :=
  if s.lnk d p ≠ Lnk.ACTIVE then s
  else
    let s1 := ((s.setLnk d p Lnk.IDLE).set d (F.LNK_STATUS_RECOVERING p) 1).lnkErr d p F.LNK_ERR_RECOVERY
    ((s1.countLink d p 9 1).modPort d p (fun q => { q with
      phase := some .idle, kind := .recovery, phaseAt := s.now, attemptAt := s.now, verSel := 0, tsDone := false,
      tsTwo := none, ctlWait := [], earlyTs := none, earlyCredit := none, laneErrs := [] })).emit (.lanesIdle d p)

/-- A recovery ends (R73 to R75): once LANE_TEST, DESKEW and NEGOTIATE are done, replay goes on from the oldest held frame,
unless the link is HELD (R82), and accusations of the partner are withdrawn (R424); a recovery that fails, or in which two
lanes have failed, takes the link to DOWN. The replay
counts begin again, no NACK is outstanding, and the burst of an IDLE exit goes out as the link turns ACTIVE (DESIGN CHOICE,
log 42). -/
def State.recoveryEnd (s : State) (d : Part) (p : Nat) (ok : Bool) (failed : List Nat) : State :=
  if ! s.recovering d p then s
  else if ! ok ∨ 1 < failed.length then s.linkDown d p
  else if (s.port d p).phase ≠ some .negotiate ∨ ! (s.port d p).tsDone then s
  else
    let s1 := ((s.set d (F.LNK_STATUS_RECOVERING p) 0).setLnk d p Lnk.ACTIVE).modPort d p (fun q => { q with
      phase := none, nackAt := none, heardAt := s.now,
      replay := q.replay.map (fun (h : HeldFrame) => { h with replays := 0 }) })
    let s2 := (s1.holdOutside d p).txPrbs d p 128
    if s2.held d p then ((s2.txMarker d p).extendGrace d p true).dropQueues d p
    else ((s2.replayAll d p).extendGrace d p true).withdraw d p

/-- A replay is due (R61), or its limit is reached and recovery starts (R62). No DATA flows while the link is HELD (R82). -/
def State.replayFrom (s : State) (d : Part) (p : Nat) : State :=
  if s.held d p then s
  else match (s.port d p).replay with
  | h :: _ =>
    if 8 ≤ h.replays then (s.lnkErr d p F.LNK_ERR_REPLAY_LIMIT).startRecovery d p else s.replayAll d p
  | [] => s.txMarker d p

end Sys2Proof.Machine
end

