-- ==== Sys2Proof/Machine/Memb.lean ====
section
/-! DEFINITION. Membership, steps, repair and admission (spec/16): what records do where they are taken, the decisions
of the coordinator, and the step controller. -/

namespace Sys2Proof.Machine

/-! ### Who belongs -/

/-- Nodes whose bit is set in TEL_MEMB_SWITCHES. -/
def Dev.stepSwitches (v : Dev) : List Nat :=
  (List.range 64).flatMap (fun k =>
    let w := v.reg (A.TEL_MEMB_SWITCHES k)
    if w = 0 then [] else ((List.range 64).filter (fun i => bitOf w i)).map (fun i => 64 * k + i))

/-- A node is a member of the current epoch (R425): an EPOCH decision has admitted it, and none since holds it dead. A device
that has not seen the decisions from epoch 1 takes every node that is not dead for a member (DESIGN CHOICE, log 53). -/
def Dev.member (v : Dev) (n : Nat) : Bool :=
  ! v.dead n && (match v.memb.joined with | none => true | some l => l.contains n)

/-- The member switches of the step and lease sets. -/
def Dev.memberSwitches (v : Dev) : List Nat := v.stepSwitches.filter (fun n => v.member n)

/-- The candidates of TEL_MEMB_COORD, in order. -/
def Dev.candidates (v : Dev) : List Nat :=
  [v.get F.TEL_MEMB_COORD_CAND0, v.get F.TEL_MEMB_COORD_CAND1, v.get F.TEL_MEMB_COORD_CAND2,
   v.get F.TEL_MEMB_COORD_CAND3].take (v.get F.TEL_MEMB_COORD_COUNT)

/-- This switch is the coordinator (R425). -/
def State.coordinates (s : State) : Bool := s.membState .sw == Mb.MEMBER && s.coord .sw == (s.dev .sw).node

def State.leaseNs (s : State) : Nat := s.get .sw F.TEL_MEMB_CFG_LEASE_US * 1000

/-- The lease (R425): acknowledgements of one renewal from more than half of the member switches, received within
LEASE_US. -/
def State.leaseHeld (s : State) : Bool :=
  let sw := (s.dev .sw).memberSwitches
  (s.memb .sw).renewals.any (fun r =>
    decide (sw.length < 2 * (r.acks.filter (fun a => sw.contains a.1 && decide (s.now ≤ a.2 + s.leaseNs))).length))

/-! ### The step controller (R430 to R433) -/

def State.modStep (s : State) (f : StepCtl → StepCtl) : State := { s with sw := { s.sw with stepCtl := f s.sw.stepCtl } }

/-- OUTCOME of a STEP_STATUS record (Table 16.5): 1 SEALED, 2 REPLAY, 3 RESTART. -/
def stepRec (n outcome : Nat) : List Byte := leBytes 16 (outcome * 2 ^ 64 + n * 2 ^ 32 + 0x33)

/-- Participants that the epoch does not hold dead. -/
def State.liveParts (s : State) : List (Nat × Nat × Nat) :=
  s.sw.stepCtl.parts.filter (fun p => ! (s.dev .sw).dead p.2.2)

/-- STEP_STATUS records are to be written to participants. -/
def State.owe (s : State) (ps : List (Nat × Nat × Nat)) (n outcome : Nat) : State :=
  s.modStep (fun c => { c with owed := c.owed ++ ps.map (fun p => (p.1, p.2.1, n, outcome)) })

/-- They are written once their channel's entry is in the cache. -/
def State.payOwed (s : State) : State :=
  match s.sw.stepCtl.owed with
  | [] => s
  | l => s.whenChan Config.stepChan (fun s =>
      (s.sendAs (s.get .sw (F.SEQ_QUEUE_B_CORE 1)) Config.stepChan
        (l.map (fun x => ⟨x.1, stepRec x.2.2.1 x.2.2.2, x.2.1, false⟩))).modStep (fun c => { c with owed := [] }))

/-- What a STEP_ record of an origin tells every switch. -/
def Memb.noteStep (m : Memb) (kind origin n : Nat) : Memb :=
  if kind = Hb.STEP_READY then (if m.ready.contains (n, origin) then m else { m with ready := m.ready ++ [(n, origin)] })
  else if kind = Hb.STEP_FAIL then (if m.failSteps.contains n then m else { m with failSteps := m.failSteps ++ [n] })
  else if kind = Hb.STEP_DISCARDED then
    (if m.discarded.contains (n, origin) then m else { m with discarded := m.discarded ++ [(n, origin)] })
  else m

/-- A STEP_ record of this switch: flooded, and taken here. -/
def State.stepNews (s : State) (kind n low : Nat) : State :=
  let me := (s.dev .sw).node
  (s.originate .sw kind (n * 2 ^ 112 + low)).modMemb .sw (fun m => m.noteStep kind me n)

/-- STEP_FAIL (R430), at most once per step and not after STEP_READY: 1 participant ERROR, 2 participant dead, 3 reduction error, 4 tile LOST. -/
def State.stepFails (s : State) (why : Nat) : State :=
  let c := s.sw.stepCtl
  if ! c.planned ∨ c.failed ∨ c.readySent then s
  else (s.stepNews Hb.STEP_FAIL c.stepN (why * 2 ^ 108)).modStep (fun c => { c with failed := true })

/-- STEP_READY (R430): every participant has sent STEP_END without ERROR. -/
def State.stepReadies (s : State) : State :=
  let c := s.sw.stepCtl
  if c.planned ∧ ! c.failed ∧ ! c.readySent ∧ c.parts.all (fun p => c.ended.contains (c.stepN, p.2.2)) then
    (s.stepNews Hb.STEP_READY c.stepN 0).modStep (fun c => { c with readySent := true })
  else s

/-- Losses that fail a step: tiles of STEPVER objects that are LOST, and pieces of windows with an uncorrectable error in
a staging block. -/
def State.losses (s : State) : List (Nat × Nat) :=
  (s.tiers.dir.filter (fun e => e.2.stepver && e.2.lost)).map (fun e => (0, e.1))
  ++ s.sw.wins.flatMap (fun w => w.2.bad.map (fun p => (1 + w.1, p)))

/-- A window in use that names a failed cluster (R438). -/
def State.badClusterUsed (s : State) : Bool :=
  ! s.sw.badClusters.isEmpty && (List.range 256).any (fun w =>
    s.get .sw (F.RED_WIN_STATUS_STATE w) != 0 && (List.range 16).any (fun c =>
      bitOf (s.get .sw (F.RED_WIN_A_CLUSTER_MASK w)) c && s.sw.badClusters.contains ((s.dev .sw).cluster c)))

/-- A loss that no STEP_FAIL has reported fails the step; one that is made good is forgotten, and counts again when it is
lost again. -/
def State.stepLosses (s0 : State) : State :=
  let ls := s0.losses
  let s := s0.modStep (fun c => { c with seen := c.seen.filter (fun x => ls.contains x) })
  let c := s.sw.stepCtl
  if ! c.planned ∨ c.failed ∨ c.readySent then s
  else
    match ls.filter (fun x => ! c.seen.contains x) with
    | [] => if s.badClusterUsed then s.stepFails 3 else s
    | x :: _ => (s.stepFails (if x.1 = 0 then 4 else 3)).modStep (fun c => { c with seen := ls })

/-- STEP.DISCARD N and STEP_DISCARDED (R433 step 4). -/
def State.discardStep (s : State) : State :=
  let c := s.sw.stepCtl
  let s1 := if s.get .sw F.MEM_STEP_STEP = c.stepN then s.discardTiles else s
  (s1.modStep (fun c => { c with replayAt := none })).stepNews Hb.STEP_DISCARDED c.stepN 0

/-- Every live participant has fenced after REPLAY. -/
def State.allFenced (s : State) : Bool :=
  s.liveParts.all (fun p => s.sw.stepCtl.fenced.contains (s.sw.stepCtl.stepN, p.2.2))

/-- A seal that waits for shadow copies is made once they are over (R432). -/
def State.sealDue (s : State) : State :=
  match s.sw.stepCtl.sealDue with
  | none => s
  | some n =>
    if s.tiers.dir.any (fun e => e.2.copying) then s
    else
      let s1 := if s.get .sw F.MEM_STEP_STEP = n then s.sealStep else s
      let ps := if s1.sw.stepCtl.stepN = n then s1.sw.stepCtl.parts else []
      (s1.owe ps n 1).modStep (fun c =>
        if c.stepN = n then { c with sealDue := none, planned := false, parts := [] } else { c with sealDue := none })

/-- The step controller goes on as far as it can. -/
def State.pumpStep (s : State) : State :=
  let s1 := s.sealDue.stepLosses.stepReadies
  let s2 := if s1.sw.stepCtl.replayAt.isSome ∧ s1.allFenced then s1.discardStep else s1
  s2.payOwed

/-- The oldest record of queue 1, if it has a TYPE; records of an unknown TYPE are dropped (as R195 has it of queue 4). -/
def State.stepTake : Nat → State → Nat → (QRec → Nat → State → State) → State
  | 0, s, _, _ => s
  | k + 1, s, type, go =>
    match s.dequeue 1 with
    | none => s
    | some (r, s1) =>
      let x := ofLe r.data
      let ty := x % 256
      if ty < 0x30 ∨ 0x32 < ty then State.stepTake k s1 type go
      else if ty = type then go r x s
      else s

def State.takeStepRec (s : State) (type : Nat) (go : QRec → Nat → State → State) : State :=
  State.stepTake ((s.squeue 1).recs.length + 1) s type go

/-- The record at the head of queue 1 is gone. -/
def State.popStep (s : State) : State := match s.dequeue 1 with | some (_, s1) => s1 | none => s

/-- STEP_PLAN: the participant table is read from this switch's own range. -/
def State.stepPlan (s : State) : State :=
  s.takeStepRec 0x30 (fun r x s =>
    let n := bitsOf x 63 32
    let table := bitsOf x 127 64
    let count := bitsOf x 143 128
    let own := table / 2 ^ 52 = (s.dev .sw).node
    match if own then s.readOwn r.tenant ((s.dev .sw).step % 256) (packetsOf (table % 2 ^ 52) (16 * count)) [] else (s, some []) with
    | (s1, none) => s1
    | (s1, some bytes) =>
      let parts := (List.range (bytes.length / 16)).map (fun i =>
        let e := ofLe ((bytes.drop (16 * i)).take 16)
        (bitsOf e 63 0, bitsOf e 79 64, bitsOf e 91 80))
      let s2 := s1.popStep.modStep (fun c => { c with
        planned := true, stepN := n, parts := parts, failed := false, readySent := false,
        ended := c.ended.filter (fun e => e.1 == n), fenced := c.fenced.filter (fun e => e.1 == n),
        replayAt := if c.stepN = n then c.replayAt else none })
      let s3 := if s2.sw.stepCtl.ended.any (fun e => decide (4096 ≤ e.2)) then s2.stepFails 1 else s2
      if parts.any (fun p => (s3.dev .sw).dead p.2.2) then s3.stepFails 2 else s3)

/-- STEP_END; a sender that saw an error is kept as its node + 4,096. -/
def State.stepEnd (s : State) : State :=
  s.takeStepRec 0x31 (fun _ x s =>
    let n := bitsOf x 63 32
    let bad := bitOf x 76
    let s1 := s.popStep.modStep (fun c => { c with ended := c.ended ++ [(n, bitsOf x 75 64 + 4096 * b2n bad)] })
    if bad ∧ s1.sw.stepCtl.stepN = n then s1.stepFails 1 else s1)

/-- STEP_FENCED. -/
def State.stepFenced (s : State) : State :=
  s.takeStepRec 0x32 (fun _ x s => s.popStep.modStep (fun c => { c with fenced := c.fenced ++ [(bitsOf x 63 32, bitsOf x 75 64)] }))

/-- REPLAY_FENCE_TIMEOUT (R433 step 3). -/
def State.fenceLate (s : State) : State :=
  match s.sw.stepCtl.replayAt with
  | some t => if t + s.get .sw F.MEM_SEM_CTRL_DEAD_US * 1000 ≤ s.now then s.discardStep else s
  | none => s

/-! ### Adopting an epoch (R428, R429) -/

/-- The entries of an EPOCH decision: ADMIT, and the node. -/
def epochEntries (b : HbBody) : List (Bool × Nat) :=
  (List.range (min 10 (hbBits b 139 136))).map (fun i =>
    let e := bitsOf b.toNat (13 * i + 12) (13 * i)
    (bitOf e 12, e % 4096))

/-- Whether an EPOCH decision admits a node. -/
def admits (b : HbBody) (n : Nat) : Bool := hbAct b == 1 && (epochEntries b).contains (true, n)

def Dev.setDead (v : Dev) (n : Nat) (b : Bool) : Dev :=
  v.setReg (A.TEL_MEMB_DEAD (n / 64)) (setBit (v.reg (A.TEL_MEMB_DEAD (n / 64))) (n % 64) b)

/-- Every outstanding transaction to some nodes completes DEAD_TARGET (R145). -/
def State.retireDead (s : State) (d : Part) (dead : Nat → Bool) : State :=
  ((s.dev d).txns.filter (fun t => dead t.pkt.hdr.dst.toNat)).foldl (fun a t => a.retire d t Code.DEAD_TARGET []) s

/-- DOWN on a port that faces a dead node, at a switch after the decision (R428 step 2, R429). The link goes to DOWN. -/
def State.cutPort (s : State) (d : Part) (p : Nat) (b : HbBody) : State :=
  if s.lnk d p = Lnk.ACTIVE then
    ((match d with | .sw => s.tell d p b | .ep => s).sendDown d p).linkDown d p
  else if s.lnk d p = Lnk.DOWN ∨ s.lnk d p = Lnk.OFF then s
  else s.linkDown d p

/-- Ports that have had a partner, and face one of some nodes. -/
def State.portsTo (s : State) (d : Part) (dead : Nat → Bool) : List Nat :=
  (List.range (linkPorts d)).filter (fun p => (s.port d p).negotiated && dead (s.partner d p))

/-- This device is dead in the epoch: it is FENCED (R429). What it has accepted completes DEAD_TARGET, whether it has been
sent or still waits to be (DEDUCED, log 53). -/
def State.fence (s : State) (d : Part) : State :=
  let s1 := ((s.set d F.TEL_MEMB_STATE_STATE Mb.FENCED).set d F.TEL_FAULT_STATUS_FENCED 1)
  let s2 := match d with | .sw => s1.event 3 0 (s1.dev .sw).node | .ep => s1
  let s3 := s2.retireDead d (fun _ => true)
  (List.range (linkPorts d)).foldl (fun a p =>
    if a.lineUp d p then (a.sendDown d p).linkDown d p else a)
    ((s3.dev d).pends.foldl (fun a p => a.issue d p) s3)

/-- The nodes that an EPOCH decision admits join those known to have been admitted (R425). -/
def Memb.noteEpoch (m : Memb) (b : HbBody) : Memb :=
  let new := ((epochEntries b).filter (fun e => e.1)).map (fun e => e.2)
  if hbAct b ≠ 1 then m
  else { m with joined := if hbEpoch b = 1 then some new else m.joined.map (fun l => (l ++ new).eraseDups) }

/-- What the nodes of an EPOCH decision mean for the records held. -/
def Memb.adopt (m : Memb) (dead admitted : List Nat) : Memb :=
  { m with accusations := m.accusations.filter (fun x => ! dead.contains x.2.1),
           fatals := m.fatals.filter (fun n => ! dead.contains n),
           joins := m.joins.filter (fun n => ! admitted.contains n) }

/-- An EPOCH decision is applied (R428, R429). -/
def State.applyEpoch (s : State) (d : Part) (b : HbBody) : State :=
  let es := epochEntries b
  let v := s.dev d
  let dead := (es.filter (fun e => ! e.1)).map (fun e => e.2)
  let new := dead.filter (fun n => ! v.dead n)
  let s1 := s.modDev d (fun v =>
    ({ (es.foldl (fun (v : Dev) (e : Bool × Nat) => v.setDead e.2 (! e.1)) v) with
        memb := (v.memb.noteEpoch b).adopt dead ((es.filter (fun (e : Bool × Nat) => e.1)).map (fun (e : Bool × Nat) => e.2)) }.set F.TEL_MEMB_STATE_EPOCH (hbEpoch b)).set
          F.TEL_FAULT_STATUS_EPOCH_ADOPTED 1)
  let s2 := if dead.isEmpty then s1 else s1.set d F.TEL_FAULT_STATUS_NODE_DEAD 1
  let s3 := match d with | .sw => (s2.faultIrq .sw).event 2 0 v.node | .ep => s2.faultIrq .ep
  let hit (n : Nat) : Bool := new.contains n
  let ps := s3.portsTo d hit
  let s4 := ps.foldl (fun a p => a.cutPort d p b) (s3.retireDead d hit)
  let s5 := match d with
    | .ep => s4
    | .sw =>
      let c := s4.sw.stepCtl
      let gone := c.parts.any (fun p => hit p.2.2)
      let a := (s4.collDead new).modMemb .sw (fun m => { m with revokeDue := (m.revokeDue ++ ps).eraseDups })
      let a1 := if gone then a.stepFails 2 else a
      -- the coordinator replays the step that a dead switch or participant touched (R431)
      if c.planned ∧ (gone ∨ new.any (fun n => v.stepSwitches.contains n)) then
        a1.modMemb .sw (fun m => m.noteStep Hb.STEP_FAIL v.node c.stepN) else a1
  if dead.contains v.node then s5.fence d else s5

/-! ### Decisions (R423, R432, R433) -/

/-- STEP_COMMIT. -/
def State.applyCommit (s : State) (d : Part) (n : Nat) : State :=
  match d with
  | .ep => s.set .ep F.EP_STEP_STEP ((n + 1) % 2 ^ 32)
  | .sw =>
    (s.modMemb .sw (fun m => { m with
      committed := (n :: m.committed).take 64, admitNext := m.admitNext || (s.coordinates && ! m.joins.isEmpty),
      ready := m.ready.filter (fun x => x.1 != n), failSteps := m.failSteps.filter (fun x => x != n) })).modStep (fun c =>
        { c with sealDue := some n })

/-- STEP_REPLAY (R433). -/
def State.applyReplay (s : State) (d : Part) (n : Nat) : State :=
  let s1 := s.set d F.TEL_FAULT_STATUS_STEP_REPLAY 1
  match d with
  | .ep => s1
  | .sw =>
    let s2 := ((s1.event 6 0 (s1.dev .sw).node).forgetReplayed).modMemb .sw (fun m => { m with
      replayed := if m.replayed.contains n then m.replayed else m.replayed ++ [n] })
    let s3 := s2.modStep (fun c => { c with stepN := n, fenced := [], failed := true, replayAt := some s2.now })
    s3.owe s3.liveParts n 2

/-- STEP_RESTART (R433): what was noted of the step begins again. -/
def State.applyRestart (s : State) (d : Part) (n : Nat) : State :=
  match d with
  | .ep => s
  | .sw =>
    let s1 := (s.modMemb .sw (fun m => { m with
      replayed := m.replayed.filter (fun x => x != n), failSteps := m.failSteps.filter (fun x => x != n),
      ready := m.ready.filter (fun x => x.1 != n), discarded := m.discarded.filter (fun x => x.1 != n) })).modStep (fun c =>
        if c.stepN = n then { c with ended := [], fenced := [], failed := false, readySent := false, replayAt := none } else c)
    s1.owe s1.liveParts n 3

/-- A renewal of the lease is answered by a member switch (R425). -/
def State.applyLease (s : State) (d : Part) (b : HbBody) : State :=
  match d with
  | .ep => s
  | .sw =>
    let me := (s.dev .sw).node
    if ! (s.dev .sw).memberSwitches.contains me then s
    else if hbOrigin b = me then
      s.modMemb .sw (fun m => { m with renewals := m.renewals.map (fun (r : Renewal) =>
        if r.cseq = hbCseq b then { r with acks := r.acks ++ [(me, s.now)] } else r) })
    else s.originate .sw Hb.LEASE_ACK (hbCseq b * 2 ^ 128)

/-- One decision is applied (R423). -/
def State.applyOne (s : State) (d : Part) (b : HbBody) : State :=
  let s1 := ((s.set d F.TEL_MEMB_STATE_CSEQ (hbCseq b)).set d F.TEL_MEMB_STATE_COORD (hbOrigin b)).count d 0xD04 1
  let s2 := s1.modMemb d (fun m => { m with
    applied := (m.applied ++ [b]).drop (m.applied.length - 63), coordAt := s.now,
    renewals := if hbOrigin b = (s.dev d).node then m.renewals else [],
    admitNext := m.admitNext && hbOrigin b == (s.dev d).node })
  match hbAct b with
  | 1 => s2.applyEpoch d b
  | 2 => s2.applyCommit d (hbActStep b)
  | 3 => s2.applyReplay d (hbActStep b)
  | 4 => s2.applyRestart d (hbActStep b)
  | 5 => s2.applyLease d b
  | _ => s2

/-- Decisions that were taken ahead of their turn follow (R423). -/
def State.applyFuture : Nat → State → Part → State
  | 0, s, _ => s
  | k + 1, s, d =>
    let next := (s.cseq d + 1) % 65536
    match (s.memb d).future.find? (fun b => hbCseq b == next) with
    | none => s
    | some b =>
      State.applyFuture k ((s.modMemb d (fun m => { m with future := m.future.filter (fun x => hbCseq x != next) })).applyOne d b) d

/-- The links of a device that becomes a member leave HELD, but for those that face a dead node (R428, R439). -/
def State.releaseLinks (s : State) (d : Part) : State :=
  (List.range (linkPorts d)).foldl (fun a p =>
    if a.held d p ∧ ! a.partnerDead d p then (a.set d (F.LNK_STATUS_HELD p) 0).withdraw d p else a) s

/-- The EPOCH decision that admits this device is its whole state (R439). -/
def State.admitted (s : State) (d : Part) (b : HbBody) : State :=
  let f := match d with | .sw => F.MEM_STEP_STEP | .ep => F.EP_STEP_STEP
  let s1 := ((s.set d F.TEL_MEMB_STATE_STATE Mb.MEMBER).set d f (hbStep b)).modMemb d (fun m => { m with
    applied := [], future := [], joinAt := none, renewals := [] })
  (s1.applyOne d b).releaseLinks d

/-- A DECISION record is applied when its turn has come (R423, R435). A device outside the membership applies none but the one
that admits it, and notes whom the others admit. -/
def State.takeDecision (s : State) (d : Part) (b : HbBody) : State :=
  if s.outside d then
    (if admits b (s.dev d).node then s.admitted d b else s.modMemb d (fun m => m.noteEpoch b))
  else if s.membState d ≠ Mb.MEMBER then s
  else
    let k := (hbCseq b + 65536 - s.cseq d) % 65536
    if k = 1 then State.applyFuture (s.memb d).future.length (s.applyOne d b) d
    else if k = 0 ∨ 32768 ≤ k then s
    else s.modMemb d (fun m =>
      if m.future.any (fun x => hbCseq x == hbCseq b) then m else { m with future := m.future ++ [b] })

/-! ### Taking records (R421, R422) -/

/-- A valid frame has arrived on a port (R421). -/
def State.heard (s : State) (d : Part) (p : Nat) : State := s.modPort d p (fun q => { q with heardAt := s.now })

/-- A HEARTBEAT of the partner that carries the local epoch ends HELD (R82), unless the partner is dead (R428) or this
device is outside the membership (R435, R483). -/
def State.unhold (s : State) (d : Part) (p : Nat) (b : HbBody) : State :=
  if s.held d p ∧ hbOrigin b = s.partner d p ∧ hbEpoch b = s.epoch d ∧ (s.membState d = Mb.MEMBER ∨ s.membState d = Mb.OFF)
      ∧ ! s.partnerDead d p then
    (s.set d (F.LNK_STATUS_HELD p) 0).withdraw d p
  else s

/-- A record of the coordinator has been seen (R425). -/
def State.seenCoord (s : State) (d : Part) (b : HbBody) : State :=
  if hbOrigin b = s.coord d then s.modMemb d (fun m => { m with coordAt := s.now }) else s

/-- OSEQ `a` is newer than `b` (R422). -/
def newerSeq (a b : Nat) : Bool :=
  let x := (a + 65536 - b) % 65536
  decide (1 ≤ x) && decide (x ≤ 32767)

/-- Whether a news record is taken (R422). JOIN and FATAL are taken whatever their number, but not the same record
twice. -/
def State.takes (s : State) (d : Part) (b : HbBody) : Bool :=
  let o := hbOrigin b
  let last := SMap.at none (s.memb d).taken o
  let always := hbKind b == Hb.JOIN || hbKind b == Hb.FATAL
  o != (s.dev d).node && (always || ! (s.dev d).dead o) &&
    match last with
    | none => true
    | some l => if always then hbOseq b != l else newerSeq (hbOseq b) l

/-- A news record arrives on a port: taken, forwarded, and then what its kind means. A device that is fenced, JOINING or STALE takes and
forwards it like any other (R422, R435). -/
def State.takeNews (s : State) (d : Part) (p : Nat) (kind : Nat) (b : HbBody) (go : State → State) : State :=
  if s.lnk d p ≠ Lnk.ACTIVE ∨ hbKind b ≠ kind then s
  else
    let s1 := (s.heard d p).unhold d p b
    if s1.membState d = Mb.OFF ∨ ! s1.takes d b then s1
    else
      go ((((s1.modMemb d (fun m => { m with taken := SMap.put none m.taken (hbOrigin b) (some (hbOseq b)) })).flood d
        (some p) b).count d 0xD03 1).seenCoord d b)

/-- A DECISION record of an ACT. -/
def State.takeAct (s : State) (d : Part) (p act : Nat) (b : HbBody) : State :=
  if hbAct b ≠ act then s else s.takeNews d p Hb.DECISION b (fun s => s.takeDecision d b)

/-- ACCUSE. -/
def State.takeAccuse (s : State) (d : Part) (p : Nat) (b : HbBody) : State :=
  s.takeNews d p Hb.ACCUSE b (fun s =>
    let n := hbBits b 143 132
    let s1 := (s.count d 0xD02 1).modMemb d (fun m =>
      if (s.dev d).dead n then m else m.noteAccuse (hbOrigin b) n (hbBits b 131 128) (bitOf b.toNat 127))
    if n = (s.dev d).node ∧ ! bitOf b.toNat 127 then s1.set d F.TEL_FAULT_STATUS_ACCUSED 1 else s1)

/-- FATAL. -/
def State.takeFatal (s : State) (d : Part) (p : Nat) (b : HbBody) : State :=
  s.takeNews d p Hb.FATAL b (fun s => s.modMemb d (fun m =>
    if (s.dev d).dead (hbOrigin b) ∨ m.fatals.contains (hbOrigin b) then m else { m with fatals := m.fatals ++ [hbOrigin b] }))

def Memb.join (m : Memb) (n : Nat) : Memb := if m.joins.contains n then m else { m with joins := m.joins ++ [n] }

/-- JOIN: held when it reports a passed test (R439). -/
def State.takeJoin (s : State) (d : Part) (p : Nat) (b : HbBody) : State :=
  s.takeNews d p Hb.JOIN b (fun s =>
    if bitOf b.toNat 143 then s.modMemb d (fun m => m.join (hbOrigin b)) else s)

/-- STEP_READY, STEP_FAIL and STEP_DISCARDED. -/
def State.takeStep (s : State) (d : Part) (p kind : Nat) (b : HbBody) : State :=
  s.takeNews d p kind b (fun s => s.modMemb d (fun m => m.noteStep kind (hbOrigin b) (hbStepN b)))

/-- LEASE_ACK: counted for its renewal. -/
def State.takeLeaseAck (s : State) (d : Part) (p : Nat) (b : HbBody) : State :=
  s.takeNews d p Hb.LEASE_ACK b (fun s => s.modMemb d (fun m => { m with renewals := m.renewals.map (fun (r : Renewal) =>
    if r.cseq = hbBits b 143 128 then { r with acks := r.acks ++ [(hbOrigin b, s.now)] } else r) }))

/-- A device turns STALE (R435): its caches are empty and every link is HELD. -/
def State.goStale (s : State) (d : Part) : State :=
  let s1 := (s.set d F.TEL_MEMB_STATE_STATE Mb.STALE).modDev d (fun v =>
    { v.invChans 0 (2 ^ 20) with xcache := [], walks := v.walks.map (fun (w : Walk) => { w with stale := true }),
                                 memb := { v.memb with joinAt := none, joined := none } })
  let s2 := match d with | .ep => s1.flushReadCache | .sw => s1
  (List.range (linkPorts d)).foldl (fun a p =>
    if a.lnk d p = Lnk.ACTIVE ∨ a.recovering d p then (a.set d (F.LNK_STATUS_HELD p) 1).dropQueues d p else a) s2

/-- BEAT (R421, R423, R436): the partner is caught up when it is behind; a partner that lacks a decision no longer kept is
stale, and a device that lacks more decisions than a member partner keeps is stale itself. -/
def State.takeBeat (s : State) (d : Part) (p : Nat) (b : HbBody) : State :=
  if s.lnk d p ≠ Lnk.ACTIVE ∨ hbKind b ≠ Hb.BEAT then s
  else
    let s1 := s.heard d p
    if s1.membState d = Mb.FENCED then s1
    else if s1.membState d = Mb.OFF then s1.unhold d p b
    else
      let s2 := (s1.unhold d p b).seenCoord d b
      if s2.membState d ≠ Mb.MEMBER then s2
      else
        let k := (s2.cseq d + 65536 - hbCseq b) % 65536
        let next := (hbCseq b + 1) % 65536
        if k = 0 then s2.modPort d p (fun q => { q with catchUp := none })
        else if k < 32768 then
          if (s2.port d p).catchUp.isSome then s2
          else if (s2.memb d).applied.any (fun x => hbCseq x == next) then
            s2.modPort d p (fun q => { q with catchUp := some next })
          else s2.set d F.TEL_FAULT_STATUS_STALE_PARTNER 1
        else if 64 < 65536 - k ∧ hbBits b 141 139 = Mb.MEMBER then s2.goStale d
        else s2

/-- DECISION_CATCHUP (R423): the next missing decision goes to a partner, one per HB_US. -/
def State.catchUp (s : State) (d : Part) (p : Nat) : State :=
  let q := s.port d p
  match q.catchUp with
  | none => s
  | some c =>
    if s.lnk d p ≠ Lnk.ACTIVE ∨ s.now < q.catchUpAt + s.get d F.TEL_MEMB_CFG_HB_US * 1000 then s
    else
      match (s.memb d).applied.find? (fun b => hbCseq b == c) with
      | none => s.modPort d p (fun q => { q with catchUp := none })
      | some b => (s.tell d p b).modPort d p (fun q => { q with
          catchUpAt := s.now, catchUp := if c = s.cseq d then none else some ((c + 1) % 65536) })

/-- A BEAT of this device. -/
def State.beatBody (s : State) (d : Part) : HbBody :=
  let v := s.dev d
  hbBody Hb.BEAT v.node 0 (s.epoch d) v.step (s.cseq d)
    ((match d with | .sw => 2 | .ep => 1) * 2 ^ 142 + s.membState d * 2 ^ 139)

/-- BEAT_TIMER (R421): every HB_US a BEAT goes out on each ACTIVE link, HELD or not. -/
def State.beats (s : State) (d : Part) : State :=
  if s.membState d = Mb.OFF then s
  else
    (List.range (linkPorts d)).foldl (fun a p =>
      if a.lnk d p = Lnk.ACTIVE ∧ (a.port d p).beatAt + a.get d F.TEL_MEMB_CFG_HB_US * 1000 ≤ a.now then
        (a.tell d p (a.beatBody d)).modPort d p (fun q => { q with beatAt := a.now })
      else a) s

/-- HEARTBEAT_SILENCE (R421): the partner is accused, once while the accusation stands. -/
def State.partnerSilent (s : State) (d : Part) (p : Nat) : State :=
  let me := (s.dev d).node
  let limit := s.get d F.TEL_MEMB_CFG_HB_MISS * s.get d F.TEL_MEMB_CFG_HB_US * 1000
  if s.lnk d p ≠ Lnk.ACTIVE ∨ s.membState d = Mb.OFF ∨ s.now < (s.port d p).heardAt + limit
      ∨ (s.memb d).accusations.contains (me, s.partner d p, 2) then s
  else (s.count d 0xD00 1).accuse d (s.partner d p) 2

/-! ### The coordinator (R425, R426, R431, R439, R484) -/

/-- The highest CSEQ that a switch holds. -/
def State.topCseq (s : State) : Nat :=
  (s.memb .sw).future.foldl (fun a b => if newerSeq (hbCseq b) a then hbCseq b else a) (s.cseq .sw)

/-- A decision of this switch: flooded, and applied here. -/
def State.decree (s : State) (cseq act epoch low : Nat) : State :=
  let v := s.dev .sw
  let b := hbBody Hb.DECISION v.node v.memb.oseq epoch v.step cseq (act * 2 ^ 140 + low)
  (((s.flood .sw none b).modMemb .sw (fun m => { m with oseq := (m.oseq + 1) % 65536 }))).takeDecision .sw b

/-- COUNT and the entries of an EPOCH decision, ADMIT entries first. -/
def epochLow (admitted dead : List Nat) : Nat :=
  let es := admitted.map (fun n => 4096 + n) ++ dead
  es.length * 2 ^ 136 + ((List.range es.length).map (fun i => es.getD i 0 * 2 ^ (13 * i))).sum

def State.decreeEpoch (s : State) (admitted dead : List Nat) : State :=
  s.decree ((s.cseq .sw + 1) % 65536) 1 ((s.epoch .sw + 1) % 2 ^ 32) (epochLow admitted dead)

/-- A decision about a step. -/
def State.decreeStep (s : State) (act n : Nat) : State :=
  s.decree ((s.cseq .sw + 1) % 65536) act (s.epoch .sw) (n * 2 ^ 108)

/-- Nodes that the coordinator declares dead (R426). -/
def State.condemned (s : State) : List Nat :=
  let v := s.dev .sw
  let m := v.memb
  let accused := (m.accusations.map (fun x => x.2.1)).eraseDups.filter (fun n =>
    decide (v.get F.TEL_MEMB_CFG_ACCUSE_MIN ≤ ((m.accusations.filter (fun x => x.2.1 == n)).map (fun x => x.1)).eraseDups.length))
  (accused ++ m.fatals).eraseDups.filter (fun n => ! v.dead n)

/-- EPOCH decisions that take nodes in, ten at a time. -/
def State.admitAll : Nat → State → List Nat → State
  | 0, s, _ => s
  | k + 1, s, l => match l with
    | [] => s
    | _ => State.admitAll k (s.decreeEpoch (l.take 10) []) (l.drop 10)

/-- EPOCH decisions that declare nodes dead, ten at a time. -/
def State.condemnAll : Nat → State → List Nat → State
  | 0, s, _ => s
  | k + 1, s, l => match l with
    | [] => s
    | _ => State.condemnAll k (s.decreeEpoch [] (l.take 10)) (l.drop 10)

/-- Decisions about steps (R431): the first of COMMIT and REPLAY stands. -/
def State.decideSteps (s : State) : State :=
  let m := s.memb .sw
  let sw := (s.dev .sw).memberSwitches
  let openStep (m : Memb) (n : Nat) : Bool := ! m.committed.contains n && ! m.replayed.contains n
  let s1 := m.failSteps.foldl (fun a n => if openStep (a.memb .sw) n then a.decreeStep 3 n else a) s
  let s2 := ((m.ready.map (fun x => x.1)).eraseDups).foldl (fun a n =>
    if openStep (a.memb .sw) n ∧ sw.all (fun w => m.ready.contains (n, w)) then a.decreeStep 2 n else a) s1
  m.replayed.foldl (fun a n => if sw.all (fun w => m.discarded.contains (n, w)) then a.decreeStep 4 n else a) s2

/-- The coordinator admits those whose JOIN it holds (R439): once the STEP_COMMIT that they waited for has been applied, its seal
too, so that the record carries the next step's number (DEDUCED, log 53). -/
def State.pumpAdmit (s : State) : State :=
  if s.coordinates ∧ (s.memb .sw).admitNext ∧ s.sw.stepCtl.sealDue = none ∧ s.leaseHeld then
    let js := (s.memb .sw).joins
    (State.admitAll js.length s js).modMemb .sw (fun m => { m with admitNext := false })
  else s

/-- What the coordinator decides while it holds the lease. -/
def State.pumpCoord (s : State) : State :=
  if ! s.coordinates then s
  else
    let dead := s.condemned
    let m := s.memb .sw
    if dead.isEmpty ∧ m.failSteps.isEmpty ∧ m.ready.isEmpty ∧ m.replayed.isEmpty then s
    else if ! s.leaseHeld then s
    else (State.condemnAll dead.length s dead).decideSteps

/-- The membership service revokes the Strainer entries of ports that face dead nodes (R428 step 3). -/
def State.revoke (s : State) : State :=
  match (s.memb .sw).revokeDue with
  | [] => s
  | ps => match (s.dev .sw).potRevoke ps with
    | none => s
    | some v => (s.setDev .sw v).modMemb .sw (fun m => { m with revokeDue := [] })

/-- Membership and the steps go on as far as they can. -/
def State.pumpMemb (s : State) : State := (s.pumpStep.pumpAdmit.pumpCoord.pumpStep.pumpAdmit).revoke

/-- A renewal of the lease (R425). -/
def State.renew (s : State) : State :=
  let c := (s.cseq .sw + 1) % 65536
  let s1 := s.modMemb .sw (fun m => { m with renewAt := s.now, renewals := (⟨c, s.now, []⟩ :: m.renewals).take 8 })
  s1.decree c 5 (s.epoch .sw) 0

/-- LEASE_RENEW_TIMER (R425): a coordinator that has renewed before and holds no lease any more stops, and LEASE_LOST is
set. Its first renewals have LEASE_US to be acknowledged. -/
def State.leaseTimer (s : State) : State :=
  let m := s.memb .sw
  if ! s.coordinates ∨ (m.renewals ≠ [] ∧ s.now < m.renewAt + s.leaseNs / 4) then s
  else
    let young := m.renewals.length < 4 && m.renewals.all (fun r => decide (s.now < r.at_ + s.leaseNs))
    if s.leaseHeld ∨ young then s.renew else s.set .sw F.TEL_FAULT_STATUS_LEASE_LOST 1

/-- COORDINATOR_TAKEOVER (R425): the next candidate declares the old coordinator dead. -/
def State.takeover (s : State) : State :=
  let v := s.dev .sw
  let old := s.coord .sw
  let next := v.candidates.find? (fun n => n != old && v.member n)
  if s.membState .sw ≠ Mb.MEMBER ∨ old = v.node ∨ next ≠ some v.node ∨ s.now < v.memb.coordAt + 2 * s.leaseNs then s
  else
    let c := (s.topCseq + 1) % 65536
    -- decisions held beyond a gap can no longer be followed in order
    ((s.modMemb .sw (fun m => { m with future := [] })).set .sw F.TEL_MEMB_STATE_CSEQ s.topCseq).decree c 1
      ((s.epoch .sw + 1) % 2 ^ 32) (epochLow [] [old])

/-- FORM (R484). -/
def State.form (s : State) (d : Part) : State :=
  match d with
  | .ep => s
  | .sw =>
    let v := s.dev .sw
    let m := v.memb
    let sw := v.stepSwitches
    let js := if m.formed then m.joins else v.node :: m.joins.filter (fun n => n != v.node)
    let held := (v.node :: m.joins).eraseDups
    if v.get F.TEL_MEMB_COORD_CAND0 ≠ v.node ∨ m.committed ≠ [] ∨ (s.epoch .sw ≠ 0 ∧ ! m.formed)
        ∨ ! (s.outside .sw || s.coordinates) ∨ ¬ (sw.length < 2 * (held.filter (fun n => sw.contains n)).length ∨ m.formed) then s
    else
      let s1 := State.admitAll js.length s js
      if m.formed then s1
      else s1.modMemb .sw (fun m => { m with
        formed := true, renewAt := s.now, renewals := [⟨s1.cseq .sw, s.now, js.map (fun n => (n, s.now))⟩] })

/-- ADMIT (R439): at the coordinator, every JOIN held; elsewhere it is ignored. -/
def State.admitNow (s : State) (d : Part) : State :=
  match d with
  | .ep => s
  | .sw => if s.coordinates ∧ ! (s.memb .sw).joins.isEmpty then s.modMemb .sw (fun m => { m with admitNext := true }) else s

/-! ### Repair (R437 to R439) -/

/-- TEST in TEL_REPAIR: every ACTIVE port goes through one recovery (R483). The JOINs of an earlier test end (R439). -/
def State.repairTest (s : State) (d : Part) : State :=
  if s.get d F.TEL_REPAIR_TEST_STATE = 1 then s
  else
    (List.range (linkPorts d)).foldl (fun a p => a.startRecovery d p)
      (((s.set d F.TEL_REPAIR_TEST_STATE 1).set d F.TEL_REPAIR_FAILED 0).modMemb d (fun m => { m with
        joinAt := none, joins := m.joins.filter (fun n => n != (s.dev d).node) }))

/-- The test is over: ports with failed lanes, failed physical cores and clusters, and the other units that failed (bit 0
SRAM, bit 1 LPDDR5X, bit 2 island). A port's one failed lane, a core and a cluster are made good by spares where there are
any. -/
def State.repairDone (s : State) (d : Part) (lanes : List (Nat × Nat)) (cores clusters : List Nat) (bad : Nat) : State :=
  if s.get d F.TEL_REPAIR_TEST_STATE ≠ 1 then s
  else
    let badLanes := lanes.any (fun x => lanes.any (fun y => x.1 == y.1 && x.2 != y.2))
    let s1 := match d with
      | .ep => s
      | .sw =>
        let a := cores.foldl (fun (a : State) p => a.failCore p) s
        { a with sw := { a.sw with badClusters := (a.sw.badClusters ++ clusters).eraseDups } }
    let v := s1.dev d
    let (noCore, noCluster) := match d with
      | .ep => (false, false)
      | .sw =>
        (decide (s1.freeSpares.length < ((List.range 64).filter (fun n => s1.sw.badCores.contains (s1.corePhys n))).length),
         let used := (List.range 16).map (fun i => v.cluster i)
         let spares := [16, 17].filter (fun p => ! used.contains p && ! s1.sw.badClusters.contains p)
         decide (spares.length < (used.filter (fun p => s1.sw.badClusters.contains p)).length))
    let failed := b2n badLanes + 2 * b2n noCore + 4 * b2n noCluster + 8 * (bad % 8)
    (s1.set d F.TEL_REPAIR_TEST_STATE (if failed = 0 then 2 else 3)).set d F.TEL_REPAIR_FAILED failed

/-- A JOIN is flooded. -/
def State.sendJoin (s : State) (d : Part) : State :=
  (s.originate d Hb.JOIN (2 ^ 143)).modMemb d (fun m => { m.join (s.dev d).node with joinAt := some s.now })

/-- JOIN in TEL_REPAIR. -/
def State.repairJoin (s : State) (d : Part) : State :=
  if s.get d F.TEL_REPAIR_TEST_STATE = 2 ∧ s.outside d then s.sendJoin d else s

/-- JOIN_TIMER: every ms until the device is admitted. -/
def State.joinTimer (s : State) (d : Part) : State :=
  match (s.memb d).joinAt with
  | some t => if s.outside d ∧ t + 1000000 ≤ s.now then s.sendJoin d else s
  | none => s

end Sys2Proof.Machine
end

