-- ==== Sys2Proof/Machine/LinkRx.lean ====
section
/-! DEFINITION. What a link port does with what it receives (R42 to R65): lanes, markers, frames, and CONTROL frames. -/

namespace Sys2Proof.Machine

/-! ### Lanes (R48, R49, R74) -/

/-- The physical lane on which logical lane `n` arrives: the spare where the lane of its own number has failed (R76). -/
def State.physLane (s : State) (d : Part) (p n : Nat) : Nat := if s.get d (F.LNK_STATUS_FAILED_RX_LANE p) = n then 16 else n

/-- Lane errors of a frame are counted, lane by lane, and set no CRC_ERR (DESIGN CHOICE, log 42); four on one physical lane in 16 frames start a recovery (R74). -/
def State.noteLanes (s : State) (d : Part) (p : Nat) (bad : List Nat) : State :=
  let phys := bad.map (s.physLane d p)
  let s1 := if bad.isEmpty then s else
    phys.foldl (fun a l => (a.countLink d p 6 1).countLink d p (15 + l) 1) (s.lnkErr d p F.LNK_ERR_STUFF_VIOL)
  let s2 := s1.modPort d p (fun q => { q with laneErrs := (phys :: q.laneErrs).take 16 })
  if (List.range 17).any (fun l => decide (4 ≤ ((s2.port d p).laneErrs.filter (fun e => e.contains l)).length)) then
    s2.startRecovery d p
  else s2

/-- A frame that fails draws a NACK while the link is in service (R60); a port that is not ACTIVE yet lets it go (DESIGN
CHOICE, log 42). -/
def State.rxBad (s : State) (d : Part) (p : Nat) : State := if s.lnk d p = Lnk.ACTIVE then s.frameBad d p else s

/-- A marker arrives on every data lane (R48): each lane's descrambler takes its seed. Anything else on a lane is a lane
error (R49), and that lane's descrambler stays as it is (R44). A good marker is no frame of R74's sixteen, and a faulty one
counts as one (DESIGN CHOICE, log 42). -/
def State.takeMarker (s : State) (d : Part) (p : Nat) (lanes : List (List Sym)) : State :=
  let q := s.port d p
  let bad := (List.range 16).filter (fun n => ! isMarker (runOf q.rxRun n) (lanes.getD n []))
  if bad.isEmpty then s.modPort d p (fun q => { q with rxScr := [], rxRun := List.replicate 16 markerRun })
  else
    ((s.modPort d p (fun q => { q with
      rxScr := (List.range 16).map (fun n => if bad.contains n then scrOf q.rxScr n else laneSeed n)
      rxRun := (List.range 16).map (fun n => if bad.contains n then runOf q.rxRun n else markerRun) })).noteLanes d p bad).rxBad d p

/-! ### DATA (R59, R60, R107 to R111) -/

/-- A packet of an accepted frame takes its cells at its ingress pair, or is dropped (R110, R111). -/
def State.takePacket (s : State) (d : Part) (p : Nat) (pkt : Packet) : State :=
  let c := pkt.hdr.cls
  let n := cellsOf pkt.hdr
  let gone (a : State) : State := a.modDev d (fun v => v.countFreed s.now p c n)
  match (s.dev d).charge p c n with
  | .ok r sh =>
    s.modDev d (fun v => (v.takeCells p c r sh).modPort p (fun q => { q with
      arrived := q.arrived ++ [⟨pkt, 0, r, sh, s.now⟩] }))
  | .classOff => gone (s.classOff d)
  | .creditViol => gone (s.coreDrop d F.SWC_EVENT_STATUS_CREDIT_VIOL 1)
  | .tail => gone (s.coreDrop d F.SWC_EVENT_STATUS_TAIL 2)

/-- A DATA frame with the expected SEQ is accepted. -/
def State.acceptData (s : State) (d : Part) (p : Nat) (body : Nat) (pkts : List Packet) : State :=
  let s1 := s.modPort d p (fun q => { q with
    rxSeq := q.rxSeq + 1, nackAt := none, ackDue := some (q.ackDue.getD s.now) })
  pkts.foldl (fun a k => a.takePacket d p k) ((s1.countLink d p 1 1).countLink d p 3 body)

/-- A good DATA frame (R59, R60). Each frame of a replay may be its last, and extends a grace (R509). -/
def State.takeData (s0 : State) (d : Part) (p : Nat) (h : FrameHdr) (body : Nat) (pkts : List Packet) : State :=
  let q := s0.port d p
  let s := if h.replay = 1 then s0.extendGrace d p q.nackAt.isSome else s0
  let k := (h.seq - q.rxSeq).toNat
  if k = 0 then (if q.nackAt.isSome ∧ h.replay ≠ 1 then s else s.acceptData d p body pkts)
  else if 32768 ≤ k then s.modPort d p (fun q => { q with ackDue := some (q.ackDue.getD s.now) })
  else s.frameBad d p

/-- A credit update in a DATA header (R64, R112). -/
def State.takePiggyback (s : State) (d : Part) (p : Nat) (h : FrameHdr) : State :=
  let c := h.crdClass.toNat
  if h.crdValid = 1 ∧ s.get d (F.LNK_STATUS_VER_RUN p) = 0x20 then
    s.modPort d p (fun q => { q with
      credit := listMod q.credit c (fun x => match x with | some _ => some h.crdCount.toNat | none => none) })
  else s

/-! ### CONTROL (Table 3.3) -/

/-- A NACK: what it acknowledges is free, and the rest is replayed (R61). -/
def State.takeNack (s : State) (d : Part) (p : Nat) (ack : BitVec 16) : State :=
  if s.lnk d p = Lnk.ACTIVE then (s.takeAck d p ack).replayFrom d p else s

/-- NAP_REQ (R68). One that crosses this port's own is its acknowledgement; a port whose TARGET has become ACTIVE_HELD
since answers NAP_NAK as well (R67). -/
def State.takeNapReq (s : State) (d : Part) (p : Nat) : State :=
  let q := s.port d p
  if s.lnk d p ≠ Lnk.ACTIVE then s
  else if q.napAt.isSome then
    (if s.get d (F.LNK_CTRL_TARGET p) = 0 then s.controlNow d p Ctl.NAP_NAK 0 else s).enterDeep d p
  else if s.mayDeep d p ∧ ! q.wakeHeld ∧ q.replay.isEmpty ∧ (s.dev d).egressEmpty p then
    (s.controlNow d p Ctl.NAP_ACK 0).enterDeep d p
  else s.sendControl d p Ctl.NAP_NAK 0

/-- NAP_ACK. -/
def State.takeNapAck (s : State) (d : Part) (p : Nat) : State :=
  if s.lnk d p = Lnk.ACTIVE ∧ (s.port d p).napAt.isSome then s.enterDeep d p else s

/-- NAP_NAK. -/
def State.takeNapNak (s : State) (d : Part) (p : Nat) : State :=
  if s.lnk d p = Lnk.ACTIVE ∧ (s.port d p).napAt.isSome then s.napRefused d p else s

/-- DOWN (R83, R84): the partner disables the link. -/
def State.takeDown (s : State) (d : Part) (p : Nat) : State :=
  if s.lnk d p = Lnk.ACTIVE ∨ s.recovering d p then s.linkDown d p
  else match (s.port d p).phase with
    | none => s
    | some .detect => s
    | some _ => s.trainFail d p 9

/-- A HEARTBEAT, by its KIND and ACT (R420). -/
def State.takeHeartbeat (s : State) (d : Part) (p : Nat) (b : HbBody) : State :=
  match hbKind b with
  | 0 => s.takeBeat d p b
  | 1 => s.takeAccuse d p b
  | 2 => s.takeFatal d p b
  | 3 => s.takeJoin d p b
  | 4 => s.takeStep d p Hb.STEP_READY b
  | 5 => s.takeStep d p Hb.STEP_FAIL b
  | 6 => s.takeStep d p Hb.STEP_DISCARDED b
  | 7 => s.takeLeaseAck d p b
  | 8 => s.takeAct d p (hbAct b) b
  | _ => s

/-- A good CONTROL frame. -/
def State.takeControl (s : State) (d : Part) (p : Nat) (h : FrameHdr) (body : BitVec 256) : State :=
  match h.subtype.toNat with
  | 2 => s.takeNack d p h.ackSeq
  | 3 => s.takeCredit d p body
  | 4 => s.takeHeartbeat d p body
  | 5 => s.takeTs d p (tsOf body)
  | 6 => s.takeNapReq d p
  | 7 => s.takeNapAck d p
  | 8 => s.takeNapNak d p
  | 9 => s.takeDown d p
  | _ => s

/-! ### Frames (R51 to R60) -/

/-- A good frame: it was heard, its acknowledgement is taken, in service or in the NEGOTIATE of a recovery (R74), and then
what its TYPE means. DATA that comes before this end is ACTIVE is let go (DESIGN CHOICE, log 42). -/
def State.takeFrame (s : State) (d : Part) (p : Nat) (f : Frame) (pkts : List Packet) : State :=
  let h := f.hdr
  let s1 := s.heard d p
  let s2 := if h.ackValid = 1 ∧ (s1.lnk d p = Lnk.ACTIVE ∨ s1.recovering d p) then s1.takeAck d p h.ackSeq else s1
  match h.type.toNat with
  | 1 => if s2.lnk d p = Lnk.ACTIVE then (s2.takePiggyback d p h).takeData d p h f.body.length pkts else s2
  | 2 => s2.takeControl d p h (BitVec.ofNat 256 (ofLe f.body))
  | _ => s2

/-- The bytes of a frame are checked (R59, R60, R87). A header error draws a NACK whatever the frame's TYPE (DESIGN CHOICE,
log 42). -/
def State.rxFrame (s : State) (d : Part) (p : Nat) (bs : List Byte) : State :=
  match checkFrame bs with
  | .headerErr => ((s.lnkErr d p F.LNK_ERR_HCRC_ERR).countLink d p 5 1).rxBad d p
  | .crcErr h =>
    let s1 := (s.lnkErr d p F.LNK_ERR_CRC_ERR).countLink d p 4 1
    if h.type = 2 then s1 else s1.rxBad d p
  | .good f pkts => s.takeFrame d p f pkts

/-- The receiver takes frames: the link is up, or its lanes are aligned and a partner may be ahead of it (log 31). -/
def State.hears (s : State) (d : Part) (p : Nat) : Bool :=
  s.lineUp d p || (s.port d p).phase == some .deskew || (s.port d p).phase == some .laneTest

/-- The symbols of a frame arrive on the sixteen logical lanes. The descramblers run on also while the line carries no
frames for this port yet (R44). -/
def State.rxLanes (s : State) (d : Part) (p : Nat) (lanes : List (List Sym)) : State :=
  let q := s.port d p
  let ins := (List.range 16).map (fun n => recvLane (scrOf q.rxScr n) (runOf q.rxRun n) (lanes.getD n []))
  let bad := (List.range 16).filter (fun n => match ins[n]? with | some i => ! i.ok | none => true)
  let ran (s : State) : State := s.modPort d p (fun q => { q with
    rxScr := ins.map (fun (i : LaneIn) => i.scr), rxRun := ins.map (fun (i : LaneIn) => i.run) })
  let s1 := ran (s.noteLanes d p bad)
  -- PRBS31: the checker locks to it, with no marker (R45)
  let locks : Bool := ((s.port d p).phase == some .equalise || (s.port d p).phase == some .laneTest) &&
    (match checkFrame (joinLanes (ins.map (fun i => i.bytes))) with | .good _ _ => false | _ => true)
  if locks then (ran s).modPort d p (fun q => { q with rxScr := ins.map (fun (i : LaneIn) => i.lock) })
  else if ! s.hears d p then ran s
  else if bad.isEmpty then s1.rxFrame d p (joinLanes (ins.map (fun i => i.bytes)))
  else s1.rxBad d p

/-! ### Deadlines (R59 to R65, R509) -/

/-- A CONTROL ACK, when no header has carried the acknowledgement within 100 ns (R59). -/
def State.ackLate (s : State) (d : Part) (p : Nat) : State :=
  match (s.port d p).ackDue with
  | some t => if s.lnk d p = Lnk.ACTIVE ∧ t + 100 ≤ s.now then s.sendControl d p Ctl.ACK 0 else s
  | none => s

/-- The NACK is repeated (R60). -/
def State.nackAgain (s : State) (d : Part) (p : Nat) : State :=
  match (s.port d p).nackAt with
  | some t =>
    if s.lnk d p = Lnk.ACTIVE ∧ t + 2000 ≤ s.now then
      ((s.sendControl d p Ctl.NACK 0).countLink d p 7 1).modPort d p (fun q => { q with nackAt := some s.now })
    else s
  | none => s

/-- No progress for 4 µs while frames are held (R61, R62). -/
def State.noProgress (s : State) (d : Part) (p : Nat) : State :=
  let q := s.port d p
  if s.lnk d p = Lnk.ACTIVE ∧ ! q.replay.isEmpty ∧ q.progressAt + 4000 ≤ s.now then s.replayFrom d p else s

/-- A CREDIT frame at least every 2 µs while some class is credit-controlled (R64). -/
def State.creditTimer (s : State) (d : Part) (p : Nat) : State :=
  if s.lnk d p = Lnk.ACTIVE ∧ (s.port d p).creditAt + 2000 ≤ s.now ∧ (List.range 8).any (fun c => (s.dev d).mode p c == 1) then
    s.sendCredit d p
  else s

/-- A credit update that no DATA header has carried within 250 ns (R112). -/
def State.creditLate (s : State) (d : Part) (p : Nat) : State :=
  if s.lnk d p = Lnk.ACTIVE ∧ (s.port d p).creditOwed.any (fun o => match o with | some t => decide (t + 250 ≤ s.now) | none => false) then
    s.sendCredit d p
  else s

/-- The CREDIT frame that a Pour calls for (R65). -/
def State.pourCredit (s : State) (d : Part) (p : Nat) : State :=
  if s.lnk d p = Lnk.ACTIVE ∧ ! (s.port d p).pourOwed.isEmpty then s.sendCredit d p else s

/-- The grace of a class ends (R509), not while a replay or a recovery is under way. -/
def State.graceEnd (s : State) (d : Part) (p c : Nat) : State :=
  let q := s.port d p
  if q.nackAt.isSome ∨ s.recovering d p then s
  else s.modPort d p (fun q => { q with
    grace := q.grace.filter (fun g => ! (g.cls == c && (match g.endAt with | some e => decide (e ≤ s.now) | none => false))) })

/-- No reply to a NAP_REQ: the partner replies within 1 µs, and the request and the reply cross the link (R68; DEDUCED, log
20). -/
def State.napLate (s : State) (d : Part) (p : Nat) : State :=
  match (s.port d p).napAt with
  | some t => if t + 1000 + s.rtt d p ≤ s.now then s.napRefused d p else s
  | none => s

/-- A wake beacon (R69, R415). -/
def State.takeBeacon (s : State) (d : Part) (p : Nat) : State :=
  if s.lnk d p = Lnk.DEEP then (s.startWake d p).phaseDone d p [] []
  else if s.lnk d p = Lnk.WAKING ∧ (s.port d p).phase = some .detect then s.phaseDone d p [] []
  else if s.lnk d p = Lnk.DEEP_ENTRY then s.modPort d p (fun q => { q with wakeHeld := true })
  else s

/-- The forwarded clock is lost (R415). -/
def State.clockLost (s : State) (d : Part) (p : Nat) : State :=
  if s.lnk d p = Lnk.ACTIVE ∨ s.recovering d p then s.linkDown d p else s

/-- A DOWN link retries cold training every 10 ms while ENABLE is 1 (R71, R75). -/
def State.retryTraining (s : State) (d : Part) (p : Nat) : State :=
  if s.lnk d p = Lnk.DOWN ∧ s.get d (F.LNK_CTRL_ENABLE p) = 1 ∧ (s.port d p).attemptAt + 10000000 ≤ s.now
      ∧ ! (s.dev d).boot.fatal then s.startTraining d p
  else s

/-- An IDLE frame goes out when there is nothing else to send (R55). -/
def State.sendIdle (s : State) (d : Part) (p : Nat) : State :=
  if s.lineUp d p ∧ (s.lnk d p ≠ Lnk.ACTIVE ∨ s.held d p ∨ (State.pack d p 1 s [] 0).2.isEmpty) then s.txIdle d p else s

end Sys2Proof.Machine
end

