-- ==== Sys2Proof/Machine/CaddyFlash.lean ====
section
/-! DEFINITION. Caddy (R295 to R302, R512): programming the write buffer, promotions, garbage collection, wear levelling,
and refresh. -/

namespace Sys2Proof.Machine

/-! ### Geometry (R295, R297) -/

/-- Stripes of a superblock: PAGES × PAGE_CW. -/
def State.sbStripes (s : State) : Nat := s.get .sw F.CDY_GEOM_PAGES * s.get .sw F.CDY_GEOM_PAGE_CW

def Caddy.sb (c : Caddy) (n : Nat) : SuperBlk := SMap.at SuperBlk.fresh c.sbs n

def Caddy.modSb (c : Caddy) (n : Nat) (f : SuperBlk → SuperBlk) : Caddy :=
  { c with sbs := SMap.put SuperBlk.fresh c.sbs n (f (c.sb n)) }

def State.caddy (s : State) : Caddy := s.tiers.caddy

def Caddy.stripe (c : Caddy) (n : Nat) : Option Stripe := SMap.at none c.stripes n

/-- What the flash keeps when Caddy is off or the power was: erase and read counts, blocks out of use and slots filled; every
stripe in them is stale (R299, R302, R465, R513). -/
def Caddy.stale (c : Caddy) : Caddy :=
  { Caddy.initial with
    total := c.total, seq := c.seq, retired := c.retired
    sbs := SMap.map' (fun (b : SuperBlk) =>
      { SuperBlk.fresh with erases := b.erases, reads := b.reads, dropped := b.dropped, filled := b.filled }) SuperBlk.fresh c.sbs }

/-- Valid stripes of a superblock. -/
def State.validIn (s : State) (sb : Nat) : List Nat :=
  (s.caddy.stripes.filter (fun e => e.1 / max 1 s.sbStripes == sb && (match e.2 with | some x => x.valid | none => false))).map
    (fun e => e.1)

/-- The superblock to which a wear move takes stripes. -/
def Caddy.wearTo (c : Caddy) : Option Nat := c.wear.map (fun w => w.1)

/-- A superblock is free: erased, in use, and neither the open one nor a wear move's. -/
def Caddy.isFree (c : Caddy) (n : Nat) : Bool :=
  decide (n < c.total) && (c.sb n).filled == 0 && ! (c.sb n).dropped && c.open_ != some n && ! c.rewriting.contains n
    && c.wearTo != some n

/-- Superblocks that are not free, of those listed. -/
def Caddy.freeCount (c : Caddy) : Nat :=
  let taken := (c.sbs.filter (fun e => decide (e.1 < c.total) && ! c.isFree e.1)).map (fun e => e.1)
  let opened := ([c.open_, c.wearTo].filterMap id).filter (fun n => ! taken.contains n)
  c.total - (taken ++ opened).length

/-- Superblocks built from good blocks. -/
def Caddy.usable (c : Caddy) : Nat := c.total - (c.sbs.filter (fun e => decide (e.1 < c.total) && e.2.dropped)).length

/-- CDY_CAP and CAPACITY_LOW follow the superblocks while Caddy is READY (R297, R299); with STATE OFF they read zero (R513). -/
def State.capacity (s : State) : State :=
  if s.get .sw F.CDY_STATUS_STATE ≠ 2 then s else
  let c := s.caddy
  let cap := c.usable * s.sbStripes * (100 - s.get .sw F.CDY_CFG_OP_PERCENT) / 100
  let s1 := (s.set .sw F.CDY_CAP_LOGICAL_TILES cap).set .sw F.CDY_CAP_FREE_SB c.freeCount
  let quotas := ((List.range 64).map (fun t => s.get .sw (F.CDY_QUOTA_A_TILES t))).sum
  if cap < quotas then s1.set .sw F.CDY_STATUS_CAPACITY_LOW 1 else s1

/-- CADDY_READY (R295, R297, R481): parameter pages and system areas have been read. `unbuilt` are the superblocks for which a
channel has no good block: they count in no total. -/
def State.caddyReady (s : State) (geom : Nat) (unbuilt : List Nat) (ok : Bool) : State :=
  if s.get .sw F.CDY_CFG_ENABLE = 0 ∨ s.get .sw F.CDY_STATUS_STATE ≠ 1 then s
  else if ! ok ∨ bitsOf geom 23 16 < 4 then s.set .sw F.CDY_STATUS_STATE 0
  else
    let s1 := (s.modDev .sw (fun v => v.setReg A.CDY_GEOM geom)).set .sw F.CDY_STATUS_STATE 2
    let total := bitsOf geom 63 60 * bitsOf geom 59 56 * bitsOf geom 55 36
    (s1.modCaddy (fun c => unbuilt.foldl (fun c n => if n < total then c.modSb n (fun b => { b with dropped := true }) else c)
      { c with total := total })).capacity

/-! ### Programming (R298, R299) -/

/-- A free superblock whose most-worn block has the lowest count; which of several is not specified (free, log 1). Among one
more candidate than the superblocks that are not free, one is free. -/
def State.nextSb (s : State) : Option Nat :=
  let c := s.caddy
  let cands := ((List.range (min c.total (c.sbs.length + c.rewriting.length + 3))).map (fun k => (Config.choice s.fresh + k) % max 1 c.total)).filter
    (fun n => c.isFree n)
  let least := cands.foldl (fun m n => min m (c.sb n).worn) ((c.sb (cands.headD 0)).worn)
  cands.find? (fun n => (c.sb n).worn == least)

/-- The storage key of a tenant (R395): HKDF of its K_t. -/
def State.storeKey (s : State) (tenant : Nat) : Nat := storageKey (SMap.at none (s.dev .sw).isl.masters tenant)

/-- The tweak of a codeword (R396). -/
def xtsTweak (tile i seq : Nat) : Nat := (tile * 2 ^ 36 + i * 2 ^ 32 + seq % 2 ^ 32) % 2 ^ 128

/-- The 16 codewords of a tile's bytes, encrypted (R296, R396). -/
def codewords (key tile seq : Nat) (src : Memory) (a : Nat) : List (BitVec 32768) :=
  (List.range 16).map (fun i =>
    Config.xts.enc key (xtsTweak tile i seq) (BitVec.ofNat 32768 (Memory.num src (a + 4096 * i) 4096)))

/-- The bytes of a stripe's tile, decrypted. -/
def Stripe.plain (x : Stripe) (key : Nat) : List Byte :=
  x.words.zipIdx.flatMap (fun e => leBytes 4096 (Config.xts.dec key (xtsTweak x.tile e.2 x.seq) e.1).toNat)

/-- A tile's bytes in a memory become those of a stripe. -/
def Stripe.putTile (x : Stripe) (key : Nat) (m : Memory) : Memory := Memory.setBytes m (x.tile * tileBytes) (x.plain key)

/-- Stripe `n` is written for a tile from a memory, under the tenant's storage key. -/
def State.putStripe (s : State) (n t : Nat) (src : Memory) (a : Nat) : State :=
  let key := s.storeKey (s.tile t).tenant
  s.modCaddy (fun c => { c with
    seq := c.seq + 1
    stripes := SMap.put none c.stripes n (some ⟨t, c.seq + 1, true, codewords key t (c.seq + 1) src a⟩) })

/-- A stripe is read: its superblock's blocks count it, and one whose codeword needed a retry is due for a refresh (R300). -/
def State.readStripe (s : State) (n : Nat) (retry : Bool) : State :=
  let s1 := (s.count .sw 0xC40 16).modCaddy (fun c => c.modSb (n / max 1 s.sbStripes) (fun b =>
    { b with reads := b.reads + 1, retried := b.retried || retry }))
  if retry then (s1.set .sw F.CDY_STATUS_RETRY_READ 1).count .sw 0xC44 1 else s1

/-- A codeword of a tile's backing stripe has failed every retry (R301): the tile is LOST, but for one whose shadow the
stripe is, whose discard tells (R306). -/
def State.stripeLost (s : State) (t : Nat) : State :=
  let s1 := ((s.modTile t (fun y => { y with stripeBad := true })).set .sw F.CDY_STATUS_LOST 1).count .sw 0xC47 1
  if (s.tile t).shadow ∧ (s.tile t).shadowLoc = 0xFFFFFFFF then s1 else s1.loseTile t

/-- One slot of a page is programmed as stripe `n`. `lost` says that the stripe it rewrites could not be read. -/
def State.programSlot (s : State) (n : Nat) (b : BufSlot) (lost retry : Bool) : State :=
  match b with
  | .pad => s
  | .tile t wb =>
    match (if wb then s.wbOf t else s.moveOf t) with
    | some m =>
      if m.stripe.isNone ∧ (m.kind = .demote ∨ m.kind = .writeback) then
        (s.putStripe n t s.tiers.data (t * tileBytes)).modTiers (fun x => { x with
          moves := x.moves.map (fun y => if y = m then { y with stripe := some n } else y) })
      else s
    | none => s
  | .stripe o =>
    match s.caddy.stripe o with
    | some x =>
      if ! x.valid then s
      else
        let t := x.tile
        let s0 := (s.readStripe o retry).copyToBuffer (x.putTile (s.storeKey (s.tile t).tenant) []) (t * tileBytes)
        let backing := (s0.tile t).backed ∧ (s0.tile t).stripe = o
        if lost then
          if backing then (s0.dropStripe o t).stripeLost t
          else match s0.flashOf t with
            | some m => if m.stripe = some o then s0.reflash m else s0.dropStripe o t
            | none => s0.dropStripe o t
        else
          let s1 := (s0.putStripe n t (x.putTile (s.storeKey (s.tile t).tenant) []) (t * tileBytes)).dropStripe o t
          if backing then s1.modTile t (fun y => { y with stripe := n })
          else s1.modTiers (fun y => { y with
            moves := y.moves.map (fun z => if z.tile = t ∧ z.stripe = some o then { z with stripe := some n } else z) })
    | none => s

/-- The valid stripes of a superblock join the write buffer, and the superblock is erased after that (R298 to R300). -/
def State.rewrite (s : State) (sb : Nat) : State :=
  let vs := s.validIn sb
  s.modCaddy (fun c => { c with
    rewriting := c.rewriting ++ [sb], page := c.page ++ vs.map (fun n => (BufSlot.stripe n, s.now)) })

/-- The block of a superblock on a channel is retired (R299): a good block of the channel takes its place, whose erase count
is not known here (free below the endurance, log 49), or the superblock is dropped. -/
def State.retireBlock (s : State) (sb ch : Nat) (spare : Bool) : State :=
  let s1 := ((s.set .sw F.CDY_STATUS_BLOCK_RETIRED 1).count .sw 0xC45 1).modCaddy (fun c =>
    { c with retired := c.retired ++ [(sb, ch)] })
  let fresh := Config.choice s.fresh % max 1 (s.get .sw F.CDY_GEOM_ENDURANCE * 100)
  if spare then (s1.modCaddy (fun c => c.modSb sb (fun b => { b with erases := SMap.put 0 b.erases ch fresh }))).draw
  else s1.modCaddy (fun c => c.modSb sb (fun b => { b with dropped := true }))

/-- The page to be programmed next: the oldest full one of the write buffer, or a wear move's, padded, unless background work is
deferred (R454). -/
def Caddy.nextPage (c : Caddy) (cw : Nat) (deferred : Bool) : Option (Bool × List BufSlot) :=
  if cw ≤ c.page.length then some (false, (c.page.take cw).map (fun e => e.1))
  else if deferred then none
  else c.wear.map (fun w => (true, w.2.take cw ++ List.replicate (cw - w.2.length) .pad))

/-- The slots after a page of `cw` has left: those that then enter the write buffer are filled now. -/
def leaveBuffer (now cw : Nat) (page : List (BufSlot × Nat)) : List (BufSlot × Nat) :=
  (page.drop cw).zipIdx.map (fun e => if bufSlots ≤ e.2 + cw ∧ e.2 < bufSlots then (e.1.1, now) else e.1)

/-- The page has been programmed into a superblock: it leaves the buffer. A superblock that is full, and a wear move's that
has taken the last stripe, is closed. -/
def State.pageLeaves (s : State) (sb cw : Nat) (wear : Bool) : State :=
  let filled := (s.caddy.sb sb).filled + cw
  s.modCaddy (fun d => { d with
    page := if wear then d.page else leaveBuffer s.now cw d.page
    open_ := if wear then d.open_ else if s.sbStripes ≤ filled then none else some sb
    wear := if wear then (d.wear.map (fun w => (w.1, w.2.drop cw))).filter (fun w => ! w.2.isEmpty) else d.wear
    sbs := (d.modSb sb (fun b => { b with filled := filled, progAt := s.now })).sbs })

/-- A page program has failed: a block of the superblock is retired (which one is free, log 1), and what the superblock holds
is rewritten. A wear move's stripes go on through the write buffer (log 49). -/
def State.pageFails (s : State) (sb : Nat) (wear spare : Bool) : State :=
  let held := (s.caddy.sb sb).filled
  let s1 := (s.draw.modCaddy (fun d =>
    if wear then { d with
      wear := none, page := d.page ++ (match d.wear with | some w => w.2.map (fun b => (b, s.now)) | none => []) }
    else { d with open_ := none })).retireBlock sb (Config.choice s.fresh % 16) spare
  if held = 0 then s1 else s1.rewrite sb

/-- PAGE_PROGRAM_DONE (R298, R299, R301): the next page has been programmed into its superblock, or a block of it failed;
`spare` says that its channel has a good block left. -/
def State.pageDone (s : State) (out : PageOut) (spare : Bool) : State :=
  let cw := s.get .sw F.CDY_GEOM_PAGE_CW
  let c := s.caddy
  if cw = 0 ∨ s.get .sw F.CDY_STATUS_STATE ≠ 2 then s
  else match c.nextPage cw s.deferred with
    | none => s
    | some (wear, slots) =>
      match (if wear then c.wearTo else c.open_.or s.nextSb) with
      | none => s
      | some sb =>
        if out.ok then
          let base := sb * s.sbStripes + (c.sb sb).filled
          let s1 := slots.zipIdx.foldl (fun a e => a.programSlot (base + e.2) e.1 (bitOf out.lost e.2) out.retry) s.draw
          ((s1.pageLeaves sb cw wear).count .sw 0xC41 16).capacity
        else (s.pageFails sb wear spare).capacity

/-- WRITE_BUFFER_FLUSH_TIMER (R512): an open page is padded 1 ms after its first slot was filled. While slots wait to enter
the buffer, its pages fill from them. -/
def State.flushPage (s : State) : State :=
  let cw := s.get .sw F.CDY_GEOM_PAGE_CW
  let c := s.caddy
  if cw = 0 ∨ bufSlots < c.page.length then s
  else
    let rest := c.page.drop (c.page.length / cw * cw)
    match rest with
    | [] => s
    | (_, at_) :: _ =>
      if at_ + 1000000 ≤ s.now then
        s.modCaddy (fun d => { d with page := d.page ++ List.replicate (cw - rest.length) (BufSlot.pad, s.now) })
      else s

/-! ### Promotions (R291, R300, R301) -/

/-- CADDY_PROMOTION_COMPLETE: the stripe has been read into the destination, or a codeword failed every retry (one that is
no longer there is taken for such). -/
def State.promoted (s : State) (t : Nat) (lost retry : Bool) : State :=
  match s.moveOf t with
  | none => s
  | some m =>
    if m.kind ≠ .promote ∨ s.get .sw F.CDY_STATUS_STATE ≠ 2 then s
    else
      let x := s.tile t
      let s1 := (s.readStripe x.stripe retry).endMove t .promote
      match (if lost then none else s.caddy.stripe x.stripe) with
      | none => ((s1.uncharge m.to_ x.tenant).modTile t (fun y => { y with migrating := false })).stripeLost t
      | some st =>
        ((s1.modTiers (fun y => { y with data := st.putTile (s.storeKey x.tenant) y.data })).modTile t (fun y =>
          { y with tier := m.to_, loc := m.loc, migrating := false })).count .sw 0xC04 1

/-! ### Garbage collection, wear, refresh, erase (R298 to R300) -/

/-- Superblocks that may be rewritten: they hold slots, and are neither open nor a wear move's nor being rewritten. -/
def State.heldSbs (s : State) : List Nat :=
  (s.caddy.sbs.filter (fun e => decide (0 < e.2.filled) && ! e.2.dropped && s.caddy.open_ != some e.1
    && s.caddy.wearTo != some e.1 && ! s.caddy.rewriting.contains e.1)).map (fun e => e.1)

/-- GARBAGE_COLLECT (R298): the superblock with the fewest valid stripes, of lower erase count on a tie; deferred while free
superblocks stay above half of GC_LOW_PERCENT (R454). -/
def State.collectGarbage (s : State) : State :=
  let c := s.caddy
  if s.get .sw F.CDY_STATUS_STATE ≠ 2 ∨ c.total * s.get .sw F.CDY_CFG_GC_LOW_PERCENT ≤ 100 * c.freeCount
      ∨ (s.deferred ∧ c.total * s.get .sw F.CDY_CFG_GC_LOW_PERCENT < 200 * c.freeCount) then s
  else
    let key (n : Nat) : Nat × Nat := ((s.validIn n).length, (c.sb n).worn)
    let less (a b : Nat × Nat) : Bool := decide (a.1 < b.1) || (a.1 == b.1 && decide (a.2 < b.2))
    match s.heldSbs with
    | [] => s
    | n :: ns =>
      let best := ns.foldl (fun b k => if less (key k) (key b) then k else b) n
      let ties := (n :: ns).filter (fun k => ! less (key best) (key k))
      ((s.rewrite (ties.getD (Config.choice s.fresh % max 1 ties.length) best)).count .sw 0xC46 1).draw.capacity

/-- The superblocks that hold valid data, whatever is being done with them. -/
def State.validSbs (s : State) : List Nat := (s.caddy.sbs.map (fun e => e.1)).filter (fun n => ! (s.validIn n).isEmpty)

/-- WEAR_MOVE (R299): when the highest erase count of a superblock that holds valid data exceeds the lowest by more than
WEAR_SPREAD, the valid stripes of the lowest go to a free superblock; one that is being rewritten gives its stripes up
already. One move at a time, and none while background work is deferred (R454) or Caddy is not READY. -/
def State.wearMove (s : State) : State :=
  let c := s.caddy
  match s.validSbs.filter (fun n => ! c.rewriting.contains n), s.nextSb, c.wear with
  | n :: ns, some dst, none =>
    if s.deferred ∨ s.get .sw F.CDY_STATUS_STATE ≠ 2 then s else
    let lo := ns.foldl (fun b k => if (c.sb k).worn < (c.sb b).worn then k else b) n
    let hi := s.validSbs.foldl (fun b k => max b (c.sb k).worn) 0
    if (c.sb lo).worn + s.get .sw F.CDY_CFG_WEAR_SPREAD < hi then
      (s.draw.modCaddy (fun c => { c with
        open_ := if c.open_ = some lo then none else c.open_
        rewriting := c.rewriting ++ [lo], wear := some (dst, (s.validIn lo).map BufSlot.stripe) })).capacity
    else s
  | _, _, _ => s

/-- SUPERBLOCK_REFRESH (R300): RD_LIMIT reads, a codeword that needed a retry, or more than 30 days since it was programmed;
not while background work is deferred (R454), or Caddy is not READY. -/
def State.refreshSb (s : State) (sb : Nat) (retry : Bool) : State :=
  let b := s.caddy.sb sb
  let due := retry || b.retried || decide (s.get .sw F.CDY_CFG_RD_LIMIT ≤ b.reads) || decide (b.progAt + 30 * 86400 * 1000000000 < s.now)
  if s.get .sw F.CDY_STATUS_STATE = 2 ∧ s.heldSbs.contains sb ∧ due ∧ ! s.deferred then ((s.rewrite sb).count .sw 0xC43 1).capacity else s

/-- Erase counts after one more erase of a superblock's 16 blocks. -/
def SuperBlk.erasedOnce (b : SuperBlk) : SMap Nat :=
  (List.range 16).foldl (fun m ch => SMap.put 0 m ch (SMap.at 0 m ch + 1)) b.erases

/-- The channels whose block has reached an erase count. -/
def SuperBlk.wornOut (b : SuperBlk) (limit : Nat) : List Nat := (List.range 16).filter (fun ch => decide (limit ≤ SMap.at 0 b.erases ch))

/-- BLOCK_ERASE_DONE (R299): a superblock whose valid stripes have all been rewritten is erased, and is free again; a
block that fails, or reaches ENDURANCE × 100 erases, is retired. -/
def State.eraseDone (s : State) (sb : Nat) (ok spare : Bool) : State :=
  if ! s.caddy.rewriting.contains sb || ! (s.validIn sb).isEmpty then s
  else
    let n := s.sbStripes
    let s1 := s.modCaddy (fun c => { c with
      rewriting := c.rewriting.erase sb, stripes := c.stripes.filter (fun e => e.1 / max 1 n != sb)
      sbs := (c.modSb sb (fun b => { b with erases := b.erasedOnce, reads := 0, filled := 0, retried := false })).sbs })
    let s2 := s1.count .sw 0xC42 16
    -- the block that failed to erase is free (log 1)
    let failed := if ok then [] else [Config.choice s.fresh % 16]
    let out := failed ++ ((s2.caddy.sb sb).wornOut (s.get .sw F.CDY_GEOM_ENDURANCE * 100)).filter (fun ch => ! failed.contains ch)
    (out.foldl (fun a ch => a.retireBlock sb ch spare) s2.draw).capacity

end Sys2Proof.Machine
end

