-- ==== Sys2Proof/Machine/EndPoint.lean ====
section
/-! DEFINITION. The end-point (spec/14): engine requests (R369 to R373), level-two faults (R325, R326), the read cache
(R382, R383), weight segments (R406 to R409) and inbound reads of the attach. -/

namespace Sys2Proof.Machine

/-! ### Requests (Table 14.3) -/

namespace Kind
def READ : Nat := 1
def WRITE : Nat := 2
def TGET : Nat := 3
def TPUT : Nat := 4
def AMO : Nat := 5
def FENCE : Nat := 6
def INVAL : Nat := 7
def WAIT : Nat := 8
end Kind

/-- Word `k` of a request. -/
def reqWord (r k : Nat) : Nat := r / 2 ^ (64 * k) % 2 ^ 64

def reqKind (r : Nat) : Nat := bitsOf (reqWord r 0) 63 56
def reqOrd (r : Nat) : Nat := bitsOf (reqWord r 0) 55 54
def reqScope (r : Nat) : Nat := bitsOf (reqWord r 0) 53 52
def reqSel (r : Nat) : Nat := bitsOf (reqWord r 0) 51 48
def reqChan (r : Nat) : Nat := bitsOf (reqWord r 0) 47 28
def reqTag (r : Nat) : Nat := bitsOf (reqWord r 0) 27 12
def reqEa (r : Nat) : Nat := reqWord r 1
def reqLocal (r : Nat) : Nat := reqWord r 2
def reqRows (r : Nat) : Nat := bitsOf (reqWord r 3) 63 48
def reqRowUnits (r : Nat) : Nat := bitsOf (reqWord r 3) 47 32
def reqPitch (r : Nat) : Nat := bitsOf (reqWord r 3) 31 0
def reqLctr (r : Nat) : Nat := bitsOf (reqWord r 4) 63 48
def reqValue (r : Nat) : Nat := reqWord r 5
def reqCompare (r : Nat) : Nat := reqWord r 6

/-- The request moves a tile. -/
def isTile (r : Nat) : Bool := reqKind r == Kind.TGET || reqKind r == Kind.TPUT

/-- The request sends packets on its channel. -/
def usesChan (r : Nat) : Bool := decide (1 ≤ reqKind r) && decide (reqKind r ≤ 5)

/-- The fabric-side pieces of a request, row by row, each split under R92. -/
def piecesOf (r : Nat) : List Piece :=
  if isTile r then
    let n := 16 * reqRowUnits r
    let all := (List.range (reqRows r)).flatMap (fun i =>
      (packetsOf (reqEa r + i * reqPitch r) n).map (fun p =>
        (p.1, p.2, reqLocal r + i * n + (p.1 - (reqEa r + i * reqPitch r)))))
    (List.range all.length).zipWith (fun k x => ⟨x.1, x.2.1 / 16, x.2.2, k + 1 == all.length⟩) all
  else if reqKind r = Kind.INVAL then
    if reqSel r = 0 then
      let first := reqEa r / 65536
      let n := if reqValue r = 0 then 0 else (reqEa r + reqValue r - 1) / 65536 - first + 1
      (List.range n).map (fun i => ⟨(first + i) * 65536, 0, 0, false⟩)
    else []
  else if usesChan r then [⟨reqEa r, 1, 0, true⟩]
  else []

/-- Table 10.10 for the kind. -/
def ordScopeOk (r : Nat) : Bool :=
  let k := reqKind r
  let o := reqOrd r
  let plain := o == 0 && reqScope r == 0
  if k = Kind.READ then plain || o == 2
  else if k = Kind.WRITE then plain || o == 1
  else if k = Kind.AMO then plain || o == 1 || o == 2
  else if k = Kind.FENCE then o == 0
  else plain

/-- R371, check 1, as far as the request alone shows it. -/
def badRequest (r : Nat) : Bool :=
  let k := reqKind r
  k == 0 || decide (8 < k)
  || bitsOf (reqWord r 0) 11 0 != 0 || bitsOf (reqWord r 4) 47 0 != 0 || reqWord r 7 != 0
  || ! ordScopeOk r
  || ((k == Kind.READ || k == Kind.WRITE || k == Kind.AMO) && reqEa r % 8 != 0)
  || (isTile r && (reqLocal r % 16 != 0 || reqEa r % 16 != 0 || reqRows r == 0 || reqRowUnits r == 0
      || reqPitch r % 16 != 0 || decide (reqPitch r < 16 * reqRowUnits r)
      || decide (64 < reqRows r * ((reqRowUnits r + 511) / 512)) || decide (64 < (piecesOf r).length)))
  || (k == Kind.INVAL && decide (2 < reqSel r))

/-! ### Flights -/

def State.modEp (s : State) (f : EndPoint → EndPoint) : State := { s with ep := f s.ep }

def State.flight (s : State) (idx : Nat) : Option Flight := s.ep.flights.find? (fun f => f.idx == idx)

def State.modFlight (s : State) (idx : Nat) (g : Flight → Flight) : State :=
  s.modEp (fun e => { e with flights := mapFirst (fun f => f.idx == idx) g e.flights })

/-- A free flight-tracker index (R374): which one is not specified (free, log 1). -/
def State.freeFlight (s : State) : Nat × State :=
  (firstFree (s.ep.flights.map (fun f => f.idx)) 0 1048576 (s.ep.flights.length + 1) (Config.choice s.fresh), s.draw)

/-- A request's completion is delivered (Table 14.4), and its entry released: no fault record names it any more (R374). -/
def State.engineDone (s : State) (f : Flight) (code : Nat) (data : Word) (late : Bool) : State :=
  let returns := reqKind f.req == Kind.READ || reqKind f.req == Kind.AMO
  let w : Word := if ! returns then 0 else if code = Code.OK then data else 0xFFFFFFFFFFFFFFFF
  let c := BitVec.ofNat 128 (w.toNat * 2 ^ 64 + reqTag f.req * 2 ^ 48 + code % 16 * 2 ^ 44 + b2n late * 2 ^ 43)
  (((s.modEp (fun e => { e with
      flights := e.flights.filter (fun x => x.idx != f.idx)
      l2recs := e.l2recs.map (fun r => { r with attached := r.attached.filter (fun i => i != f.idx) }) })).modDev .ep (fun v =>
    { v with jobs := v.jobs.filter (fun j => j.id != f.job), claims := v.claims.filter (fun x => x.1 != f.idx) })).emit
      (.engineDone f.engine c)).count .ep (0xD50 + code) 1

/-- Context and tenant of an engine (EP_ENGINE). -/
def Dev.engineCtx (v : Dev) (n : Nat) : Nat := v.get (F.EP_ENGINE_CONTEXT n)
def Dev.engineTenant (v : Dev) (n : Nat) : Nat := v.get (F.EP_ENGINE_TENANT n)

/-! ### Weight slots (R407, R408) -/

/-- The weight slot whose range a fabric range touches. -/
def EndPoint.boundSlot (e : EndPoint) (addr n : Nat) : Option WeightSlot :=
  e.weights.find? (fun w => decide (addr < w.base + 8192 * w.size) && decide (w.base < addr + n))

/-- What the bound ranges say of a request's piece (R408): nothing, or the code it completes with. -/
def EndPoint.weightCheck (e : EndPoint) (tenant kind addr units : Nat) : Option Nat :=
  match e.boundSlot addr (16 * units) with
  | none => none
  | some w =>
    if w.tenant ≠ tenant then some Code.DENIED
    else if kind = Kind.READ ∨ kind = Kind.TGET then
      if units = 512 ∧ (addr - w.base) % 8192 = 0 ∧ w.base ≤ addr then none else some Code.BAD_REQUEST
    else some Code.DENIED

/-! ### The read cache (R382, R383) -/

/-- The bytes of a range if every line it covers is valid under the channel. -/
def EndPoint.cacheHit (e : EndPoint) (chan addr n : Nat) : Option (List Byte) :=
  let first := addr / 256
  let count := (addr + n - 1) / 256 - first + 1
  let lines := (List.range count).map (fun i => e.rcache.find? (fun l => l.addr == (first + i) * 256 && l.chan == chan))
  if lines.all (fun l => l.isSome) then
    some (((lines.flatMap (fun l => match l with | some x => x.data | none => [])).drop (addr - first * 256)).take n)
  else none

/-! ### Launching a translated request -/

/-- The request packet for a piece at a fabric address, with the channel's fields (R338, R370). -/
def Dev.piecePacket (v : Dev) (r raw addr : Nat) (p : Piece) : Packet :=
  let c := chanOf raw
  let k := reqKind r
  let h : PktHdr := { PktHdr.blank with
    dst := BitVec.ofNat 12 (addr / 2 ^ 52), src := BitVec.ofNat 12 v.node, pkey := BitVec.ofNat 16 c.pkey,
    tc := BitVec.ofNat 3 c.tc, channel := BitVec.ofNat 20 (reqChan r), ordered := if c.ordered then 1 else 0,
    last := if p.last then 1 else 0 }
  let off := addr % 2 ^ 52
  let half := off / 8 % 2
  if k = Kind.READ then
    ⟨{ h with opcode := 1, offset := BitVec.ofNat 52 (off / 16 * 16), reqUnits := 1, lctr := BitVec.ofNat 16 (reqLctr r) }, []⟩
  else if k = Kind.TGET then
    ⟨{ h with opcode := 1, offset := BitVec.ofNat 52 off, reqUnits := BitVec.ofNat 10 p.units,
              lctr := BitVec.ofNat 16 (reqLctr r) }, []⟩
  else if k = Kind.WRITE then
    ⟨{ h with opcode := 3, offset := BitVec.ofNat 52 (off / 16 * 16), payUnits := 1, lctr := BitVec.ofNat 16 (reqLctr r),
              byteEn := if half = 0 then 0x00FF else 0xFF00 },
      leBytes 16 (reqValue r * 2 ^ (64 * half))⟩
  else if k = Kind.TPUT then
    ⟨{ h with opcode := 3, offset := BitVec.ofNat 52 off, payUnits := BitVec.ofNat 10 p.units,
              lctr := BitVec.ofNat 16 (reqLctr r) }, Memory.bytes v.mem p.local_ (16 * p.units)⟩
  else
    ⟨{ h with opcode := 5, opArg := BitVec.ofNat 4 (reqSel r), offset := BitVec.ofNat 52 off, payUnits := 1 },
      leBytes 16 (reqValue r + (if reqSel r = 9 then reqCompare r else 0) * 2 ^ 64)⟩

/-- The waiting request for a packet of an engine. -/
def Dev.enginePend (v : Dev) (f : Flight) (pkt : Packet) (land : Land) (fill : Bool) : Pend :=
  let c := chanOf f.raw
  { uid := 0, pkt := pkt, agent := .engine f.engine, job := f.job, land := land, promised := c.promised, rate := c.rate,
    burst := c.burst, rbound := c.rbound, bucket := f.bucket, keyTenant := c.tenant, tenant := c.tenant, step := v.step % 256,
    acquire := if reqOrd f.req = 2 then some (decide (2 ≤ reqScope f.req)) else none, fill := fill }

/-- Sends one translated piece: from the read cache, as the two READs of a weight segment, or as its packet. -/
def State.sendPiece (s : State) (f : Flight) (addr : Nat) (p : Piece) : State :=
  let v := s.dev .ep
  let r := f.req
  let k := reqKind r
  let pkt := v.piecePacket r f.raw addr p
  let n := 16 * p.units
  let cacheable := (chanOf f.raw).cacheable && (k == Kind.READ || k == Kind.TGET)
  match s.ep.boundSlot addr n with
  | some w =>
    let seg := (addr - w.base) / 8192
    let num := v.nextJob
    let s1 := (s.setDev .ep { v with nextJob := v.nextJob + 1 }).modEp (fun e => { e with
      segs := e.segs ++ [⟨num, f.job, w.slot, seg, p.local_, reqLctr r, none, none, 0, false, 0, 0, 0⟩] })
    let tagAddr := w.tagBase + 16 * seg
    let tagPkt : Packet := ⟨{ pkt.hdr with
      dst := BitVec.ofNat 12 (tagAddr / 2 ^ 52), offset := BitVec.ofNat 52 (tagAddr % 2 ^ 52), reqUnits := 1, lctr := 0 }, []⟩
    let dataPkt : Packet := ⟨{ pkt.hdr with lctr := 0 }, []⟩
    (s1.submit .ep (v.enginePend f dataPkt (.weight num false) false)).submit .ep
      (v.enginePend f tagPkt (.weight num true) false)
  | none =>
    -- an acquire of the engine that has no response yet holds this READ too; a READ.ACQ at .T or .F that the cache serves
    -- empties it (R154)
    match if cacheable && ! v.acquireOpen (.engine f.engine) v.nextUid then s.ep.cacheHit (reqChan r) (addr / 16 * 16) n
      else none with
    | some data =>
      let s0 := s.count .ep 0xD61 1
      let s1 := if reqOrd r = 2 ∧ 2 ≤ reqScope r then s0.flushReadCache else s0
      if k = Kind.READ then
        s1.modDev .ep (fun v => (v.land (reqLctr r) 1).modJob f.job (fun j =>
          { j with left := j.left - 1, data := wordOf data (addr / 8 % 2) }))
      else
        ((s1.modDev .ep (fun v => ({ v with mem := Memory.setBytes v.mem p.local_ data }.land (reqLctr r) p.units).jobPart
          f.job Code.OK)).emit (.dieWrite 0 p.local_ data))
    | none =>
      let s1 := if cacheable then s.count .ep 0xD62 1 else s
      let land : Land := if k = Kind.READ then .word (addr / 8 % 2) else if k = Kind.TGET then .accel p.local_
        else if k = Kind.AMO then .word 0 else .drop
      let q := v.enginePend f pkt land cacheable
      if reqOrd r = 1 then s1.submitRelease .ep q (reqScope r) 0 else s1.submit .ep q

/-- A request whose every piece is translated goes on (R370, R408). -/
def State.launch (s : State) (f : Flight) : State :=
  let v := s.dev .ep
  let k := reqKind f.req
  if k = Kind.FENCE then
    let fe := s.newFence .ep (.engine f.engine f.idx) (.engine f.engine) (reqScope f.req) 0
    fe.2.modFlight f.idx (fun x => { x with stage := .fence fe.1 })
  else if k = Kind.INVAL then
    if reqSel f.req = 2 then s.modFlight f.idx (fun x => { x with stage := .inval })
    else if reqSel f.req = 1 then (s.dropLines (fun c _ => c == reqChan f.req)).engineDone f Code.OK 0 false
    else
      let lo := reqEa f.req
      let hi := reqEa f.req + reqValue f.req
      let covers (a : Nat) : Bool := f.made.any (fun m =>
        -- the part of the page at `m.2.ea` that the range covers, at its fabric address
        let from_ := m.1 + (max lo m.2.ea - m.2.ea)
        let to_ := m.1 + (min hi (m.2.ea + 65536) - m.2.ea)
        decide (a < to_) && decide (from_ < a + 256))
      (s.dropLines (fun _ a => covers a)).engineDone f Code.OK 0 false
  else
    -- the READ of each segment's tag is a packet too, and a request has 64 at most (R370, R408)
    let tags := (f.made.filter (fun m => (s.ep.boundSlot m.1 (16 * m.2.units)).isSome)).length
    let tooMany := if 0 < tags ∧ 64 < f.made.length + tags then [Code.BAD_REQUEST] else []
    match f.made.filterMap (fun m => s.ep.weightCheck (v.engineTenant f.engine) k m.1 m.2.units) ++ tooMany with
    | c :: _ => s.engineDone f c 0 false
    | [] =>
      let jb := v.newJob (.engine f.engine f.idx) f.made.length
      let s1 := (s.setDev .ep jb.2).modFlight f.idx (fun x => { x with stage := .formed, job := jb.1 })
      f.made.foldl (fun a m => a.sendPiece { f with job := jb.1 } m.1 m.2) s1

/-! ### Level-two faults (R325) -/

/-- A record of Table 12.7. -/
def l2Bits (ea id engine ctx cause level access us step : Nat) : Nat :=
  ea % 2 ^ 64 * 2 ^ 192 + id % 2 ^ 20 * 2 ^ 172 + engine % 2 ^ 10 * 2 ^ 162 + ctx % 2 ^ 8 * 2 ^ 154 + cause % 16 * 2 ^ 150
  + level % 4 * 2 ^ 148 + access % 4 * 2 ^ 146 + us % 2 ^ 24 * 2 ^ 122 + step % 2 ^ 32 * 2 ^ 90

/-- The access kind of a request at level two: 0 read, 1 write, 2 atomic (Table 12.4, Table 12.7). -/
def reqAccess (r : Nat) : Nat :=
  let k := reqKind r
  if k = Kind.AMO then 2 else if k = Kind.WRITE ∨ k = Kind.TPUT then 1 else 0

def reqNeeds (r : Nat) : Nat := if reqKind r = Kind.INVAL then 0 else match reqAccess r with | 0 => 1 | 1 => 2 | _ => 6

/-- A level-two walk has faulted for a request: it is counted and held, and a record is written or joined (R325). -/
def State.l2Fault (s0 : State) (f : Flight) (ea cause level : Nat) : State :=
  let s := s0.count .ep (0xC70 + cause) 1
  let v := s.dev .ep
  let ctx := v.engineCtx f.engine
  let acc := reqAccess f.req
  match s.ep.l2recs.find? (fun r => r.ctx == ctx && r.page == ea / 65536 && r.access == acc) with
  | some r =>
    (s.modEp (fun e => { e with l2recs := e.l2recs.map (fun x =>
      if x.id = r.id then { x with attached := x.attached ++ [f.idx] } else x) })).modFlight f.idx
      (fun x => { x with stage := .fault r.id, walk := none })
  | none =>
    let s1 := (s.modEp (fun e => { e with l2recs := e.l2recs ++ [⟨f.idx, ctx, ea / 65536, acc, [f.idx], s.now⟩] })).modFlight
      f.idx (fun x => { x with stage := .fault f.idx, walk := none })
    if v.on F.XLT_FLOG_CTRL_ENABLE then
      let s2 := s1.flog .ep (l2Bits ea f.idx f.engine ctx cause level acc (s.timeUs .ep) v.step)
      -- the interrupt follows a record that was written, not one that was lost (R368)
      if s2.get .ep F.XLT_FLOG_HEAD_HEAD = v.get F.XLT_FLOG_HEAD_HEAD then s2 else s2.irq .ep 1
    else s1

/-! ### Translation in issue order (R373) -/

/-- A request's piece has been translated under a context, or, for INVAL RANGE, skipped. -/
def Flight.take (f : Flight) (ctx : Nat) (addr : Option Nat) : Flight :=
  match f.todo, addr with
  | [], _ => f
  | p :: ps, some a => { f with todo := ps, walk := none, made := f.made ++ [(a, p)], under := f.under ++ [(ctx, p.ea)] }
  | _ :: ps, none => { f with todo := ps, walk := none }

/-- A request is translated as far as the cache goes: it is launched, waits on a walk, or faults. -/
def State.translateFlight : Nat → State → Nat → State
  | 0, s, _ => s
  | n + 1, s, idx =>
    match s.flight idx with
    | none => s
    | some f =>
      match f.todo with
      | [] => s.launch f
      | p :: _ =>
        match s.translate .ep ((s.dev .ep).engineCtx f.engine) p.ea (reqNeeds f.req) (chanOf f.raw).promised with
        | (.miss w, s1) => s1.modFlight idx (fun x => { x with walk := some w })
        | (.done (.page a _), s1) => State.translateFlight n (s1.modFlight idx (fun x => x.take ((s.dev .ep).engineCtx f.engine) (some a))) idx
        | (.done (.fault c l), s1) =>
          if reqKind f.req = Kind.INVAL then State.translateFlight n (s1.modFlight idx (fun x => x.take 0 none)) idx
          else s1.l2Fault f p.ea c l

/-- R371, check 2: the channel is open, its TENANT is the engine's, and a promised channel finds a bucket. -/
def State.engineChannel (s : State) (f : Flight) : State :=
  let tenant := (s.dev .ep).engineTenant f.engine
  match s.useChan .ep (reqChan f.req) with
  | (.miss, s1) => s1.modFlight f.idx (fun x => { x with stage := .channel })
  | (.closed, s1) => s1.engineDone f Code.DENIED 0 false
  | (.entry raw, s1) =>
    let c := chanOf raw
    if c.tenant ≠ tenant then s1.engineDone f Code.DENIED 0 false
    else if c.promised then
      match (s1.dev .ep).bucketFor s1.now (reqChan f.req) c with
      | none => (s1.epEvent F.EP_EVENT_STATUS_ADMIT_FULL).engineDone f Code.DENIED 0 false
      | some (b, v) => (s1.setDev .ep { v with claims := v.claims ++ [(f.idx, b)] }).modFlight f.idx (fun x =>
          { x with stage := .translate, raw := raw, bucket := b })
    else s1.modFlight f.idx (fun x => { x with stage := .translate, raw := raw })

/-- The first request of an engine that has still to be translated. -/
def EndPoint.nextOf (e : EndPoint) (n : Nat) : Option Flight :=
  e.flights.find? (fun f => f.engine == n && (match f.stage with | .channel | .translate | .fault _ => true | _ => false))

/-- An engine's requests are translated in issue order until one has to wait. -/
def State.pumpEngine : Nat → State → Nat → State
  | 0, s, _ => s
  | k + 1, s, n =>
    match s.ep.nextOf n with
    | none => s
    | some f =>
      match f.stage with
      | .translate =>
        if f.walk.isSome then s
        else
          let s1 := State.translateFlight (f.todo.length + 1) s f.idx
          match s1.flight f.idx with
          | none => State.pumpEngine k s1 n
          | some g => if g.stage = .translate then s1 else State.pumpEngine k s1 n
      | .channel =>
        let s1 := s.engineChannel f
        match s1.flight f.idx with
        | none => State.pumpEngine k s1 n
        | some g => if g.stage = .channel then s1 else State.pumpEngine k s1 n
      | _ => s

def State.pump (s : State) (n : Nat) : State := State.pumpEngine (2 * s.ep.flights.length + 2) s n

/-- An engine has a credit (R369), over an attach that runs (R367). -/
def State.engineCredit (s : State) (n : Nat) : Bool :=
  s.attachOn && (s.dev .ep).on (F.EP_ENGINE_ENABLE n)
    && decide ((s.ep.flights.filter (fun f => f.engine == n)).length < s.get .ep (F.EP_ENGINE_MAX_OUT n))

/-- An engine presents a request (R369 to R373). -/
def State.engineRequest (s : State) (n : Nat) (req : BitVec 512) : State :=
  if ! s.engineCredit n then s
  else
    let r := req.toNat
    let fr := s.freeFlight
    let f : Flight := {
      idx := fr.1, engine := n, req := r, raw := 0, bucket := 0, stage := .translate, todo := piecesOf r, made := [], under := [],
      job := 0, at_ := s.now, walk := none }
    let s1 := fr.2.modEp (fun e => { e with flights := e.flights ++ [f] })
    let s2 := if 1 ≤ reqKind r ∧ reqKind r ≤ 8 then s1.count .ep (0xD40 + reqKind r) 1 else s1
    if badRequest r then s2.engineDone f Code.BAD_REQUEST 0 false
    else if (s.dev .ep).fenced then s2.engineDone f Code.DENIED 0 false
    else if reqKind r = Kind.WAIT then
      if reqLctr r = 0 ∨ reqValue r % 2 ^ 48 ≤ (s.dev .ep).lctr (reqLctr r) then s2.engineDone f Code.OK 0 false
      else s2.modFlight f.idx (fun x => { x with stage := .waitCtr })
    else
      let s3 := if usesChan r then s2.modFlight f.idx (fun x => { x with stage := .channel }) else s2
      s3.pump n

/-! ### Service of faults (R326) -/

def State.l2rec (s : State) (id : Nat) : Option L2Rec := s.ep.l2recs.find? (fun r => r.id == id)

def State.dropL2 (s : State) (id : Nat) : State :=
  s.modEp (fun e => { e with l2recs := e.l2recs.filter (fun r => r.id != id) })

/-- The engines of some requests, each once. -/
def State.enginesOf (s : State) (idxs : List Nat) : List Nat :=
  (idxs.filterMap (fun i => (s.flight i).map (fun f => f.engine))).eraseDups

/-- RETRY: every attached request is walked again. -/
def State.resumeRetry (s : State) (id : Nat) : State :=
  match s.l2rec id with
  | none => s.set .ep F.XLT_FLOG_STATUS_RESUME_STALE 1
  | some r =>
    let s1 := r.attached.foldl (fun a i => a.modFlight i (fun f => { f with stage := .translate })) (s.dropL2 id)
    (s1.enginesOf r.attached).foldl (fun a n => a.pump n) s1

/-- ABORT of a record: every attached request completes XLT_FAULT, and its engine resumes. -/
def State.abortRec (s : State) (r : L2Rec) : State :=
  let es := s.enginesOf r.attached
  let s1 := r.attached.foldl (fun a i =>
    match a.flight i with
    | some f => a.engineDone f Code.XLT_FAULT 0 false
    | none => a) (s.dropL2 r.id)
  es.foldl (fun a n => a.pump n) s1

def State.resumeAbort (s : State) (id : Nat) : State :=
  match s.l2rec id with
  | none => s.set .ep F.XLT_FLOG_STATUS_RESUME_STALE 1
  | some r => s.abortRec r

/-- FAULT_LIMIT_EXPIRY: as ABORT, and LIMIT_EXPIRED is set. -/
def State.faultLimit (s : State) (id : Nat) : State :=
  match s.l2rec id with
  | none => s
  | some r =>
    let lim := s.get .ep F.XLT_CFG_FAULT_LIMIT_MS
    if lim ≠ 0 ∧ r.at_ + lim * 1000000 ≤ s.now then (s.abortRec r).set .ep F.XLT_FLOG_STATUS_LIMIT_EXPIRED 1 else s

/-- WALK_COMPLETE at an end-point: the entries are cached as at a switch, and the requests that waited go on. -/
def State.walkDoneEp (s : State) (n : Nat) (bad : Option Nat) : State :=
  let v := s.dev .ep
  match v.walks.find? (fun w => w.num == n) with
  | none => s
  | some w =>
    if ! w.busy then s
    else
      let r := v.walk w.id w.addr w.access bad
      let s1 := (s.countWalk .ep w.id w.addr r.2).modDev .ep (fun x => x.endWalk n)
      let fs := s.ep.flights.filter (fun f => f.walk == some n)
      let s2 := match w.stale, r.1 with
        | false, .page _ _ => s1.cacheEntries .ep r.2
        | _, _ => s1
      let s3 := fs.foldl (fun a f =>
        -- a walk of a context to which the engine is bound no more serves nothing: the request is translated again
        if w.stale ∨ v.engineCtx f.engine ≠ w.id then a.modFlight f.idx (fun x => { x with walk := none })
        else match f.todo with
          | [] => a
          | p :: _ =>
            match (v.walk (v.engineCtx f.engine) p.ea (reqNeeds f.req) bad).1 with
            | .page ad _ => a.modFlight f.idx (fun x => x.take w.id (some ad))
            | .fault c l =>
              if reqKind f.req = Kind.INVAL then a.modFlight f.idx (fun x => x.take w.id none)
              else a.l2Fault f p.ea c l) s2
      ((fs.map (fun f => f.engine)).eraseDups).foldl (fun a e => a.pump e) s3

/-! ### Weight segments (R406, R408, R409) -/

/-- WEIGHT_SEGMENT_VERIFY: both READs have completed; the tag is verified and the plaintext lands, or nothing does. -/
def State.verifySegment (s : State) (slot seg : Nat) : State :=
  match s.ep.segs.find? (fun g => g.slot == slot && g.seg == seg && g.data.isSome && g.tag.isSome) with
  | none => s
  | some g =>
    let s1 := s.modEp (fun e => { e with segs := e.segs.filter (fun x => x.num != g.num) })
    let code := if g.failed ≠ 0 then g.failed else Code.UNSUPPORTED
    let fail (a : State) : State := a.modDev .ep (fun v => v.jobPart g.job code)
    match s.ep.weights.find? (fun w => w.slot == slot) with
    | none => fail s1
    | some w =>
      if g.dead ∨ g.failed ≠ 0 then fail s1
      else
        match Config.gcmOpen w.key (w.object + seg * 2 ^ 32) [] (g.data.getD []) (g.tag.getD []) with
        | some plain =>
          ((s1.modDev .ep (fun v => ({ v with mem := Memory.setBytes v.mem g.dest plain }.land g.lctr 512).jobPart g.job
            Code.OK)).emit (.dieWrite 0 g.dest plain))
        | none =>
          let addr := w.base + 8192 * seg
          let f := s.ep.flights.find? (fun f => f.job == g.job)
          let eng := match f with | some x => x.engine | none => 0
          let chan := match f with | some x => reqChan x.req | none => 0
          fail ((s1.count .ep 0xD66 1).rfault .ep (rfaultBits g.txn (addr / 2 ^ 52) (addr % 2 ^ 52) Op.READ Code.UNSUPPORTED
            g.tc chan (Agent.bits (.engine eng)) g.step (s.timeUs .ep) 512 0))

end Sys2Proof.Machine
end

