-- ==== Sys2Proof/Machine/HostQ.lean ====
section
/-! DEFINITION. The host's command and completion queues (R342 to R350) and confidential queues (R351 to R356). -/

namespace Sys2Proof.Machine

/-! ### Commands (Tables 13.5, 13.6) -/

namespace Opc
def NOP : Nat := 0
def PUT : Nat := 1
def GET : Nat := 2
def FLAG : Nat := 3
def AMO : Nat := 4
def MSG : Nat := 5
def FENCE : Nat := 6
def EMIT : Nat := 7
def TILE : Nat := 8
def CHAN_INV : Nat := 9
def ABORT : Nat := 10
end Opc

/-! Table 13.8. -/

namespace HStatus
def DONE : Nat := 0
def FAILED : Nat := 1
def ABORTED : Nat := 2
def BAD_COMMAND : Nat := 3
def DENIED : Nat := 4
def HOST_ACCESS : Nat := 5
def AUTH_FAIL : Nat := 6
end HStatus

def hCid (e : Nat) : Nat := bitsOf (dWord e 0) 63 48
def hOpc (e : Nat) : Nat := bitsOf (dWord e 0) 47 40
def hFence (e : Nat) : Bool := bitOf (dWord e 0) 39
def hActs (e : Nat) : Nat := bitsOf (dWord e 0) 37 32
def hChan (e : Nat) : Nat := bitsOf (dWord e 0) 31 12
def hScope (e : Nat) : Nat := bitsOf (dWord e 0) 11 10
def hRel (e : Nat) : Bool := bitOf (dWord e 0) 9
def hAddr (e : Nat) : Nat := dWord e 1
def hHost (e : Nat) : Nat := dWord e 2
def hLen (e : Nat) : Nat := bitsOf (dWord e 3) 63 32
def hLctr (e : Nat) : Nat := bitsOf (dWord e 3) 31 16
def hSel (e : Nat) : Nat := bitsOf (dWord e 3) 15 12
def hValue (e : Nat) : Nat := dWord e 4
def hArg2 (e : Nat) : Nat := dWord e 5
def hWindow (e : Nat) : Nat := bitsOf (hValue e) 63 56
def hFirst (e : Nat) : Nat := bitsOf (hValue e) 55 41
def hCount (e : Nat) : Nat := bitsOf (hValue e) 40 25
def hPartial (e : Nat) : Bool := bitOf (hValue e) 24

/-- The command sends packets on its channel. -/
def hUsesChan (opc : Nat) : Bool := (decide (1 ≤ opc) && decide (opc ≤ 5)) || opc == Opc.TILE

/-- R346, step 1. -/
def hBad (fn e : Nat) : Bool :=
  let opc := hOpc e
  decide (10 < opc) || bitOf (dWord e 0) 38 || bitsOf (dWord e 0) 8 0 != 0 || bitsOf (dWord e 3) 11 0 != 0
  || dWord e 6 != 0 || dWord e 7 != 0 || (fn != 0 && hActs e != 0)
  || ((opc == Opc.PUT || opc == Opc.GET) && (hLen e % 16 != 0 || hLen e == 0 || hAddr e % 16 != 0))
  || (opc == Opc.MSG && (hLen e % 16 != 0 || hLen e == 0 || decide (8192 < hLen e)))
  || ((opc == Opc.FLAG || opc == Opc.AMO) && hAddr e % 8 != 0)
  || (opc != Opc.PUT && opc != Opc.FLAG && hLctr e != 0)
  || (opc == Opc.CHAN_INV && bitsOf (hValue e) 40 20 == 0)

/-- The tenant that a command acts for. -/
def actsFor (fn e : Nat) : Nat := if fn = 0 then hActs e else fn

/-- R346, step 2, apart from the channel: Table 13.6's last column and R356. -/
def State.hDenied (s : State) (fn e : Nat) : Bool :=
  let opc := hOpc e
  (fn != 0 && (opc == Opc.TILE || opc == Opc.CHAN_INV))
  || (fn != 0 && opc == Opc.EMIT && s.get .sw (F.RED_WIN_A_TENANT (hWindow e)) != fn)
  || (s.conf && fn == 0 && hActs e != 0 && decide (1 ≤ opc) && decide (opc ≤ 7) && opc != Opc.FENCE)

/-! ### The table of started commands -/

def State.cmdsOf (s : State) (q : Nat) : List Cmd := s.sw.hif.cmds.filter (fun c => c.q == q)

def State.modCmd (s : State) (num : Nat) (f : Cmd → Cmd) : State :=
  s.modHif (fun h => { h with cmds := mapFirst (fun c => c.num == num) f h.cmds })

/-- A command's outcome is decided. -/
def Cmd.over (c : Cmd) (hstatus code : Nat) (result : Word) : Cmd :=
  { c with done := true, hstatus := hstatus, code := code, result := result }

def State.cmdOver (s : State) (num hstatus code : Nat) (result : Word) : State :=
  s.modCmd num (fun c => c.over hstatus code result)

/-- A queue whose ENABLE is clear is DISABLED once no command of it is started (Table 13.9), and its key is destroyed then (Table
15.3). -/
def State.restQueue (s : State) (q : Nat) : State :=
  if s.get .sw (F.HIF_SQ_B_ENABLE q) = 0 ∧ (s.cmdsOf q).isEmpty then (s.set .sw (F.HIF_SQ_B_STATE q) 0).dropKey q else s

/-! ### Keys and nonces (R352, Tables 13.10 and 15.3) -/

/-- The nonce of Table 13.10. -/
def nonce (dir kind queue seq block : Nat) : Nat :=
  dir * 2 ^ 95 + kind * 2 ^ 92 + queue * 2 ^ 80 + seq % 2 ^ 48 * 2 ^ 32 + block

/-- The key of a confidential queue, as it was derived when the queue was enabled (R351); kind 0 for an SQ, 1 for a CQ. -/
def State.hKey (s : State) (q kind : Nat) : Nat :=
  ((SMap.at none s.sw.hif.queueKeys (1024 * kind + q)).map (fun k => k.2)).getD 0

/-- An SQ entry as the switch reads it: none if its tag fails (R352, R353). -/
def State.openEntry (s : State) (q : Nat) (e : Nat) : Option Nat :=
  if s.get .sw (F.HIF_SQ_B_CONF q) = 0 then some e
  else
    let b := leBytes 64 e
    match Config.gcmOpen (s.hKey q 0) (nonce 0 0 q (s.get .sw (F.HIF_SQ_C_SEQ q)) 0) (b.take 8) ((b.drop 8).take 40) (b.drop 48) with
    | some p => some (ofLe (b.take 8 ++ p.take 40))
    | none => none

/-- The associated data of a command's data: W0 and FABRIC_ADDR. -/
def dataAad (e : Nat) : List Byte := leBytes 16 e

/-- The blocks of PUT data: `len` bytes as 4,096 B blocks of ciphertext, each followed by its tag. What verified before
the first failure, and the failure: HOST_ACCESS where the bytes end, AUTH_FAIL where a tag fails. -/
def openBlocks (key q seq : Nat) (aad : List Byte) : Nat → Nat → Nat → List Byte → List Byte × Nat
  | 0, _, _, _ => ([], HStatus.DONE)
  | f + 1, i, len, bs =>
    if len = 0 then ([], HStatus.DONE)
    else
      let n := min 4096 len
      if bs.length < n + 16 then ([], HStatus.HOST_ACCESS)
      else match Config.gcmOpen key (nonce 0 2 q seq i) aad (bs.take n) ((bs.drop n).take 16) with
        | none => ([], HStatus.AUTH_FAIL)
        | some p =>
          let r := openBlocks key q seq aad f (i + 1) (len - n) (bs.drop (n + 16))
          (p ++ r.1, r.2)

/-- The data of a PUT, as far as it may be sent, and how it ends (R353). -/
def State.putData (s : State) (c : Cmd) (data : Option (List Byte)) : List Byte × Nat :=
  let bs := data.getD []
  let n := hLen c.entry
  if s.get .sw (F.HIF_SQ_B_CONF c.q) = 1 then
    openBlocks (s.hKey c.q 0) c.q c.seq (dataAad c.entry) (n / 4096 + 1) 0 n bs
  else (bs.take n, if bs.length < n then HStatus.HOST_ACCESS else HStatus.DONE)

/-- Whether the parts of a GET cover a range, and its bytes. -/
def gotRange (got : List (Nat × List Byte)) (lo n : Nat) : Option (List Byte) :=
  let have_ := (got.map (fun g => min (lo + n) (g.1 + g.2.length) - max lo g.1)).foldl (· + ·) 0
  if have_ = n then
    some (Memory.bytes (got.foldl (fun m g => if g.1 < lo + n ∧ lo < g.1 + g.2.length then Memory.setBytes m g.1 g.2 else m) []) lo n)
  else none

/-- What a GET writes to host memory: its data as it came, or encrypted block by block with the tags (R353). -/
def State.getWrites (s : State) (c : Cmd) : List (Nat × List Byte) :=
  let e := c.entry
  if s.get .sw (F.HIF_SQ_B_CONF c.q) = 0 then c.got.map (fun g => (hHost e + g.1, g.2))
  else
    (List.range (ceilDiv (hLen e) 4096)).flatMap (fun i =>
      match gotRange c.got (4096 * i) (min 4096 (hLen e - 4096 * i)) with
      | some p =>
        let x := Config.gcmSeal (s.hKey c.q 0) (nonce 1 2 c.q c.seq i) (dataAad e) p
        [(hHost e + 4096 * i, x.1), (hArg2 e + 16 * i, x.2)]
      | none => [])

/-! ### Completion entries (R347, Table 13.7) -/

/-- A CQ can take an entry: it is enabled and has a free slot. -/
def State.cqRoom (s : State) (q : Nat) : Bool :=
  s.get .sw (F.HIF_CQ_B_ENABLE q) == 1 &&
    ! ringFull (s.get .sw (F.HIF_CQ_B_LOG2_DEPTH q)) (s.get .sw (F.HIF_CQ_B_TAIL q)) (s.get .sw (F.HIF_CQ_C_HEAD q))

/-- Bytes written to host memory for a function (R331); in the fatal state the switch makes no PCIe request (R419). -/
def State.toHost (s : State) (fn a : Nat) (bs : List Byte) : State :=
  if s.pcieStopped then s else (s.emit (.hostWrite fn a bs)).count .sw 0xC98 bs.length

/-- A CQ raises its vector, and every entry written so far is signalled. -/
def State.cqSignal (s : State) (q : Nat) : State :=
  if s.pcieStopped then s
  else (s.modHif (fun h => { h with fresh := SMap.put (0, 0) h.fresh q (0, 0) })).emit
    (.msix (s.get .sw (F.HIF_CQ_B_FUNC q)) (s.get .sw (F.HIF_CQ_B_VECTOR q)))

/-- One more entry is unsignalled (INT_COUNT of Table 13.14). -/
def State.cqNote (s : State) (q : Nat) : State :=
  let f := SMap.at (0, 0) s.sw.hif.fresh q
  let n := f.1 + 1
  let s1 := s.modHif (fun h => { h with fresh := SMap.put (0, 0) h.fresh q (n, if f.1 = 0 then s.now else f.2) })
  let k := s.get .sw (F.HIF_CQ_D_INT_COUNT q)
  if k ≠ 0 ∧ k ≤ n then s1.cqSignal q else s1

/-- An entry goes into a CQ: PHASE is the switch's, and with CONF W1 is encrypted and the tag stands in W2 and W3. -/
def State.postEntry (s : State) (q : Nat) (entry : Nat) : State :=
  let v := s.dev .sw
  let tail := v.get (F.HIF_CQ_B_TAIL q)
  let ph := SMap.at true s.sw.hif.phase q
  let e0 := setBit entry 20 ph
  let b := leBytes 32 e0
  let bytes := if v.on (F.HIF_CQ_B_CONF q) then
      let x := Config.gcmSeal (s.hKey q 1) (nonce 1 1 q (v.get (F.HIF_CQ_C_SEQ q)) 0) (b.take 8) ((b.drop 8).take 8)
      b.take 8 ++ x.1 ++ x.2
    else b
  let next := (tail + 1) % 2 ^ v.get (F.HIF_CQ_B_LOG2_DEPTH q)
  let s1 := s.setDev .sw ((v.set (F.HIF_CQ_B_TAIL q) next).set (F.HIF_CQ_C_SEQ q) (v.get (F.HIF_CQ_C_SEQ q) + 1))
  let s2 := if next = 0 then s1.modHif (fun h => { h with phase := SMap.put true h.phase q (! ph) }) else s1
  (s2.toHost (v.get (F.HIF_CQ_B_FUNC q)) (v.get (F.HIF_CQ_A_BASE q) * 2 ^ 12 + 32 * tail) bytes).cqNote q

/-- W0 and W1 of a command's completion entry. -/
def Cmd.cqe (c : Cmd) : Nat :=
  c.cid * 2 ^ 48 + c.head * 2 ^ 32 + c.q * 2 ^ 21 + c.hstatus * 2 ^ 12 + (if c.hstatus = HStatus.FAILED then c.code else 0) * 2 ^ 8
    + c.result.toNat * 2 ^ 64

/-- An ABORT's entry follows its target's (R348). -/
def State.abortWaits (s : State) (c : Cmd) : Bool :=
  hOpc c.entry == Opc.ABORT && c.result == 0 && c.hstatus == HStatus.DONE &&
    (s.cmdsOf c.q).any (fun x => x.num != c.num && x.aborted && x.cid == hValue c.entry % 2 ^ 16)

/-- COMMAND_COMPLETE (R344, R347): the decided command from ring slot `slot` of SQ `q` writes its host data and its entry.
`hostErr` says that a GET's write to host memory failed on PCIe. -/
def State.completeCmd (s : State) (q slot : Nat) (hostErr : Bool) : State :=
  match (s.cmdsOf q).find? (fun c => c.slot == slot && c.done && ! c.silent) with
  | none => s
  | some c =>
    let cq := s.get .sw (F.HIF_SQ_B_CQ q)
    let isGet := hOpc c.entry == Opc.GET && ! c.got.isEmpty
    if ! s.cqRoom cq || s.abortWaits c || (hostErr && ! isGet) then s
    else
      let c1 := if hostErr then c.over HStatus.HOST_ACCESS 0 0 else c
      let s1 := if isGet && ! hostErr then (s.getWrites c).foldl (fun a w => a.toHost (s.get .sw (F.HIF_SQ_B_FUNC q)) w.1 w.2) s else s
      let s2 := (s1.postEntry cq c1.cqe).count .sw (0xC90 + c1.hstatus) 1
      (s2.modHif (fun h => { h with cmds := h.cmds.filter (fun x => x.num != c.num) })).restQueue q

/-- CQ_INT_TIMER (Table 13.14): INT_US after the oldest unsignalled entry. -/
def State.cqTimer (s : State) (q : Nat) : State :=
  let f := SMap.at (0, 0) s.sw.hif.fresh q
  let us := s.get .sw (F.HIF_CQ_D_INT_US q)
  if f.1 ≠ 0 ∧ us ≠ 0 ∧ s.get .sw (F.HIF_CQ_D_INT_COUNT q) ≠ 0 ∧ f.2 + 1000 * us ≤ s.now then s.cqSignal q else s

/-! ### Starting a command (R344, R346) -/

/-- The channel check of R346, step 2, for a command that names a channel. -/
inductive HChan where
  | denied
  | miss
  | ok (raw bucket : Nat)
deriving DecidableEq, Repr

def State.hChannel (s : State) (fn e : Nat) : HChan × State :=
  if ! hUsesChan (hOpc e) then (.ok 0 0, s)
  else if (s.dev .sw).fenced then (.denied, s)
  else match s.useChan .sw (hChan e) with
    | (.closed, s1) => (.denied, s1)
    | (.miss, s1) => (.miss, s1)
    | (.entry raw, s1) =>
      let c := chanOf raw
      if c.tenant ≠ actsFor fn e then (.denied, s1)
      else if c.promised then
        match (s1.dev .sw).bucketFor s1.now (hChan e) c with
        | none => (.denied, s1)
        | some (b, v) => (.ok raw b, s1.setDev .sw v)
      else (.ok raw 0, s1)

/-- The entry at HEAD is fetched: it becomes a started command, HEAD and SEQ advance, and it is counted. -/
def State.takeEntry (s : State) (q e raw bucket : Nat) (fail : Option Nat) : State :=
  let v := s.dev .sw
  let slot := v.get (F.HIF_SQ_B_HEAD q)
  let head := (slot + 1) % 2 ^ v.get (F.HIF_SQ_B_LOG2_DEPTH q)
  let c : Cmd := {
    num := s.sw.hif.nextCmd, q := q, seq := v.get (F.HIF_SQ_C_SEQ q), cid := hCid e, entry := e, slot := slot,
    head := head, step := v.step, chan := raw, bucket := bucket, begun := false, job := none, fence := none,
    emit := none, hstatus := fail.getD 0, code := 0, result := 0, done := fail.isSome, aborted := false,
    silent := false, got := [] }
  let s1 := s.setDev .sw ((v.set (F.HIF_SQ_B_HEAD q) head).set (F.HIF_SQ_C_SEQ q) (c.seq + 1))
  let s2 := (s1.modHif (fun h => { h with cmds := h.cmds ++ [c], nextCmd := h.nextCmd + 1 })).count .sw 0xC99 64
  if hOpc e ≤ 10 then s2.count .sw (0xC80 + hOpc e) 1 else s2

/-- COMMAND_START: `entry` is what host memory gives at HEAD; none is a PCIe error. -/
def State.startCmd (s : State) (q : Nat) (entry : Option (BitVec 512)) : State :=
  let v := s.dev .sw
  let fn := v.get (F.HIF_SQ_B_FUNC q)
  if ! v.on (F.HIF_SQ_B_ENABLE q) || v.get (F.HIF_SQ_B_STATE q) != 1 || v.get (F.HIF_SQ_B_HEAD q) == v.get (F.HIF_SQ_C_TAIL q)
      || decide (64 ≤ (s.cmdsOf q).length) || s.pcieStopped then s
  else match entry with
    | none => (s.set .sw (F.HIF_SQ_B_STATE q) 2).hifErr F.HIF_ERR_QUEUE_ERROR
    | some b =>
      if hFence b.toNat && ! (s.cmdsOf q).isEmpty then s
      else match s.openEntry q b.toNat with
        | none => s.takeEntry q b.toNat 0 0 (some HStatus.AUTH_FAIL)
        | some e =>
          if hBad fn e then s.takeEntry q e 0 0 (some HStatus.BAD_COMMAND)
          else if s.hDenied fn e then s.takeEntry q e 0 0 (some HStatus.DENIED)
          else match s.hChannel fn e with
            | (.miss, s1) => s1
            | (.denied, s1) => s1.takeEntry q e 0 0 (some HStatus.DENIED)
            | (.ok raw bucket, s1) => s1.takeEntry q e raw bucket none

/-! ### What the commands do (Table 13.6) -/

/-- A FENCE, and a FLAG or AMO with REL, cover every transaction of the commands that their queue started before them (R151,
R153). -/
def hCovers (e : Nat) : Bool := hOpc e == Opc.FENCE || ((hOpc e == Opc.FLAG || hOpc e == Opc.AMO) && hRel e)

/-- The meaning of a started command has not begun. -/
def Cmd.waits (c : Cmd) : Bool := ! c.begun && ! c.done && ! c.silent

/-- The oldest started command of a queue with an opcode, whose meaning has not begun, begins; one that covers the earlier ones
waits until each of them has issued its transactions. -/
def State.beginCmd (s : State) (q opc : Nat) (go : Cmd → State → State) : State :=
  match (s.cmdsOf q).find? (fun c => hOpc c.entry == opc && c.waits) with
  | none => s
  | some c =>
    if hCovers c.entry && (s.cmdsOf q).any (fun x => decide (x.num < c.num) && x.waits) then s
    else go c (s.modCmd c.num (fun x => { x with begun := true }))

/-- A command that is done at once. -/
def State.cmdNop (s : State) (q : Nat) : State := s.beginCmd q Opc.NOP (fun c s => s.cmdOver c.num 0 0 0)

/-- A request of a command. -/
def Dev.cmdPend (v : Dev) (c : Cmd) (job : Nat) (pkt : Packet) (land : Land) : Pend :=
  { v.chanPend (.host c.q) job c.chan c.bucket pkt land none with step := c.step % 256 }

/-- A job for a command's requests. -/
def State.cmdJob (s : State) (c : Cmd) (parts : Nat) : Nat × State :=
  let j := (s.dev .sw).newJob (.command c.num) parts
  (j.1, (s.setDev .sw j.2).modCmd c.num (fun x => { x with job := some j.1 }))

/-- The packets of a PUT or GET that are sent, and the transfer's last one is marked. -/
def State.cmdPackets (s : State) (c : Cmd) (ps : List ((Nat × Nat) × Bool)) (mk : Nat × Nat → PktHdr → Packet × Land) : State :=
  let j := s.cmdJob c ps.length
  ps.foldl (fun a p =>
    let h := { (a.dev .sw).scalarHdr c.chan (hChan c.entry) (p.1.1 % 2 ^ 64) with last := if p.2 then 1 else 0 }
    let x := mk p.1 h
    a.submit .sw ((a.dev .sw).cmdPend c j.1 x.1 x.2)) j.2

/-- CMD_PUT: packets go as far as the host's data came and verified. -/
def State.cmdPut (s : State) (q : Nat) (data : Option (List Byte)) : State :=
  s.beginCmd q Opc.PUT (fun c s =>
    let a := hAddr c.entry
    let r := s.putData c data
    let ps := (markLast (packetsOf a (hLen c.entry))).takeWhile (fun p => decide (p.1.1 - a + p.1.2 ≤ r.1.length))
    let s1 := (s.modCmd c.num (fun x => { x with hstatus := r.2 })).count .sw 0xC99 (data.getD []).length
    if ps.isEmpty then s1.cmdOver c.num r.2 0 0
    else s1.cmdPackets c ps (fun p h =>
      (⟨{ h with opcode := 3, payUnits := BitVec.ofNat 10 (p.2 / 16), lctr := BitVec.ofNat 16 (hLctr c.entry) },
        (r.1.drop (p.1 - a)).take p.2⟩, .drop)))

/-- CMD_GET: the data lands in host memory. -/
def State.cmdGet (s : State) (q : Nat) : State :=
  s.beginCmd q Opc.GET (fun c s =>
    let a := hAddr c.entry
    s.cmdPackets c (markLast (packetsOf a (hLen c.entry))) (fun p h =>
      (⟨{ h with opcode := 1, reqUnits := BitVec.ofNat 10 (p.2 / 16) }, []⟩, .host c.num (p.1 - a))))

/-- One request of a command, a release where REL says so (R153). -/
def State.cmdOne (s : State) (c : Cmd) (h : PktHdr) (pay : List Byte) (land : Land) (rel : Bool) : State :=
  let j := s.cmdJob c 1
  let p := (s.dev .sw).cmdPend c j.1 ⟨h, pay⟩ land
  if rel then j.2.submitRelease .sw p (hScope c.entry) 0 else j.2.submit .sw p

/-- CMD_FLAG: one word written (R253). -/
def State.cmdFlag (s : State) (q : Nat) : State :=
  s.beginCmd q Opc.FLAG (fun c s =>
    let a := hAddr c.entry
    let half := a / 8 % 2
    s.cmdOne c { (s.dev .sw).scalarHdr c.chan (hChan c.entry) (a / 16 * 16) with
        opcode := 3, payUnits := 1, lctr := BitVec.ofNat 16 (hLctr c.entry),
        byteEn := if half = 0 then 0x00FF else 0xFF00 }
      (leBytes 16 (hValue c.entry * 2 ^ (64 * half))) .drop (hRel c.entry))

/-- CMD_AMO (R136). -/
def State.cmdAmo (s : State) (q : Nat) : State :=
  s.beginCmd q Opc.AMO (fun c s =>
    let op := hSel c.entry
    s.cmdOne c { (s.dev .sw).scalarHdr c.chan (hChan c.entry) (hAddr c.entry) with
        opcode := 5, opArg := BitVec.ofNat 4 op, payUnits := 1 }
      (leBytes 16 (hValue c.entry + (if op = 9 then hArg2 c.entry else 0) * 2 ^ 64)) (.word 0) (hRel c.entry))

/-- CMD_MSG: the record comes from host memory. -/
def State.cmdMsg (s : State) (q : Nat) (data : Option (List Byte)) : State :=
  s.beginCmd q Opc.MSG (fun c s =>
    let n := hLen c.entry
    let bs := data.getD []
    let s1 := s.count .sw 0xC99 bs.length
    if bs.length < n then s1.cmdOver c.num HStatus.HOST_ACCESS 0 0
    else s1.cmdOne c { (s.dev .sw).scalarHdr c.chan (hChan c.entry) (hAddr c.entry / 2 ^ 52 * 2 ^ 52) with
        opcode := 8, opArg := BitVec.ofNat 4 (hSel c.entry), payUnits := BitVec.ofNat 10 (n / 16) } (bs.take n) .drop false)

/-- CMD_FENCE: R151 over the queue's earlier transactions. -/
def State.cmdFence (s : State) (q : Nat) : State :=
  s.beginCmd q Opc.FENCE (fun c s =>
    let f := s.newFence .sw (.command c.num) (.host q) (hScope c.entry) 0
    f.2.modCmd c.num (fun x => { x with fence := some f.1 }))

/-- CMD_EMIT: the emission command of R181. -/
def State.cmdEmit (s : State) (q : Nat) : State :=
  s.beginCmd q Opc.EMIT (fun c s =>
    let e := s.startEmit (hWindow c.entry) (hFirst c.entry) (hCount c.entry) (hPartial c.entry) (.command c.num)
    e.2.modCmd c.num (fun x => { x with emit := some e.1 }))

/-- CMD_TILE: the 32 B command goes to this switch's tile-control aperture (R292). -/
def State.cmdTile (s : State) (q : Nat) (data : Option (List Byte)) : State :=
  s.beginCmd q Opc.TILE (fun c s =>
    let bs := data.getD []
    let s1 := s.count .sw 0xC99 bs.length
    if bs.length < 32 then s1.cmdOver c.num HStatus.HOST_ACCESS 0 0
    else s1.cmdOne c { (s.dev .sw).scalarHdr c.chan (hChan c.entry) ((s.dev .sw).node * 2 ^ 52 + 0xE800000000000) with
        opcode := 3, payUnits := 2 } (bs.take 32) .drop false)

/-- CMD_CHAN_INV (R340). -/
def State.cmdChanInv (s : State) (q : Nat) : State :=
  s.beginCmd q Opc.CHAN_INV (fun c s =>
    (s.modDev .sw (fun v => v.invChans (bitsOf (hValue c.entry) 19 0) (bitsOf (hValue c.entry) 40 20))).cmdOver c.num 0 0 0)

/-- An abort is accepted (R348): a target that has not begun never does; one that has issues no more transactions and
ends when its outstanding ones have retired. -/
def State.abortCmd (s : State) (x : Cmd) : State :=
  let s1 := s.modCmd x.num (fun c => { c with aborted := true })
  let s2 := match x.job with
    | some j => s1.modDev .sw (fun v => v.giveUp (fun p => p.job == j))
    | none => s1
  let s3 := { s2 with sw := { s2.sw with emits := s2.sw.emits.filter (fun e => some e.id != x.emit) } }
  let s4 := s3.modDev .sw (fun v => { v with fences := v.fences.filter (fun f => some f.id != x.fence) })
  if x.job.isNone then s4.cmdOver x.num HStatus.ABORTED 0 0 else s4

/-- CMD_ABORT (R348). -/
def State.cmdAbort (s : State) (q : Nat) : State :=
  s.beginCmd q Opc.ABORT (fun c s =>
    match (s.cmdsOf q).find? (fun x => x.num != c.num && x.cid == hValue c.entry % 2 ^ 16 && ! x.silent) with
    | none => s.cmdOver c.num 0 0 3
    | some x =>
      if x.aborted then s.cmdOver c.num 0 0 2
      else if x.done then s.cmdOver c.num 0 0 1
      else (s.abortCmd x).cmdOver c.num 0 0 0)

/-! ### Queue registers and doorbells (R342, R343, R351) -/

/-- A queue of a tenant function may not be enabled without CONF in confidential mode (R351). -/
def State.confRefuses (s : State) (fn conf : Nat) : Bool := s.conf && fn != 0 && conf == 0

/-- A queue of number `q` and kind that is being enabled: with CONF, its key is derived from the tenant's key at its live
epoch (R351, R395). -/
def State.keyQueue (s : State) (q kind fn conf : Nat) : State :=
  let e := s.get .sw (F.SEC_TENANT_LIVE_EPOCH fn)
  let key := queueKey (SMap.at none (s.dev .sw).isl.masters fn) e q kind
  s.modHif (fun h => { h with
    queueKeys := SMap.put none h.queueKeys (1024 * kind + q) (if conf = 1 then some (e, key) else none) })

/-- A write to word B of an SQ (R342, R351). -/
def State.sqWordB (s : State) (q x : Nat) : State :=
  let v := s.dev .sw
  let fn := bitsOf x 47 42
  let conf := bitsOf x 62 62
  let cq := bitsOf x 41 32
  if v.on (F.HIF_SQ_B_ENABLE q) then
    if bitOf x 63 then s else (s.set .sw (F.HIF_SQ_B_ENABLE q) 0).restQueue q
  else
    let fields (v : Dev) : Dev :=
      (((v.set (F.HIF_SQ_B_CONF q) conf).set (F.HIF_SQ_B_FUNC q) fn).set (F.HIF_SQ_B_CQ q) cq).set
        (F.HIF_SQ_B_LOG2_DEPTH q) (bitsOf x 4 0)
    if ! bitOf x 63 then s.setDev .sw (fields v)
    else if s.confRefuses fn conf then s.hifErr F.HIF_ERR_CONF_REFUSED
    else if ! v.on (F.HIF_CQ_B_ENABLE cq) || v.get (F.HIF_CQ_B_FUNC cq) != fn then s
    else
      (s.setDev .sw ((((((fields v).set (F.HIF_SQ_B_ENABLE q) 1).set (F.HIF_SQ_B_STATE q) 1).set (F.HIF_SQ_B_HEAD q) 0).set
        (F.HIF_SQ_C_TAIL q) 0).set (F.HIF_SQ_C_SEQ q) 0)).keyQueue q 0 fn conf

/-- A write to word B of a CQ (R342, R351). -/
def State.cqWordB (s : State) (q x : Nat) : State :=
  let v := s.dev .sw
  let fn := bitsOf x 53 48
  let conf := bitsOf x 62 62
  if v.on (F.HIF_CQ_B_ENABLE q) then
    if bitOf x 63 || (List.range 1024).any (fun k => v.get (F.HIF_SQ_B_CQ k) == q && v.on (F.HIF_SQ_B_ENABLE k)) then s
    else (s.set .sw (F.HIF_CQ_B_ENABLE q) 0).dropKey (1024 + q)
  else
    let fields (v : Dev) : Dev :=
      (((v.set (F.HIF_CQ_B_CONF q) conf).set (F.HIF_CQ_B_FUNC q) fn).set (F.HIF_CQ_B_VECTOR q) (bitsOf x 42 32)).set
        (F.HIF_CQ_B_LOG2_DEPTH q) (bitsOf x 4 0)
    if ! bitOf x 63 then s.setDev .sw (fields v)
    else if s.confRefuses fn conf then s.hifErr F.HIF_ERR_CONF_REFUSED
    else
      let s1 := (s.setDev .sw (((((fields v).set (F.HIF_CQ_B_ENABLE q) 1).set (F.HIF_CQ_B_TAIL q) 0).set
        (F.HIF_CQ_C_HEAD q) 0).set (F.HIF_CQ_C_SEQ q) 0)).keyQueue q 1 fn conf
      s1.modHif (fun h => { h with phase := SMap.put true h.phase q true, fresh := SMap.put (0, 0) h.fresh q (0, 0) })

/-- A write to word A of a queue, ignored while ENABLE is 1 (R342). -/
def State.queueWordA (s : State) (a : Nat) (en : Fld) (x : Nat) : State :=
  if s.get .sw en = 1 then s else s.modDev .sw (fun v => v.setReg a (x / 4096 * 4096))

/-- A doorbell that is ignored (R343). -/
def State.badDoorbell (s : State) (fn : Nat) : State :=
  if fn = 0 then s.hifErr F.HIF_ERR_BAD_DOORBELL else s.set .sw (F.HIF_VF_STATUS_BAD_DOORBELL fn) 1

/-- SQ tail doorbell of function `fn`. -/
def State.sqDoorbell (s : State) (fn q x : Nat) : State :=
  if s.get .sw (F.HIF_SQ_B_FUNC q) ≠ fn ∨ s.get .sw (F.HIF_SQ_B_ENABLE q) = 0 ∨ 2 ^ s.get .sw (F.HIF_SQ_B_LOG2_DEPTH q) ≤ x then
    s.badDoorbell fn
  else s.set .sw (F.HIF_SQ_C_TAIL q) x

/-- CQ head doorbell of function `fn`. -/
def State.cqDoorbell (s : State) (fn q x : Nat) : State :=
  if s.get .sw (F.HIF_CQ_B_FUNC q) ≠ fn ∨ s.get .sw (F.HIF_CQ_B_ENABLE q) = 0 ∨ 2 ^ s.get .sw (F.HIF_CQ_B_LOG2_DEPTH q) ≤ x then
    s.badDoorbell fn
  else s.set .sw (F.HIF_CQ_C_HEAD q) x

/-- VF_FLR (R349): what the entries of its CQs were still to signal is forgotten, as every PCIe request for the function
stops. -/
def State.vfFlr (s : State) (fn : Nat) : State :=
  (List.range 1024).foldl (fun a q =>
    let a1 := if s.get .sw (F.HIF_CQ_B_FUNC q) = fn then
        ((a.set .sw (F.HIF_CQ_B_ENABLE q) 0).dropKey (1024 + q)).modHif (fun h => { h with fresh := SMap.put (0, 0) h.fresh q (0, 0) })
      else a
    if s.get .sw (F.HIF_SQ_B_FUNC q) = fn then ((a1.silence q).set .sw (F.HIF_SQ_B_ENABLE q) 0).restQueue q else a1) s

/-! ### HCQ.POST (R264) -/

/-- HCQ.POST. -/
def State.coreHcqPost (s : State) (n w : Nat) (ue : Bool) : State :=
  s.needPriv n Priv.HOSTQ (fun s =>
    let q := wImm w % 65536
    let a := ((s.core n).sreg (wSa w)).toNat
    if a % 32 ≠ 0 then s.except n Exc.ALIGN a
    else if localSize < a + 32 then s.except n Exc.LOCAL_RANGE a
    else if ue then s.eccIn n a 32
    else if 1024 ≤ q ∨ s.get .sw (F.HIF_CQ_B_ENABLE q) = 0 then s.retireS n (wSd w) 2
    else if ! s.cqRoom q then s.retireS n (wSd w) 1
    else
      let e := Memory.num (s.core n).mem a 32
      (s.postEntry q (setBits (setBits e 31 21 0x7FF) 47 32 0)).retireS n (wSd w) 0)

end Sys2Proof.Machine
end

