-- ==== Sys2Proof/Machine/TierService.lean ====
section
/-! DEFINITION. The tier service (R294): the records of queue 2, the page tables it writes (R315), and its replies. The
service is a program of the core that takes queue 2; its requests are that core's. -/

namespace Sys2Proof.Machine

/-! ### Page tables (R310 to R315) -/

/-- The index of an address in a table of a level (Table 12.2). -/
def lvlIndex (addr l : Nat) : Nat := addr / 2 ^ lvlShift l % lvlEntries l

/-- Tiles that a PAGE entry of a level maps. -/
def lvlTiles (l : Nat) : Nat := 2 ^ lvlShift l / tileBytes

/-- The entry at which the tables end for an address: its level, its place and its value. -/
def Dev.leafFrom (v : Dev) (addr : Nat) : List Nat → Nat → Nat × Nat × Nat
  | [], t => (3, t, 0)
  | l :: ls, t =>
    let p := t + 8 * lvlIndex addr l
    let e := Memory.num v.mem p 8
    if e % 4 = 1 ∧ ! ls.isEmpty then v.leafFrom addr ls (bitsOf e 51 8 * 256) else (l, p, e)

def Dev.leaf (v : Dev) (id addr : Nat) : Option (Nat × Nat × Nat) := (v.root id).map (fun t => v.leafFrom addr [0, 1, 2, 3] t)

/-- A page is mapped. -/
def Dev.pageMapped (v : Dev) (id addr : Nat) : Bool :=
  match v.leaf id addr with
  | some (_, _, e) => e % 4 == 2
  | none => false

/-- An entry written. -/
def State.putEntry (s : State) (p e : Nat) : State := s.modDev .sw (fun v => { v with mem := Memory.setNum v.mem p 8 e })

/-- The 8-byte words of a range that list a byte: every other word of it reads as zero. -/
def Memory.words (m : Memory) (a n : Nat) : List Nat :=
  ((m.filter (fun c => decide (a ≤ c.1) && decide (c.1 < a + n))).map (fun c => (c.1 - a) / 8)).eraseDups

/-- The tables, each with its end, of a tree whose table of the first level of the list lies at `t`. -/
def Dev.tables (v : Dev) : List Nat → Nat → List (Nat × Nat)
  | [], _ => []
  | l :: ls, t => (t, t + lvlSize l) :: (Memory.words v.mem t (lvlSize l)).flatMap (fun i =>
      match v.entry 0 0 l (Memory.num v.mem (t + 8 * i) 8) with
      | .next t' => v.tables ls t'
      | .done _ => [])

/-- What lies below RESV_TOP (R281), each structure with its end: the directory, the Caddy write buffer, the deduplication
windows, the channel table, rings, an image that is being loaded, and every tenant's tables. -/
def State.structures (s : State) : List (Nat × Nat) :=
  let v := s.dev .sw
  let at_ (on : Bool) (a n : Nat) : List (Nat × Nat) := if on then [(a, a + n)] else []
  at_ true (v.get F.MEM_DIR_BASE_BASE * 65536) (16 * v.get F.MEM_DIR_TILES_TILES)
    ++ at_ (v.on F.CDY_CFG_ENABLE) (v.get F.CDY_BUF_BASE_BASE * 65536) (64 * 2 ^ 20)
    ++ at_ true (v.get F.MEM_DEDUP_CFG_BASE * 2 ^ 20) (v.get F.MEM_DEDUP_CFG_SOURCES * 2 ^ 20)
    ++ at_ (v.get F.HIF_CHAN_BASE_LOCATION == 0) (v.get F.HIF_CHAN_BASE_BASE * 4096) (128 * v.get F.HIF_CHAN_CFG_COUNT)
    ++ (s.rings .sw).flatMap (fun r => at_ true (v.get r.1 * 4096) (r.2.1 * 2 ^ v.get r.2.2))
    ++ (match s.sw.load with
        | some l =>
          let h := Memory.bytes v.mem l.image 128
          at_ true l.image (128 + hCodeBytes h + hDataBytes h + envBytes)
        | none => [])
    ++ (List.range 64).flatMap (fun t => match v.root t with | some a => v.tables [0, 1, 2, 3] a | none => [])

/-- The first multiple of `n` from `a` on, and from 0 on after the last below `top`, whose `n` bytes meet nothing of `xs`;
`k` bounds how many are passed. -/
def clearOf (n top : Nat) (xs : List (Nat × Nat)) : Nat → Nat → Nat
  | 0, a => a
  | k + 1, a =>
    match xs.find? (fun x => decide (a < x.2) && decide (x.1 < a + n)) with
    | none => a
    | some x =>
      let b := (x.2 + n - 1) / n * n
      clearOf n top xs k (if b + n ≤ top then b else 0)

/-- A new, empty table of a level, aligned to its size, below RESV_TOP and clear of everything that lies there; where it
lies is otherwise not specified (free, log 1; log 49). -/
def State.newTable (s : State) (l : Nat) : Nat × State :=
  let top := (s.dev .sw).resvTop
  let xs := s.structures
  let a := clearOf (lvlSize l) top xs (2 * xs.length + 2) (Config.tableAt s.fresh % max 1 (top / lvlSize l) * lvlSize l)
  (a, (s.modDev .sw (fun v => { v with mem := Memory.clear v.mem a (lvlSize l) })).draw)

/-- The table of level `l` for an address, made where it is missing. -/
def State.tableFor (s : State) (addr : Nat) : List Nat → Nat → Nat × State
  | [], t => (t, s)
  | l :: ls, t =>
    let p := t + 8 * lvlIndex addr l
    let e := Memory.num (s.dev .sw).mem p 8
    if e % 4 = 1 then s.tableFor addr ls (bitsOf e 51 8 * 256)
    else
      let n := s.newTable (l + 1)
      (n.2.putEntry p (n.1 + 1)).tableFor addr ls n.1

/-- A PAGE entry with every permission. -/
def pageEntry (a : Nat) : Nat := a + 0x1E

/-- A page of level `l` mapped to a store address. -/
def State.mapPage (s : State) (root addr l store : Nat) : State :=
  let t := s.tableFor addr (List.range l) root
  t.2.putEntry (t.1 + 8 * lvlIndex addr l) (pageEntry store)

/-- Pages of the range `lo` to `hi` become INVALID where a PAGE entry maps `addr`: the whole entry, or, where it maps
pages outside the range too, its page of the next level, for which the entry is split. -/
def State.unmapPage (s : State) (root lo hi addr : Nat) : Nat → State
  | 0 => s
  | f + 1 =>
    let x := (s.dev .sw).leafFrom addr [0, 1, 2, 3] root
    let size := 2 ^ lvlShift x.1
    let base := addr / size * size
    if x.2.2 % 4 ≠ 2 then s
    else if x.1 = 3 ∨ (lo ≤ base ∧ base + size ≤ hi) then s.putEntry x.2.1 0
    else
      let n := s.newTable (x.1 + 1)
      let sub := 2 ^ lvlShift (x.1 + 1)
      let s1 := (List.range (lvlEntries (x.1 + 1))).foldl (fun a i => a.putEntry (n.1 + 8 * i) (x.2.2 + i * sub)) n.2
      (s1.putEntry x.2.1 (n.1 + 1)).unmapPage root lo hi addr f

/-! ### Free store tiles -/

def Tiers.mappedTiles (x : Tiers) : List Nat := (x.dir.filter (fun e => e.2.mapped)).map (fun e => e.1)

/-- A run of `span` free store tiles at a multiple of `span`; which one is taken is not specified (free, log 1). Among one
more candidate than there are mapped tiles, one is free. -/
def State.freeRun (s : State) (span : Nat) : Option Nat :=
  let used := s.tiers.mappedTiles
  let c := s.dirTiles / span
  if c = 0 then none
  else
    (((List.range (min c (used.length + 1))).map (fun k => (Config.choice s.fresh + k) % c)).find? (fun i =>
      used.all (fun t => ! (decide (i * span ≤ t) && decide (t < (i + 1) * span))))).map (fun i => i * span)

/-- No page is mapped through an entry of the level before those listed: it is INVALID, or a TABLE of none. -/
def Dev.mapsNone (v : Dev) : List Nat → Nat → Bool
  | [], e => e % 4 == 0
  | l :: ls, e => e % 4 == 0 || (e % 4 == 1 && (Memory.words v.mem (bitsOf e 51 8 * 256) (lvlSize l)).all (fun i =>
      v.mapsNone ls (Memory.num v.mem (bitsOf e 51 8 * 256 + 8 * i) 8)))

/-- The largest page that fits at an address (R315): its level and its first store tile. A TABLE through which nothing is
mapped any more gives way to the page. -/
def State.fitPage (s : State) (id addr left : Nat) : Option (Nat × Nat) :=
  let v := s.dev .sw
  [1, 2, 3].findSome? (fun l =>
    let free : Bool := match v.root id with
      | some t => v.mapsNone (((List.range 4).drop (l + 1))) (v.leafFrom addr (List.range (l + 1)) t).2.2
      | none => false
    if addr % 2 ^ lvlShift l = 0 ∧ lvlTiles l ≤ left ∧ free then (s.freeRun (lvlTiles l)).map (fun t => (l, t)) else none)

/-! ### Records (Table 11.7) -/

def tReq (r : Nat) : Nat := bitsOf (dWord r 0) 63 32
def tAddr (r : Nat) : Nat := dWord r 1
def tTiles (r : Nat) : Nat := bitsOf (dWord r 2) 63 32
def tHome (r : Nat) : Nat := bitsOf (dWord r 2) 31 30
def tFloor (r : Nat) : Nat := bitsOf (dWord r 2) 29 28
def tStepver (r : Nat) : Bool := bitOf (dWord r 2) 27
def tOp (r : Nat) : Nat := bitsOf (dWord r 2) 26 24

/-- A record is in hand with a job of `n` parts. -/
def State.recBegin (s : State) (r n : Nat) : Nat × State :=
  let j := (s.dev .sw).newJob (.service 0) n
  (j.1, (s.setDev .sw j.2).modTiers (fun x => { x with
    inHand := some ⟨j.1, tReq r, dWord r 3, bitsOf (dWord r 4) 63 48, none⟩ }))

/-- A record that is answered at once. -/
def State.recAnswer (s : State) (r code : Nat) : State :=
  let b := s.recBegin r 1
  b.2.modDev .sw (fun v => v.jobPart b.1 code)

/-- The core that takes service queue 2. -/
def State.tierCore (s : State) : Nat := s.get .sw (F.SEQ_QUEUE_B_CORE 2)

/-- The record in hand ends once every tile is done: its reply (Table 11.8) goes to REPLY_ADDR, naming REPLY_LCTR. -/
def State.tierReplies (s : State) : State :=
  match s.tiers.inHand with
  | none => s
  | some r =>
    match (s.dev .sw).jobs.find? (fun j => j.id == r.job) with
    | none => s
    | some j =>
      if j.left ≠ 0 then s
      else
        let gone (s : State) : State := (s.modDev .sw (fun v => { v with jobs := v.jobs.filter (fun x => x.id != r.job) })).modTiers
          (fun x => { x with inHand := none })
        if r.addr = 0 then gone s
        else s.whenChan Config.tierChan (fun s =>
          (gone s).sendAs s.tierCore Config.tierChan
            [⟨r.addr, leBytes 16 (r.req * 2 ^ 96 + j.code % 16 * 2 ^ 92 + 0x24), r.lctr, false⟩])

/-- Records of no TYPE of Table 11.7 at the head of queue 2 are dropped. -/
def State.dropOther : Nat → State → State
  | 0, s => s
  | k + 1, s =>
    match s.dequeue 2 with
    | some (r, s1) => if 0x20 ≤ ofLe (r.data.take 1) ∧ ofLe (r.data.take 1) ≤ 0x23 then s else State.dropOther k s1
    | none => s

/-- The oldest record of queue 2 when it has a TYPE and no other is in hand: the tenant and the record. -/
def State.tierTake (s : State) (type : Nat) (go : Nat → Nat → State → State → State) : State :=
  let s := State.dropOther (s.squeue 2).recs.length s
  if s.tiers.inHand.isSome then s
  else match s.dequeue 2 with
    | some (r, s1) => if ofLe (r.data.take 1) = type then go r.tenant (ofLe r.data) s s1 else s
    | none => s

/-- A record's range lies in this switch's own range, 64 KiB aligned. -/
def State.recRange (s : State) (r : Nat) : Bool :=
  tAddr r / 2 ^ 52 == (s.dev .sw).node && tAddr r % tileBytes == 0 &&
    decide (tAddr r % 2 ^ 52 + tTiles r * tileBytes ≤ 2 ^ 52)

/-- Offsets of the pages of a record. -/
def recPages (r : Nat) : List Nat := (List.range (tTiles r)).map (fun i => tAddr r % 2 ^ 52 + i * tileBytes)

/-- A command of Table 11.6 on one store tile, as a part of a job. -/
def State.tileJob (s : State) (c : TileCmd) (job t : Nat) : State := s.tileCommand { c with job := some job } t 1 false

def tileCmdFor (cmd tenant home floor : Nat) (stepver : Bool) : TileCmd :=
  { cmd := cmd, tenant := tenant, home := home, floor := floor, stepver := stepver, tiles := [], begun := [],
    packet := none, job := none }

/-- The pages of a range are mapped, largest first (R315), and their tiles MAPped. -/
def State.mapRange (s : State) (c : TileCmd) (root job : Nat) : Nat → Nat → Nat → State
  | 0, _, _ => s
  | f + 1, addr, left =>
    if left = 0 then s
    else match s.fitPage c.tenant addr left with
      | none => (List.range left).foldl (fun a _ => a.modDev .sw (fun v => v.jobPart job Code.QUOTA)) s
      | some (l, t) =>
        let s1 := (s.mapPage root addr l (t * tileBytes)).draw
        ((List.range (lvlTiles l)).foldl (fun a i => a.tileJob c job (t + i)) s1).mapRange c root job f
          (addr + lvlTiles l * tileBytes) (left - lvlTiles l)

/-- OBJ_MAP. -/
def State.objMap (s : State) : State :=
  s.tierTake 0x20 (fun tenant r _ s =>
    let v := s.dev .sw
    let n := tTiles r
    match v.root tenant with
    | none => s.recAnswer r Code.OUT_OF_RANGE
    | some root =>
      if ! s.recRange r || (recPages r).any (fun a => v.pageMapped tenant a) then s.recAnswer r Code.OUT_OF_RANGE
      else if s.dirTiles < s.tiers.mappedTiles.length + n then s.recAnswer r Code.QUOTA
      else
        let b := s.recBegin r n
        b.2.mapRange (tileCmdFor 1 tenant (tHome r) (tFloor r) (tStepver r)) root b.1 n (tAddr r % 2 ^ 52) n)

/-- The store tiles of a record's pages: none if a page is not mapped to the tenant. -/
def State.recTiles (s : State) (tenant r : Nat) : Option (List Nat) :=
  if ! s.recRange r then none
  else (recPages r).foldr (fun a acc =>
    match acc, (s.dev .sw).walk tenant a 0 none with
    | some ts, (.page p _, _) =>
      let t := p / tileBytes
      if (s.tile t).mapped ∧ (s.tile t).tenant = tenant then some (t :: ts) else none
    | _, _ => none) (some [])

/-- OBJ_POLICY and TIER_REQ: a command on every tile of the range. -/
def State.recCommand (s : State) (type : Nat) (cmd : Nat → Nat) : State :=
  s.tierTake type (fun tenant r _ s =>
    match s.recTiles tenant r with
    | none => s.recAnswer r Code.OUT_OF_RANGE
    | some ts =>
      let b := s.recBegin r ts.length
      ts.foldl (fun a t => a.tileJob (tileCmdFor (cmd r) tenant (tHome r) (tFloor r) (tStepver r)) b.1 t) b.2)

/-- OBJ_POLICY. -/
def State.objPolicy (s : State) : State := s.recCommand 0x22 (fun _ => 3)

/-- OBJ_FREE: the range is unmapped and invalidated; its tiles are freed once the invalidation has completed (R315,
R320). -/
def State.objFree (s : State) : State :=
  s.tierTake 0x21 (fun tenant r _ s1 =>
    match s1.recTiles tenant r with
    | none => s1.recAnswer r Code.OUT_OF_RANGE
    | some ts =>
      let lo := tAddr r % 2 ^ 52
      let root := ((s1.dev .sw).root tenant).getD 0
      let s2 := (recPages r).foldl (fun a p => a.unmapPage root lo (lo + tTiles r * tileBytes) p 4) s1
      let s3 := s2.modDev .sw (fun v => { v with walks := v.walks.map (fun x => x.ends) })
      (s3.recBegin r ts.length).2.modTiers (fun x => { x with
        inHand := x.inHand.map (fun y => { y with freeing := some (⟨0, tenant, lo / tileBytes, tTiles r⟩, tenant, ts) }) }))

/-- Whether the walk to an address goes through an entry that an invalidation drops: every walk to the range's pages begins
with the TABLE entry of level 0 that covers them, and RANGE drops that too (R320). -/
def XInv.coversWalk (i : XInv) (id addr : Nat) : Bool :=
  i.covers id (addr / 2 ^ lvlShift 0 * 2 ^ lvlShift 0) (2 ^ lvlShift 0)

/-- Accesses translated at a switch under an entry that the invalidation covers, and not yet applied (R321). -/
def State.translatedSw (s : State) (i : XInv) : Bool :=
  (s.dev .sw).waiting.any (fun w => w.store.isSome && i.coversWalk w.request.1 w.request.2.1)

/-- The tiles of an OBJ_FREE are freed once its invalidation can complete: every walk that began before it has ended, and
every access translated under its entries has been applied or answered (R315, R321). -/
def State.freeInvalidated (s : State) : State :=
  match s.tiers.inHand.bind (fun r => r.freeing.map (fun x => (r, x))) with
  | none => s
  | some (r, i, tenant, ts) =>
    if (s.dev .sw).walks.any (fun w => w.stale) || s.translatedSw i then s
    else
      let s1 := (s.modDev .sw (fun v => v.dropEntries i)).modTiers (fun x => { x with inHand := some { r with freeing := none } })
      ts.foldl (fun a t => a.tileJob (tileCmdFor 2 tenant 0 0 false) r.job t) s1

/-- TIER_REQ, whose requests 0 to 4 are commands 0x04 to 0x08; a reserved request is answered OUT_OF_RANGE. -/
def State.tierReq (s : State) : State :=
  s.tierTake 0x23 (fun _ r s s1 =>
    if 4 < tOp r then s1.recAnswer r Code.OUT_OF_RANGE else s.recCommand 0x23 (fun r => tierCmd (tOp r)))

end Sys2Proof.Machine
end

