-- ==== Sys2Proof/Machine/Settle.lean ====
section
/-! DEFINITION. What completes by itself once a step has been taken: transactions whose last part has ended, fences,
emission commands, and what cores and engines wait for. The spec gives these no event of their own: they follow at once
(log 16). -/

namespace Sys2Proof.Machine

/-! ### Cores -/

/-- An instruction's result and its completion code; where one register is named for both, which value stays is not
specified (R252; free, log 1). -/
def State.retireBoth (s : State) (n sd sc : Nat) (x : Word) (code : Nat) : State :=
  let c := BitVec.ofNat 64 code
  if sd = sc ∧ sd ≠ 0 then s.draw.retireS n sd (if Config.choice s.fresh % 2 = 0 then x else c)
  else (s.modCore n (fun k => k.setS sd x)).retireS n sc c

/-- A job of a core's instruction has ended. -/
def State.coreJobOver (s : State) (n : Nat) (j : Job) : State :=
  match (s.core n).wait with
  | .job id sd sc =>
    if id = j.id then
      s.resume n (fun s => s.retireBoth n sd sc (if j.code = 0 then j.data else BitVec.allOnes 64) j.code)
    else s
  | .handing id sc => if id = j.id then s.resume n (fun s => s.retireS n sc (BitVec.ofNat 64 j.code)) else s
  | _ => s

/-- A core's FENCE has ended (R259). -/
def State.coreFenceOver (s : State) (n : Nat) (f : Fence) : State :=
  match (s.core n).wait with
  | .fence id sc => if id = f.id then s.resume n (fun s => s.retireS n sc (BitVec.ofNat 64 f.code)) else s
  | _ => s

/-- A core's REDUCE has ended (R262). -/
def State.coreEmitOver (s : State) (n : Nat) (c : EmitCmd) (code : Nat) : State :=
  match (s.core n).wait with
  | .emit id sd => if id = c.id then s.resume n (fun s => s.retireS n sd (BitVec.ofNat 64 code)) else s
  | _ => s

/-- What a core waits for in the switch's own state: a landing counter, a record, a window that is cleared, room at port
32 for the rest of a tile. -/
def State.wakeCore (s : State) (n : Nat) : State :=
  match (s.core n).wait with
  | .counter =>
    match s.fetch n with
    | some w => if s.ctrMet ((s.core n).creg (wCn w)) then s.resume n (fun s => s.retireI n) else s
    | none => s
  | .take q sa sd =>
    if (s.squeue q).recs.isEmpty then s
    else s.resume n (fun s => match s.takeRecord n q sa sd with | some s1 => s1 | none => s)
  | .winClear w sd =>
    if s.get .sw (F.RED_WIN_STATUS_STATE w) = 0 then s.resume n (fun s => s.retireS n sd 0) else s
  | .handing j sc =>
    if (s.dev .sw).handsOver s.now j then s
    else if sc = 0 then s.resume n (fun s => s.retireI n)
    else s.stallOn n (.job j 0 sc) 0
  | _ => s

/-! ### Host commands -/

/-- A started command ends: one that has been silenced leaves nothing. -/
def State.cmdEnds (s : State) (num hstatus code : Nat) (result : Word) : State :=
  match s.sw.hif.cmds.find? (fun c => c.num == num) with
  | none => s
  | some c =>
    if c.silent then (s.modHif (fun h => { h with cmds := h.cmds.filter (fun x => x.num != num) })).restQueue c.q
    else s.cmdOver num (if c.aborted then HStatus.ABORTED else if c.hstatus ≠ 0 then c.hstatus else hstatus) code result

/-- HSTATUS of a command whose transactions give a code. -/
def hstatusOf (code : Nat) : Nat := if code = 0 then HStatus.DONE else HStatus.FAILED

/-- Silenced commands with nothing outstanding are gone. -/
def State.dropSilent (s : State) : State :=
  let gone := s.sw.hif.cmds.filter (fun c => c.silent && (c.done || (c.job.isNone && c.fence.isNone)))
  gone.foldl (fun a c =>
    (a.modHif (fun h => { h with cmds := h.cmds.filter (fun x => x.num != c.num) })).restQueue c.q) s

/-! ### Jobs, fences and emission commands that have ended -/

def State.jobOver (s : State) (d : Part) (j : Job) : State :=
  let s := if d = .sw then s.tierOver j else s
  let gone (s : State) : State := s.modDev d (fun v => { v with jobs := v.jobs.filter (fun x => x.id != j.id) })
  match j.owner with
  | .service _ => s
  | .core n => (gone s).coreJobOver n j
  | .command num => (gone s).cmdEnds num (hstatusOf j.code) j.code j.data
  | .engine _ idx =>
    match s.flight idx with
    | some f => s.engineDone f j.code j.data j.late
    | none => gone s
  | _ => gone s

def State.fenceOver (s : State) (d : Part) (f : Fence) : State :=
  let gone (s : State) : State := s.modDev d (fun v => { v with fences := v.fences.filter (fun x => x.id != f.id) })
  match f.owner with
  | .core n => (gone s).coreFenceOver n f
  | .command num => (gone s).cmdEnds num (hstatusOf f.code) f.code 0
  | .engine _ idx =>
    match s.flight idx with
    | some x => (gone s).engineDone x f.code 0 false
    | none => gone s
  | _ => s

def State.emitOver (s : State) (c : EmitCmd) (code : Nat) : State :=
  let gone (s : State) : State :=
    { s with sw := { s.sw with emits := s.sw.emits.filter (fun x => x.id != c.id) } }.redCount c.win (0xB08 + code)
  match c.owner with
  | .service _ => s
  | .core n => (gone s).coreEmitOver n c code
  | .command num => (gone s).cmdEnds num HStatus.DONE 0 (BitVec.ofNat 64 code)
  | _ => gone s

/-- An engine's WAIT whose counter has reached its target (R372). -/
def State.waitOver (s : State) (f : Flight) : State :=
  if f.stage = .waitCtr ∧ reqValue f.req % 2 ^ 48 ≤ (s.dev .ep).lctr (reqLctr f.req) then s.engineDone f 0 0 false else s

/-- The parts of a device that have ended. -/
def State.settleDev (s : State) (d : Part) : State :=
  let s1 := ((s.dev d).jobs.filter (fun j => j.left == 0)).foldl (fun a j => a.jobOver d j) s
  ((s1.dev d).fences.filter (fun f => f.waits.isEmpty)).foldl (fun a f => a.fenceOver d f) s1

def State.settleEmits (s : State) : State :=
  s.sw.emits.foldl (fun a c => match c.result with | some code => a.emitOver c code | none => a) s

/-- CONTROL frames that wait at a port go out where R56 now allows it. -/
def State.flushPorts (s : State) : State :=
  let go (d : Part) (s : State) : State := (List.range (linkPorts d)).foldl (fun a p => a.flushControl d p) s
  go .ep (go .sw s)

/-- Everything that has ended ends, and what waited for it goes on. -/
def State.settle (s : State) : State :=
  let s1 := (((s.freeInvalidated.resumeDemotes.pumpSeals.wakeIdle.settleDev .sw).settleDev .ep).settleEmits).dropSilent
  let s2 := s1.ep.flights.foldl (fun a f => a.waitOver f) s1
  let s3 := s2.sw.cores.foldl (fun a c => a.wakeCore c.1) s2
  (s3.tierReplies.countDone.pumpColl.pumpMemb.tilesOver.settleDev .sw).watchDomains.flushPorts.writeDir

/-- A step whose effect may end what others wait for. -/
def stepSettle (name : String) (ok : Bool) (t : Nat) (s : State) (f : State → State) : Host.Outcome State Fault Refusal :=
  stepIf name ok t s (fun s => (f s).settle)

/-- A write of the host whose effect may end what others wait for. -/
def hostSettle (name : String) (ok : Bool) (d : Part) (x : HostAcc) (t : Nat) (s : State) (f : State → State) :
    Host.Outcome State Fault Refusal :=
  hostIf name ok d x t s (fun s => (f s).settle)

end Sys2Proof.Machine
end

