-- ==== Sys2Proof/Machine/LinalFabric.lean ====
section
/-! DEFINITION. The fabric, window, queue, channel, tier, step, configuration and drain instructions of a Linal core, one
step each (R251 to R271, Tables 10.5 to 10.14). A step happens when the word at the core's PC is the instruction it
names; `ue` says that the local words it reads, or the record it takes, hold an uncorrectable error. -/

namespace Sys2Proof.Machine

/-- The step of a core's instruction: `names` picks the instruction's words. -/
def fabStep (name : String) (n t : Nat) (s : State) (names : Nat → Bool) (run : Nat → State → State) :
    Host.Outcome State Fault Refusal :=
  stepSettle name (okCore n) t s (fun s => s.instr n names run)

/-- LCTR.SET. -/
def State.setCounter (s : State) (n w : Nat) : State :=
  (s.lctrWrite .sw (((s.core n).sreg (wSa w)).toNat % 65536) ((s.core n).sreg (wSb w)).toNat).retireI n

/-- READ (R253). -/
def execRead (n t : Nat) (s : State) : Host.Outcome State Fault Refusal :=
  fabStep "READ" n t s (fun w => opIs 0x60 w && wOrd w == 0) (fun w s => s.coreRead n w)

/-- READ_ACQ (R253, R154). -/
def execReadAcq (n t : Nat) (s : State) : Host.Outcome State Fault Refusal :=
  fabStep "READ_ACQ" n t s (fun w => opIs 0x60 w && wOrd w == 2) (fun w s => s.coreRead n w)

/-- WRITE (R253). -/
def execWrite (n t : Nat) (s : State) : Host.Outcome State Fault Refusal :=
  fabStep "WRITE" n t s (fun w => opIs 0x61 w && wOrd w == 0) (fun w s => s.coreWrite n w)

/-- WRITE_REL (R253, R153). -/
def execWriteRel (n t : Nat) (s : State) : Host.Outcome State Fault Refusal :=
  fabStep "WRITE_REL" n t s (fun w => opIs 0x61 w && wOrd w == 1) (fun w s => s.coreWrite n w)

/-- AMO_ADD (R254). -/
def execAmoAdd (n t : Nat) (s : State) : Host.Outcome State Fault Refusal :=
  fabStep "AMO_ADD" n t s (fun w => opIs 0x70 w) (fun w s => s.coreAmo n w 0)

/-- AMO_AND (R254). -/
def execAmoAnd (n t : Nat) (s : State) : Host.Outcome State Fault Refusal :=
  fabStep "AMO_AND" n t s (fun w => opIs 0x71 w) (fun w s => s.coreAmo n w 1)

/-- AMO_OR (R254). -/
def execAmoOr (n t : Nat) (s : State) : Host.Outcome State Fault Refusal :=
  fabStep "AMO_OR" n t s (fun w => opIs 0x72 w) (fun w s => s.coreAmo n w 2)

/-- AMO_XOR (R254). -/
def execAmoXor (n t : Nat) (s : State) : Host.Outcome State Fault Refusal :=
  fabStep "AMO_XOR" n t s (fun w => opIs 0x73 w) (fun w s => s.coreAmo n w 3)

/-- AMO_SMIN (R254). -/
def execAmoSmin (n t : Nat) (s : State) : Host.Outcome State Fault Refusal :=
  fabStep "AMO_SMIN" n t s (fun w => opIs 0x74 w) (fun w s => s.coreAmo n w 4)

/-- AMO_SMAX (R254). -/
def execAmoSmax (n t : Nat) (s : State) : Host.Outcome State Fault Refusal :=
  fabStep "AMO_SMAX" n t s (fun w => opIs 0x75 w) (fun w s => s.coreAmo n w 5)

/-- AMO_UMIN (R254). -/
def execAmoUmin (n t : Nat) (s : State) : Host.Outcome State Fault Refusal :=
  fabStep "AMO_UMIN" n t s (fun w => opIs 0x76 w) (fun w s => s.coreAmo n w 6)

/-- AMO_UMAX (R254). -/
def execAmoUmax (n t : Nat) (s : State) : Host.Outcome State Fault Refusal :=
  fabStep "AMO_UMAX" n t s (fun w => opIs 0x77 w) (fun w s => s.coreAmo n w 7)

/-- AMO_SWAP (R254). -/
def execAmoSwap (n t : Nat) (s : State) : Host.Outcome State Fault Refusal :=
  fabStep "AMO_SWAP" n t s (fun w => opIs 0x78 w) (fun w s => s.coreAmo n w 8)

/-- AMO_CAS (R254). -/
def execAmoCas (n t : Nat) (s : State) : Host.Outcome State Fault Refusal :=
  fabStep "AMO_CAS" n t s (fun w => opIs 0x79 w) (fun w s => s.coreAmo n w 9)

/-- MSG (R258). -/
def execMsg (n : Nat) (ue : Bool) (t : Nat) (s : State) : Host.Outcome State Fault Refusal :=
  fabStep "MSG" n t s (fun w => opIs 0x62 w) (fun w s => s.coreMsg n w ue)

/-- TPUT (R256, R257). -/
def execTput (n : Nat) (ue : Bool) (t : Nat) (s : State) : Host.Outcome State Fault Refusal :=
  fabStep "TPUT" n t s (fun w => opIs 0x63 w) (fun w s => s.coreTput n w ue)

/-- TGET (R256, R257). -/
def execTget (n t : Nat) (s : State) : Host.Outcome State Fault Refusal :=
  fabStep "TGET" n t s (fun w => opIs 0x64 w) (fun w s => s.coreTget n w)

/-- TIER_PROMOTE_HOT (R266). -/
def execTierPromoteHot (n t : Nat) (s : State) : Host.Outcome State Fault Refusal :=
  fabStep "TIER_PROMOTE_HOT" n t s (fun w => opIs 0x65 w && wSel w == 0) (fun w s => s.coreTier n w)

/-- TIER_PROMOTE_DRAM (R266). -/
def execTierPromoteDram (n t : Nat) (s : State) : Host.Outcome State Fault Refusal :=
  fabStep "TIER_PROMOTE_DRAM" n t s (fun w => opIs 0x65 w && wSel w == 1) (fun w s => s.coreTier n w)

/-- TIER_PIN (R266). -/
def execTierPin (n t : Nat) (s : State) : Host.Outcome State Fault Refusal :=
  fabStep "TIER_PIN" n t s (fun w => opIs 0x65 w && wSel w == 2) (fun w s => s.coreTier n w)

/-- TIER_UNPIN (R266). -/
def execTierUnpin (n t : Nat) (s : State) : Host.Outcome State Fault Refusal :=
  fabStep "TIER_UNPIN" n t s (fun w => opIs 0x65 w && wSel w == 3) (fun w s => s.coreTier n w)

/-- TIER_WRITEBACK (R266). -/
def execTierWriteback (n t : Nat) (s : State) : Host.Outcome State Fault Refusal :=
  fabStep "TIER_WRITEBACK" n t s (fun w => opIs 0x65 w && wSel w == 4) (fun w s => s.coreTier n w)

/-- FENCE (R259). -/
def execFence (n t : Nat) (s : State) : Host.Outcome State Fault Refusal :=
  fabStep "FENCE" n t s (fun w => opIs 0x66 w) (fun w s => s.coreFence n w)

/-- WAITC (R260). -/
def execWaitc (n t : Nat) (s : State) : Host.Outcome State Fault Refusal :=
  fabStep "WAITC" n t s (fun w => opIs 0x67 w) (fun w s => s.coreWaitc n w)

/-- LCTR_RD (R260). -/
def execLctrRd (n t : Nat) (s : State) : Host.Outcome State Fault Refusal :=
  fabStep "LCTR_RD" n t s (fun w => opIs 0x68 w) (fun w s => s.retireS n (wSd w) (s.lctrRead (((s.core n).sreg (wSa w)).toNat % 65536)))

/-- LCTR_SET (R260). -/
def execLctrSet (n t : Nat) (s : State) : Host.Outcome State Fault Refusal :=
  fabStep "LCTR_SET" n t s (fun w => opIs 0x69 w) (fun w s => s.setCounter n w)

/-- WIN_SET (R262). -/
def execWinSet (n t : Nat) (s : State) : Host.Outcome State Fault Refusal :=
  fabStep "WIN_SET" n t s (fun w => opIs 0x80 w) (fun w s => s.coreWinSet n w)

/-- WIN_ARM (R262). -/
def execWinArm (n t : Nat) (s : State) : Host.Outcome State Fault Refusal :=
  fabStep "WIN_ARM" n t s (fun w => opIs 0x81 w) (fun w s => s.coreWinArm n w)

/-- WIN_CLEAR (R262). -/
def execWinClear (n t : Nat) (s : State) : Host.Outcome State Fault Refusal :=
  fabStep "WIN_CLEAR" n t s (fun w => opIs 0x82 w) (fun w s => s.coreWinClear n w)

/-- REDUCE (R262). -/
def execReduce (n t : Nat) (s : State) : Host.Outcome State Fault Refusal :=
  fabStep "REDUCE" n t s (fun w => opIs 0x83 w) (fun w s => s.coreReduce n w)

/-- WIN_STAT (R262). -/
def execWinStat (n t : Nat) (s : State) : Host.Outcome State Fault Refusal :=
  fabStep "WIN_STAT" n t s (fun w => opIs 0x84 w) (fun w s => s.coreWinStat n w)

/-- TAKE (R263). -/
def execTake (n : Nat) (ecc : Ecc) (t : Nat) (s : State) : Host.Outcome State Fault Refusal :=
  fabStep "TAKE" n t s (fun w => opIs 0x88 w) (fun w s => s.coreTake n w ecc)

/-- HCQ_POST (R264). -/
def execHcqPost (n : Nat) (ue : Bool) (t : Nat) (s : State) : Host.Outcome State Fault Refusal :=
  fabStep "HCQ_POST" n t s (fun w => opIs 0x89 w) (fun w s => s.coreHcqPost n w ue)

/-- CHAN_INV (R265). -/
def execChanInv (n t : Nat) (s : State) : Host.Outcome State Fault Refusal :=
  fabStep "CHAN_INV" n t s (fun w => opIs 0x90 w) (fun w s => s.coreChanInv n w)

/-- CHAN_CHK (R265). -/
def execChanChk (n t : Nat) (s : State) : Host.Outcome State Fault Refusal :=
  fabStep "CHAN_CHK" n t s (fun w => opIs 0x91 w) (fun w s => s.coreChanChk n w)

/-- STEP_RD (R267). -/
def execStepRd (n t : Nat) (s : State) : Host.Outcome State Fault Refusal :=
  fabStep "STEP_RD" n t s (fun w => opIs 0x98 w) (fun w s => s.retireS n (wSd w) (BitVec.ofNat 64 (s.get .sw F.MEM_STEP_STEP)))

/-- STEP_SET (R267). -/
def execStepSet (n t : Nat) (s : State) : Host.Outcome State Fault Refusal :=
  fabStep "STEP_SET" n t s (fun w => opIs 0x99 w) (fun w s => s.coreStepSet n w)

/-- STEP_SEAL (R267). -/
def execStepSeal (n t : Nat) (s : State) : Host.Outcome State Fault Refusal :=
  fabStep "STEP_SEAL" n t s (fun w => opIs 0x9A w) (fun w s => s.coreStepSeal n w)

/-- STEP_DISCARD (R267). -/
def execStepDiscard (n t : Nat) (s : State) : Host.Outcome State Fault Refusal :=
  fabStep "STEP_DISCARD" n t s (fun w => opIs 0x9B w) (fun w s => s.coreStepDiscard n w)

/-- STAGE (R269). -/
def execStage (n t : Nat) (s : State) : Host.Outcome State Fault Refusal :=
  fabStep "STAGE" n t s (fun w => opIs 0xA4 w) (fun w s => s.coreStageI n w)

/-- CHECK (R269). -/
def execCheck (n t : Nat) (s : State) : Host.Outcome State Fault Refusal :=
  fabStep "CHECK" n t s (fun w => opIs 0xA5 w) (fun w s => s.coreCheckI n w)

/-- POUR (R269). -/
def execPour (n t : Nat) (s : State) : Host.Outcome State Fault Refusal :=
  fabStep "POUR" n t s (fun w => opIs 0xA6 w) (fun w s => s.corePourI n w)

/-- DISCARD (R269). -/
def execDiscard (n t : Nat) (s : State) : Host.Outcome State Fault Refusal :=
  fabStep "DISCARD" n t s (fun w => opIs 0xA7 w) (fun w s => s.coreDiscardI n w)

/-- DRAIN (R271). -/
def execDrain (n t : Nat) (s : State) : Host.Outcome State Fault Refusal :=
  fabStep "DRAIN" n t s (fun w => opIs 0xA9 w) (fun w s => s.coreDrain n w)

/-- DRAINED (R271). -/
def execDrained (n t : Nat) (s : State) : Host.Outcome State Fault Refusal :=
  fabStep "DRAINED" n t s (fun w => opIs 0xAA w) (fun w s => s.coreDrained n w)

end Sys2Proof.Machine
end

