-- ==== Sys2Proof/Machine/Telemetry.lean ====
section
/-! DEFINITION. Counters read, snapshots (spec/18), the management port and the I3C port (spec/13), with their steps. -/

namespace Sys2Proof.Machine

/-! ### Counters (R468, R469, R472, R473) -/

/-- Every counter holds what has happened up to now. -/
def State.syncCounters (s : State) (d : Part) : State :=
  let s1 := (s.dev d).ports.foldl (fun a e => if e.1 < linkPorts d then a.countPort d e.1 else a) s
  match d with
  | .sw => s1.countLevels
  | .ep => s1

/-- The tenant of a tenant counter. -/
def State.counterTenant (s : State) (i : Nat) : Option Nat :=
  if 0x900 ≤ i ∧ i < 0xB00 then some (s.get .sw (F.RED_WIN_A_TENANT (i % 256)))
  else if 0xB40 ≤ i ∧ i < 0xBC0 then some (s.get .sw (F.SEQ_CORE_STATUS_TENANT (i % 64)))
  else none

/-- A counter as the host reads it: masked in confidential mode (R473). -/
def State.hostCounter (s : State) (d : Part) (i : Nat) : Nat :=
  let x := SMap.at 0 (s.dev d).counters i
  match d with
  | .ep => x
  | .sw => match s.counterTenant i with
    | some t => if s.conf ∧ t ≠ 0 then 0 else x
    | none => x

/-- A counter as a program of a core reads it (R472). -/
def State.coreCounter (s : State) (n i : Nat) : Word :=
  let tenant := s.get .sw (F.SEQ_CORE_STATUS_TENANT n)
  let any := bitOf (s.get .sw (F.SEQ_CORE_STATUS_PRIV n)) 5
  let allowed : Bool := any || match s.counterTenant i with
    | some t => t == tenant
    | none => bitOf (s.get .sw (F.TEL_GRANT_GROUPS tenant)) (i / 64)
  if allowed then BitVec.ofNat 64 (SMap.at 0 (s.dev .sw).counters i) else 0x8000000000000000

/-- CTR_RD (R270, R472). -/
def execCtrRd (n t : Nat) (s : State) : Host.Outcome State Fault Refusal :=
  fabStep "CTR_RD" n t s (fun w => opIs 0xA8 w) (fun w s =>
    let s1 := s.syncCounters .sw
    s1.retireS n (wSd w) (s1.coreCounter n (((s1.core n).sreg (wSa w)).toNat % 4096)))

/-! ### Snapshots (R470, R471) -/

/-- The 64 counters of a group as the host reads them. -/
def State.groupCounts (s : State) (d : Part) (g : Nat) : List Nat := (List.range 64).map (fun k => s.hostCounter d (64 * g + k))

/-- A snapshot record's bytes (Table 18.2). -/
def snapBytes (window endNs us groups step epoch skipped : Nat) (conf : Bool) (counts : List Nat) : List Byte :=
  leBytes 64 (window % 2 ^ 64 * 2 ^ 448 + endNs % 2 ^ 64 * 2 ^ 384 + us * 2 ^ 352 + groups * 2 ^ 288 + step * 2 ^ 256
    + epoch * 2 ^ 224 + min skipped 65535 * 2 ^ 208 + b2n conf * 2 ^ 207) ++ counts.flatMap (fun c => leBytes 8 c)

/-- A record is written to the ring, or lost (R471, R511). -/
def State.snapWrite (s : State) (d : Part) (at_ : Nat) : State :=
  let v := s.dev d
  let groups := v.get F.TEL_WIN_GROUPS_GROUPS
  let gs := groupsOf groups
  let size := 64 + 512 * gs.length
  let log2 := v.get F.TEL_WIN_CFG_LOG2_ENTRIES
  let head := v.get F.TEL_SNAP_RING_HEAD
  let tail := v.get F.TEL_SNAP_RING_TAIL
  let a := v.get F.TEL_SNAP_BASE_BASE * 4096 + size * head
  if ringFull log2 head tail || ! v.placed a size then (s.set d F.TEL_SNAP_RING_LOST 1).count d 0xD06 1
  else
    let counts := gs.flatMap (fun g => s.groupCounts d g)
    let us := v.get F.TEL_WIN_CFG_WINDOW_US
    let conf := d == .sw && s.conf
    let h := (head + 1) % 2 ^ log2
    let v1 := { v with
      mem := Memory.setBytes v.mem a (snapBytes v.tel.window (at_ - v.clock0) us groups v.step
        (v.get F.TEL_MEMB_STATE_EPOCH) v.tel.skipped conf counts)
      tel := { v.tel with
        busy := at_ + size / 16 + 200, skipped := 0,
        recs := ⟨v.tel.window, us, groups, counts, conf⟩ ::
          v.tel.recs.filter (fun r => (groupsOf r.groups).any (fun g => ! bitOf groups g)) } }
    (s.setDev d ((v1.set F.TEL_SNAP_RING_HEAD h).set F.TEL_SNAP_RING_PENDING (b2n (h != tail)))).count d 0xD05 1

/-- WINDOW_BOUNDARY: the next boundary has fallen. -/
def State.boundary (s : State) (d : Part) : State :=
  let v := s.dev d
  let at_ := v.tel.nextAt
  if ¬ v.on F.TEL_WIN_CFG_ENABLE ∨ s.now < at_ then s
  else
    let s1 := s.syncCounters d
    let s2 := if at_ < v.tel.busy then s1.modDev d (fun v => { v with tel := { v.tel with skipped := v.tel.skipped + 1 } })
      else s1.snapWrite d at_
    s2.modDev d (fun v => { v with tel := { v.tel with
      window := v.tel.window + 1, nextAt := at_ + v.get F.TEL_WIN_CFG_WINDOW_US * 1000 } })

/-- WINDOW_BOUNDARY (R470, R471). -/
def execWindowBoundary (d : Part) (t : Nat) (s : State) : Host.Outcome State Fault Refusal :=
  stepIf "WINDOW_BOUNDARY" true t s (fun s => s.boundary d)

/-- A write to TEL_WIN_CFG (R470, R471): LOG2_ENTRIES changes only while ENABLE is 0. A record being written
is completed (Table 18.3), so a boundary before its end is skipped; boundaries skipped before it are still told by the next
record. -/
def State.winCfg (s : State) (d : Part) (x : Nat) : State :=
  let v := s.dev d
  let was := v.on F.TEL_WIN_CFG_ENABLE
  let v1 := (if was then v else v.set F.TEL_WIN_CFG_LOG2_ENTRIES (bitsOf x 4 0)).set F.TEL_WIN_CFG_WINDOW_US (bitsOf x 51 32)
  let v2 := v1.set F.TEL_WIN_CFG_ENABLE (bitsOf x 63 63)
  s.setDev d (if bitOf x 63 && ! was then { v2 with
    tel := { v2.tel with window := 0, nextAt := s.now + bitsOf x 51 32 * 1000 } } else v2)

/-- TEL_WIN_CFG_WRITE. -/
def execTelWinCfgWrite (d : Part) (v : Word) (t : Nat) (s : State) : Host.Outcome State Fault Refusal :=
  hostIf "TEL_WIN_CFG_WRITE" true d (wr A.TEL_WIN_CFG) t s (fun s => s.winCfg d v.toNat)

/-! ### The management port (R357 to R360, R441, R452, R474) -/

/-- What a request is answered: STATUS, and the body. -/
abbrev MgmtAns := Nat × List Byte

/-- The reply of CAP_SET and CAP_GET (Table 17.4). -/
def State.capBody (s : State) : List Byte :=
  let g := s.get .sw
  let code := match s.capState with | 1 => 1 | 2 => 2 | 3 => 3 | _ => 0
  beBytes 2 s.capW ++ beBytes 2 s.effectiveW ++ beBytes 2 (g F.PWR_CAP_STATUS_FLOOR_W) ++ beBytes 2 (g F.PWR_EST_EST_1MS_W)
    ++ beBytes 1 code ++ beBytes 1 s.throttle ++ beBytes 1 (s.level 0) ++ beBytes 1 (s.level 1) ++ beBytes 1 (s.level 2)
    ++ beBytes 3 0

/-- The HEALTH reply (Table 16.8). -/
def State.healthBody (s : State) : List Byte :=
  let v := s.dev .sw
  beBytes 4 (v.reg A.CFG_DEVICE_ID) ++ beBytes 4 (v.get F.TEL_MEMB_STATE_EPOCH) ++ beBytes 4 v.step
    ++ beBytes 1 (v.get F.TEL_MEMB_STATE_STATE) ++ beBytes 1 (v.get F.TEL_FATAL_CAUSE) ++ beBytes 2 0
    ++ beBytes 4 (v.reg A.TEL_FAULT_STATUS)
    ++ beBytes 4 ((List.range 32).map (fun p => if v.get (F.LNK_STATUS_STATE p) = 7 then 2 ^ p else 0)).sum

/-- The TEL_SNAPSHOT reply (R474): FROM 0 asks for the latest record that holds the group. -/
def State.snapBody (s : State) (g from_ : Nat) : List Byte :=
  match if from_ = 1 then none else (s.dev .sw).tel.recs.find? (fun r => bitOf r.groups g) with
  | some r =>
    let k := ((groupsOf r.groups).filter (fun x => decide (x < g))).length
    let cs := (List.range 64).map (fun j => match s.counterTenant (64 * g + j) with
      | some t => if s.conf ∧ t ≠ 0 then 0 else r.counts.getD (64 * k + j) 0
      | none => r.counts.getD (64 * k + j) 0)
    beBytes 8 r.window ++ beBytes 4 r.lengthUs ++ beBytes 1 g ++ beBytes 1 (2 * b2n (r.conf || s.conf)) ++ beBytes 2 0
      ++ cs.flatMap (fun c => beBytes 8 c)
  | none =>
    beBytes 8 (2 ^ 64 - 1) ++ beBytes 4 (s.get .sw F.TEL_WIN_CFG_WINDOW_US) ++ beBytes 1 g ++ beBytes 1 (1 + 2 * b2n s.conf)
      ++ beBytes 2 0 ++ (s.groupCounts .sw g).flatMap (fun c => beBytes 8 c)

/-- A request carried out, by its TYPE (Table 13.13). -/
def State.mgmtRun (s : State) (r : MgmtReq) : MgmtAns × State :=
  match mh r.hdr 103 96 with
  | 0x01 =>
    if r.body.length ≠ 4 then ((2, []), s)
    else
      let s1 := s.capSet (ofBe (r.body.take 2))
      ((0, s1.capBody), s1)
  | 0x02 => if r.body.isEmpty then ((0, s.capBody), s) else ((2, []), s)
  | 0x10 =>
    let g := ofBe (r.body.take 1)
    let f := ofBe (r.body.drop 1)
    if r.body.length ≠ 2 ∨ 63 < g ∨ 1 < f then ((2, []), s)
    else
      let s1 := s.syncCounters .sw
      ((0, s1.snapBody g f), s1)
  | 0x20 => if r.body.isEmpty then ((0, s.healthBody), s) else ((2, []), s)
  | _ => ((1, []), s)

/-- A datagram at the management port: dropped, answered with the reply kept, or carried out once (R358, R360). -/
def State.mgmtRequest (s : State) (r : MgmtReq) : State :=
  s.datagram r (fun s =>
    let x := s.mgmtRun r
    let h := mgmtHdr (mh r.hdr 103 96 % 128 + 128) (mh r.hdr 95 64) x.1.2.length (s.dev .sw).node x.1.1
    x.2.mgmtReply r [.mgmt h x.1.2])

/-- The step of a request row: the datagram has the row's TYPE, or one that Table 13.13 does not list. -/
def okType (type : Nat) (r : MgmtReq) : Bool :=
  let ty := mh r.hdr 103 96
  ty == type || ! [0x01, 0x02, 0x10, 0x20, 0x30, 0xC0].contains ty

/-- CAP_SET (R452). -/
def execCapSet (req : MgmtReq) (t : Nat) (s : State) : Host.Outcome State Fault Refusal :=
  stepSettle "CAP_SET" (okType 0x01 req) t s (fun s => s.mgmtRequest req)

/-- CAP_GET (R452). -/
def execCapGet (req : MgmtReq) (t : Nat) (s : State) : Host.Outcome State Fault Refusal :=
  stepSettle "CAP_GET" (okType 0x02 req) t s (fun s => s.mgmtRequest req)

/-- TEL_SNAPSHOT (R474). -/
def execTelSnapshot (req : MgmtReq) (t : Nat) (s : State) : Host.Outcome State Fault Refusal :=
  stepSettle "TEL_SNAPSHOT" (okType 0x10 req) t s (fun s => s.mgmtRequest req)

/-- HEALTH (R441). -/
def execHealth (req : MgmtReq) (t : Nat) (s : State) : Host.Outcome State Fault Refusal :=
  stepSettle "HEALTH" (okType 0x20 req) t s (fun s => s.mgmtRequest req)

/-- EVENT_REPLY (R360): the controller has the EVENT of that SEQ. -/
def execEventReply (req : MgmtReq) (t : Nat) (s : State) : Host.Outcome State Fault Refusal :=
  stepIf "EVENT_REPLY" (mh req.hdr 103 96 == 0xC0) t s (fun s => s.ifTakes req (fun s =>
    s.modHif (fun q => { q with events := q.events.filter (fun e => e.seq != mh req.hdr 95 64) })))

/-- An EVENT is sent again every 100 ms, up to ten times (R360). -/
def State.resendEvent (s : State) (seq : Nat) : State :=
  match s.sw.hif.events.find? (fun e => e.seq == seq) with
  | none => s
  | some e =>
    if s.now < e.at_ + 100000000 ∨ ! s.mgmtOn then s
    else
      let s1 := s.emit (.mgmt (mgmtHdr 0x40 seq e.body.length (s.dev .sw).node 0) e.body)
      let again (l : List MgmtEvent) : List MgmtEvent :=
        if 10 ≤ e.sends then l.filter (fun x => x.seq != seq)
        else l.map (fun (x : MgmtEvent) => if x.seq = seq then { x with sends := x.sends + 1, at_ := s.now } else x)
      s1.modHif (fun q => { q with events := again q.events })

/-- EVENT_RESEND_TIMER (R360). -/
def execEventResendTimer (seq t : Nat) (s : State) : Host.Outcome State Fault Refusal :=
  stepIf "EVENT_RESEND_TIMER" true t s (fun s => s.resendEvent seq)

/-! ### ARP, Neighbor Discovery and ICMP echo (R357): the standards' own formats (log 18) -/

/-- The Internet checksum of a byte string: the complement of the ones' complement sum of its 16-bit words. -/
def inetSum (bs : List Byte) : Nat :=
  let words := (List.range ((bs.length + 1) / 2)).map (fun k => (bs.getD (2 * k) 0).toNat * 256 + (bs.getD (2 * k + 1) 0).toNat)
  let fold (x : Nat) : Nat := x % 65536 + x / 65536
  65535 - fold (fold (fold words.sum))

/-- A message with its checksum at an offset, over a prefix and the message. -/
def withSum (pre msg : List Byte) (off : Nat) : List Byte :=
  let z := msg.take off ++ [0, 0] ++ msg.drop (off + 2)
  z.take off ++ beBytes 2 (inetSum (pre ++ z)) ++ z.drop (off + 2)

/-- The answer to an Ethernet frame of ARP, ICMP echo or Neighbor Discovery for the port's addresses, if it has one. -/
def State.etherReply (s : State) (f : List Byte) : Option (List Byte) :=
  let v := s.dev .sw
  let mac := beBytes 6 (v.get F.HIF_MGMT_CFG_MAC)
  let ip4 := beBytes 4 (v.get F.HIF_MGMT_IP4_OWN)
  let ip6 := beBytes 8 (v.reg (A.HIF_MGMT_IP6 0)) ++ beBytes 8 (v.reg (A.HIF_MGMT_IP6 1))
  let type := ofBe (slice f 12 2)
  let p := f.drop 14
  if type = 0x0806 then
    if v.on F.HIF_MGMT_CTRL_IP4_EN ∧ ofBe (p.take 8) = 0x0001080006040001 ∧ slice p 24 4 = ip4 then
      some (slice f 6 6 ++ mac ++ beBytes 2 0x0806 ++ beBytes 8 0x0001080006040002 ++ mac ++ ip4 ++ slice p 8 6 ++ slice p 14 4)
    else none
  else if type = 0x0800 then
    let len := ofBe (slice p 2 2)
    let msg := slice p 20 (len - 20)
    if v.on F.HIF_MGMT_CTRL_IP4_EN ∧ ofBe (p.take 1) = 0x45 ∧ slice p 9 1 = [1] ∧ slice p 16 4 = ip4 ∧ len ≤ 1500
        ∧ ofBe (msg.take 2) = 0x0800 then
      some (slice f 6 6 ++ mac ++ beBytes 2 0x0800 ++ withSum [] (p.take 12 ++ ip4 ++ slice p 12 4) 10
        ++ withSum [] ([0, 0] ++ msg.drop 2) 2)
    else none
  else if type = 0x86DD then
    let msg := slice p 40 (ofBe (slice p 4 2))
    let ok := v.on F.HIF_MGMT_CTRL_IP6_EN && slice p 6 1 == [58] && decide (msg.length ≤ 1460)
    let answer (out : List Byte) : List Byte :=
      let pre := ip6 ++ slice p 8 16 ++ beBytes 4 out.length ++ beBytes 4 58
      slice f 6 6 ++ mac ++ beBytes 2 0x86DD ++ p.take 4 ++ beBytes 2 out.length ++ [58, 255] ++ ip6 ++ slice p 8 16
        ++ withSum pre out 2
    if ok ∧ msg.take 1 = [128] ∧ slice p 24 16 = ip6 then some (answer ([129, 0] ++ msg.drop 2))
    else if ok ∧ msg.take 1 = [135] ∧ slice msg 8 16 = ip6 then
      some (answer ([136, 0, 0, 0] ++ beBytes 4 0x60000000 ++ ip6 ++ [2, 1] ++ mac))
    else none
  else none

/-- ARP_NEIGHBOR_DISCOVERY_ICMP_ECHO (R357). -/
def execArpNeighborDiscoveryIcmpEcho (frame : List Byte) (t : Nat) (s : State) : Host.Outcome State Fault Refusal :=
  stepIf "ARP_NEIGHBOR_DISCOVERY_ICMP_ECHO" true t s (fun s =>
    if ! s.mgmtOn || s.get .sw F.CFG_BOOT_STATUS_STAGE == 0xF then s
    else match s.etherReply frame with
      | some out => s.emit (.ethernet out)
      | none => s)

/-! ### The I3C port (R361) -/

/-- The registers that the I3C port reads. -/
def i3cReads (a : Nat) : Bool :=
  a == A.CFG_DEVICE_ID || a == A.HIF_ERR || (indexOf (A.LNK_STATUS 0) 0x1000 32 a).isSome
  || [A.PWR_CAP_STATUS, A.PWR_EST, A.PWR_VR_STATUS, A.PWR_AGE_STATUS, A.PWR_EVENT].contains a

/-- I3C_PRIVATE_WRITE: 4 B give an offset; anything else is not acknowledged. -/
def execI3cPrivateWrite (bytes : List Byte) (t : Nat) (s : State) : Host.Outcome State Fault Refusal :=
  stepIf "I3C_PRIVATE_WRITE" true t s (fun s =>
    if bytes.length = 4 ∧ s.sw.hif.i3cAddr.isSome then (s.modHif (fun q => { q with i3cOffset := ofLe bytes })).emit (.i3c true [])
    else s.emit (.i3c false []))

/-- I3C_PRIVATE_READ: 8 B from the offset. -/
def execI3cPrivateRead (t : Nat) (s : State) : Host.Outcome State Fault Refusal :=
  stepIf "I3C_PRIVATE_READ" true t s (fun s =>
    let a := s.sw.hif.i3cOffset
    if s.sw.hif.i3cAddr.isNone then s.emit (.i3c false [])
    else s.emit (.i3c true (leBytes 8 (if i3cReads a then (s.dev .sw).reg a else 0))))

/-- I3C_DYNAMIC_ADDRESS: by ENTDAA, or by a SETDASA to the strapped static address; one to another address is another
target's. -/
def execI3cDynamicAddress (x : I3cAssign) (t : Nat) (s : State) : Host.Outcome State Fault Refusal :=
  stepIf "I3C_DYNAMIC_ADDRESS" (decide (x.addr < 128)) t s (fun s =>
    if x.static.getD s.sw.hif.i3cStatic = s.sw.hif.i3cStatic then s.modHif (fun q => { q with i3cAddr := some x.addr }) else s)

end Sys2Proof.Machine
end

