-- ==== Sys2Proof/Machine/PotCheck.lean ====
section
/-! DEFINITION. What CHECK evaluates (spec/02 Table 2.2): the consistency rules over the staged set, and the drain
conditions of R26 and of the other chapters. -/

namespace Sys2Proof.Machine

/-- A violation: its code, the register that OFFSET names, the port and the class (255 where none applies), and REQUIRED
and STAGED where the spec states them. -/
structure Viol where
  code : Nat
  reg : Nat
  port : Nat
  cls : Nat
  required : Option Nat
  staged : Option Nat
deriving DecidableEq, Repr

/-- No port, or no class, applies. -/
def noPort : Nat := 0xFF

/-- One violation, unless the rule holds. -/
def violIf (bad : Bool) (x : Viol) : List Viol := if bad then [x] else []

/-- A staged field lies in a range: REQUIRED is the bound that it breaks. -/
def Dev.range (v : Dev) (f : Fld) (p c lo hi : Nat) : List Viol :=
  let x := v.pot f
  violIf (decide (x < lo) || decide (hi < x)) ⟨1, f.reg, p, c, some (if x < lo then lo else hi), some x⟩

/-- A placement condition of code RANGE that compares no sum with a bound: the record holds the value found in the field
that it names; the spec states no one bound for it. -/
def placeViol (bad : Bool) (f : Fld) (found : Nat) : List Viol :=
  violIf bad ⟨1, f.reg, noPort, noPort, none, some found⟩

def Dev.potOn (v : Dev) (f : Fld) : Bool := v.pot f == 1

/-- A register's staged copy differs from its live one. -/
def Dev.changes (v : Dev) (a : Nat) : Bool := v.stagedReg a != v.reg a

def Dev.changesField (v : Dev) (f : Fld) : Bool := v.pot f != v.get f

/-- RESV_TOP as the Pot would leave it, in bytes. -/
def Dev.potTop (v : Dev) : Nat := v.pot F.MEM_DRAM_CFG_RESV_TOP * 2 ^ 30

/-- A sum of fields, in units of `1 / unit` of the unit of the field that holds its bound, is within that field (R36):
the record names the bound's field, and holds the bound and the sum, rounded up, in that field's units (log 37). -/
def Dev.boundViol (code : Nat) (f : Fld) (unit bound sum : Nat) : List Viol :=
  violIf (decide (bound * unit < sum)) ⟨code, f.reg, noPort, noPort, some bound, some (ceilDiv sum unit)⟩

/-- A structure that ends at `e` lies wholly below the staged RESV_TOP (R281). -/
def Dev.belowTop (v : Dev) (e : Nat) : List Viol :=
  Dev.boundViol 1 F.MEM_DRAM_CFG_RESV_TOP (2 ^ 30) (v.pot F.MEM_DRAM_CFG_RESV_TOP) e

/-- `n` bytes at `a`, which field `f` places, lie in the memory that a structure of the device may use under the staged set:
LPDDR5X below RESV_TOP, or accelerator memory that the integrator has reserved (R281, R511). -/
def Dev.placeIn (v : Dev) (f : Fld) (found a n : Nat) : List Viol :=
  match v.part with
  | .sw => v.belowTop (a + n)
  | .ep => placeViol (! Config.accelReserved a n) f found

/-! ### RANGE (code 0x0001) -/

/-- LNK_CTRL (Table 3.8) while ENABLE is 1 in the Pot. -/
def Dev.linkRanges (v : Dev) : List Viol :=
  (List.range (linkPorts v.part)).flatMap (fun p =>
    if ! v.potOn (F.LNK_CTRL_ENABLE p) then []
    else
      let x := v.pot (F.LNK_CTRL_VER_CEIL p)
      violIf (x != 0x10 && x != 0x11 && x != 0x20)
          ⟨1, A.LNK_CTRL p, p, noPort, if x < 0x10 then some 0x10 else if 0x20 < x then some 0x20 else none, some x⟩
        ++ v.range (F.LNK_CTRL_TARGET p) p noPort 0 2)

/-- Strainer entries (Table 4.7) and class words (Table 5.7). QUANTUM is held to its range in every class, whatever its
MODE (log 36). -/
def Dev.portRanges (v : Dev) : List Viol :=
  ((List.range (linkPorts v.part)).flatMap (fun p => (List.range 256).flatMap (fun e =>
      v.range (F.PKT_STRAINER_STATE p e) p noPort 0 2)))
    ++ ((portClasses v.part).flatMap (fun pc =>
      v.range (F.SWC_CLASS_A_MODE pc.1 pc.2) pc.1 pc.2 0 2
        ++ v.range (F.SWC_CLASS_A_QUANTUM pc.1 pc.2) pc.1 pc.2 129 16383))

/-- The fields of spec/06 (Table 6.12), and the window area of R511. -/
def Dev.semRanges (v : Dev) : List Viol :=
  let r (f : Fld) (lo hi : Nat) : List Viol := v.range f noPort noPort lo hi
  let n := v.pot F.MEM_DEDUP_CFG_SOURCES
  r F.MEM_SEM_CTRL_DEAD_US 200 3500 ++ r F.MEM_SEM_CTRL_RETRY_100NS 10 2560 ++ r F.MEM_SCOPE_TRAY_COUNT 1 4096
    ++ r F.MEM_DEDUP_CFG_SOURCES 0 4096
    ++ (if n = 0 then []
        else v.placeIn F.MEM_DEDUP_CFG_BASE (v.pot F.MEM_DEDUP_CFG_BASE) (v.pot F.MEM_DEDUP_CFG_BASE * 2 ^ 20) (n * 2 ^ 20))

/-- Rings in use at their live registers (R511): LOG2_ENTRIES is 6 to 20, and the ring lies in the memory it names. -/
def State.ringPlaces (s : State) (d : Part) : List Viol :=
  let v := s.dev d
  (s.rings d).flatMap (fun r =>
    let n := v.get r.2.2
    violIf (decide (n < 6) || decide (20 < n)) ⟨1, r.2.2.reg, noPort, noPort, some (if n < 6 then 6 else 20), some n⟩
      ++ v.placeIn r.1 (v.get r.1) (v.get r.1 * 4096) (r.2.1 * 2 ^ n))

/-- TEL_MEMB_CFG while ENABLE is 1 in the Pot, and TEL_MEMB_COORD of a switch. -/
def Dev.membRanges (v : Dev) : List Viol :=
  let r (f : Fld) (lo hi : Nat) : List Viol := v.range f noPort noPort lo hi
  (if v.potOn F.TEL_MEMB_CFG_ENABLE then
      r F.TEL_MEMB_CFG_LEASE_US 100 65535 ++ r F.TEL_MEMB_CFG_ACCUSE_MIN 2 15 ++ r F.TEL_MEMB_CFG_HB_MISS 2 15
        ++ r F.TEL_MEMB_CFG_HB_US 2 1000
    else [])
    ++ (match v.part with | .sw => r F.TEL_MEMB_COORD_COUNT 1 4 | .ep => [])

/-- Two ranges overlap: an empty one overlaps nothing. -/
def overlap (b n b' n' : Nat) : Bool := n != 0 && n' != 0 && decide (b' < b + n) && decide (b < b' + n')

/-- Reduction windows enabled in the Pot (R165): in 8 KiB units, inside partition 2 and apart from one another. -/
def Dev.redRanges (v : Dev) : List Viol :=
  let on := (List.range 256).filter (fun w => v.potOn (F.RED_WIN_A_ENABLE w))
  let base (w : Nat) : Nat := v.pot (F.RED_WIN_A_BASE w)
  let size (w : Nat) : Nat := v.pot (F.RED_WIN_A_SIZE w)
  on.flatMap (fun w =>
    v.range (F.RED_WIN_A_SIZE w) noPort noPort 1 131072
      ++ Dev.boundViol 1 F.MEM_SRAM_PART2_SIZE 256 (v.pot F.MEM_SRAM_PART2_SIZE) (base w + size w)
      ++ (on.filter (fun u => decide (u < w))).flatMap (fun u =>
        placeViol (overlap (base w) (size w) (base u) (size u)) (F.RED_WIN_A_BASE w) (base w)))

/-- Where the furthest of the tables below one at `t`, whose level is the first of the list, ends (R281). -/
def Dev.tablesEnd (v : Dev) : List Nat → Nat → Nat
  | [], _ => 0
  | l :: ls, t => (Memory.words v.mem t (lvlSize l)).foldl (fun e i =>
      match v.entry 0 0 l (Memory.num v.mem (t + 8 * i) 8) with
      | .next t' => max e (max (t' + lvlSize (l + 1)) (v.tablesEnd ls t'))
      | .done _ => e) 0

/-- A tenant's page tables below the staged RESV_TOP: the root, live or staged, whose VALID is 1 (R328), and every table
that a walk from it can reach. -/
def Dev.rootPlaces (v : Dev) (t : Nat) : List Viol :=
  let check (on : Bool) (root : Nat) : List Viol :=
    if on then v.belowTop (max (root * 65536 + 65536) (v.tablesEnd [0, 1, 2] (root * 65536))) else []
  check (v.potOn (F.XLT_ROOT_VALID t)) (v.pot (F.XLT_ROOT_ROOT t))
    ++ check (v.on (F.XLT_ROOT_VALID t) && v.changes (A.XLT_ROOT t)) (v.get (F.XLT_ROOT_ROOT t))

/-- Structures of a switch that must lie below RESV_TOP (R281), beside the rings and the deduplication windows. -/
def Dev.topPlaces (v : Dev) : List Viol :=
  let below (on : Bool) (f : Fld) (unit n : Nat) : List Viol :=
    if on then v.belowTop (v.pot f * unit + n) else []
  let caddy := v.potOn F.CDY_CFG_ENABLE || v.on F.CDY_CFG_ENABLE
  let count := v.pot F.HIF_CHAN_CFG_COUNT
  below (v.pot F.MEM_DIR_TILES_TILES != 0) F.MEM_DIR_BASE_BASE 65536 (16 * v.pot F.MEM_DIR_TILES_TILES)
    ++ below caddy F.CDY_BUF_BASE_BASE 65536 (64 * 2 ^ 20)
    ++ (List.range 64).flatMap v.rootPlaces
    ++ below (v.pot F.HIF_CHAN_BASE_LOCATION == 0 && count != 0) F.HIF_CHAN_BASE_BASE 4096 (128 * count)

/-- The program image of a load in progress lies wholly below the staged RESV_TOP (R281). -/
def State.imagePlace (s : State) : List Viol :=
  match s.sw.load with
  | none => []
  | some l =>
    let v := s.dev .sw
    let h := Memory.bytes v.mem l.image 128
    v.belowTop (l.image + 128 + hCodeBytes h + hDataBytes h + envBytes)

/-- Sums over the tenants. -/
def sum64 (f : Nat → Nat) : Nat := ((List.range 64).map f).sum

/-- Quota sums (R286): a record names the capacity field. -/
def Dev.quotaSums (v : Dev) : List Viol :=
  Dev.boundViol 1 F.MEM_SRAM_PART3_SIZE 32 (v.pot F.MEM_SRAM_PART3_SIZE) (sum64 (fun t => v.pot (F.MEM_QUOTA_A_HOT_TILES t)))
    ++ Dev.boundViol 1 F.MEM_DRAM_CFG_RESV_TOP 16384 (1024 - v.pot F.MEM_DRAM_CFG_RESV_TOP)
      (sum64 (fun t => v.pot (F.MEM_QUOTA_A_DRAM_TILES t)))
    ++ (if v.get F.CDY_STATUS_STATE = 2 then
          Dev.boundViol 1 F.CDY_CAP_LOGICAL_TILES 1 (v.get F.CDY_CAP_LOGICAL_TILES) (sum64 (fun t => v.pot (F.CDY_QUOTA_A_TILES t)))
        else [])

/-- A demand domain that has FAILED and that the staged set needs (R444): the ENABLE of the first object that needs it,
which is found 1 and would have to be 0. -/
def State.failedDomains (s : State) : List Viol :=
  let v := s.dev .sw
  demandDomains.flatMap (fun dom =>
    if s.domain dom ≠ Dom.FAILED then []
    else
      let links := ((List.range 32).filter (fun p => 8 + p / 4 == dom && v.potOn (F.LNK_CTRL_ENABLE p))).map
        (fun p => (A.LNK_CTRL p, p))
      let wins := ((List.range 256).filter (fun w => v.potOn (F.RED_WIN_A_ENABLE w)
        && (List.range 16).any (fun c => bitOf (v.pot (F.RED_WIN_A_CLUSTER_MASK w)) c && redDomain (v.cluster c) == dom))).map
        (fun w => (A.RED_WIN_A w, noPort))
      let caddy := if dom = 26 ∧ v.potOn F.CDY_CFG_ENABLE then [(A.CDY_CFG, noPort)] else []
      match links ++ wins ++ caddy with
      | [] => []
      | x :: _ => [⟨1, x.1, x.2, noPort, some 0, some 1⟩])

/-- RANGE of a switch's own blocks. -/
def State.switchRanges (s : State) : List Viol :=
  let v := s.dev .sw
  let r (f : Fld) (lo hi : Nat) : List Viol := v.range f noPort noPort lo hi
  v.redRanges ++ r F.MEM_DRAM_CFG_RESV_TOP 1 1023
    ++ (if v.potOn F.CDY_CFG_ENABLE then
          r F.CDY_CFG_OP_PERCENT 5 50 ++ r F.CDY_CFG_GC_LOW_PERCENT 2 20 ++ r F.CDY_CFG_WEAR_SPREAD 100 65535
            ++ r F.CDY_CFG_RD_LIMIT 1000 1048575
        else [])
    ++ r F.XLT_CFG_WALKERS 1 16 ++ r F.HIF_CHAN_CFG_COUNT 0 1048576
    ++ placeViol (s.conf && v.potOn F.HIF_CHAN_BASE_LOCATION) F.HIF_CHAN_BASE_LOCATION 1
    ++ v.topPlaces ++ s.imagePlace ++ v.quotaSums ++ s.failedDomains

/-- RANGE of an end-point's own blocks (Table 14.7): inbound windows enabled in the Pot do not overlap, and the channel
table and the level-two region lie in accelerator memory that the integrator has reserved. -/
def Dev.epRanges (v : Dev) : List Viol :=
  let r (f : Fld) (lo hi : Nat) : List Viol := v.range f noPort noPort lo hi
  let on := (List.range 16).filter (fun w => v.potOn (F.EP_INBOUND_B_ENABLE w))
  let base (w : Nat) : Nat := v.pot (F.EP_INBOUND_A_BASE w)
  let size (w : Nat) : Nat := v.pot (F.EP_INBOUND_B_SIZE w)
  let reserved (f : Fld) (unit n : Nat) : List Viol :=
    placeViol (n != 0 && ! Config.accelReserved (v.pot f * unit) n) f (v.pot f)
  r F.XLT_CFG_WALKERS 1 32 ++ r F.EP_CHAN_CFG_COUNT 0 1048576 ++ r F.EP_ROB_CFG_FLOW_CAP 33 131072
    ++ reserved F.EP_CHAN_BASE_BASE 4096 (128 * v.pot F.EP_CHAN_CFG_COUNT)
    ++ reserved F.EP_L2_REGION_A_BASE 65536 (65536 * v.pot F.EP_L2_REGION_B_SIZE)
    ++ (List.range 1024).flatMap (fun n => if v.potOn (F.EP_ENGINE_ENABLE n) then r (F.EP_ENGINE_MAX_OUT n) 1 1024 else [])
    ++ on.flatMap (fun w => (on.filter (fun u => decide (u < w))).flatMap (fun u =>
      placeViol (overlap (base w) (size w) (base u) (size u)) (F.EP_INBOUND_A_BASE w) (base w)))

/-- Every violation of RANGE. -/
def State.ranges (s : State) (d : Part) : List Viol :=
  let v := s.dev d
  v.linkRanges ++ v.portRanges ++ v.semRanges ++ v.membRanges
    ++ (match d with | .sw => s.switchRanges | .ep => v.epRanges) ++ s.ringPlaces d

/-! ### Codes 0x0002 to 0x000A -/

/-- A port whose classes have a least reservation: enabled in the Pot, or port 32. -/
def Dev.potEnabled (v : Dev) (p : Nat) : Bool := p == 32 || v.potOn (F.LNK_CTRL_ENABLE p)

/-- BUF_MIN_PROMISED and BUF_MIN_BESTEFFORT. -/
def Dev.bufMin (v : Dev) (code mode : Nat) : List Viol :=
  (portClasses v.part).flatMap (fun pc =>
    let need := if mode = 1 ∧ pc.1 ≠ 32 then 66 else 33
    let x := v.pot (F.SWC_CLASS_A_RESV pc.1 pc.2)
    violIf (v.potEnabled pc.1 && v.pot (F.SWC_CLASS_A_MODE pc.1 pc.2) == mode && decide (x < need))
      ⟨code, A.SWC_CLASS_A pc.1 pc.2, pc.1, pc.2, some need, some x⟩)

/-- BUF_TOTAL: a switch's record names the packet-buffer partition, of 8,192 cells in each 2 MiB; an end-point's bound is no
register field, so that its record names the first reservation. The sum runs over every port, so that none applies. -/
def Dev.bufTotal (v : Dev) : List Viol :=
  let x := ((portClasses v.part).map (fun pc => v.pot (F.SWC_CLASS_A_RESV pc.1 pc.2))).sum
  match v.part with
  | .sw => Dev.boundViol 4 F.MEM_SRAM_PART1_SIZE 8192 (v.pot F.MEM_SRAM_PART1_SIZE) x
  | .ep => violIf (decide (65536 < x)) ⟨4, A.SWC_CLASS_A 0 0, noPort, noPort, some 65536, some x⟩

/-- A configurable SRAM partition (Table 11.1): its register, its BASE and SIZE fields, and its range of sizes, in 2 MiB
units. -/
def sramParts : List (Fld × Fld × Nat × Nat) :=
  [(F.MEM_SRAM_PART0_BASE, F.MEM_SRAM_PART0_SIZE, 4, 256), (F.MEM_SRAM_PART1_BASE, F.MEM_SRAM_PART1_SIZE, 1, 1023),
   (F.MEM_SRAM_PART2_BASE, F.MEM_SRAM_PART2_SIZE, 0, 512), (F.MEM_SRAM_PART3_BASE, F.MEM_SRAM_PART3_SIZE, 8, 1497)]

/-- SRAM_PARTITION (R275). The sum counts the fixed 68 MiB. An empty partition overlaps nothing. A partition's end is the
sum of its BASE and SIZE (R36). -/
def Dev.sramPartition (v : Dev) : List Viol :=
  let viol (bad : Bool) (f : Fld) (req x : Option Nat) : List Viol := violIf bad ⟨5, f.reg, noPort, noPort, req, x⟩
  let total := 34 + (sramParts.map (fun q => v.pot q.2.1)).sum
  sramParts.flatMap (fun q =>
    let b := v.pot q.1
    let n := v.pot q.2.1
    viol (decide (n < q.2.2.1) || decide (q.2.2.2 < n)) q.1 (some (if n < q.2.2.1 then q.2.2.1 else q.2.2.2)) (some n)
      ++ viol (decide (b < 34)) q.1 (some 34) (some b) ++ viol (decide (1536 < b + n)) q.1 (some 1536) (some (b + n))
      ++ (sramParts.filter (fun r => decide (r.1.reg < q.1.reg))).flatMap (fun r =>
        viol (overlap b n (v.pot r.1) (v.pot r.2.1)) q.1 none (some b)))
    ++ viol (decide (1536 < total)) F.MEM_SRAM_PART0_BASE (some 1536) (some total)

/-- ROUTE_EMPTY. -/
def Dev.routeEmpty (v : Dev) : List Viol :=
  (List.range (linkPorts v.part)).flatMap (fun p =>
    let node := v.get (F.LNK_PARTNER_NODE_ID p)
    violIf ((v.on (F.LNK_CTRL_ENABLE p) || v.potOn (F.LNK_CTRL_ENABLE p)) && (v.port p).negotiated
        && (List.range 256).any (fun e => v.pot (F.PKT_STRAINER_STATE p e) == 1) && v.pot (F.PKT_ROUTE_LINKS node) == 0)
      ⟨6, A.PKT_ROUTE node, p, noPort, none, some 0⟩)

/-- ROUTE_DISABLED. -/
def Dev.routeDisabled (v : Dev) : List Viol :=
  let off := (List.range (linkPorts v.part)).filter (fun p => ! v.potOn (F.LNK_CTRL_ENABLE p))
  (List.range 4096).flatMap (fun n =>
    let set := v.pot (F.PKT_ROUTE_LINKS n)
    (off.filter (fun p => bitOf set p)).map (fun p => (⟨7, A.PKT_ROUTE n, p, noPort, none, some set⟩ : Viol)))

/-- KEY_CONFLICT: of two entries of a port that hold one key for two tenants, the record names the later, and its key
(log 37). -/
def Dev.keyConflict (v : Dev) : List Viol :=
  (List.range (linkPorts v.part)).flatMap (fun p =>
    let es := (List.range 256).filter (fun e => v.pot (F.PKT_STRAINER_STATE p e) != 0)
    es.flatMap (fun e =>
      violIf (es.any (fun f => decide (f < e) && v.pot (F.PKT_STRAINER_KEY p f) == v.pot (F.PKT_STRAINER_KEY p e)
          && v.pot (F.PKT_STRAINER_TENANT p f) != v.pot (F.PKT_STRAINER_TENANT p e)))
        ⟨8, A.PKT_STRAINER p e, p, noPort, none, some (v.pot (F.PKT_STRAINER_KEY p e))⟩))

/-- EDROP_PROFILE: min ≤ max, and max ≤ the reservation of every best-effort class of a link port with the profile; at
port 32 PROFILE has no effect (R130). -/
def Dev.edropProfile (v : Dev) : List Viol :=
  (List.range 16).flatMap (fun n => (List.range 3).flatMap (fun k =>
    let lo := v.pot (F.SWC_EDROP_PROFILE_K_MIN_TH n k)
    let hi := v.pot (F.SWC_EDROP_PROFILE_K_MAX_TH n k)
    violIf (decide (hi < lo)) ⟨9, A.SWC_EDROP_PROFILE_K n k, noPort, noPort, some hi, some lo⟩
      ++ (portClasses v.part).flatMap (fun pc =>
        let resv := v.pot (F.SWC_CLASS_A_RESV pc.1 pc.2)
        violIf (pc.1 != 32 && v.pot (F.SWC_CLASS_A_MODE pc.1 pc.2) == 2
            && v.pot (F.SWC_CLASS_A_PROFILE pc.1 pc.2) == n && decide (resv < hi))
          ⟨9, A.SWC_EDROP_PROFILE_K n k, pc.1, pc.2, some resv, some hi⟩)))

/-- RATE_SHARE: the payload rate of a link port is 480,000 MB/s (R123). -/
def Dev.rateShare (v : Dev) : List Viol :=
  (List.range (linkPorts v.part)).flatMap (fun p =>
    let x := ((List.range 8).map (fun c =>
      if v.pot (F.SWC_CLASS_A_MODE p c) = 1 then v.pot (F.SWC_CLASS_B_RATE p c) else 0)).sum
    violIf (decide (480000 < x)) ⟨0xA, A.SWC_CLASS_B p 0, p, noPort, some 480000, some x⟩)

/-! ### Drain-first changes (code 0x000B; R26, R165, R276, R281, R286, R513) -/

/-- A class holds cells on some port. -/
def Dev.classHolds (v : Dev) (c : Nat) : Bool :=
  v.inBuffer.any (fun p => p.hdr.cls == c) || (List.range (inPorts v.part)).any (fun p => v.used p c != 0)

/-- The change of a field waits for a drain: the record holds its staged value (log 37). -/
def Dev.drainViol (v : Dev) (pending : Bool) (f : Fld) (p c : Nat) : List Viol :=
  violIf pending ⟨0xB, f.reg, p, c, none, some (v.pot f)⟩

/-- Route entries: what is held for their nodes. -/
def State.routeDrains (s : State) (d : Part) : List Viol :=
  let v := s.dev d
  (List.range 4096).flatMap (fun n => v.drainViol (v.changes (A.PKT_ROUTE n) && ! s.drained d n) (F.PKT_ROUTE_LINKS n) noPort noPort)

/-- Classes that change between promised and best-effort. -/
def Dev.modeDrains (v : Dev) : List Viol :=
  (portClasses v.part).flatMap (fun pc =>
    let old := v.mode pc.1 pc.2
    let new := v.pot (F.SWC_CLASS_A_MODE pc.1 pc.2)
    v.drainViol (((old == 1 && new == 2) || (old == 2 && new == 1)) && v.classHolds pc.2) (F.SWC_CLASS_A_MODE pc.1 pc.2) pc.1
      pc.2)

/-- The staged Strainer of a port holds a key. -/
def Dev.keyStays (v : Dev) (p key : Nat) : Bool :=
  (List.range 256).any (fun f => v.pot (F.PKT_STRAINER_STATE p f) != 0 && v.pot (F.PKT_STRAINER_KEY p f) == key)

/-- Keys that leave a port's Strainer. -/
def State.keyDrains (s : State) (d : Part) : List Viol :=
  let v := s.dev d
  (List.range (linkPorts v.part)).flatMap (fun p => (List.range 256).flatMap (fun e =>
    let key := v.get (F.PKT_STRAINER_KEY p e)
    v.drainViol (v.changes (A.PKT_STRAINER p e) && v.get (F.PKT_STRAINER_STATE p e) != 0
      && (s.buffered d).any (fun x => x.hdr.pkey == BitVec.ofNat 16 key) && ! v.keyStays p key) (F.PKT_STRAINER_STATE p e) p noPort))

/-- Windows and SRAM partitions. -/
def Dev.sramDrains (v : Dev) : List Viol :=
  let idle (w : Nat) : Bool := v.get (F.RED_WIN_STATUS_STATE w) == 0
  (List.range 256).flatMap (fun w => v.drainViol (v.changes (A.RED_WIN_A w) && ! idle w) (F.RED_WIN_A_BASE w) noPort noPort)
    ++ v.drainViol (v.changes A.MEM_SRAM_PART1 && ! v.inBuffer.isEmpty) F.MEM_SRAM_PART1_SIZE noPort noPort
    ++ v.drainViol (v.changes A.MEM_SRAM_PART2 && ! (List.range 256).all idle) F.MEM_SRAM_PART2_SIZE noPort noPort

/-- The tiers' changes. -/
def State.tierDrains (s : State) : List Viol :=
  let v := s.dev .sw
  let dir := s.tiers.dir
  let wait (pending : Bool) (f : Fld) : List Viol := v.drainViol pending f noPort noPort
  let hotLo := v.pot F.MEM_SRAM_PART3_BASE * 32
  let hotHi := hotLo + v.pot F.MEM_SRAM_PART3_SIZE * 32
  let top := v.pot F.MEM_DRAM_CFG_RESV_TOP * 16384
  let lower (quota use : Fld) : List Viol :=
    violIf (decide (v.pot quota < v.get quota) && decide (v.pot quota < v.get use))
      ⟨0xB, quota.reg, noPort, noPort, some (v.get use), some (v.pot quota)⟩
  wait (v.changes A.MEM_SRAM_PART3 && dir.any (fun e => e.2.tier == 1 && (decide (e.2.loc < hotLo) || decide (hotHi ≤ e.2.loc))))
      F.MEM_SRAM_PART3_SIZE
    ++ wait (v.changes A.MEM_DRAM_CFG && dir.any (fun e => (e.2.tier == 2 && decide (e.2.loc < top))
        || ((e.2.shadow || e.2.copying) && decide (e.2.shadowLoc < top)))) F.MEM_DRAM_CFG_RESV_TOP
    ++ wait (v.changes A.MEM_DIR_TILES && dir.any (fun e => e.2.mapped)) F.MEM_DIR_TILES_TILES
    ++ (List.range 64).flatMap (fun t =>
      lower (F.MEM_QUOTA_A_HOT_TILES t) (F.MEM_QUOTA_B_HOT_USE t)
        ++ lower (F.MEM_QUOTA_A_DRAM_TILES t) (F.MEM_QUOTA_B_DRAM_USE t)
        ++ lower (F.CDY_QUOTA_A_TILES t) (F.CDY_QUOTA_B_USE t))
    ++ wait (v.on F.CDY_CFG_ENABLE && ! v.potOn F.CDY_CFG_ENABLE && (dir.any (fun e => e.2.tier == 3)
        || s.tiers.moves.any (fun m => m.kind != .migrate || m.to_ == 3))) F.CDY_CFG_ENABLE

/-- Drain-first changes of the staged set whose condition does not hold. -/
def State.drainPending (s : State) (d : Part) : List Viol :=
  let v := s.dev d
  s.routeDrains d ++ v.modeDrains ++ s.keyDrains d ++ (match d with | .sw => v.sramDrains ++ s.tierDrains | .ep => [])

/-! ### The whole check -/

/-- The Pot changes nothing: every staged copy holds its live value (R25). -/
def Dev.potUnchanged (v : Dev) : Bool := v.staged.all (fun e => ! v.changes e.1)

/-- Every violation of Table 2.2, by code, and within a code by block, port, class and entry (log 35); none where the Pot
changes nothing (R25). -/
def State.violations (s : State) (d : Part) : List Viol :=
  let v := s.dev d
  if v.potUnchanged then []
  else s.ranges d ++ v.bufMin 2 1 ++ v.bufMin 3 2 ++ v.bufTotal
    ++ (match d with | .sw => v.sramPartition | .ep => []) ++ v.routeEmpty ++ v.routeDisabled ++ v.keyConflict
    ++ (match d with | .sw => v.edropProfile | .ep => []) ++ v.rateShare ++ s.drainPending d

/-- A demand domain that the staged set needs is still waking (R444). -/
def State.checkWaits (s : State) : Bool :=
  let v := s.dev .sw
  (Dev.linkDemand v.regs ++ Dev.linkDemand v.staged ++ v.redDemand v.regs ++ v.redDemand v.staged
    ++ Dev.caddyDemand v.regs ++ Dev.caddyDemand v.staged).any (fun dom => s.domain dom == Dom.WAKING)

/-- Word A of a record (Table 2.6): BLOCK and OFFSET are the parts of the field's address. PORT is a link port, 0xFF where
none applies: at port 32 OFFSET alone names it. -/
def Viol.wordA (x : Viol) : Nat :=
  x.code * 2 ^ 48 + x.reg / 2 ^ 24 % 256 * 2 ^ 40 + (if x.port < 32 then x.port else noPort) * 2 ^ 32 + x.cls % 256 * 2 ^ 24 + x.reg % 2 ^ 24

/-- One of the report's 16 records written; a value that the spec leaves open is free. -/
def State.report (s : State) (d : Part) (n : Nat) (x : Viol) : State :=
  let part (s : State) (o : Option Nat) : Nat × State :=
    match o with
    | some y => (y % 2 ^ 32, s)
    | none => (Config.choice s.fresh % 2 ^ 32, s.draw)
  let r := part s x.required
  let g := part r.2 x.staged
  g.2.modDev d (fun v => (v.setReg (A.CFG_CHECK_REPORT_A n) x.wordA).setReg (A.CFG_CHECK_REPORT_B n) (r.1 * 2 ^ 32 + g.1))

/-- The records of some violations, from record `n` on. -/
def State.reports (s : State) (d : Part) : Nat → List Viol → State
  | _, [] => s
  | n, x :: xs => State.reports (s.report d n x) d (n + 1) xs

/-- Every record cleared. -/
def Dev.clearReport (v : Dev) : Dev :=
  (List.range 16).foldl (fun w n => (w.setReg (A.CFG_CHECK_REPORT_A n) 0).setReg (A.CFG_CHECK_REPORT_B n) 0) v

/-- A core that waits on a check gets its RESULT. -/
def State.tellCheck (s : State) (d : Part) (x : Nat) : State :=
  if d ≠ .sw then s
  else (List.range 64).foldl (fun a n =>
    match (a.core n).wait with
    | .check sd => a.resume n (fun a => a.retireS n sd (BitVec.ofNat 64 x))
    | _ => a) s

/-- The Pot of a core that has stopped is released at the end of its check or its refused Pour (R21, R508). -/
def State.potSettle (s : State) (d : Part) : State :=
  if (s.dev d).potRelease then s.modDev d (fun v => v.revert.potFree.setPotResult Pot.DISCARDED) else s

/-- CHECK_COMPLETE (R23, R24, R36): the rules are evaluated over the staged set, and the outcome is reported. A check that
passes leaves no record and REPORT_COUNT 0 (log 38). -/
def State.checkEnds (s : State) (d : Part) : State :=
  if (s.dev d).potState ≠ Pot.CHECKING ∨ (d = .sw ∧ s.checkWaits) then s
  else
    match s.violations d with
    | [] =>
      ((s.modDev d (fun v => { ((((v.clearReport.set F.CFG_POT_STATUS_REPORT_COUNT 0).set
        F.CFG_POT_STATUS_REPORT_OVERFLOW 0).setPotState Pot.CHECKED).setPotResult Pot.CHECK_PASS) with
          potPassed := true })).tellCheck d Pot.CHECK_PASS).potSettle d
    | xs =>
      let s1 := s.modDev d (fun v => (((v.clearReport.set F.CFG_POT_STATUS_REPORT_COUNT (min 16 xs.length)).set
        F.CFG_POT_STATUS_REPORT_OVERFLOW (b2n (decide (16 < xs.length)))).setPotState Pot.STAGING).setPotResult Pot.CHECK_FAIL)
      ((s1.reports d 0 (xs.take 16)).tellCheck d Pot.CHECK_FAIL).potSettle d

end Sys2Proof.Machine
end

