-- ==== Sys2Proof/Machine/PotPour.lean ====
section
/-! DEFINITION. The pour instant (spec/02 R27 to R31) and what each block does at it. -/

namespace Sys2Proof.Machine

/-! ### What a device's own blocks do: `o` is the device before the pour instant, `v` after the fields went live -/

/-- Every staged value becomes live, GEN advances, and the Pot is released (R29, R35, Table 2.7). -/
def Dev.goLive (v : Dev) : Dev :=
  let v1 := v.staged.foldr (fun e w => w.setReg e.1 e.2.toNat) { v with staged := [] }
  ((v1.setReg A.CFG_POT_GEN ((v.reg A.CFG_POT_GEN + 1) % 2 ^ 32)).setPotResult Pot.POURED).potFree

/-- A queue that holds packets of a class whose MODE changes keeps the old settings until it empties (R110). -/
def Dev.pourQueue (o v : Dev) (p c : Nat) : Dev :=
  if o.mode p c = v.mode p c ∨ (v.queue p c).isEmpty ∨ (SMap.at none v.queueOld (pairKey p c)).isSome then v
  else
    let w := (o.reg (A.SWC_CLASS_A p c), o.reg (A.SWC_CLASS_B p c))
    { v with queueOld := SMap.put none v.queueOld (pairKey p c) (some w) }

/-- V_c is zero where RATE changes (R113). -/
def Dev.pourRate (o v : Dev) (p c : Nat) : Dev :=
  if o.get (F.SWC_CLASS_B_RATE p c) = v.get (F.SWC_CLASS_B_RATE p c) then v
  else { v with vfin := SMap.put 0 v.vfin (pairKey p c) 0 }

/-- A profile's contents differ. -/
def Dev.profileChanged (o v : Dev) (n : Nat) : Bool :=
  o.reg (A.SWC_EDROP_PROFILE_0 n) != v.reg (A.SWC_EDROP_PROFILE_0 n)
    || (List.range 3).any (fun k => o.reg (A.SWC_EDROP_PROFILE_K n k) != v.reg (A.SWC_EDROP_PROFILE_K n k))

/-- A queue's average is zero where PROFILE, MODE or the profile's contents change (R115). -/
def Dev.pourAverage (o v : Dev) (p c : Nat) : Dev :=
  let n := v.get (F.SWC_CLASS_A_PROFILE p c)
  if o.mode p c = v.mode p c ∧ o.get (F.SWC_CLASS_A_PROFILE p c) = n ∧ ! o.profileChanged v n then v
  else { v with avgQ := SMap.put 0 v.avgQ (pairKey p c) 0 }

/-- A link port in service, or in CREDIT, owes a CREDIT frame for a class that becomes, ceases to be or stays credit-controlled with
another reservation, and the class's grace begins (R65, R509). -/
def Dev.pourCredit (o v : Dev) (now p c : Nat) : Dev :=
  let up := v.get (F.LNK_STATUS_STATE p) == 2 || v.get (F.LNK_STATUS_RECOVERING p) == 1 || (v.port p).phase == some .credit
  let was := o.mode p c == 1
  let is := v.mode p c == 1
  if p < linkPorts v.part ∧ up ∧ (was != is || (is && o.resv p c != v.resv p c)) then
    v.modPort p (fun q => { q with
      pourOwed := q.pourOwed ++ [(c, now)], grace := q.grace.filter (fun g => g.cls != c) ++ [⟨c, none, none⟩] })
  else v

/-- Everything that follows the class words. -/
def Dev.pourClasses (o v : Dev) (now : Nat) : Dev :=
  (portClasses v.part).foldl (fun w pc =>
    Dev.pourCredit o (Dev.pourAverage o (Dev.pourRate o (Dev.pourQueue o w pc.1 pc.2) pc.1 pc.2) pc.1 pc.2) now pc.1 pc.2) v

/-- Meters that change start full (R114), and the spray credits of route entries that change are zero (R99). -/
def Dev.pourTables (o v : Dev) : Dev :=
  { v with
    meters := v.meters.filter (fun e => ! o.changes (A.SWC_METER (e.1 / 8) (e.1 % 8)))
    sprayCredit := v.sprayCredit.filter (fun e => ! o.changes (A.PKT_ROUTE (e.1 / 32))) }

/-- The deduplication slots are empty after a change of MEM_DEDUP_CFG (R142). -/
def Dev.pourDedup (o v : Dev) : Dev := if o.changes A.MEM_DEDUP_CFG then { v with slots := [] } else v

/-- Whose root changes (R322): a tenant's at a switch, a context's at an end-point. -/
def Dev.rootChanges (o : Dev) (id : Nat) : Bool := o.changes (A.XLT_ROOT id)

/-- The translation caches (R319, R322): walks under way leave nothing of what changed. With more WALKERS in use, misses that
wait begin (R316). -/
def Dev.pourXlt (o v : Dev) : Dev :=
  let all := v.part == .sw && o.changes A.MEM_SRAM_PART0
  Dev.startWalks v.walks.length { v with
    xcache := v.xcache.filter (fun x => ! all && ! o.rootChanges x.id)
    walks := v.walks.map (fun (w : Walk) => if all || o.rootChanges w.id then w.ends else w) }

/-- All of these. -/
def Dev.pourDev (o : Dev) (now : Nat) : Dev :=
  let v := o.goLive
  Dev.pourXlt o (Dev.pourDedup o (Dev.pourTables o (Dev.pourClasses o v now)))

/-! ### Links, membership, engines, Caddy -/

/-- LNK_CTRL of a port (R67, R71, R83). -/
def State.pourLink (o : Dev) (d : Part) (s : State) (p : Nat) : State :=
  let was := o.on (F.LNK_CTRL_ENABLE p)
  let is := (s.dev d).on (F.LNK_CTRL_ENABLE p)
  if is ∧ ! was then s.startTraining d p
  else if was ∧ ! is then s.linkOff d p
  else if o.get (F.LNK_CTRL_TARGET p) ≠ 0 ∧ s.get d (F.LNK_CTRL_TARGET p) = 0 then s.wakeLink d p
  else s

/-- ENABLE of TEL_MEMB_CFG (R483): set, the device is JOINING and its links are HELD; cleared, it is OFF and they are not. -/
def State.pourMemb (o : Dev) (d : Part) (s : State) : State :=
  let was := o.on F.TEL_MEMB_CFG_ENABLE
  let is := (s.dev d).on F.TEL_MEMB_CFG_ENABLE
  if was = is then s
  else (List.range (linkPorts d)).foldl (fun a p =>
    if a.lnk d p = Lnk.ACTIVE ∨ a.recovering d p ∨ (a.port d p).phase = some .credit then
      let a1 := a.set d (F.LNK_STATUS_HELD p) (b2n is)
      if is then a1.dropQueues d p else a1
    else a) (s.set d F.TEL_MEMB_STATE_STATE (if is then Mb.JOINING else Mb.OFF))

/-- A request that has not been accepted completes DENIED with its engine (R388): it no longer waits, and its job has
ended with that code. -/
def Dev.denyPends (v : Dev) (n : Nat) : Dev :=
  let mine (p : Pend) : Bool := p.agent == .engine n
  let rs := v.releases.filter (fun r => mine r.pend)
  let gone := v.pends.filter mine ++ rs.map (fun r => r.pend)
  let v1 := { v with
    pends := v.pends.filter (fun p => ! mine p), releases := v.releases.filter (fun r => ! mine r.pend)
    fences := v.fences.filter (fun f => ! rs.any (fun r => r.fence == f.id)) }
  gone.foldl (fun a p => (a.settleUid p.agent p.uid 0).jobPart p.job Code.DENIED) v1

/-- An engine whose ENABLE a Pour clears (R388). -/
def State.engineOff (s : State) (n : Nat) : State :=
  let fs := s.ep.flights.filter (fun f => f.engine == n && (match f.stage with
    | .channel | .translate | .fault _ | .waitCtr => true
    | _ => false))
  (fs.foldl (fun a f => a.engineDone f Code.DENIED 0 false) s).modDev .ep (fun v => v.denyPends n)

/-- An end-point's own blocks: engines, and the records of contexts whose VALID is cleared (R326). -/
def State.pourEp (o : Dev) (s : State) : State :=
  let s1 := (List.range 1024).foldl (fun a n =>
    if o.on (F.EP_ENGINE_ENABLE n) ∧ ! (a.dev .ep).on (F.EP_ENGINE_ENABLE n) then a.engineOff n else a) s
  (s1.ep.l2recs.filter (fun r => o.on (F.EP_XLT_CTX_VALID r.ctx) && ! (s1.dev .ep).on (F.EP_XLT_CTX_VALID r.ctx))).foldl
    (fun a r => a.abortRec r) s1

/-- Caddy turns off (R513): no tile is backed, no stripe is kept; erase counts and dropped superblocks stay. -/
def State.caddyOff (s : State) : State :=
  let ts := (s.tiers.dir.filter (fun e => e.2.backed)).map (fun e => e.1)
  let s1 := ts.foldl (fun a t => (a.freeStripe t).modTile t (fun x => { x with backed := false, dirty := true, stripe := 0 })) s
  ((s1.set .sw F.CDY_STATUS_STATE 0).modDev .sw (fun v => v.setReg A.CDY_CAP 0)).modCaddy Caddy.stale

/-- ENABLE and OP_PERCENT of CDY_CFG. -/
def State.pourCaddy (o : Dev) (s : State) : State :=
  let was := o.on F.CDY_CFG_ENABLE
  let is := (s.dev .sw).on F.CDY_CFG_ENABLE
  if was ∧ ! is then s.caddyOff
  else if is ∧ ! was then (if s.domain 26 = Dom.ON then s.set .sw F.CDY_STATUS_STATE 1 else s)
  else if s.get .sw F.CDY_STATUS_STATE = 2 then s.capacity
  else s

/-! ### The instant -/

/-- A core that waits on its Pour gets its RESULT. -/
def State.tellPour (s : State) (d : Part) (x : Nat) : State :=
  if d ≠ .sw then s
  else (List.range 64).foldl (fun a n =>
    match (a.core n).wait with
    | .pour sd => a.resume n (fun a => a.retireS n sd (BitVec.ofNat 64 x))
    | _ => a) s

/-- POUR_INSTANT (R25, R27, R29): the drain conditions are evaluated again; every staged value becomes live, or the Pot stays
staged and unchecked. A Pot that changes nothing only advances GEN. -/
def State.pourInstant (s : State) (d : Part) : State :=
  let o := s.dev d
  if o.potState ≠ Pot.POURING then s
  else if ! (s.drainPending d).isEmpty then
    ((s.modDev d (fun v => { ((v.setPotState Pot.STAGING).setPotResult Pot.POUR_ABORTED_DRAIN) with
      potPassed := false })).tellPour d Pot.POUR_ABORTED_DRAIN).potSettle d
  else
    if o.potUnchanged then (s.setDev d o.goLive).tellPour d Pot.POURED
    else
    let s1 := (s.setDev d (o.pourDev s.now)).turnAway d
    let s2 := (List.range (linkPorts d)).foldl (State.pourLink o d) s1
    let s3 := State.pourMemb o d s2
    let s4 := match d with | .sw => State.pourCaddy o s3 | .ep => State.pourEp o s3
    let s5 := (List.range (linkPorts d)).foldl (fun a p => a.bounds d p) s4
    s5.tellPour d Pot.POURED

end Sys2Proof.Machine
end

