-- ==== Sys2Proof/Machine/Boot.lean ====
section
/-! DEFINITION. Start-up, the kinds of reset and what each keeps (spec/19), and the fatal state (R419). -/

namespace Sys2Proof.Machine

/-! ### The fatal state (R419) -/

/-- A fatal cause during start-up stops it (Table 19.5): RESULT is ISLAND for the cause ISLAND, and else the CAUSE of TEL_FATAL
(DEDUCED, log 57). -/
def State.fatalStop (s : State) (d : Part) (cause : Nat) : State :=
  if s.get d F.CFG_BOOT_STATUS_STAGE < 7 ∧ ! (s.dev d).boot.warm then
    (s.set d F.CFG_BOOT_STATUS_STAGE 0xF).set d F.CFG_BOOT_STATUS_RESULT (if cause = 4 then 6 else cause)
  else s

/-- A fatal fault: Kettle's five steps, in their order; the FATAL record leaves on every ACTIVE link. -/
def State.fatal (s : State) (d : Part) (cause : Nat) : State :=
  if (s.dev d).boot.fatal ∨ (s.dev d).boot.off then s
  else
    -- cause CONFIG_UE is an uncorrectable error in configuration storage, at a place not specified (free, log 1)
    let s := if cause = 3 then (s.ue d 10 (Config.choice s.fresh)).draw else s
    let s1 := ((s.set d F.TEL_FATAL_CAUSE cause).emit (.pin d "FATAL_N" false)).news d Hb.FATAL (cause * 2 ^ 140)
    let s2 := (List.range (linkPorts d)).foldl (fun a p =>
      let a1 := if a.lineUp d p then a.sendDown d p else a
      (if a1.lnk d p = Lnk.OFF then a1 else a1.leaveService d p Lnk.DOWN).emit (.lanesOff d p)) s1
    let s3 := s2.modDev d (fun v => { v with boot := { v.boot with fatal := true } })
    let s4 := match d with
      | .sw => (s3.emit (.i3cInterrupt 1)).event 1 cause (s3.dev .sw).node
      | .ep => s3
    (s4.faultIrq d).fatalStop d cause

/-- TEMPERATURE_READ (R501, R505): a reading above its trip point is fatal; the highest goes into the ageing log. -/
def State.temperatures (s : State) (d : Part) (ts : List Int) : State :=
  let trip (i : Nat) : Int := if i < 16 then 115 else if i < 20 then 110 else 105
  let s1 := match d with
    | .sw => s.modKettle (fun k => k.heat ts)
    | .ep => s
  let hot := match d with
    | .sw => ts.zipIdx.any (fun x => decide (trip x.2 < x.1))
    | .ep => ts.any (fun x => decide (115 < x))
  if hot then s1.fatal d 5 else s1

/-- The PLLs of LOCKED (Table 17.9), bit 0 the first named. -/
def State.setLocked (s : State) (x : Nat) : State := s.set .sw F.PWR_CLK_STATUS_LOCKED x

/-- CLOCK_LOSS: which fast PLL has unlocked is not said (free, log 1). -/
def State.clockLoss (s : State) (d : Part) : State :=
  let s1 := match d with
    | .sw => (s.setLocked (Nat.land (s.get .sw F.PWR_CLK_STATUS_LOCKED) (Config.choice s.fresh % 128))).draw
    | .ep => s
  s1.fatal d 1

/-- REFCLK_LOSS (R500): the fast PLLs unlock. -/
def State.refclkLoss (s : State) (d : Part) : State :=
  (match d with
    | .sw => s.setLocked (Nat.land (s.get .sw F.PWR_CLK_STATUS_LOCKED) 0x40)
    | .ep => s).fatal d 1

/-! ### Domains (R443, R444, Table 19.4) -/

/-- Demotions and write-backs are given up, with DIRTY set; `all` gives up promotions and migrations too. -/
def State.abandonMoves (s : State) (all : Bool) : State :=
  s.tiers.moves.foldl (fun a m =>
    if m.kind = .demote ∨ m.kind = .writeback then (a.undoMove m).modTile m.tile (fun x => { x with dirty := true })
    else if all then a.undoMove m else a) s

/-- What Caddy's logic loses with its domain: the flash keeps its stripes. -/
def State.caddyReset (s : State) : State :=
  (((s.abandonMoves false).modCaddy (fun c => { c with page := [], open_ := none, rewriting := [], wear := none })).set .sw
    F.CDY_STATUS_STATE 0).modDev .sw (fun v => v.setReg A.CDY_CAP 0)

/-- A port of a LINKQ domain that is reset. -/
def State.resetPort (s : State) (p : Nat) : State :=
  if s.lnk .sw p = Lnk.OFF then s
  else if s.lineUp .sw p ∨ s.lnk .sw p = Lnk.DEEP ∨ s.lnk .sw p = Lnk.WAKING then (s.linkDown .sw p).emit (.lanesOff .sw p)
  else (s.leaveService .sw p Lnk.DOWN).emit (.lanesOff .sw p)

/-- A window mapped to a physical cluster of a RED domain. -/
def Dev.winIn (v : Dev) (dom w : Nat) : Bool :=
  v.on (F.RED_WIN_A_ENABLE w)
    && (List.range 16).any (fun c => bitOf (v.get (F.RED_WIN_A_CLUSTER_MASK w)) c && redDomain (v.cluster c) == dom)

/-- A window is IDLE with its slots empty, and its emissions end NOT_ARMED. -/
def State.idleWin (s : State) (w : Nat) : State :=
  ((s.set .sw (F.RED_WIN_STATUS_STATE w) 0).setWin w Win.idle).endEmits (fun c => c.win == w)

/-- Every host queue is disabled as under R349; no completion queue has anything left to signal. -/
def State.disableQueues (s : State) : State :=
  let s := s.modHif (fun h => { h with fresh := [] })
  (List.range 1024).foldl (fun a q =>
    let a1 := (a.set .sw (F.HIF_CQ_B_ENABLE q) 0).dropKey (1024 + q)
    ((a1.silence q).set .sw (F.HIF_SQ_B_ENABLE q) 0).restQueue q) s

/-- A core of a SEQ domain that is reset is OFF, one that is LOADING too: the load goes on without it (Table 19.4). -/
def State.offCore (s : State) (n : Nat) : State :=
  let s1 := if s.coreState n = CoreSt.LOADING then
      { s with sw := { s.sw with load := s.sw.load.map (fun l => { l with cores := l.cores.erase n }) } } else s
  s1.clearCore n

/-- What a demand domain, or domain 27, loses when it is reset (Table 19.4). -/
def State.resetDomain (s : State) (dom : Nat) : State :=
  if dom < 16 then (List.range 4).foldl (fun a i => a.resetPort (4 * (dom - 8) + i)) s
  else if dom < 20 then (List.range 256).foldl (fun a w => if (a.dev .sw).winIn dom w then a.idleWin w else a) s
  else if dom < 24 then
    (List.range 64).foldl (fun a n => if 20 + a.corePhys n / 18 = dom then a.offCore n else a) s
  else if dom = 26 then s.caddyReset
  else s.disableQueues

/-- A demand domain turns off. -/
def State.domainOff (s : State) (dom : Nat) : State :=
  let s1 := (s.set .sw (F.PWR_DOMAIN_STATUS_STATE dom) Dom.OFF).modKettle (fun k => { k with
    idleAt := SMap.put none k.idleAt dom none })
  if dom = 26 then s1.setLocked (setBit (s1.get .sw F.PWR_CLK_STATUS_LOCKED) 5 false) else s1

/-- DOMAIN_OFF_TIMER (R443): 1 ms after the demand has stopped, unless HOLD is set. -/
def State.offTimer (s : State) (dom : Nat) : State :=
  match SMap.at none s.sw.kettle.idleAt dom with
  | some t =>
    if s.domain dom ≠ Dom.ON ∨ s.now < t + 1000000 ∨ bitOf ((s.dev .sw).reg A.PWR_DOMAIN_HOLD) dom ∨ s.demands.contains dom
    then s
    else (s.resetDomain dom).domainOff dom
  | none => s

/-- DOMAIN_WAKE_DONE: links with ENABLE 1 train, and Caddy reads its flash (R481). -/
def State.domainOn (s : State) (dom : Nat) : State :=
  if s.domain dom ≠ Dom.WAKING then s
  else
    let s1 := (s.set .sw (F.PWR_DOMAIN_STATUS_STATE dom) Dom.ON).count .sw 0xCE4 1
    if dom < 16 then
      (List.range 4).foldl (fun a i =>
        let p := 4 * (dom - 8) + i
        if (a.dev .sw).on (F.LNK_CTRL_ENABLE p) ∧ (a.lnk .sw p = Lnk.OFF ∨ a.lnk .sw p = Lnk.DOWN) then a.startTraining .sw p
        else a) s1
    else if dom = 26 then
      let s2 := s1.setLocked (setBit (s1.get .sw F.PWR_CLK_STATUS_LOCKED) 5 true)
      if (s2.dev .sw).on F.CDY_CFG_ENABLE then s2.set .sw F.CDY_STATUS_STATE 1 else s2
    else s1

/-- DOMAIN_RESET (R487): a demand domain, or domain 27; ignored during a warm reset (R478). A domain that has FAILED stays
so. -/
def State.domainReset (s : State) (dom : Nat) : State :=
  if s.sw.dev.boot.warm ∨ s.sw.dev.boot.off ∨ ! (demandDomains.contains dom || dom == 27) then s
  else if dom = 27 then s.resetDomain 27
  else if s.domain dom = Dom.ON ∨ s.domain dom = Dom.WAKING then (s.resetDomain dom).domainOff dom
  else s

/-! ### Power-on (R478 to R482, R488) -/

/-- A device right after power-on reset: the fuses stay, and an end-point's accelerator memory is not its own. -/
def Dev.powerOn (v : Dev) (d : Part) (now : Nat) (txn : BitVec 32) : Dev :=
  let i := v.isl
  { Dev.initial d with
    clock0 := now, nextTxn := txn, boot := { Boot.initial with resetAt := now }
    -- a rollback minimum falls at OWNER_CLEAR only (R393), whose erasure this reset is (Table 15.5)
    isl := { Island.initial with
      fusedMin := i.fusedMin, debugLock := i.debugLock, minima := if i.clearDue then [] else i.minima }
    mem := (match d with | .sw => [] | .ep => v.mem) }

/-- What Caddy keeps of its flash over a power cycle (R299, R302, R513). -/
def Caddy.powerOn (c : Caddy) : Caddy := c.stale

/-- POWER_ON_RESET (R478, Table 19.4). Kettle keeps the ageing log and the hours; an end-point's modules begin to train
(R488). -/
def State.powerOn (s : State) (d : Part) : State :=
  let s0 := if (s.dev d).boot.fatal then s.emit (.pin d "FATAL_N" true) else s
  let txn := Config.txnStart s0.fresh
  let v := (s0.dev d).powerOn d s0.now txn
  let s1 := match d with
    | .sw =>
      let k := s0.sw.kettle
      let past := if s0.sw.dev.boot.off then k.onNs else s0.onTime
      let head := s0.get .sw F.PWR_AGE_LOG_IDX_HEAD
      { s0 with sw := { Switch.initial with
          dev := v.set F.PWR_AGE_LOG_IDX_HEAD head
          hif := Hif.start (Config.i3cSa s0.fresh)
          kettle := { Kettle.start s0.now with log := k.log, logged := k.logged, onNs := past, dailyAt := k.dailyAt }
          tiers := { Tiers.initial with caddy := s0.tiers.caddy.powerOn } } }
    | .ep => { s0 with ep := { EndPoint.initial with dev := v.set F.EP_UCIE_STATUS_STATE 1 } }
  s1.draw

/-- POWER_LOSS (R498): nothing works until the next power-on reset; the hours count to here. -/
def State.powerLoss (s : State) (d : Part) : State :=
  if (s.dev d).boot.off then s
  else
    let h := s.onTime
    let s1 := s.powerOn d
    let s2 := match d with | .sw => s1.modKettle (fun k => { k with onNs := h }) | .ep => s1.set .ep F.EP_UCIE_STATUS_STATE 0
    s2.modDev d (fun v => { v with boot := { v.boot with off := true } })

/-- PRIV of the supplied programs (Table 9.8). -/
def servicePriv (n : Nat) : Nat :=
  let bits (l : List Nat) : Nat := (l.map (fun b => 2 ^ b)).sum
  match n with
  | 0 => bits [Priv.CONFIG, Priv.LINK, Priv.SERVICE, Priv.ANY_TENANT]
  | 1 => bits [Priv.STEP, Priv.SERVICE, Priv.HOSTQ, Priv.ANY_TENANT]
  | 2 => bits [Priv.SERVICE, Priv.HOSTQ, Priv.ANY_TENANT]
  | 3 => bits [Priv.CONFIG, Priv.LINK, Priv.SERVICE, Priv.HOSTQ]
  | _ => bits [Priv.SERVICE, Priv.ANY_TENANT]

/-- The start-up image is copied to LPDDR5X address 0 and loaded onto logical cores 0 to 4 (Table 19.2, Table 9.8). -/
def State.loadServices (s : State) : State :=
  let s1 := s.modDev .sw (fun v => { v with mem := Memory.setBytes v.mem 0 Config.startImage })
  (List.range 5).foldl (fun a n =>
    let b := a.loadCore (Config.startAt n) n
    if b.coreState n = CoreSt.LOADED then
      (b.set .sw (F.SEQ_CORE_STATUS_PRIV n) (servicePriv n)).set .sw (F.SEQ_CORE_PROG_PROG_ID n) (n + 1)
    else b) s1

/-- The device is READY, TIME_MS after its reset. -/
def State.ready (s : State) (d : Part) : State :=
  (s.set d F.CFG_BOOT_STATUS_STAGE 7).set d F.CFG_BOOT_STATUS_TIME_MS ((s.now - (s.dev d).boot.resetAt) / 1000000)

/-- A stage has failed (R482): what was under way ends with it. -/
def State.stopped (s : State) (d : Part) (result : Nat) : State :=
  ((s.set d F.CFG_BOOT_STATUS_STAGE 0xF).set d F.CFG_BOOT_STATUS_RESULT result).modDev d (fun v =>
    { v with boot := { v.boot with warm := false } })

/-- Firmware is verified (R394): its stage fails with the cause, or its measurement is taken and it runs. -/
def State.firmware (s : State) (d : Part) (index : Nat) (x : Option FwImage) (go : State → State) : State :=
  match (s.isl d).verdict x, x with
  | 0, some f => go (s.modIsl d (fun i => i.runs index f))
  | r, _ => s.stopped d r

/-- What a stage's work was (Table 19.2): firmware, from slot A or, where A's fails, slot B, or ranks. -/
def State.stageWork (s : State) (g : Nat) (r : BootResult) (go : State → State) : State :=
  match g with
  | 1 =>
    let useB := (s.isl .sw).verdict r.slotA != 0
    (s.set .sw F.CFG_BOOT_STATUS_SLOT (b2n useB)).firmware .sw 2 (if useB then r.slotB else r.slotA) go
  | 2 => s.firmware .sw 3 (if s.get .sw F.CFG_BOOT_STATUS_SLOT = 0 then r.slotA else r.slotB) go
  | 4 =>
    let s1 := s.set .sw F.CFG_BOOT_STATUS_RANKS_OK r.ranks
    if r.ranks % 65536 = 0xFFFF then go s1 else s1.stopped .sw 4
  | _ => go s

/-- BOOT_STAGE_DONE (R480, R482): the stage in progress has completed, or has failed. A warm reset verifies main firmware and
trains LPDDR5X again (Table 19.3), and ends with WARM_RESET_DONE. -/
def State.stageDone (s : State) (r : BootResult) : State :=
  let g := s.get .sw F.CFG_BOOT_STATUS_STAGE
  let b := s.sw.dev.boot
  if 7 ≤ g ∨ b.off ∨ (b.warm ∧ 5 ≤ g) then s
  else if ! r.ok then s.stopped .sw r.result
  else s.stageWork g r (fun s =>
    let s1 := s.set .sw F.CFG_BOOT_STATUS_STAGE (if b.warm ∧ g = 2 then 4 else g + 1)
    if b.warm then s1
    else match g with
      | 1 => s1.ageLog 1
      | 2 => ((s1.setLocked 0x5F).setVoltage s1.codeNow).modKettle (fun k => { k with levelsAt := some s.now })
      | 5 => s1.loadServices
      | 6 => s1.ready .sw
      | _ => s1)

/-- EP_START_UP (R488): the modules have trained and the firmware has been verified, or not (R482, R394). Table 19.6 has no
RESULT for modules that do not train (free, log 57). -/
def State.epStart (s : State) (r : EpBoot) : State :=
  let b := s.ep.dev.boot
  if b.warm ∨ b.off ∨ s.get .ep F.CFG_BOOT_STATUS_STAGE = 7 ∨ s.get .ep F.CFG_BOOT_STATUS_STAGE = 0xF then s
  else if ! r.ucie then (s.stopped .ep (Config.choice s.fresh)).draw
  else s.firmware .ep 3 r.image (fun s => s.ready .ep)

/-! ### Warm reset (R485, R486, R506) -/

/-- Registers whose RO fields a warm reset keeps too: those of the domains AON, ISLAND and MGMT, what Table 19.4 keeps, and
the reset registers themselves. -/
def warmKeeps (a : Nat) : Bool :=
  let b := a / 2 ^ 24
  b == 0xB || b == 0xA || (decide (A.HIF_MGMT_CTRL ≤ a) && decide (a < A.HIF_MGMT_IP6 2))
    || [A.CFG_POT_GEN, A.CFG_BOOT_STATUS, A.CFG_RESET_CAUSE, A.TEL_FATAL, A.TEL_MEMB_STATE, A.TEL_SNAP_RING, A.MEM_STEP,
        A.EP_STEP, A.RED_CLUSTER_MAP, A.RED_CLUSTER_SPARE, A.SEQ_SPARE_STATUS].contains a
    || (decide (A.TEL_MEMB_DEAD 0 ≤ a) && decide (a < A.TEL_MEMB_DEAD 64))
    || (decide (A.SEQ_CORE_MAP0 ≤ a) && decide (a ≤ A.SEQ_CORE_MAP7))
    || (decide (A.MEM_QUOTA_A 0 ≤ a) && decide (a < A.MEM_QUOTA_A 64))
    || (decide (A.CDY_QUOTA_A 0 ≤ a) && decide (a < A.CDY_QUOTA_A 64))

/-- Registers of the island and of the management port: every field keeps its value. -/
def warmWhole (a : Nat) : Bool := a / 2 ^ 24 == 0xA || (decide (A.HIF_MGMT_CTRL ≤ a) && decide (a < A.HIF_MGMT_IP6 2))

/-- One register after a warm reset (R506): its RW bits are kept, its RW1C bits are zero, its other bits are kept or at
their reset value. -/
def warmReg (d : Part) (a x : Nat) : Nat :=
  match findReg d a with
  | none => x
  | some (r, _) =>
    if warmWhole a then x
    else if warmKeeps a then x - Nat.land x r.w1c
    else Nat.lor (Nat.land x r.rw) (r.reset - Nat.land r.reset (Nat.lor r.rw r.w1c))

/-- Enables, ring positions, landing counters and lists that Table 19.4 clears. -/
def Dev.warmClear (v : Dev) (d : Part) : Dev :=
  let off (w : Dev) (f : Fld) : Dev := w.set f 0
  let fields : List Fld :=
    [F.MEM_RFAULT_CTRL_ENABLE, F.MEM_RFAULT_HEAD_HEAD, F.MEM_RFAULT_TAIL_TAIL, F.XLT_FLOG_CTRL_ENABLE, F.XLT_FLOG_HEAD_HEAD,
     F.XLT_FLOG_TAIL_TAIL, F.TEL_WIN_CFG_ENABLE]
  let swFields : List Fld :=
    [F.SEQ_SAMPLE_RING_HEAD, F.SEQ_SAMPLE_RING_TAIL] ++ (List.range 64).map F.SEQ_SAMPLE_CTRL_ENABLE
      ++ (List.range 16).map F.SEQ_QUEUE_B_ENABLE ++ (List.range 1024).map F.HIF_SQ_B_ENABLE
      ++ (List.range 1024).map F.HIF_CQ_B_ENABLE
  let v1 := { v with regs := v.regs.filter (fun e => ! (decide (A.MEM_LCTR 1 ≤ e.1) && decide (e.1 < A.MEM_LCTR 65536))) }
  (fields ++ (match d with | .sw => swFields | .ep => [])).foldl off v1

/-- A port after a warm reset: what it has known since power-on stays. -/
def Port.warm (q : Port) : Port :=
  { Port.initial with served := q.served, negotiated := q.negotiated, presetUsed := q.presetUsed, coeffs := q.coeffs }

/-- A device after a warm reset, before start-up goes on. -/
def Dev.warmReset (v : Dev) (d : Part) (now : Nat) (txn : BitVec 32) (cause : Nat) : Dev :=
  let n := v.get F.CFG_RESET_CAUSE_WARM_COUNT
  let regs := v.regs.foldr (fun e w => w.setReg e.1 (warmReg d e.1 e.2.toNat)) (Dev.initial d)
  let w : Dev := { regs.warmClear d with
    clock0 := v.clock0, ports := SMap.map' Port.warm Port.initial v.ports, counters := v.counters, nextTxn := txn,
    mem := v.mem, isl := v.isl, tel := v.tel, boot := { resetAt := now, warm := true, fatal := false, off := false } }
  -- of the membership a warm reset keeps the state and the epoch only (Table 19.4)
  (((w.set F.CFG_RESET_CAUSE_LAST cause).set F.CFG_RESET_CAUSE_WARM_COUNT (min 65535 (n + 1))).set F.CFG_BOOT_STATUS_STAGE
    2).set F.TEL_MEMB_STATE_COORD 0 |>.set F.TEL_MEMB_STATE_CSEQ 0

/-- Moves, copies and tile commands under way are given up, and every shadow is restored (R306, Table 19.3). -/
def State.warmTiers (s : State) : State :=
  let s1 := s.abandonMoves true
  let cs := (s1.tiers.dir.filter (fun e => e.2.copying)).map (fun e => e.1)
  let s2 := cs.foldl (fun a t => (a.uncharge 2 (a.tile t).tenant).modTile t (fun x => { x with copying := false })) s1
  (s2.discardTiles.caddyReset).modTiers (fun x => { x with cmds := [], hands := [], inHand := none })

/-- Every demand domain that has not FAILED is off. -/
def State.domainsOff (s : State) : State :=
  demandDomains.foldl (fun a dom => if a.domain dom = Dom.FAILED then a else a.domainOff dom) s

/-- A warm reset begins (R478, R485): not during another one, nor once start-up has stopped (R482). `cause` is LAST
of CFG_RESET_CAUSE. -/
def State.warmReset (s : State) (d : Part) (cause : Nat) : State :=
  let b := (s.dev d).boot
  if b.warm ∨ b.off ∨ s.get d F.CFG_BOOT_STATUS_STAGE = 0xF then s
  else
    -- what has not been counted yet is counted first (R468)
    let s0 := (if b.fatal then s.emit (.pin d "FATAL_N" true) else s).syncCounters d
    let s1 := (List.range (linkPorts d)).foldl (fun a p =>
      if a.lineUp d p then (a.sendDown d p).emit (.lanesOff d p) else a) s0
    match d with
    | .sw =>
      let s2 := s1.warmTiers
      let v := s2.sw.dev.warmReset .sw s2.now (Config.txnStart s2.fresh) cause
      let h := s2.sw.hif
      let sw1 : Switch := { Switch.initial with
        dev := v, badCores := s2.sw.badCores, badClusters := s2.sw.badClusters, tiers := s2.sw.tiers
        hif := { Hif.initial with
          nextCmd := h.nextCmd, replies := h.replies, events := h.events, nextEvent := h.nextEvent,
          i3cOffset := h.i3cOffset, i3cAddr := h.i3cAddr, i3cStatic := h.i3cStatic }
        kettle := s2.sw.kettle }
      (({ s2 with sw := sw1 } : State).draw).domainsOff
    | .ep =>
      let v := s1.ep.dev.warmReset .ep s1.now (Config.txnStart s1.fresh) cause
      ({ s1 with ep := { EndPoint.initial with dev := v.set F.EP_UCIE_STATUS_STATE 1 } } : State).draw

/-- WARM_RESET_DONE (R485): READY and STALE, whatever ENABLE says (R435); the services are loaded, and links with ENABLE 1 begin
cold training where their domain is on, the others once it is. -/
def State.warmDone (s : State) (d : Part) : State :=
  if ! (s.dev d).boot.warm then s
  else
    let s1 := (s.modDev d (fun v => { v with boot := { v.boot with warm := false } })).ready d
    let s2 := match d with | .sw => s1.loadServices | .ep => s1
    let s4 := (List.range (linkPorts d)).foldl (fun a p => a.bounds d p) (s2.goStale d)
    (List.range (linkPorts d)).foldl (fun a p => if (a.dev d).on (F.LNK_CTRL_ENABLE p) then a.startTraining d p else a) s4

/-! ### The test port (R494) -/

/-- BOUNDARY_SCAN: served while POR_N is low, and as the debug port once the island has opened it; what it shifts out is
not the manual's (free, log 1). -/
def State.scan (s : State) (d : Part) (bits : List Bool) : State :=
  let open_ := match d with | .sw => s.get .sw F.SEC_MODE_DEBUG_OPEN == 1 && ! s.conf | .ep => false
  if (s.dev d).boot.off || open_ then
    (s.emit (.scan d ((List.range bits.length).map (fun i => bitOf (Config.choice s.fresh) i)))).draw
  else s

end Sys2Proof.Machine
end

