-- ==== Sys2Proof/Machine/CollSteps.lean ====
section
/-! DEFINITION. The steps of reduction windows (spec/07) and of the collective service (spec/08). -/

namespace Sys2Proof.Machine

/-! ### Windows -/

/-- A failed cluster is replaced by a free spare once every window that names it is IDLE (R438); which of two free spares is
taken is not specified (free, log 1). -/
def State.swapCluster (s : State) (c : Nat) : State :=
  let v := s.dev .sw
  let used := (List.range 16).map (fun i => v.cluster i)
  let spares := [16, 17].filter (fun p => ! used.contains p && ! s.sw.badClusters.contains p)
  let idle := (List.range 256).all (fun w =>
    ! bitOf (v.get (F.RED_WIN_A_CLUSTER_MASK w)) c || v.get (F.RED_WIN_STATUS_STATE w) == 0)
  if s.sw.badClusters.contains (v.cluster c) ∧ idle then
    match spares[Config.choice s.fresh % max 1 spares.length]? with
    | some p =>
      (s.setDev .sw ((v.set (F.RED_CLUSTER_MAP_PHYS c) (p - 16)).set F.RED_CLUSTER_SPARE_SPARE
        (setBit (v.get F.RED_CLUSTER_SPARE_SPARE) c true))).draw.set .sw F.TEL_FAULT_STATUS_SPARE_USED 1
    | none => s
  else s

/-- The host writes an operation word or the command register of a window, at the address `a`, but not of a tenant's window in
confidential mode: that access is the one recorded (Table 15.6, R334). -/
def State.hostWin (s : State) (w a : Nat) (go : State → State) : State :=
  if s.conf && s.get .sw (F.RED_WIN_A_TENANT w) != 0 then s.badAccess .sw 0 a true else go s

/-- WIN_CMD_ARM (R191): ARM through the window's command register, with a TAG. -/
def execWinCmdArm (n tag t : Nat) (s : State) : Host.Outcome State Fault Refusal :=
  hostSettle "WIN_CMD_ARM" (okWindow n && decide (tag < 256)) .sw (wr (A.RED_WIN_CMD n)) t s (fun s => s.hostWin n (A.RED_WIN_CMD n) (fun s => (s.arm n tag).2))

/-- WIN_CMD_CLEAR (R191). -/
def execWinCmdClear (n t : Nat) (s : State) : Host.Outcome State Fault Refusal :=
  hostSettle "WIN_CMD_CLEAR" (okWindow n) .sw (wr (A.RED_WIN_CMD n)) t s (fun s => s.hostWin n (A.RED_WIN_CMD n) (fun s => s.clearWin n))

/-- WIN_CLEAR_COMPLETE (R191). -/
def execWinClearComplete (n t : Nat) (s : State) : Host.Outcome State Fault Refusal :=
  stepSettle "WIN_CLEAR_COMPLETE" (okWindow n) t s (fun s => s.winCleared n)

/-- PIECE_EMIT (R181, R182): `cmd` numbers the emission command, and `ecc` says what the staging blocks of the piece meet. -/
def execPieceEmit (cmd piece : Nat) (ecc : Ecc) (t : Nat) (s : State) : Host.Outcome State Fault Refusal :=
  stepSettle "PIECE_EMIT" true t s (fun s => s.emitPiece cmd piece ecc)

/-- CLUSTER_SPARE_SWAP (R438): the logical cluster `c` moves to a spare. -/
def execClusterSpareSwap (c t : Nat) (s : State) : Host.Outcome State Fault Refusal :=
  stepSettle "CLUSTER_SPARE_SWAP" (decide (c < 16)) t s (fun s => s.swapCluster c)

/-! ### The collective service -/

/-- An operation that an OPID names. -/
def State.withNamed (s : State) (op : Nat) (go : State → CollOp → State) : State :=
  match s.opNamed op with
  | some o => go s o
  | none => s

/-- COLL_SUBMIT (R195, R198). -/
def execCollSubmit (t : Nat) (s : State) : Host.Outcome State Fault Refusal :=
  stepSettle "COLL_SUBMIT" true t s (fun s => s.collSubmit)

/-- CHUNK_READY (R201, R203). -/
def execChunkReady (op chunk t : Nat) (s : State) : Host.Outcome State Fault Refusal :=
  stepSettle "CHUNK_READY" true t s (fun s => s.withNamed op (fun s o => s.chunkReady o chunk))

/-- SHARD_DONE (R204). -/
def execShardDone (op t : Nat) (s : State) : Host.Outcome State Fault Refusal :=
  stepSettle "SHARD_DONE" true t s (fun s => s.withNamed op (fun s o => s.shardDone o))

/-- HUB_DONE (R204, R215). -/
def execHubDone (t : Nat) (s : State) : Host.Outcome State Fault Refusal :=
  stepSettle "HUB_DONE" true t s (fun s => s.hubDone)

/-- ABORT (R217). -/
def execAbort (t : Nat) (s : State) : Host.Outcome State Fault Refusal :=
  stepSettle "ABORT" true t s (fun s => s.collAbort)

/-- STOP (R216). -/
def execStop (t : Nat) (s : State) : Host.Outcome State Fault Refusal :=
  stepSettle "STOP" true t s (fun s => s.collStop)

/-- DISPATCH_SUBMIT (R207, R208). -/
def execDispatchSubmit (t : Nat) (s : State) : Host.Outcome State Fault Refusal :=
  stepSettle "DISPATCH_SUBMIT" true t s (fun s => s.dispatchSubmit)

/-- DISPATCH_PLAN (R208 to R212). -/
def execDispatchPlan (op t : Nat) (s : State) : Host.Outcome State Fault Refusal :=
  stepSettle "DISPATCH_PLAN" true t s (fun s => s.withNamed op (fun s o => s.dispatchPlan o))

/-- COMBINE_EMIT (R213): home `h` of the dispatch. -/
def execCombineEmit (op h t : Nat) (s : State) : Host.Outcome State Fault Refusal :=
  stepSettle "COMBINE_EMIT" true t s (fun s => s.withNamed op (fun s o => s.combineEmit o h))

end Sys2Proof.Machine
end

