-- ==== Sys2Proof/Machine/CoreSteps.lean ====
section
/-! DEFINITION. The steps of loading, starting, stopping and watching a Linal core (spec/09). -/

namespace Sys2Proof.Machine

/-- SEQ_LOAD_CMD (R229, R230). -/
def execSeqLoadCmd (cores : Word) (t : Nat) (s : State) : Host.Outcome State Fault Refusal :=
  hostSettle "SEQ_LOAD_CMD" true .sw (wr A.SEQ_LOAD_CMD) t s (fun s => s.loadCmd cores.toNat)

/-- LOAD_VERIFY_DONE (R229, Table 9.5). -/
def execLoadVerifyDone (t : Nat) (s : State) : Host.Outcome State Fault Refusal :=
  stepSettle "LOAD_VERIFY_DONE" true t s (fun s => s.loadVerified)

/-- LOAD_COPY_DONE (R229, R222). -/
def execLoadCopyDone (t : Nat) (s : State) : Host.Outcome State Fault Refusal :=
  stepSettle "LOAD_COPY_DONE" true t s (fun s => s.loadCopied)

/-- CORE_START (R231). -/
def execCoreStart (n t : Nat) (s : State) : Host.Outcome State Fault Refusal :=
  hostSettle "CORE_START" (okCore n) .sw (wr (A.SEQ_CORE_CTRL n)) t s (fun s => s.startCore n)

/-- CORE_HALT (R231). -/
def execCoreHalt (n t : Nat) (s : State) : Host.Outcome State Fault Refusal :=
  hostSettle "CORE_HALT" (okCore n) .sw (wr (A.SEQ_CORE_CTRL n)) t s (fun s => s.haltCore n)

/-- CORE_HALTED (R231). -/
def execCoreHalted (n t : Nat) (s : State) : Host.Outcome State Fault Refusal :=
  stepSettle "CORE_HALTED" (okCore n) t s (fun s => s.coreHalted n)

/-- CORE_RESET (R231, R437). -/
def execCoreReset (n t : Nat) (s : State) : Host.Outcome State Fault Refusal :=
  hostSettle "CORE_RESET" (okCore n) .sw (wr (A.SEQ_CORE_CTRL n)) t s (fun s => s.resetCore n)

/-- WATCHDOG (R233). -/
def execWatchdog (n t : Nat) (s : State) : Host.Outcome State Fault Refusal :=
  stepSettle "WATCHDOG" (okCore n) t s (fun s => s.watchdog n)

/-- SAMPLE_TAKE (R239). -/
def execSampleTake (n skid t : Nat) (s : State) : Host.Outcome State Fault Refusal :=
  stepSettle "SAMPLE_TAKE" (okCore n) t s (fun s => s.sampleTake n skid)

/-- SEQ_QUEUE_DISABLE (R236). -/
def execSeqQueueDisable (q t : Nat) (s : State) : Host.Outcome State Fault Refusal :=
  hostSettle "SEQ_QUEUE_DISABLE" (okServiceQueue q) .sw (wr (A.SEQ_QUEUE_B q)) t s (fun s => s.disableQueue q)

/-- SEQ_LOCAL_DATA_ACCESS (R221). -/
def execSeqLocalDataAccess (n : Nat) (write : Bool) (v : Word) (t : Nat) (s : State) : Host.Outcome State Fault Refusal :=
  hostSettle "SEQ_LOCAL_DATA_ACCESS" (okCore n) .sw ⟨0, A.SEQ_LOCAL_DATA n, write⟩ t s (fun s => s.localData n (A.SEQ_LOCAL_DATA n) write v)

end Sys2Proof.Machine
end

