-- ==== Sys2Proof/Machine/EpSteps.lean ====
section
/-! DEFINITION. The steps of the end-point (spec/14): engine requests, the attach, the read cache, ordered-flow resets and
weight segments. -/

namespace Sys2Proof.Machine

/-! ### The attach (R366, R367) -/

/-- Bytes that the compute die holds in accelerator memory now, as the attach shows them. -/
def State.dieBytes (s : State) (own : List (Nat × Byte)) : State :=
  s.modDev .ep (fun v => { v with mem := own.foldl (fun m x => Memory.setByte m x.1 x.2) v.mem })

/-- Module `m` has trained. -/
def State.moduleUp (s : State) (m : Nat) : State :=
  (s.set .ep F.EP_UCIE_STATUS_MODULES_UP (setBit (s.get .ep F.EP_UCIE_STATUS_MODULES_UP) m true)).set .ep F.EP_UCIE_STATUS_STATE 2

/-- Module `m` fails in service. -/
def State.moduleDown (s : State) (m : Nat) : State :=
  let up := s.get .ep F.EP_UCIE_STATUS_MODULES_UP
  if ! bitOf up m then s
  else
    let s1 := ((s.set .ep F.EP_UCIE_STATUS_MODULES_UP (setBit up m false)).epEvent F.EP_EVENT_STATUS_MODULE_DOWN).count .ep 0xD65 1
    if setBit up m false = 0 then s1.set .ep F.EP_UCIE_STATUS_STATE 0 else s1

/-! ### The read cache (R383) -/

/-- A host invalidation takes effect: the lines of a channel, or every line. -/
def State.rcDrop (s : State) (i : Option Nat) : State :=
  match i with
  | some c => s.dropLines (fun x _ => x == c)
  | none => s.flushReadCache

/-- A write to EP_RCACHE_INV; one that is under way takes effect first. -/
def State.rcWrite (s : State) (i : Option Nat) : State :=
  let s1 := match s.ep.rcInv with | some j => s.rcDrop j | none => s
  (s1.modEp (fun e => { e with rcInv := some i })).set .ep F.EP_RCACHE_STATUS_PENDING 1

/-- READ_CACHE_INVALIDATION_COMPLETE: the host's invalidation, and every INVAL ALL under way, have completed. -/
def State.rcDone (s : State) : State :=
  let s1 := match s.ep.rcInv with
    | some j => ((s.rcDrop j).modEp (fun e => { e with rcInv := none })).set .ep F.EP_RCACHE_STATUS_PENDING 0
    | none => s
  (s1.ep.flights.filter (fun f => f.stage == .inval)).foldl (fun a f => a.flushReadCache.engineDone f Code.OK 0 false) s1

/-! ### Ordered-flow resets (R385) -/

/-- A write to EP_ORD_RESET: the flows' held packets are discarded and counted, and their entries freed. -/
def State.ordReset (s : State) (src : Nat) (chan : Option Nat) : State :=
  let hit (f : RxFlow) : Bool := f.src == src && (match chan with | some c => f.chan == c | none => true)
  let n := ((s.ep.rflows.filter hit).map (fun f => f.held.length)).sum
  ((s.modEp (fun e => { e with rflows := e.rflows.filter (fun f => ! hit f), ordReset := some (src, chan) })).count .ep
    0xD64 n).set .ep F.EP_ORD_STATUS_PENDING 1

/-- ORD_RESET_COMPLETE. -/
def State.ordResetDone (s : State) : State :=
  if s.ep.ordReset.isNone then s
  else (s.modEp (fun e => { e with ordReset := none })).set .ep F.EP_ORD_STATUS_PENDING 0

/-! ### Engine requests (R369 to R373) -/

/-- A request presented as one of a kind: its KIND is that kind, or one that is reserved. -/
def kindIs (k : Nat) (req : BitVec 512) : Bool :=
  let x := reqKind req.toNat
  x == k || x == 0 || decide (8 < x)

/-- An engine presents a request, with what the compute die's memory holds where it reads. -/
def engineStep (name : String) (k n : Nat) (req : BitVec 512) (own : List (Nat × Byte)) (t : Nat) (s : State) :
    Host.Outcome State Fault Refusal :=
  stepSettle name (okEngine n && kindIs k req) t s (fun s => (s.dieBytes own).engineRequest n req)

/-- ENGINE_READ (R370). -/
def execEngineRead (n : Nat) (req : BitVec 512) (t : Nat) (s : State) : Host.Outcome State Fault Refusal :=
  engineStep "ENGINE_READ" 1 n req [] t s

/-- ENGINE_WRITE (R370). -/
def execEngineWrite (n : Nat) (req : BitVec 512) (t : Nat) (s : State) : Host.Outcome State Fault Refusal :=
  engineStep "ENGINE_WRITE" 2 n req [] t s

/-- ENGINE_TGET (R370). -/
def execEngineTget (n : Nat) (req : BitVec 512) (t : Nat) (s : State) : Host.Outcome State Fault Refusal :=
  engineStep "ENGINE_TGET" 3 n req [] t s

/-- ENGINE_TPUT (R370). -/
def execEngineTput (n : Nat) (req : BitVec 512) (own : List (Nat × Byte)) (t : Nat) (s : State) : Host.Outcome State Fault Refusal :=
  engineStep "ENGINE_TPUT" 4 n req own t s

/-- ENGINE_AMO (R370). -/
def execEngineAmo (n : Nat) (req : BitVec 512) (t : Nat) (s : State) : Host.Outcome State Fault Refusal :=
  engineStep "ENGINE_AMO" 5 n req [] t s

/-- ENGINE_FENCE (R370, R151). -/
def execEngineFence (n : Nat) (req : BitVec 512) (t : Nat) (s : State) : Host.Outcome State Fault Refusal :=
  engineStep "ENGINE_FENCE" 6 n req [] t s

/-- ENGINE_INVAL (R370, R383). -/
def execEngineInval (n : Nat) (req : BitVec 512) (t : Nat) (s : State) : Host.Outcome State Fault Refusal :=
  engineStep "ENGINE_INVAL" 7 n req [] t s

/-- ENGINE_WAIT (R370, R372). -/
def execEngineWait (n : Nat) (req : BitVec 512) (t : Nat) (s : State) : Host.Outcome State Fault Refusal :=
  engineStep "ENGINE_WAIT" 8 n req [] t s

/-! ### The other steps -/

/-- WEIGHT_SEGMENT_VERIFY (R408, R409). -/
def execWeightSegmentVerify (slot seg t : Nat) (s : State) : Host.Outcome State Fault Refusal :=
  stepSettle "WEIGHT_SEGMENT_VERIFY" (decide (slot < 16)) t s (fun s => s.verifySegment slot seg)

/-- UCIE_MODULE_TRAINED (R367). -/
def execUcieModuleTrained (m t : Nat) (s : State) : Host.Outcome State Fault Refusal :=
  stepIf "UCIE_MODULE_TRAINED" (decide (m < 8)) t s (fun s => s.moduleUp m)

/-- MODULE_DOWN (R367). -/
def execModuleDown (m t : Nat) (s : State) : Host.Outcome State Fault Refusal :=
  stepIf "MODULE_DOWN" (decide (m < 8)) t s (fun s => s.moduleDown m)

/-- COMPUTE_DIE_ACKNOWLEDGE (R381): access `id` has been made; `own` is what the die's memory held where it reads. -/
def execComputeDieAcknowledge (id : Nat) (own : List (Nat × Byte)) (t : Nat) (s : State) : Host.Outcome State Fault Refusal :=
  stepSettle "COMPUTE_DIE_ACKNOWLEDGE" true t s (fun s => (s.dieBytes own).dieDone id)

/-- RCACHE_INV_CHANNEL (R383). -/
def execRcacheInvChannel (chan t : Nat) (s : State) : Host.Outcome State Fault Refusal :=
  hostIf "RCACHE_INV_CHANNEL" (decide (chan < 2 ^ 20)) .ep (wr A.EP_RCACHE_INV) t s (fun s => s.rcWrite (some chan))

/-- RCACHE_INV_ALL (R383). -/
def execRcacheInvAll (t : Nat) (s : State) : Host.Outcome State Fault Refusal :=
  hostIf "RCACHE_INV_ALL" true .ep (wr A.EP_RCACHE_INV) t s (fun s => s.rcWrite none)

/-- READ_CACHE_INVALIDATION_COMPLETE (R383). -/
def execReadCacheInvalidationComplete (t : Nat) (s : State) : Host.Outcome State Fault Refusal :=
  stepSettle "READ_CACHE_INVALIDATION_COMPLETE" true t s (fun s => s.rcDone)

/-- ORD_RESET_FLOW (R385). -/
def execOrdResetFlow (src chan t : Nat) (s : State) : Host.Outcome State Fault Refusal :=
  hostIf "ORD_RESET_FLOW" (okNode src && decide (chan < 2 ^ 20)) .ep (wr A.EP_ORD_RESET) t s (fun s => s.ordReset src (some chan))

/-- ORD_RESET_ALL_FLOWS (R385). -/
def execOrdResetAllFlows (src t : Nat) (s : State) : Host.Outcome State Fault Refusal :=
  hostIf "ORD_RESET_ALL_FLOWS" (okNode src) .ep (wr A.EP_ORD_RESET) t s (fun s => s.ordReset src none)

/-- ORD_RESET_COMPLETE (R385). -/
def execOrdResetComplete (t : Nat) (s : State) : Host.Outcome State Fault Refusal :=
  stepIf "ORD_RESET_COMPLETE" true t s (fun s => s.ordResetDone)

end Sys2Proof.Machine
end

