-- ==== Sys2Proof/Machine/HostSteps.lean ====
section
/-! DEFINITION. The steps of the host queues and of channel invalidation (spec/13). `data` is what host memory gives a
command: with CONF, each 4,096 B block of ciphertext followed by its tag. -/

namespace Sys2Proof.Machine

/-- SQ_TAIL_DOORBELL (R343): function `fn` writes `v` to the tail doorbell of queue `q` in its doorbell area. -/
def execSqTailDoorbell (fn q v t : Nat) (s : State) : Host.Outcome State Fault Refusal :=
  hostSettle "SQ_TAIL_DOORBELL" (okFunction fn && okHostQueue q) .sw ⟨fn, 16 * q, true⟩ t s (fun s => s.sqDoorbell fn q v)

/-- CQ_HEAD_DOORBELL (R343). -/
def execCqHeadDoorbell (fn q v t : Nat) (s : State) : Host.Outcome State Fault Refusal :=
  hostSettle "CQ_HEAD_DOORBELL" (okFunction fn && okHostQueue q) .sw ⟨fn, 16 * q + 8, true⟩ t s (fun s => s.cqDoorbell fn q v)

/-- COMMAND_START (R344, R346). -/
def execCommandStart (q : Nat) (entry : Option (BitVec 512)) (t : Nat) (s : State) : Host.Outcome State Fault Refusal :=
  stepSettle "COMMAND_START" (okHostQueue q) t s (fun s => s.startCmd q entry)

/-- COMMAND_COMPLETE (R344, R347). -/
def execCommandComplete (q slot : Nat) (hostErr : Bool) (t : Nat) (s : State) : Host.Outcome State Fault Refusal :=
  stepSettle "COMMAND_COMPLETE" (okHostQueue q) t s (fun s => s.completeCmd q slot hostErr)

/-- CQ_INT_TIMER (R362). -/
def execCqIntTimer (q t : Nat) (s : State) : Host.Outcome State Fault Refusal :=
  stepSettle "CQ_INT_TIMER" (okHostQueue q) t s (fun s => s.cqTimer q)

/-- CMD_NOP (Table 13.6). -/
def execCmdNop (q t : Nat) (s : State) : Host.Outcome State Fault Refusal :=
  stepSettle "CMD_NOP" (okHostQueue q) t s (fun s => s.cmdNop q)

/-- CMD_PUT (Table 13.6, R353). -/
def execCmdPut (q : Nat) (data : Option (List Byte)) (t : Nat) (s : State) : Host.Outcome State Fault Refusal :=
  stepSettle "CMD_PUT" (okHostQueue q) t s (fun s => s.cmdPut q data)

/-- CMD_GET (Table 13.6). -/
def execCmdGet (q t : Nat) (s : State) : Host.Outcome State Fault Refusal :=
  stepSettle "CMD_GET" (okHostQueue q) t s (fun s => s.cmdGet q)

/-- CMD_FLAG (Table 13.6). -/
def execCmdFlag (q t : Nat) (s : State) : Host.Outcome State Fault Refusal :=
  stepSettle "CMD_FLAG" (okHostQueue q) t s (fun s => s.cmdFlag q)

/-- CMD_AMO (Table 13.6). -/
def execCmdAmo (q t : Nat) (s : State) : Host.Outcome State Fault Refusal :=
  stepSettle "CMD_AMO" (okHostQueue q) t s (fun s => s.cmdAmo q)

/-- CMD_MSG (Table 13.6). -/
def execCmdMsg (q : Nat) (data : Option (List Byte)) (t : Nat) (s : State) : Host.Outcome State Fault Refusal :=
  stepSettle "CMD_MSG" (okHostQueue q) t s (fun s => s.cmdMsg q data)

/-- CMD_FENCE (Table 13.6, R151). -/
def execCmdFence (q t : Nat) (s : State) : Host.Outcome State Fault Refusal :=
  stepSettle "CMD_FENCE" (okHostQueue q) t s (fun s => s.cmdFence q)

/-- CMD_EMIT (Table 13.6, R181). -/
def execCmdEmit (q t : Nat) (s : State) : Host.Outcome State Fault Refusal :=
  stepSettle "CMD_EMIT" (okHostQueue q) t s (fun s => s.cmdEmit q)

/-- CMD_TILE (Table 13.6, R292). -/
def execCmdTile (q : Nat) (data : Option (List Byte)) (t : Nat) (s : State) : Host.Outcome State Fault Refusal :=
  stepSettle "CMD_TILE" (okHostQueue q) t s (fun s => s.cmdTile q data)

/-- CMD_CHAN_INV (R340). -/
def execCmdChanInv (q t : Nat) (s : State) : Host.Outcome State Fault Refusal :=
  stepSettle "CMD_CHAN_INV" (okHostQueue q) t s (fun s => s.cmdChanInv q)

/-- CMD_ABORT (R348). -/
def execCmdAbort (q t : Nat) (s : State) : Host.Outcome State Fault Refusal :=
  stepSettle "CMD_ABORT" (okHostQueue q) t s (fun s => s.cmdAbort q)

/-- HIF_SQ_WORD_B_WRITE (R342, R351). -/
def execHifSqWordBWrite (q : Nat) (v : Word) (t : Nat) (s : State) : Host.Outcome State Fault Refusal :=
  hostSettle "HIF_SQ_WORD_B_WRITE" (okHostQueue q) .sw (wr (A.HIF_SQ_B q)) t s (fun s => s.sqWordB q v.toNat)

/-- HIF_CQ_WORD_B_WRITE (R342, R351). -/
def execHifCqWordBWrite (q : Nat) (v : Word) (t : Nat) (s : State) : Host.Outcome State Fault Refusal :=
  hostSettle "HIF_CQ_WORD_B_WRITE" (okHostQueue q) .sw (wr (A.HIF_CQ_B q)) t s (fun s => s.cqWordB q v.toNat)

/-- HIF_CHAN_INV_WRITE (R340): HIF_CHAN_INV at a switch, EP_CHAN_INV at an end-point. -/
def execHifChanInvWrite (d : Part) (v : Word) (t : Nat) (s : State) : Host.Outcome State Fault Refusal :=
  hostSettle "HIF_CHAN_INV_WRITE" true d (wr (match d with | .sw => A.HIF_CHAN_INV | .ep => A.EP_CHAN_INV)) t s (fun s => s.chanInvWrite d v.toNat)

/-- CHAN_INV_COMPLETE (R340). -/
def execChanInvComplete (d : Part) (t : Nat) (s : State) : Host.Outcome State Fault Refusal :=
  stepSettle "CHAN_INV_COMPLETE" true t s (fun s => s.chanInvDone d)

/-- What waited for channel entries goes on: emission output at a switch, engine requests at an end-point. -/
def State.chanNext (s : State) (d : Part) : State :=
  match d with
  | .sw => s.flushEmit
  | .ep => (s.enginesOf (s.ep.flights.map (fun f => f.idx))).foldl (fun a n => a.pump n) s

/-- CHANNEL_FETCH (R339): `host` is the entry that host memory gives where the table lies there. -/
def execChannelFetch (d : Part) (chan : Nat) (ecc : Ecc) (host : BitVec 1024) (t : Nat) (s : State) :
    Host.Outcome State Fault Refusal :=
  stepSettle "CHANNEL_FETCH" true t s (fun s => (s.chanFetched d chan ecc host).chanNext d)

/-- VF_FLR (R349). -/
def execVfFlr (v t : Nat) (s : State) : Host.Outcome State Fault Refusal :=
  stepSettle "VF_FLR" (okFunction v && decide (1 ≤ v)) t s (fun s => s.vfFlr v)

end Sys2Proof.Machine
end

