-- ==== Sys2Proof/Machine/Forward.lean ====
section
/-! DEFINITION. What becomes of a packet that has arrived whole (spec/04, spec/05): the Strainer, consumption with the
order of R102, the route (R97 to R100), colour and early drop, and the egress queue. -/

namespace Sys2Proof.Machine

/-! ### Routes (R97 to R100) -/

/-- The links of a node's route entry. -/
def Dev.routeLinks (v : Dev) (n : Nat) : List Nat :=
  let set := v.get (F.PKT_ROUTE_LINKS n)
  (List.range (linkPorts v.part)).filter (fun p => bitOf set p)

/-- Table 4.5: a link can be used, can be waited for, or neither. -/
inductive LinkUse where
  | ready
  | waits
  | off
deriving DecidableEq, Repr

def State.linkUse (s : State) (d : Part) (p : Nat) : LinkUse :=
  let st := s.lnk d p
  if st = Lnk.ACTIVE then (if s.held d p then .off else .ready)
  else if st = Lnk.DEEP ∨ st = Lnk.DEEP_ENTRY ∨ st = Lnk.WAKING then .waits
  else if (st = Lnk.TRAINING ∨ st = Lnk.IDLE) ∧ s.recovering d p then .waits
  else .off

/-- The hash of R100. -/
def pinHash (src dst chan seed : Nat) : Nat := (src * 40503 + dst * 32587 + chan * 15471 + seed) % 65536

/-- The member of a route entry to which R100 pins a packet. -/
def pinned (ms : List Nat) (h : Nat) : Option Nat := ms[h * ms.length / 65536]?

/-- The field that holds a port's spray weight, less one. -/
def sprayField (p : Nat) : Fld := if p < 16 then F.PKT_SPRAY_WT0_W p else F.PKT_SPRAY_WT1_W (p - 16)

def Dev.sprayWeight (v : Dev) (p : Nat) : Nat := v.get (sprayField p) + 1

/-- The index of a route entry's member. -/
def memberKey (n p : Nat) : Nat := 32 * n + p

/-- Of some members, the one with the largest credit; ties go to the lowest port. -/
def richest (credit : Nat → Int) : List Nat → Option Nat
  | [] => none
  | p :: ps => match richest credit ps with
    | none => some p
    | some q => if credit q ≤ credit p then some p else some q

/-- R99: the member that a packet is sprayed to, and the credits after it. -/
def Dev.spray (v : Dev) (n : Nat) (elig : List Nat) : Option (Nat × Dev) :=
  let add (m : SMap Int) (p : Nat) (x : Int) : SMap Int := SMap.put 0 m (memberKey n p) (SMap.at 0 m (memberKey n p) + x)
  let c1 := elig.foldl (fun m p => add m p (v.sprayWeight p)) v.sprayCredit
  match richest (fun p => SMap.at 0 c1 (memberKey n p)) elig with
  | none => none
  | some p => some (p, { v with sprayCredit := add c1 p (-((elig.map v.sprayWeight).sum : Nat)) })

/-- SPRAY_WEIGHT_UPDATE (R99). -/
def Dev.sprayWeights (v : Dev) (d : Part) : Dev :=
  (List.range (linkPorts d)).foldl (fun v p =>
    let q := ((List.range 8).map (fun c => queueCells (v.queue p c))).sum
    v.set (sprayField p) (15 - min 15 (q / 66))) v

/-- Where a packet goes. -/
inductive Path where
  | spray (p : Nat)
  | pin (p : Nat) (waits : Bool)
  | drop (cause : Nat)
deriving DecidableEq, Repr

/-- R98, and the device after spraying. -/
def State.path (s : State) (d : Part) (h : PktHdr) : Path × Dev :=
  let v := s.dev d
  let n := h.dst.toNat
  let ms := v.routeLinks n
  let pin (p : Nat) : Path := match s.linkUse d p with | .ready => .pin p false | .waits => .pin p true | .off => .drop 10
  if h.ordered = 1 ∨ v.get (F.PKT_ROUTE_SPRAY n) = 0 then
    match pinned ms (pinHash h.src.toNat n h.channel.toNat (v.get F.PKT_HASH_SEED_SEED)) with
    | some p => (pin p, v)
    | none => (.drop 10, v)
  else
    match v.spray n (ms.filter (fun p => s.linkUse d p == .ready)) with
    | some (p, v1) => (.spray p, v1)
    | none => match ms.find? (fun p => s.linkUse d p == .waits) with
      | some p => (.pin p true, v)
      | none => (.drop 10, v)

/-! ### The egress queue (R110, R114, R116) -/

/-- A packet's cells go back to its ingress pair. -/
def State.freeArrived (s : State) (d : Part) (p : Nat) (a : Arrived) : State :=
  s.modDev d (fun v => v.freeCells s.now p a.pkt.hdr.cls a.resv a.shared)

/-- The packet's colour: a switch meters a best-effort packet once its Strainer has passed it, or as it enters by port 32,
whatever becomes of it then (R114). A packet of a promised class has none. -/
def State.coloured (s : State) (d : Part) (p tenant : Nat) (h : PktHdr) : Option Nat × State :=
  if d = .sw ∧ (s.dev d).mode p h.cls = 2 then
    let r := (s.dev d).colour s.now tenant h
    (some r.1, s.setDev d r.2)
  else (none, s)

/-- The colour by which early drop judges a packet. Which thresholds apply to one that came in by a promised class, and has no
colour, is not specified (free, log 1). -/
def State.colourOr (s : State) (col : Option Nat) : Nat × State :=
  match col with
  | some c => (c, s)
  | none => (Config.choice s.fresh % 3, s.draw)

/-- The event bit of an early drop (Table 5.12). -/
def edropBit (colour : Nat) : Fld :=
  match colour with
  | 0 => F.SWC_EVENT_STATUS_EDROP_GREEN
  | 1 => F.SWC_EVENT_STATUS_EDROP_YELLOW
  | _ => F.SWC_EVENT_STATUS_EDROP_RED

/-- A routed packet joins the queue of egress port `m`, or is dropped there. -/
def State.toQueue (s : State) (d : Part) (p m : Nat) (a : Arrived) (col : Option Nat) : State :=
  let h := a.pkt.hdr
  let c := h.cls
  let mode := (s.dev d).mode m c
  let free (x : State) : State := x.freeArrived d p a
  let join (x : State) : State := x.modDev d (fun v =>
    v.enqueue s.now m c ⟨a.pkt, p, a.resv, a.shared, a.at_, v.on (F.SWC_HOP_BOUND_B_VALID m c)⟩)
  if mode ≠ 1 ∧ mode ≠ 2 then free (s.classOff d)
  else if mode = 1 ∨ d = .ep then join s
  else
    let r := s.colourOr col
    let f := (r.2.dev d).fate m c r.1 h
    let s1 := r.2.setDev d f.2
    match f.1 with
    | .enqueue => join s1
    | .cap => free (s1.coreDrop d F.SWC_EVENT_STATUS_QUEUE_CAP 3)
    | .early => free (s1.coreDrop d (edropBit r.1) (4 + r.1))

/-- The end-point stamps its own requests with the LIVE_EPOCH of the ACTIVE entry on the port they leave by; a reissue
keeps the epoch of the first packet that left (R401). -/
def State.stamp (s : State) (d : Part) (p m : Nat) (a : Arrived) : State × Arrived :=
  let h := a.pkt.hdr
  if d ≠ .ep ∨ p ≠ ownPort ∨ ! isRequest h.op then (s, a)
  else
    match (s.dev .ep).txns.find? (fun t => t.id == h.txn) with
    | none => (s, a)
    | some t =>
      if t.stamped then (s, { a with pkt := ⟨{ h with keyEpoch := t.pkt.hdr.keyEpoch }, a.pkt.pay⟩ }) else
      let v := s.dev .ep
      let e := match (List.range 256).find? (fun e => v.get (F.PKT_STRAINER_STATE m e) == 1 && v.get (F.PKT_STRAINER_KEY m e) == h.pkey.toNat) with
        | some e => BitVec.ofNat 8 (v.get (F.PKT_STRAINER_LIVE_EPOCH m e))
        | none => h.keyEpoch
      let pkt : Packet := ⟨{ h with keyEpoch := e }, a.pkt.pay⟩
      (s.modDev .ep (fun v => { v with txns := v.txns.map (fun (x : Txn) =>
        if x.id = t.id then { x with pkt := ⟨{ x.pkt.hdr with keyEpoch := e }, x.pkt.pay⟩, stamped := true } else x) }),
       { a with pkt := pkt })

/-- A packet for another node (R98). -/
def State.route (s : State) (d : Part) (p : Nat) (a : Arrived) (col : Option Nat) : State :=
  let h := a.pkt.hdr
  let dropAs (c : Nat) : State := (s.drop d p h c).freeArrived d p a
  if d = .ep ∧ p ≠ ownPort then dropAs 9
  else if d = .sw ∧ 3 ≤ h.hops.toNat then dropAs 8
  else if d = .sw ∧ (s.dev d).draining h.dst.toNat then dropAs 11
  else
    let go (s : State) (m : Nat) : State :=
      let r := s.stamp d p m a
      let b := if d = .sw then { r.2 with pkt := ⟨{ r.2.pkt.hdr with hops := r.2.pkt.hdr.hops + 1 }, r.2.pkt.pay⟩ } else r.2
      r.1.toQueue d p m b col
    match s.path d h with
    | (.drop c, _) => dropAs c
    | (.spray m, v) => go ((s.setDev d v).count d (0x810 + m) 1) m
    | (.pin m waits, v) =>
      let s1 := (s.setDev d v).count d (0x830 + m) 1
      go (if waits then s1.demandWake d m else s1) m

/-! ### Consumption (R94, R102, R384) -/

/-- A packet for this device's own node waits for its target's or source's step. -/
def State.toInbox (s : State) (d : Part) (i : Inbox) : State := s.modDev d (fun v => { v with inbox := v.inbox ++ [i] })

def State.setFlow (s : State) (f : RxFlow) : State :=
  s.modEp (fun e => { e with rflows := e.rflows.filter (fun g => ! (g.src == f.src && g.chan == f.chan)) ++ [f] })

/-- Held packets of a flow that have become next in sequence are applied; a copy of one already applied follows as a
duplicate. -/
def State.drainFlow : Nat → State → RxFlow → State
  | 0, s, f => s.setFlow f
  | n + 1, s, f =>
    match f.held.find? (fun i => let k := (i.pkt.hdr.ordSeq.toNat + 65536 - f.e) % 65536; k == 0 || decide (32768 ≤ k)) with
    | none => s.setFlow f
    | some i =>
      let next := i.pkt.hdr.ordSeq.toNat = f.e
      State.drainFlow n (s.toInbox .ep (if next then i else { i with note := .dup }))
        { f with held := f.held.erase i, e := if next then (f.e + 1) % 65536 else f.e }

/-- Blocks of the reorder buffer (R384). -/
def flowBlocks (f : RxFlow) : Nat := (f.held.map (fun i => cellsOf i.pkt.hdr)).sum

def reorderBlocks : Nat := 131072

/-- An ordered request at the end-point (R102, R384). -/
def State.takeOrdered (s : State) (i : Inbox) : State :=
  let h := i.pkt.hdr
  let free (x : State) : State := x.modDev .ep (fun v => v.freeCells s.now i.port h.cls i.resv i.shared)
  let known := s.ep.rflows.find? (fun f => f.src == h.src.toNat && f.chan == h.channel.toNat)
  if known.isNone ∧ 65536 ≤ s.ep.rflows.length then
    free ((s.count .ep 0xD64 1).epEvent F.EP_EVENT_STATUS_ORD_FLOWS_FULL)
  else
    let f := known.getD ⟨h.src.toNat, h.channel.toNat, 0, []⟩
    let k := (h.ordSeq.toNat + 65536 - f.e) % 65536
    if k = 0 then State.drainFlow f.held.length (s.toInbox .ep i) { f with e := (f.e + 1) % 65536 }
    else if k < 32768 then
      let n := cellsOf h
      if s.get .ep F.EP_ROB_CFG_FLOW_CAP < flowBlocks f + n ∨ reorderBlocks < (s.ep.rflows.map flowBlocks).sum + n then
        free (((s.setFlow f).drop .ep i.port h 0).count .ep 0xD64 1)
      else
        free ((s.setFlow { f with held := f.held ++ [{ i with resv := 0, shared := 0 }] }).count .ep 0xD63 1)
    else (s.setFlow f).toInbox .ep { i with note := .dup }

/-- A packet for this device's own node (R94). -/
def State.consume (s : State) (d : Part) (p : Nat) (a : Arrived) (tenant : Nat) : State :=
  let i : Inbox := ⟨a.pkt, p, tenant, a.resv, a.shared, a.at_, .plain⟩
  if d = .ep ∧ a.pkt.hdr.ordered = 1 ∧ isRequest a.pkt.hdr.op then s.takeOrdered i else s.toInbox d i

/-! ### PACKET_FORWARD -/

/-- The unit in which a packet's word lies: a cell of its buffer, or an internal bus that carries it (R13). -/
def fwdUnit (d : Part) (ue : Nat) : Nat := if ue = 2 ∨ ue = 4 then 9 else match d with | .sw => 1 | .ep => 11

/-- The oldest packet that has arrived at a port goes on (R95, R98). `ue` says what its words met (R13): 1 and 2 an
uncorrectable error in a cell or on a bus, which drops it (Table 16.2), 3 and 4 one that is corrected there. -/
def State.forward (s : State) (d : Part) (p ue : Nat) : State :=
  match (s.port d p).arrived with
  | [] => s
  | a :: rest =>
    let s0 := s.modPort d p (fun q => { q with arrived := rest })
    let s1 := if ue = 3 ∨ ue = 4 then s0.ce d (fwdUnit d ue) 1 else s0
    let go (tenant : Nat) : State :=
      let r := s1.coloured d p tenant a.pkt.hdr
      if a.pkt.hdr.dst.toNat = (s.dev d).node then r.2.consume d p a tenant else r.2.route d p a r.1
    if ue = 1 ∨ ue = 2 then
      -- where the word lies is not specified (free, log 1)
      ((s1.ue d (fwdUnit d ue) (Config.choice s.fresh)).draw).freeArrived d p a
    else if p = ownPort then go a.tenant
    else match (s.dev d).strain p a.pkt with
      | .drop c => (s1.drop d p a.pkt.hdr c).freeArrived d p a
      | .pass tenant => go tenant

/-- Responses that waited for room at port 32 go in as far as there is room (R109). -/
def State.refill (s : State) (d : Part) : State := s.modDev d (fun v => drainOutbox s.now v.outbox v)

/-! ### PKT_NODE_ID (R93) -/

/-- The node id is written only while the live ENABLE of every port is 0. -/
def State.writeNode (s : State) (d : Part) (x : Nat) : State :=
  if (List.range (linkPorts d)).any (fun p => s.get d (F.LNK_CTRL_ENABLE p) == 1) then s else s.set d F.PKT_NODE_ID_NODE_ID x

end Sys2Proof.Machine
end

