-- ==== Sys2Proof/Machine/LinkSteps.lean ====
section
/-! DEFINITION. The steps of links (spec/03), of packets and routes (spec/04), and of the switch core (spec/05). -/

namespace Sys2Proof.Machine

/-- A step of link port `p`. -/
def portStep (name : String) (d : Part) (p t : Nat) (s : State) (f : State → State) : Host.Outcome State Fault Refusal :=
  stepSettle name (okPort d p) t s f

/-! ### Links -/

/-- TX_DATA_FRAME (R58, R112, R113): up to `n` packets in one frame. -/
def execTxDataFrame (d : Part) (p : Nat) (n : Nat) (t : Nat) (s : State) : Host.Outcome State Fault Refusal :=
  portStep "TX_DATA_FRAME" d p t s (fun s => (s.txData d p n).refill d)

/-- TX_IDLE_FRAME (R55). -/
def execTxIdleFrame (d : Part) (p : Nat) (t : Nat) (s : State) : Host.Outcome State Fault Refusal :=
  portStep "TX_IDLE_FRAME" d p t s (fun s => s.sendIdle d p)

/-- DATA_FRAME_RECEIVE (R42 to R60): the symbols of one frame on each logical lane. -/
def execDataFrameReceive (d : Part) (p : Nat) (lanes : List (List Sym)) (t : Nat) (s : State) : Host.Outcome State Fault Refusal :=
  stepSettle "DATA_FRAME_RECEIVE" (okPort d p && okLanes lanes) t s (fun s => s.rxLanes d p lanes)

/-- MARKER (R47 to R50). -/
def execMarker (d : Part) (p : Nat) (lanes : List (List Sym)) (t : Nat) (s : State) : Host.Outcome State Fault Refusal :=
  stepSettle "MARKER" (okPort d p && okLanes lanes) t s (fun s => s.takeMarker d p lanes)

/-- PARTNER_ELECTRICAL_IDLE (R74). -/
def execPartnerElectricalIdle (d : Part) (p : Nat) (t : Nat) (s : State) : Host.Outcome State Fault Refusal :=
  portStep "PARTNER_ELECTRICAL_IDLE" d p t s (fun s => s.startRecovery d p)

/-- RECOVERY_END (R74, R75): `failed` are the lanes in which LANE_TEST saw an error. -/
def execRecoveryEnd (d : Part) (p : Nat) (ok : Bool) (failed : List Nat) (t : Nat) (s : State) : Host.Outcome State Fault Refusal :=
  portStep "RECOVERY_END" d p t s (fun s => s.recoveryEnd d p ok failed)

/-- CONTROL_ACK (R58). -/
def execControlAck (d : Part) (p : Nat) (ack : BitVec 16) (t : Nat) (s : State) : Host.Outcome State Fault Refusal :=
  portStep "CONTROL_ACK" d p t s (fun s => if s.lnk d p = Lnk.ACTIVE then (s.heard d p).takeAck d p ack else s)

/-- ACKNOWLEDGEMENT_DEADLINE (R59). -/
def execAcknowledgementDeadline (d : Part) (p : Nat) (t : Nat) (s : State) : Host.Outcome State Fault Refusal :=
  portStep "ACKNOWLEDGEMENT_DEADLINE" d p t s (fun s => s.ackLate d p)

/-- CONTROL_NACK (R61, R62). -/
def execControlNack (d : Part) (p : Nat) (ack : BitVec 16) (t : Nat) (s : State) : Host.Outcome State Fault Refusal :=
  portStep "CONTROL_NACK" d p t s (fun s => (s.heard d p).takeNack d p ack)

/-- CONTROL_CREDIT (R63). -/
def execControlCredit (d : Part) (p : Nat) (body : BitVec 256) (t : Nat) (s : State) : Host.Outcome State Fault Refusal :=
  portStep "CONTROL_CREDIT" d p t s (fun s => (s.heard d p).takeCredit d p body)

/-- CONTROL_TS (R76 to R82). -/
def execControlTs (d : Part) (p : Nat) (ts : TsBody) (t : Nat) (s : State) : Host.Outcome State Fault Refusal :=
  portStep "CONTROL_TS" d p t s (fun s => (s.heard d p).takeTs d p ts)

/-- CONTROL_NAP_REQ (R68). -/
def execControlNapReq (d : Part) (p : Nat) (t : Nat) (s : State) : Host.Outcome State Fault Refusal :=
  portStep "CONTROL_NAP_REQ" d p t s (fun s => (s.heard d p).takeNapReq d p)

/-- CONTROL_NAP_ACK (R68). -/
def execControlNapAck (d : Part) (p : Nat) (t : Nat) (s : State) : Host.Outcome State Fault Refusal :=
  portStep "CONTROL_NAP_ACK" d p t s (fun s => (s.heard d p).takeNapAck d p)

/-- CONTROL_NAP_NAK (R68). -/
def execControlNapNak (d : Part) (p : Nat) (t : Nat) (s : State) : Host.Outcome State Fault Refusal :=
  portStep "CONTROL_NAP_NAK" d p t s (fun s => (s.heard d p).takeNapNak d p)

/-- CONTROL_DOWN (R83, R84). -/
def execControlDown (d : Part) (p : Nat) (t : Nat) (s : State) : Host.Outcome State Fault Refusal :=
  portStep "CONTROL_DOWN" d p t s (fun s => (s.heard d p).takeDown d p)

/-- NACK_REPEAT_TIMEOUT (R60). -/
def execNackRepeatTimeout (d : Part) (p : Nat) (t : Nat) (s : State) : Host.Outcome State Fault Refusal :=
  portStep "NACK_REPEAT_TIMEOUT" d p t s (fun s => s.nackAgain d p)

/-- REPLAY_PROGRESS_TIMEOUT (R61, R62). -/
def execReplayProgressTimeout (d : Part) (p : Nat) (t : Nat) (s : State) : Host.Outcome State Fault Refusal :=
  portStep "REPLAY_PROGRESS_TIMEOUT" d p t s (fun s => s.noProgress d p)

/-- CREDIT_FRAME_TIMER (R64). -/
def execCreditFrameTimer (d : Part) (p : Nat) (t : Nat) (s : State) : Host.Outcome State Fault Refusal :=
  portStep "CREDIT_FRAME_TIMER" d p t s (fun s => s.creditTimer d p)

/-- CREDIT_RETURN_DEADLINE (R112). -/
def execCreditReturnDeadline (d : Part) (p : Nat) (t : Nat) (s : State) : Host.Outcome State Fault Refusal :=
  portStep "CREDIT_RETURN_DEADLINE" d p t s (fun s => s.creditLate d p)

/-- POUR_CREDIT_UPDATE (R65). -/
def execPourCreditUpdate (d : Part) (p : Nat) (t : Nat) (s : State) : Host.Outcome State Fault Refusal :=
  portStep "POUR_CREDIT_UPDATE" d p t s (fun s => s.pourCredit d p)

/-- CREDIT_GRACE_END (R509): of class `c`. -/
def execCreditGraceEnd (d : Part) (p c t : Nat) (s : State) : Host.Outcome State Fault Refusal :=
  stepSettle "CREDIT_GRACE_END" (okPort d p && decide (c < 8)) t s (fun s => s.graceEnd d p c)

/-- TRAINING_PHASE_DONE (R71, R76): one coefficient for each of the 17 data lanes. -/
def execTrainingPhaseDone (d : Part) (p : Nat) (failed coeffs : List Nat) (t : Nat) (s : State) : Host.Outcome State Fault Refusal :=
  stepSettle "TRAINING_PHASE_DONE" (okPort d p && coeffs.length == 17) t s (fun s => s.phaseDone d p failed coeffs)

/-- TRAINING_PHASE_TIMEOUT (R69, R71): `gone` says that the partner, once detected, has gone. -/
def execTrainingPhaseTimeout (d : Part) (p : Nat) (gone : Bool) (t : Nat) (s : State) : Host.Outcome State Fault Refusal :=
  portStep "TRAINING_PHASE_TIMEOUT" d p t s (fun s => s.phaseLate d p gone)

/-- TRAINING_RETRY_TIMER (R71, R75). -/
def execTrainingRetryTimer (d : Part) (p : Nat) (t : Nat) (s : State) : Host.Outcome State Fault Refusal :=
  portStep "TRAINING_RETRY_TIMER" d p t s (fun s => s.retryTraining d p)

/-- LINK_NAP (R68, R86): NAP in LNK_CMD. -/
def execLinkNap (d : Part) (p : Nat) (t : Nat) (s : State) : Host.Outcome State Fault Refusal :=
  portStep "LINK_NAP" d p t s (fun s => if s.barOn d then s.startNap d p else s)

/-- LINK_WAKE (R69, R86): WAKE in LNK_CMD. -/
def execLinkWake (d : Part) (p : Nat) (t : Nat) (s : State) : Host.Outcome State Fault Refusal :=
  portStep "LINK_WAKE" d p t s (fun s => if s.barOn d then s.wakeLink d p else s)

/-- NAP_REPLY_TIMEOUT (R68). -/
def execNapReplyTimeout (d : Part) (p : Nat) (t : Nat) (s : State) : Host.Outcome State Fault Refusal :=
  portStep "NAP_REPLY_TIMEOUT" d p t s (fun s => s.napLate d p)

/-- DEEP_ENTRY_DONE (R68, R69). -/
def execDeepEntryDone (d : Part) (p : Nat) (t : Nat) (s : State) : Host.Outcome State Fault Refusal :=
  portStep "DEEP_ENTRY_DONE" d p t s (fun s => s.deepDone d p)

/-- BEACON_DETECT (R69). -/
def execBeaconDetect (d : Part) (p : Nat) (t : Nat) (s : State) : Host.Outcome State Fault Refusal :=
  portStep "BEACON_DETECT" d p t s (fun s => s.takeBeacon d p)

/-- CLOCK_LANE_LOSS (R415). -/
def execClockLaneLoss (d : Part) (p : Nat) (t : Nat) (s : State) : Host.Outcome State Fault Refusal :=
  portStep "CLOCK_LANE_LOSS" d p t s (fun s => s.clockLost d p)

/-- WAKE (R268): the ports of sa[31:0]. -/
def State.coreWake (s : State) (n w : Nat) : State :=
  s.needPriv n Priv.LINK (fun s =>
    let set := ((s.core n).sreg (wSa w)).toNat
    (((List.range 32).filter (fun p => bitOf set p)).foldl (fun a p => a.wakeLink .sw p) s).retireI n)

/-- NAP (R268): the core waits until the port has entered DEEP or the NAP has been refused, which may be at once. -/
def State.coreNap (s : State) (n w : Nat) : State :=
  s.needPriv n Priv.LINK (fun s =>
    let p := ((s.core n).sreg (wSa w)).toNat % 32
    if s.takesNap .sw p then (s.stallOn n (.nap p (wSd w)) 0).startNap .sw p
    else (s.napNo .sw p).retireS n (wSd w) 1)

/-- WAKE (R268). -/
def execWake (n t : Nat) (s : State) : Host.Outcome State Fault Refusal :=
  fabStep "WAKE" n t s (opIs 0xA0) (fun w s => s.coreWake n w)

/-- NAP (R268). -/
def execNap (n t : Nat) (s : State) : Host.Outcome State Fault Refusal :=
  fabStep "NAP" n t s (opIs 0xA1) (fun w s => s.coreNap n w)

/-! ### Packets, routes and the switch core -/

/-- PACKET_FORWARD (R94 to R100, R110 to R116): at port `p`, or at index 32 for the device's own packets. -/
def execPacketForward (d : Part) (p ue t : Nat) (s : State) : Host.Outcome State Fault Refusal :=
  stepSettle "PACKET_FORWARD" (okInPort d p && decide (ue ≤ 4)) t s (fun s => (s.forward d p ue).refill d)

/-- SPRAY_WEIGHT_UPDATE (R99): 8 µs after the last. -/
def execSprayWeightUpdate (d : Part) (t : Nat) (s : State) : Host.Outcome State Fault Refusal :=
  stepIf "SPRAY_WEIGHT_UPDATE" true t s (fun s =>
    if s.now < (s.dev d).sprayAt + 8000 then s else s.modDev d (fun v => { v.sprayWeights d with sprayAt := s.now }))

/-- EDROP_AVERAGE_UPDATE (R115): 256 ns after the last. -/
def execEdropAverageUpdate (t : Nat) (s : State) : Host.Outcome State Fault Refusal :=
  stepIf "EDROP_AVERAGE_UPDATE" true t s (fun s =>
    if s.now < (s.dev .sw).avgAt + 256 then s else s.modDev .sw (fun v => { v.averages with avgAt := s.now }))

/-- PKT_NODE_ID_WRITE (R93). -/
def execPktNodeIdWrite (d : Part) (v : Word) (t : Nat) (s : State) : Host.Outcome State Fault Refusal :=
  hostIf "PKT_NODE_ID_WRITE" true d (wr A.PKT_NODE_ID) t s (fun s => s.writeNode d (v.toNat % 4096))

/-- PKT_DRAIN_WRITE (R104). -/
def execPktDrainWrite (d : Part) (k : Nat) (v : Word) (t : Nat) (s : State) : Host.Outcome State Fault Refusal :=
  hostSettle "PKT_DRAIN_WRITE" (decide (k < 64)) d (wr (A.PKT_DRAIN k)) t s (fun s => s.drainWrite d k v.toNat)

end Sys2Proof.Machine
end

