-- ==== Sys2Proof/Machine/MemSteps.lean ====
section
/-! DEFINITION. The steps of remote operations (spec/06) and of address translation (spec/12). `d` is the part; `ue` says
that the step meets an uncorrectable error, and where (Table 16.2). -/

namespace Sys2Proof.Machine

/-! ### At the source -/

/-- The outstanding transaction of a TXN_ID. -/
def State.withTxn (s : State) (d : Part) (txn : BitVec 32) (go : Txn → State) : State :=
  match (s.dev d).txns.find? (fun x => x.id == txn) with
  | some x => go x
  | none => s

/-- A waiting request that can be issued is issued, promised ones at their admission. -/
def State.issueReady (s : State) (d : Part) (promised : Bool) : State :=
  match (s.dev d).firstReady s.now promised with
  | some p => s.sendNow d p
  | none => s

/-- TRANSACTION_ISSUE (R131, R132): the first waiting request that is not promised and can be sent. -/
def execTransactionIssue (d : Part) (t : Nat) (s : State) : Host.Outcome State Fault Refusal :=
  stepSettle "TRANSACTION_ISSUE" true t s (fun s => s.issueReady d false)

/-- PACKET_ADMIT (R117, R376): the first waiting promised request whose bucket holds its charge. -/
def execPacketAdmit (d : Part) (t : Nat) (s : State) : Host.Outcome State Fault Refusal :=
  stepSettle "PACKET_ADMIT" true t s (fun s => s.issueReady d true)

/-- RBOUND_EXPIRY (R128, R379): no response RBOUND after acceptance, once a transaction. -/
def execRboundExpiry (d : Part) (txn : BitVec 32) (t : Nat) (s : State) : Host.Outcome State Fault Refusal :=
  stepSettle "RBOUND_EXPIRY" true t s (fun s => s.withTxn d txn (fun x =>
    if x.promised && ! x.late && decide (x.acceptAt + x.rbound ≤ s.now) then s.timingFault d x else s))

/-- A reissue timer expires (R144, R375): the packet goes out again; with its target draining the transaction is parked;
an uncorrectable error in its flight-table entry completes it RESULT_UNKNOWN (Table 16.2), and one that is corrected is
counted (R13). Where the entry lies is not specified: TEL_UE_LAST takes TXN_ID modulo 65,536 (DESIGN CHOICE, log 52). A
reissue that still waits for room at port 32 has not been issued, and its timer does not run. -/
def State.reissue (s : State) (d : Part) (x : Txn) (ecc : Ecc) : State :=
  let unit := match d with | .sw => 4 | .ep => 11
  if x.parked || decide (s.now < x.issueAt + x.timeout) || (s.dev d).outbox.any (fun p => isRequest p.1.hdr.op && p.1.hdr.txn == x.id) then s
  else if ecc = .bad then (s.ue d unit (x.id.toNat % 65536)).retire d x Code.RESULT_UNKNOWN []
  else
    let s := if ecc = .fixed then s.ce d unit 1 else s
    if (s.dev d).draining x.pkt.hdr.dst.toNat then
      s.modDev d (fun v => { v with txns := v.txns.map (fun (y : Txn) => if y.id = x.id then { y with parked := true } else y) })
    else s.resend d x

/-- REISSUE_TIMEOUT (R144). -/
def execReissueTimeout (d : Part) (txn : BitVec 32) (ecc : Ecc) (t : Nat) (s : State) : Host.Outcome State Fault Refusal :=
  stepSettle "REISSUE_TIMEOUT" true t s (fun s => s.withTxn d txn (fun x => s.reissue d x ecc))

/-- DEAD_TARGET_EXPIRY (R145): DEAD_US µs after acceptance. -/
def execDeadTargetExpiry (d : Part) (txn : BitVec 32) (t : Nat) (s : State) : Host.Outcome State Fault Refusal :=
  stepSettle "DEAD_TARGET_EXPIRY" true t s (fun s => s.withTxn d txn (fun x =>
    if x.acceptAt + s.get d F.MEM_SEM_CTRL_DEAD_US * 1000 ≤ s.now then s.retire d x Code.DEAD_TARGET [] else s))

/-- READ_DATA (R143, R149). -/
def execReadData (d : Part) (t : Nat) (s : State) : Host.Outcome State Fault Refusal :=
  stepSettle "READ_DATA" true t s (fun s => s.response d Op.READ_DATA)

/-- ACK (R143). -/
def execAck (d : Part) (t : Nat) (s : State) : Host.Outcome State Fault Refusal :=
  stepSettle "ACK" true t s (fun s => s.response d Op.ACK)

/-- AMO_RESULT (R143). -/
def execAmoResult (d : Part) (t : Nat) (s : State) : Host.Outcome State Fault Refusal :=
  stepSettle "AMO_RESULT" true t s (fun s => s.response d Op.AMO_RESULT)

/-- ERROR (R143, R146). -/
def execError (d : Part) (t : Nat) (s : State) : Host.Outcome State Fault Refusal :=
  stepSettle "ERROR" true t s (fun s => s.response d Op.ERROR)

/-- A held release whose fence has completed goes (R153). -/
def State.releaseReady (s : State) (d : Part) : State :=
  let v := s.dev d
  match v.releases.findSome? (fun r =>
      (v.fences.find? (fun f => f.id == r.fence && f.waits.isEmpty)).map (fun f => (r, f))) with
  | some (r, f) => s.releaseNow d r f
  | none => s

/-- RELEASE_ISSUE (R153). -/
def execReleaseIssue (d : Part) (t : Nat) (s : State) : Host.Outcome State Fault Refusal :=
  stepSettle "RELEASE_ISSUE" true t s (fun s => s.releaseReady d)

/-! ### At the target -/

/-- TARGET_READ (R135, R138). -/
def execTargetRead (d : Part) (ue t : Nat) (s : State) : Host.Outcome State Fault Refusal :=
  stepSettle "TARGET_READ" (ue == 0 || ue == 1 || ue == 3) t s (fun s => s.target d Op.READ ue)

/-- TARGET_WRITE (R135, R140, R148). -/
def execTargetWrite (d : Part) (ue t : Nat) (s : State) : Host.Outcome State Fault Refusal :=
  stepSettle "TARGET_WRITE" (decide (ue ≤ 4)) t s (fun s => s.target d Op.WRITE ue)

/-- TARGET_AMO (R136, R140). -/
def execTargetAmo (d : Part) (ue t : Nat) (s : State) : Host.Outcome State Fault Refusal :=
  stepSettle "TARGET_AMO" (decide (ue ≤ 4)) t s (fun s => s.target d Op.AMO ue)

/-- TARGET_REDUCE (R170 to R182); `x` names the part, and what the deduplication slot met. -/
def execTargetReduce (x : PartEcc) (t : Nat) (s : State) : Host.Outcome State Fault Refusal :=
  stepSettle "TARGET_REDUCE" true t s (fun s => s.targetReduce x.part x.ecc)

/-- A MSG at its target (R235, Table 6.3): its payload joins the service queue that OP_ARG names, or it is answered QUOTA;
an end-point has no service queue and answers UNSUPPORTED. -/
def State.targetMsg (s : State) (d : Part) (ecc : Ecc) : State :=
  match (s.dev d).firstOf Op.MSG with
  | none => s
  | some i =>
    match (s.modDev d (fun v => v.takeInbox i)).admitReq d i ecc with
    | .answered s1 => s1
    | .unsure s1 =>
      s1.finish d { i with note := .unsure } (errorFor i.pkt.hdr
        (if (s1.enqueue i.pkt.hdr.opArg.toNat i.tenant i.pkt.pay).isNone then Code.QUOTA else Code.RESULT_UNKNOWN))
    | .go s1 =>
      match s1.enqueue i.pkt.hdr.opArg.toNat i.tenant i.pkt.pay with
      | some s2 => s2.finish d i (responseTo i.pkt.hdr Op.ACK 0 [])
      | none => s1.finish d i (errorFor i.pkt.hdr Code.QUOTA)

/-- TARGET_MSG (R235). -/
def execTargetMsg (d : Part) (ue t : Nat) (s : State) : Host.Outcome State Fault Refusal :=
  stepSettle "TARGET_MSG" (ue == 0 || ue == 2 || ue == 4) t s (fun s => s.targetMsg d (slotEcc ue))

/-- SLOT_EXPIRE (R141). -/
def execSlotExpire (d : Part) (src slot t : Nat) (s : State) : Host.Outcome State Fault Refusal :=
  stepSettle "SLOT_EXPIRE" (okNode src && decide (slot < 65536)) t s (fun s => s.slotExpire d src slot)

/-- MEM_LCTR_WRITE (R150): a write of a whole landing counter; counter 0 does not exist (R148). -/
def execMemLctrWrite (d : Part) (n : Nat) (v : Word) (t : Nat) (s : State) : Host.Outcome State Fault Refusal :=
  hostSettle "MEM_LCTR_WRITE" (decide (1 ≤ n) && decide (n < 65536)) d (wr (A.MEM_LCTR n)) t s (fun s => s.lctrWrite d n v.toNat)

/-! ### Translation (spec/12) -/

/-- An entry that the walk read was corrected (R13): at a switch the tables lie in LPDDR5X below RESV_TOP; an end-point's lie
in accelerator memory. -/
def State.entryFixed (s : State) (d : Part) (walk : Nat) (bad : Option EntryErr) : State :=
  match d, bad, (s.dev .sw).walks.find? (fun w => w.num == walk && w.busy) with
  | .sw, some e, some w =>
    if e.fixed && ((s.dev .sw).badEntry w.id w.addr w.access (some e.level)).isSome then s.ce .sw 8 1 else s
  | _, _, _ => s

/-- WALK_COMPLETE (R313, R316, R318, R321): `bad` is the entry in memory that was read in error, if any. -/
def execWalkComplete (d : Part) (walk : Nat) (bad : Option EntryErr) (t : Nat) (s : State) : Host.Outcome State Fault Refusal :=
  stepSettle "WALK_COMPLETE" true t s (fun s =>
    let s1 := s.entryFixed d walk bad
    match d with | .sw => s1.walkDone walk (badLevel bad) | .ep => s1.walkDoneEp walk (badLevel bad))

/-- A write to XLT_INV of the kind that the step names (R320, R321). -/
def execXltInvRange (d : Part) (v : Word) (t : Nat) (s : State) : Host.Outcome State Fault Refusal :=
  hostSettle "XLT_INV_RANGE" (bitsOf v.toNat 1 0 == 0) d (wr A.XLT_INV) t s (fun s => s.xltInvWrite d v.toNat)

/-- XLT_INV with KIND ID. -/
def execXltInvId (d : Part) (v : Word) (t : Nat) (s : State) : Host.Outcome State Fault Refusal :=
  hostSettle "XLT_INV_ID" (bitsOf v.toNat 1 0 == 1) d (wr A.XLT_INV) t s (fun s => s.xltInvWrite d v.toNat)

/-- XLT_INV with KIND ALL. -/
def execXltInvAll (d : Part) (v : Word) (t : Nat) (s : State) : Host.Outcome State Fault Refusal :=
  hostSettle "XLT_INV_ALL" (bitsOf v.toNat 1 0 == 2) d (wr A.XLT_INV) t s (fun s => s.xltInvWrite d v.toNat)

/-- Whether an engine request has a page translated under an entry that the invalidation covers, in the context that the
engine had then. -/
def XInv.coversFlight (i : XInv) (f : Flight) : Bool := f.under.any (fun u => i.coversWalk u.1 u.2)

/-- Packets of requests translated at an end-point under an entry that the invalidation covers, and still in it (R321,
log 17). -/
def State.translatedEp (s : State) (i : XInv) : Bool :=
  let v := s.dev .ep
  let under (job : Nat) : Bool := s.ep.flights.any (fun f => f.stage == .formed && f.job == job && i.coversFlight f)
  let own (p : Packet) : Bool := p.hdr.src.toNat == v.node && v.txns.any (fun t => t.id == p.hdr.txn && under t.job)
  v.pends.any (fun p => under p.job) || v.releases.any (fun r => under r.pend.job)
  || (v.port ownPort).arrived.any (fun a => own a.pkt)
  || v.queues.any (fun q => q.2.any (fun x => own x.pkt))

/-- A request whose packets are not all formed is translated again from its first page, where one was translated under an
entry that the invalidation covers: none of its packets has been sent (R321, log 17). -/
def State.untranslate (s : State) (i : XInv) : State :=
  let hit (f : Flight) : Bool := f.stage != .formed && i.coversFlight f
  let es := ((s.ep.flights.filter hit).map (fun f => f.engine)).eraseDups
  let s1 := s.modEp (fun e => { e with flights := e.flights.map (fun f =>
    if hit f then { f with made := [], under := [], todo := piecesOf f.req, walk := none } else f) })
  es.foldl (fun a n => a.pump n) s1

/-- XLT_INV_COMPLETE (R321): once every walk that began before has ended and nothing translated before is left, the
entries are gone and PENDING clears. -/
def State.xltInvDone (s : State) (d : Part) : State :=
  let v := s.dev d
  match v.xinv with
  | none => s
  | some i =>
    let held : Bool := match d with | .sw => s.translatedSw i | .ep => s.translatedEp i
    if v.walks.any (fun w => w.stale) || held then s
    else
      let s1 := (s.setDev d { v.dropEntries i with xinv := none }).set d F.XLT_INV_STATUS_PENDING 0
      match d with
      | .sw => s1
      | .ep => s1.untranslate i

/-- XLT_INV_COMPLETE. -/
def execXltInvComplete (d : Part) (t : Nat) (s : State) : Host.Outcome State Fault Refusal :=
  stepSettle "XLT_INV_COMPLETE" true t s (fun s => s.xltInvDone d)

/-- The batch is written BATCH_US µs after its oldest record (R324). -/
def State.batchTimer (s : State) : State :=
  match (s.dev .sw).fbatch with
  | [] => s
  | r :: _ => if r.at_ + s.get .sw F.XLT_FLOG_CTRL_BATCH_US * 1000 ≤ s.now then s.flushFaults else s

/-- FAULT_BATCH_TIMER (R324). -/
def execFaultBatchTimer (t : Nat) (s : State) : Host.Outcome State Fault Refusal :=
  stepSettle "FAULT_BATCH_TIMER" true t s (fun s => s.batchTimer)

/-- A write to XLT_FLOG_CTRL (R324): clearing ENABLE discards the pending batch. -/
def State.flogCtrl (s : State) (d : Part) (x : Nat) : State :=
  s.modDev d (fun v =>
    let v1 := ((v.set F.XLT_FLOG_CTRL_ENABLE (bitsOf x 31 31)).set F.XLT_FLOG_CTRL_BATCH_US (bitsOf x 15 5)).set
      F.XLT_FLOG_CTRL_LOG2_ENTRIES (bitsOf x 4 0)
    if bitOf x 31 then v1 else { v1 with fbatch := [] })

/-- XLT_FLOG_CTRL_WRITE (R324). -/
def execXltFlogCtrlWrite (d : Part) (v : Word) (t : Nat) (s : State) : Host.Outcome State Fault Refusal :=
  hostSettle "XLT_FLOG_CTRL_WRITE" true d (wr A.XLT_FLOG_CTRL) t s (fun s => s.flogCtrl d v.toNat)

/-- XLT_RESUME_RETRY (R326). -/
def execXltResumeRetry (id t : Nat) (s : State) : Host.Outcome State Fault Refusal :=
  hostSettle "XLT_RESUME_RETRY" (decide (id < 1048576)) .ep (wr A.EP_XLT_RESUME) t s (fun s => s.resumeRetry id)

/-- XLT_RESUME_ABORT (R326). -/
def execXltResumeAbort (id t : Nat) (s : State) : Host.Outcome State Fault Refusal :=
  hostSettle "XLT_RESUME_ABORT" (decide (id < 1048576)) .ep (wr A.EP_XLT_RESUME) t s (fun s => s.resumeAbort id)

/-- FAULT_LIMIT_EXPIRY (R326). -/
def execFaultLimitExpiry (id t : Nat) (s : State) : Host.Outcome State Fault Refusal :=
  stepSettle "FAULT_LIMIT_EXPIRY" (decide (id < 1048576)) t s (fun s => s.faultLimit id)

end Sys2Proof.Machine
end

