-- ==== Sys2Proof/Machine/MembSteps.lean ====
section
/-! DEFINITION. The steps of membership, steps and repair (spec/16). A record arrives on port `p` with its body. -/

namespace Sys2Proof.Machine

/-- A record of membership arrives on a link. -/
def newsStep (name : String) (d : Part) (p t : Nat) (s : State) (f : State → State) : Host.Outcome State Fault Refusal :=
  stepSettle name (okPort d p) t s f

/-- BEAT (R421, R423, R436). -/
def execBeat (d : Part) (p : Nat) (body : HbBody) (t : Nat) (s : State) : Host.Outcome State Fault Refusal :=
  newsStep "BEAT" d p t s (fun s => s.takeBeat d p body)

/-- ACCUSE (R422, R424). -/
def execAccuse (d : Part) (p : Nat) (body : HbBody) (t : Nat) (s : State) : Host.Outcome State Fault Refusal :=
  newsStep "ACCUSE" d p t s (fun s => s.takeAccuse d p body)

/-- FATAL (R422, R426). -/
def execFatal (d : Part) (p : Nat) (body : HbBody) (t : Nat) (s : State) : Host.Outcome State Fault Refusal :=
  newsStep "FATAL" d p t s (fun s => s.takeFatal d p body)

/-- JOIN (R422, R439). -/
def execJoin (d : Part) (p : Nat) (body : HbBody) (t : Nat) (s : State) : Host.Outcome State Fault Refusal :=
  newsStep "JOIN" d p t s (fun s => s.takeJoin d p body)

/-- STEP_READY (R422, R431). -/
def execStepReady (d : Part) (p : Nat) (body : HbBody) (t : Nat) (s : State) : Host.Outcome State Fault Refusal :=
  newsStep "STEP_READY" d p t s (fun s => s.takeStep d p Hb.STEP_READY body)

/-- STEP_FAIL (R422, R431). -/
def execStepFail (d : Part) (p : Nat) (body : HbBody) (t : Nat) (s : State) : Host.Outcome State Fault Refusal :=
  newsStep "STEP_FAIL" d p t s (fun s => s.takeStep d p Hb.STEP_FAIL body)

/-- STEP_DISCARDED (R422, R431). -/
def execStepDiscarded (d : Part) (p : Nat) (body : HbBody) (t : Nat) (s : State) : Host.Outcome State Fault Refusal :=
  newsStep "STEP_DISCARDED" d p t s (fun s => s.takeStep d p Hb.STEP_DISCARDED body)

/-- LEASE_ACK (R422, R425). -/
def execLeaseAck (d : Part) (p : Nat) (body : HbBody) (t : Nat) (s : State) : Host.Outcome State Fault Refusal :=
  newsStep "LEASE_ACK" d p t s (fun s => s.takeLeaseAck d p body)

/-- DECISION_EPOCH (R423, R428, R429). -/
def execDecisionEpoch (d : Part) (p : Nat) (body : HbBody) (t : Nat) (s : State) : Host.Outcome State Fault Refusal :=
  newsStep "DECISION_EPOCH" d p t s (fun s => s.takeAct d p 1 body)

/-- STEP_COMMIT (R423, R432). -/
def execStepCommit (d : Part) (p : Nat) (body : HbBody) (t : Nat) (s : State) : Host.Outcome State Fault Refusal :=
  newsStep "STEP_COMMIT" d p t s (fun s => s.takeAct d p 2 body)

/-- STEP_REPLAY (R423, R433). -/
def execStepReplay (d : Part) (p : Nat) (body : HbBody) (t : Nat) (s : State) : Host.Outcome State Fault Refusal :=
  newsStep "STEP_REPLAY" d p t s (fun s => s.takeAct d p 3 body)

/-- STEP_RESTART (R423, R433). -/
def execStepRestart (d : Part) (p : Nat) (body : HbBody) (t : Nat) (s : State) : Host.Outcome State Fault Refusal :=
  newsStep "STEP_RESTART" d p t s (fun s => s.takeAct d p 4 body)

/-- DECISION_LEASE (R423, R425). -/
def execDecisionLease (d : Part) (p : Nat) (body : HbBody) (t : Nat) (s : State) : Host.Outcome State Fault Refusal :=
  newsStep "DECISION_LEASE" d p t s (fun s => s.takeAct d p 5 body)

/-- BEAT_TIMER (R421). -/
def execBeatTimer (d : Part) (t : Nat) (s : State) : Host.Outcome State Fault Refusal :=
  stepSettle "BEAT_TIMER" true t s (fun s => s.beats d)

/-- HEARTBEAT_SILENCE (R421). -/
def execHeartbeatSilence (d : Part) (p : Nat) (t : Nat) (s : State) : Host.Outcome State Fault Refusal :=
  stepSettle "HEARTBEAT_SILENCE" (okPort d p) t s (fun s => s.partnerSilent d p)

/-- LEASE_RENEW_TIMER (R425). -/
def execLeaseRenewTimer (t : Nat) (s : State) : Host.Outcome State Fault Refusal :=
  stepSettle "LEASE_RENEW_TIMER" true t s (fun s => s.leaseTimer)

/-- COORDINATOR_TAKEOVER (R425). -/
def execCoordinatorTakeover (t : Nat) (s : State) : Host.Outcome State Fault Refusal :=
  stepSettle "COORDINATOR_TAKEOVER" true t s (fun s => s.takeover)

/-- DECISION_CATCHUP (R423). -/
def execDecisionCatchup (d : Part) (p : Nat) (t : Nat) (s : State) : Host.Outcome State Fault Refusal :=
  stepSettle "DECISION_CATCHUP" (okPort d p) t s (fun s => s.catchUp d p)

/-- STEP_PLAN (R430). -/
def execStepPlan (t : Nat) (s : State) : Host.Outcome State Fault Refusal :=
  stepSettle "STEP_PLAN" true t s (fun s => s.stepPlan)

/-- STEP_END (R430). -/
def execStepEnd (t : Nat) (s : State) : Host.Outcome State Fault Refusal :=
  stepSettle "STEP_END" true t s (fun s => s.stepEnd)

/-- STEP_FENCED (R433). -/
def execStepFenced (t : Nat) (s : State) : Host.Outcome State Fault Refusal :=
  stepSettle "STEP_FENCED" true t s (fun s => s.stepFenced)

/-- REPLAY_FENCE_TIMEOUT (R433). -/
def execReplayFenceTimeout (t : Nat) (s : State) : Host.Outcome State Fault Refusal :=
  stepSettle "REPLAY_FENCE_TIMEOUT" true t s (fun s => s.fenceLate)

/-- REPAIR_TEST (R439, R483). -/
def execRepairTest (d : Part) (t : Nat) (s : State) : Host.Outcome State Fault Refusal :=
  hostSettle "REPAIR_TEST" true d (wr A.TEL_REPAIR) t s (fun s => s.repairTest d)

/-- REPAIR_TEST_DONE (R437 to R439): the lanes (port and lane), physical cores and clusters that failed, and bit 0 SRAM,
bit 1 LPDDR5X, bit 2 island. -/
def execRepairTestDone (d : Part) (lanes : List (Nat × Nat)) (cores clusters : List Nat) (bad t : Nat) (s : State) :
    Host.Outcome State Fault Refusal :=
  stepSettle "REPAIR_TEST_DONE" (lanes.all (fun x => okPort d x.1 && decide (x.2 < 17)) && cores.all (fun c => decide (c < 72))
    && clusters.all (fun c => decide (c < 18)) && decide (bad < 8)) t s (fun s => s.repairDone d lanes cores clusters bad)

/-- REPAIR_JOIN (R439). -/
def execRepairJoin (d : Part) (t : Nat) (s : State) : Host.Outcome State Fault Refusal :=
  hostSettle "REPAIR_JOIN" true d (wr A.TEL_REPAIR) t s (fun s => s.repairJoin d)

/-- JOIN_TIMER (R439). -/
def execJoinTimer (d : Part) (t : Nat) (s : State) : Host.Outcome State Fault Refusal :=
  stepSettle "JOIN_TIMER" true t s (fun s => s.joinTimer d)

/-- FORM (R484). -/
def execForm (d : Part) (t : Nat) (s : State) : Host.Outcome State Fault Refusal :=
  hostSettle "FORM" true d (wr A.TEL_REPAIR) t s (fun s => s.form d)

/-- ADMIT (R439). -/
def execAdmit (d : Part) (t : Nat) (s : State) : Host.Outcome State Fault Refusal :=
  hostSettle "ADMIT" true d (wr A.TEL_REPAIR) t s (fun s => s.admitNow d)

end Sys2Proof.Machine
end

