-- ==== Sys2Proof/Machine/PotSteps.lean ====
section
/-! DEFINITION. The Pot's commands from a host, and the ends of checks and Pours (spec/02). -/

namespace Sys2Proof.Machine

/-- POT_CLAIM (R19, R507). -/
def execPotClaim (d : Part) (t : Nat) (s : State) : Host.Outcome State Fault Refusal :=
  hostIf "POT_CLAIM" true d (wr A.CFG_POT_CTRL) t s (fun s => s.potClaim d)

/-- POT_CLAIM_FORCE (R20, R507). -/
def execPotClaimForce (d : Part) (t : Nat) (s : State) : Host.Outcome State Fault Refusal :=
  hostSettle "POT_CLAIM_FORCE" true d (wr A.CFG_POT_CTRL) t s (fun s => s.potForce d)

/-- POT_CHECK (R23, R444, R507): the domains that the staged set needs begin to wake. -/
def execPotCheck (d : Part) (t : Nat) (s : State) : Host.Outcome State Fault Refusal :=
  hostSettle "POT_CHECK" true d (wr A.CFG_POT_CTRL) t s (fun s => s.potCheck d)

/-- CHECK_COMPLETE (R23, R24, R36, R444). -/
def execCheckComplete (d : Part) (t : Nat) (s : State) : Host.Outcome State Fault Refusal :=
  stepSettle "CHECK_COMPLETE" true t s (fun s => s.checkEnds d)

/-- POT_POUR (R28, R507). -/
def execPotPour (d : Part) (t : Nat) (s : State) : Host.Outcome State Fault Refusal :=
  hostIf "POT_POUR" true d (wr A.CFG_POT_CTRL) t s (fun s => s.potPour d)

/-- POUR_INSTANT (R27, R29). -/
def execPourInstant (d : Part) (t : Nat) (s : State) : Host.Outcome State Fault Refusal :=
  stepSettle "POUR_INSTANT" true t s (fun s => s.pourInstant d)

/-- POT_DISCARD (R21, R507). -/
def execPotDiscard (d : Part) (t : Nat) (s : State) : Host.Outcome State Fault Refusal :=
  hostSettle "POT_DISCARD" true d (wr A.CFG_POT_CTRL) t s (fun s => s.potDiscard d)

/-- An aligned access within the staged copy of one Pot register (R16). -/
def okStaged (d : Part) (a size : Nat) : Bool :=
  okSize size && bitOf a 23 && (potReg d (a - 2 ^ 23) size).isSome

/-- POT_STAGED_WRITE (R16, R22, R507), at the staged copy's own address. -/
def execPotStagedWrite (d : Part) (a size : Nat) (x : Word) (t : Nat) (s : State) : Host.Outcome State Fault Refusal :=
  hostSettle "POT_STAGED_WRITE" (okStaged d a size) d (wr a) t s (fun s => s.potWrite d (a - 2 ^ 23) size x.toNat)

end Sys2Proof.Machine
end

