-- ==== Sys2Proof/Machine/Access.lean ====
section
/-! DEFINITION. Register accesses of a device's owner and of the virtual functions (R5 to R8, R16, R333, R334, R363): every
register of the two maps, with what a write to it does beside setting its fields, and what a read of it returns. -/

namespace Sys2Proof.Machine

/-! ### Where an access falls -/

/-- The registers that an access of PF 0 over BAR0, or over the attach, may reach lie in 256 MiB (Table 13.2, R363). -/
def barTop : Nat := 2 ^ 28

/-- The register that an access of `size` bytes at `a` falls in, if it is aligned and within it (R8). -/
def hitReg (d : Part) (a size : Nat) : Option (RegRow × Nat) :=
  if a % size ≠ 0 then none
  else match findReg d a with
    | some (r, b) => if a + size ≤ b + r.bytes then some (r, b) else none
    | none => none

/-- The live address of a staged copy's address, if it is one of a Pot register (R16). -/
def stagedHit (d : Part) (a size : Nat) : Option (RegRow × Nat) :=
  if bitOf a 23 then potReg d (a - 2 ^ 23) size else none

/-! ### Reads -/

/-- The value of the register at `b` as a read returns it: the stored value, or what the device computes from its state. -/
def State.readWord (s : State) (d : Part) (b : Nat) : Nat :=
  let v := s.dev d
  match indexOf (A.TEL_CTR 0) 8 4096 b, indexOf (A.PKT_DRAINED 0) 8 64 b with
  | some i, _ => s.hostCounter d i
  | _, some k => s.drainedWord d k
  | none, none =>
    if b = A.SWC_SHARED_FREE then v.sharedFree
    else match d with
      | .ep => if b = A.EP_ORD_STATUS then setBits (v.reg b) 31 15 s.ep.rflows.length else v.reg b
      | .sw =>
        match indexOf (A.PWR_AGE_LOG_DATA 0) 8 2 b, indexOf (A.SEQ_EXC_INFO 0) 0x100 64 b, indexOf (A.SEQ_SAMPLE_CTRL 0) 0x100 64 b with
        | some k, _, _ => bitsOf (SMap.at 0 s.sw.kettle.log (s.get .sw F.PWR_AGE_LOG_IDX_INDEX)) (64 * k + 63) (64 * k)
        | _, some _, _ => if s.conf then 0 else v.reg b
        | _, _, some _ => if s.conf then setBit (v.reg b) 63 false else v.reg b
        | none, none, none => v.reg b

/-- What an access of `size` bytes at `a` takes of a register that starts at `b`. -/
def cut (b a size x : Nat) : Word := BitVec.ofNat 64 (x / 2 ^ (8 * (a - b)) % 2 ^ (8 * size))

/-- A read that completes without effect returns zero, and is reported (R8, R334). -/
def State.badRead (s : State) (d : Part) (fn a : Nat) : State := (s.badAccess d fn a false).emit (.readValue d 0)

/-- An access of `size` bytes at `a`, read: what one register gives, or, where no one register holds an aligned 64-bit access,
what the 32-bit registers that it covers give, and zero for bytes of none (R7, R8, log 33). None where it falls outside every
register. -/
def readOver (f : State → Nat → Nat → Option (Nat × State)) (s : State) (a size : Nat) : Option (Nat × State) :=
  match f s a size with
  | some r => some r
  | none =>
    if size = 8 ∧ a % 8 = 0 then
      match f s a 4 with
      | some (lo, s1) =>
        match f s1 (a + 4) 4 with
        | some (hi, s2) => some (lo + 2 ^ 32 * hi, s2)
        | none => some (lo, s1)
      | none => (f s (a + 4) 4).map (fun r => (2 ^ 32 * r.1, r.2))
    else none

/-- What a read returns, or the report of one that falls outside every register (R8, R334). -/
def State.returns (s : State) (d : Part) (fn a : Nat) (r : Option (Nat × State)) : State :=
  match r with
  | some (x, u) => u.emit (.readValue d (BitVec.ofNat 64 x))
  | none => s.badRead d fn a

/-- A read of one register of PF 0's BAR0, or over the attach: its value, or its staged copy's. A core's local word is read
through SEQ_LOCAL_DATA while it is open (R221). -/
def State.readOne (s : State) (d : Part) (a size : Nat) : Option (Nat × State) :=
  match hitReg d a size, stagedHit d a size with
  | some (_, b), _ =>
    match d, indexOf (A.SEQ_LOCAL_DATA 0) 0x100 64 b with
    | .sw, some n =>
      if s.localOpen n then
        some ((cut b a size (Memory.num (s.core n).mem (8 * s.get .sw (F.SEQ_LOCAL_WIN_WORD n)) 8)).toNat, s)
      else none
    | _, _ => let s1 := s.syncCounters d; some ((cut b a size (s1.readWord d b)).toNat, s1)
  | none, some (_, b) => some ((cut b (a - 2 ^ 23) size ((s.dev d).stagedReg b)).toNat, s)
  | none, none => none

/-- The queue and the half of a doorbell address in a function's doorbell area (R343). -/
def doorbellAt (a : Nat) : Option (Nat × Bool) :=
  if 0x4000 ≤ a then none else if a % 16 = 0 then some (a / 16, true) else if a % 16 = 8 then some (a / 16, false) else none

/-- A read of PF 0, or over the attach. At a switch, PF 0's BAR2 follows its BAR0 (log 39): a doorbell reads zero (log 29). -/
def State.readReg (s : State) (d : Part) (a size : Nat) : State :=
  if a < barTop then s.returns d 0 a (readOver (fun s a n => s.readOne d a n) s a size)
  else match d, doorbellAt (a - barTop) with
    | .sw, some _ => s.emit (.readValue .sw 0)
    | _, _ => s.badRead d 0 a

/-- A read of a virtual function, in its BAR0: its HIF_VF_STATUS; a doorbell reads zero (log 29). -/
def State.readVf (s : State) (fn a size : Nat) : State :=
  let status (s : State) (a n : Nat) : Option (Nat × State) :=
    match hitReg .sw (A.HIF_VF_STATUS fn - 0x8000 + a) n with
    | some (_, b) =>
      if b = A.HIF_VF_STATUS fn then some ((cut b (A.HIF_VF_STATUS fn - 0x8000 + a) n ((s.dev .sw).reg b)).toNat, s) else none
    | none => none
  match doorbellAt a with
  | some _ => s.emit (.readValue .sw 0)
  | none => s.returns .sw fn a (readOver status s a size)

/-- Once start-up has STOPPED, only the identification register and CFG_BOOT_STATUS return data (R482). -/
def State.readStopped (s : State) (d : Part) (fn a size : Nat) : State :=
  let id := match d with | .sw => A.CFG_DEVICE_ID | .ep => A.EP_DEVICE_ID
  let open_ (s : State) (a n : Nat) : Option (Nat × State) :=
    match hitReg d a n with
    | some (_, b) =>
      if fn = 0 ∧ (b = id ∨ b = A.CFG_BOOT_STATUS) then some ((cut b a n ((s.dev d).reg b)).toNat, s) else none
    | none => none
  s.returns d fn a (readOver open_ s a size)

/-- A register read (R5 to R8, R334). While the device does not answer, nothing is returned (R481). -/
def State.regRead (s : State) (d : Part) (fn a size : Nat) : State :=
  if s.get d F.CFG_BOOT_STATUS_STAGE = 0xF then s.readStopped d fn a size
  else if ! s.barOn d then s
  else if fn = 0 ∨ d = .ep then s.readReg d a size
  else s.readVf fn a size

/-! ### Writes -/

/-- A write to a register whose fields it only sets: RW bits take the value, RW1C bits written with 1 clear. -/
def Dev.plainWrite (v : Dev) (r : RegRow) (b a size x : Nat) : Dev :=
  let one := Nat.land (merged 0 r.w1c b a size x) r.w1c
  let old := v.reg b
  let kept := old - Nat.land old one
  v.setReg b (merged kept r.rw b a size x)

/-- What a write to a register does that is more than setting its fields: the register's offset, the address accessed,
`full old` is the register's new value from an
old one, `plain` the state with its fields set. -/
abbrev Handler := State → Part → Nat → Nat → (Nat → Nat) → State → Option State

/-- CFG_POT_CTRL and CFG_RESET_CTRL (R33, R485, R487); WARM together with DOMAIN_RESET has no effect. -/
def writeCfg : Handler := fun s d b _ full _ =>
  if b = A.CFG_POT_CTRL then some (s.potCtrl d (full 0))
  else if b = A.CFG_RESET_CTRL then
    let w := full 0
    some (if bitOf w 31 then (if bitOf w 30 then s else s.warmReset d 4)
      else if bitOf w 30 then (match d with | .sw => s.domainReset (bitsOf w 4 0) | .ep => s)
      else s)
  else none

/-- LNK_CMD (R86): NAP and WAKE; both together have no effect. -/
def writeLnk : Handler := fun s d b _ full _ =>
  (indexOf (A.LNK_CMD 0) 0x1000 (linkPorts d) b).map (fun p =>
    match full 0 % 4 with
    | 1 => s.wakeLink d p
    | 2 => s.startNap d p
    | _ => s)

/-- PKT_NODE_ID and PKT_DRAIN (R93, R104). -/
def writePkt : Handler := fun s d b _ full _ =>
  if b = A.PKT_NODE_ID then some (s.writeNode d (full ((s.dev d).reg b) % 4096))
  else (indexOf (A.PKT_DRAIN 0) 8 64 b).map (fun k => s.drainWrite d k (full ((s.dev d).reg b)))

/-- Landing counters, and the tail of the remote-fault ring (R148, R150, R162). -/
def writeMem : Handler := fun s d b _ full plain =>
  if b = A.MEM_RFAULT_TAIL then
    some (plain.set d F.MEM_RFAULT_STATUS_PENDING (b2n (plain.get d F.MEM_RFAULT_HEAD_HEAD != plain.get d F.MEM_RFAULT_TAIL_TAIL)))
  else (indexOf (A.MEM_LCTR 0) 8 65536 b).map (fun n => s.lctrWrite d n (full ((s.dev d).reg b)))

/-- The operation words of a window, written only while it is IDLE, and its command register (R191, Table 15.6). -/
def writeRed : Handler := fun s d b a full plain =>
  match d with
  | .ep => none
  | .sw =>
    match indexOf (A.RED_WIN_A 0) 0x40 256 (b / 0x40 * 0x40) with
    | none => none
    | some w =>
      if b = A.RED_WIN_CMD w then
        some (s.hostWin w a (fun s => match full 0 % 4 with
          | 1 => (s.arm w (bitsOf (full 0) 15 8)).2
          | 2 => s.clearWin w
          | _ => s))
      else if b = A.RED_WIN_STATUS w then some plain
      else some (s.hostWin w a (fun s => if s.get .sw (F.RED_WIN_STATUS_STATE w) = 0 then plain else s))

/-- Sampling that a write has enabled, or given another MODE or PERIOD, counts from now (R239, log 48). -/
def State.sampleOn (s plain : State) (n : Nat) : State :=
  let same (g : Fld) : Bool := s.get .sw g == plain.get .sw g
  let on := F.SEQ_SAMPLE_CTRL_ENABLE n
  if plain.get .sw on = 1 ∧ ! (same on && same (F.SEQ_SAMPLE_CTRL_MODE n) && same (F.SEQ_SAMPLE_CTRL_PERIOD n)) then
    (plain.accrue n).modCore n (fun c => { c with
      evBase := c.counted (plain.get .sw (F.SEQ_SAMPLE_CTRL_MODE n)), events := 0, cross := if same on then c.cross else [] })
  else plain

/-- Loading, the service queues, and the registers of each core (R221, R229, R231, R236, R239, R240). -/
def writeSeq : Handler := fun s d b a full plain =>
  match d with
  | .ep => none
  | .sw =>
    if b = A.SEQ_LOAD_CMD then some (s.loadCmd (full 0))
    else match indexOf (A.SEQ_QUEUE_A 0) 0x10 16 (b / 16 * 16) with
      | some q =>
        some (if s.get .sw (F.SEQ_QUEUE_B_ENABLE q) = 0 then plain
          else if b = A.SEQ_QUEUE_B q ∧ ! bitOf (full ((s.dev .sw).reg b)) 63 then s.disableQueue q
          else s)
      | none =>
        match indexOf (A.SEQ_CORE_CTRL 0) 0x100 64 (b / 0x100 * 0x100) with
        | none => none
        | some n =>
          if b = A.SEQ_CORE_CTRL n then some (s.coreCtrl n (full 0))
          else if b = A.SEQ_SAMPLE_CTRL n then some (if s.conf then s else s.sampleOn plain n)
          else if b = A.SEQ_LOCAL_DATA n then
            some (s.localData n a true (BitVec.ofNat 64 (full (Memory.num (s.core n).mem (8 * s.get .sw (F.SEQ_LOCAL_WIN_WORD n)) 8))))
          else none

/-- Invalidations, the fault log, and resumes (R320, R324, R326). -/
def writeXlt : Handler := fun s d b _ full plain =>
  if b = A.XLT_INV then some (s.xltInvWrite d (full 0))
  else if b = A.XLT_FLOG_CTRL then some (s.flogCtrl d (full ((s.dev d).reg b)))
  else if b = A.XLT_FLOG_BASE then some (if (s.dev d).on F.XLT_FLOG_CTRL_ENABLE then s else plain)
  else if b = A.XLT_FLOG_TAIL then
    some (plain.set d F.XLT_FLOG_STATUS_PENDING (b2n (plain.get d F.XLT_FLOG_HEAD_HEAD != plain.get d F.XLT_FLOG_TAIL_TAIL)))
  else if d = .ep ∧ b = A.EP_XLT_RESUME then
    let id := bitsOf (full 0) 31 12
    some (match full 0 % 4 with
      | 1 => s.resumeRetry id
      | 2 => s.resumeAbort id
      | _ => s)
  else none

/-- Channel invalidation and the words of the host queues (R340, R342, R351). -/
def writeHif : Handler := fun s d b _ full _ =>
  match d with
  | .ep => if b = A.EP_CHAN_INV then some (s.chanInvWrite .ep (full 0)) else none
  | .sw =>
    if b = A.HIF_CHAN_INV then some (s.chanInvWrite .sw (full 0))
    else
      let x := full ((s.dev .sw).reg b)
      match indexOf (A.HIF_SQ_A 0) 0x20 1024 b, indexOf (A.HIF_SQ_B 0) 0x20 1024 b, indexOf (A.HIF_CQ_A 0) 0x20 1024 b,
        indexOf (A.HIF_CQ_B 0) 0x20 1024 b with
      | some q, _, _, _ => some (s.queueWordA b (F.HIF_SQ_B_ENABLE q) x)
      | _, some q, _, _ => some (s.sqWordB q x)
      | _, _, some q, _ => some (s.queueWordA b (F.HIF_CQ_B_ENABLE q) x)
      | _, _, _, some q => some (s.cqWordB q x)
      | none, none, none, none => none

/-- The end-point's read cache and ordered flows (R383, R385). -/
def writeEp : Handler := fun s d b _ full _ =>
  match d with
  | .sw => none
  | .ep =>
    if b = A.EP_RCACHE_INV then
      some (match full 0 % 4 with
        | 1 => s.rcWrite (some (bitsOf (full 0) 41 22))
        | 2 => s.rcWrite none
        | _ => s)
    else if b = A.EP_ORD_RESET then
      let w := full 0
      some (s.ordReset (bitsOf w 43 32) (if bitOf w 63 then none else some (bitsOf w 19 0)))
    else none

/-- Windows and snapshots, and repair (R439, R442, R470, R471, R477). Several bits of TEL_REPAIR act in the order of R439
(log 30). CAUSE of TEL_FATAL takes what is written, as Table 0.7 has it for RWS. -/
def writeTel : Handler := fun s d b _ full plain =>
  if b = A.TEL_WIN_CFG then some (s.winCfg d (full ((s.dev d).reg b)))
  else if b = A.TEL_WIN_GROUPS ∨ b = A.TEL_SNAP_BASE then some (if (s.dev d).on F.TEL_WIN_CFG_ENABLE then s else plain)
  else if b = A.TEL_SNAP_RING then
    some (plain.set d F.TEL_SNAP_RING_PENDING (b2n (plain.get d F.TEL_SNAP_RING_HEAD != plain.get d F.TEL_SNAP_RING_TAIL)))
  else if b = A.TEL_FATAL then
    some (s.set d F.TEL_FATAL_CAUSE (bitsOf (full (s.get d F.TEL_FATAL_CAUSE * 2 ^ 28)) 31 28))
  else if b = A.TEL_REPAIR then
    let w := full 0
    let s1 := if bitOf w 62 then s.repairTest d else s
    let s2 := if bitOf w 63 then s1.repairJoin d else s1
    let s3 := if bitOf w 61 then s2.form d else s2
    some (if bitOf w 60 then s3.admitNow d else s3)
  else none

/-- Every register whose write does more than set its fields. -/
def handlers : List Handler :=
  [writeCfg, writeLnk, writePkt, writeMem, writeRed, writeSeq, writeXlt, writeHif, writeEp, writeTel]

/-- An access of `size` bytes at `a`, written: to the one register that holds it, or to each of the 32-bit registers that an
aligned 64-bit access covers, the lower first (R7, R8, log 33). None where it falls outside every register. -/
def writeOver (f : State → Nat → Nat → Nat → Option State) (s : State) (a size x : Nat) : Option State :=
  match f s a size x with
  | some u => some u
  | none =>
    if size = 8 ∧ a % 8 = 0 then
      match f s a 4 (x % 2 ^ 32) with
      | some u => some ((f u (a + 4) 4 (x / 2 ^ 32)).getD u)
      | none => f s (a + 4) 4 (x / 2 ^ 32)
    else none

/-- A write of one register of PF 0's BAR0, or over the attach. A Pot register's live copy is not written (R16). -/
def State.writeOne (s : State) (d : Part) (a size x : Nat) : Option State :=
  match hitReg d a size, stagedHit d a size with
  | some (r, b), _ =>
    if r.staged then some s
    else
      let full (old : Nat) : Nat := merged old (2 ^ (8 * r.bytes) - 1) b a size x
      let plain := s.modDev d (fun v => v.plainWrite r b a size x)
      some ((handlers.findSome? (fun h => h s d b a full plain)).getD plain)
  | none, some _ => some (s.potWrite d (a - 2 ^ 23) size x)
  | none, none => none

/-- A write of a function's doorbell area (R343). -/
def State.doorbell (s : State) (fn q : Nat) (tail : Bool) (size x : Nat) : State :=
  if tail then s.sqDoorbell fn q (x % 2 ^ (8 * size)) else s.cqDoorbell fn q (x % 2 ^ (8 * size))

/-- A write of PF 0, or over the attach. At a switch, PF 0's BAR2 follows its BAR0 (log 39). -/
def State.writeReg (s : State) (d : Part) (a size x : Nat) : State :=
  if a < barTop then (writeOver (fun s a n x => s.writeOne d a n x) s a size x).getD (s.badAccess d 0 a true)
  else match d, doorbellAt (a - barTop) with
    | .sw, some (q, tail) => s.doorbell 0 q tail size x
    | _, _ => s.badAccess d 0 a true

/-- A write of a virtual function, in its BAR0: a doorbell, or its HIF_VF_STATUS. -/
def State.writeVf (s : State) (fn a size x : Nat) : State :=
  let status (s : State) (a n x : Nat) : Option State :=
    match hitReg .sw (A.HIF_VF_STATUS fn - 0x8000 + a) n with
    | some (r, b) =>
      if b = A.HIF_VF_STATUS fn then some (s.modDev .sw (fun v => v.plainWrite r b (A.HIF_VF_STATUS fn - 0x8000 + a) n x))
      else none
    | none => none
  match doorbellAt a with
  | some (q, tail) => s.doorbell fn q tail size x
  | none => (writeOver status s a size x).getD (s.badAccess .sw fn a true)

/-- A register write (R5 to R8, R16, R22, R334). -/
def State.regWrite (s : State) (d : Part) (fn a size x : Nat) : State :=
  if s.get d F.CFG_BOOT_STATUS_STAGE = 0xF then s.badAccess d fn a true
  else if ! s.barOn d then s
  else if fn = 0 ∨ d = .ep then s.writeReg d a size x
  else s.writeVf fn a size x

/-! ### The commands -/

/-- An access that the function may make: the size is one a register has, or less. -/
def okAccess (d : Part) (fn size : Nat) : Bool :=
  okSize size && (match d with | .sw => okFunction fn | .ep => fn == 0)

/-- REGISTER_WRITE. -/
def execRegisterWrite (d : Part) (fn addr size : Nat) (v : Word) (t : Nat) (s : State) : Host.Outcome State Fault Refusal :=
  stepSettle "REGISTER_WRITE" (okAccess d fn size) t s (fun s => s.regWrite d fn addr size v.toNat)

/-- REGISTER_READ. -/
def execRegisterRead (d : Part) (fn addr size t : Nat) (s : State) : Host.Outcome State Fault Refusal :=
  stepSettle "REGISTER_READ" (okAccess d fn size) t s (fun s => s.regRead d fn addr size)

end Sys2Proof.Machine
end

