-- ==== Sys2Proof/Machine/BootSteps.lean ====
section
/-! DEFINITION. Commands of start-up and reset (spec/19), the causes of the fatal state (R419), and the test port (R494). -/

namespace Sys2Proof.Machine

/-- FATAL_FAULT (R419): CAUSE 1 to 5. -/
def execFatalFault (d : Part) (cause t : Nat) (s : State) : Host.Outcome State Fault Refusal :=
  stepSettle "FATAL_FAULT" (decide (1 ≤ cause) && decide (cause ≤ 5)) t s (fun s => s.fatal d cause)

/-- LOGIC_HANG (R419): CAUSE 2. -/
def execLogicHang (d : Part) (t : Nat) (s : State) : Host.Outcome State Fault Refusal :=
  stepSettle "LOGIC_HANG" true t s (fun s => s.fatal d 2)

/-- CLOCK_LOSS (R419). -/
def execClockLoss (d : Part) (t : Nat) (s : State) : Host.Outcome State Fault Refusal :=
  stepSettle "CLOCK_LOSS" true t s (fun s => s.clockLoss d)

/-- REFCLK_LOSS (R500). -/
def execRefclkLoss (d : Part) (t : Nat) (s : State) : Host.Outcome State Fault Refusal :=
  stepSettle "REFCLK_LOSS" true t s (fun s => s.refclkLoss d)

/-- How many temperatures a part's sensors give: 24 at a switch, one at an end-point (R501). -/
def okTemps (d : Part) (l : List Int) : Bool :=
  match d with
  | .sw => l.length == 24
  | .ep => l.length == 1

/-- TEMPERATURE_READ (R501). -/
def execTemperatureRead (d : Part) (temps : List Int) (t : Nat) (s : State) : Host.Outcome State Fault Refusal :=
  stepSettle "TEMPERATURE_READ" (okTemps d temps) t s (fun s => s.temperatures d temps)

/-- POWER_ON_RESET (R478). -/
def execPowerOnReset (d : Part) (t : Nat) (s : State) : Host.Outcome State Fault Refusal :=
  stepSettle "POWER_ON_RESET" true t s (fun s => s.powerOn d)

/-- BOOT_STAGE_DONE (R480, R482): the stages of Table 19.2, which are the switch's. -/
def execBootStageDone (d : Part) (result : BootResult) (t : Nat) (s : State) : Host.Outcome State Fault Refusal :=
  stepSettle "BOOT_STAGE_DONE" (d == .sw) t s (fun s => s.stageDone result)

/-- EP_START_UP (R488). -/
def execEpStartUp (r : EpBoot) (t : Nat) (s : State) : Host.Outcome State Fault Refusal :=
  stepSettle "EP_START_UP" true t s (fun s => s.epStart r)

/-- WARM_N (R485): LAST 2. -/
def execWarmN (d : Part) (t : Nat) (s : State) : Host.Outcome State Fault Refusal :=
  stepSettle "WARM_N" true t s (fun s => s.warmReset d 2)

/-- PF0_FLR (R349, R485): LAST 3. -/
def execPf0Flr (t : Nat) (s : State) : Host.Outcome State Fault Refusal :=
  stepSettle "PF0_FLR" true t s (fun s => s.warmReset .sw 3)

/-- WARM in CFG_RESET_CTRL (R485): LAST 4. -/
def execWarm (d : Part) (t : Nat) (s : State) : Host.Outcome State Fault Refusal :=
  hostSettle "WARM" true d (wr A.CFG_RESET_CTRL) t s (fun s => s.warmReset d 4)

/-- WARM_RESET_DONE (R485). -/
def execWarmResetDone (d : Part) (t : Nat) (s : State) : Host.Outcome State Fault Refusal :=
  stepSettle "WARM_RESET_DONE" true t s (fun s => s.warmDone d)

/-- DOMAIN_RESET in CFG_RESET_CTRL (R487): the demand domains, and domain 27, are the switch's. -/
def execDomainReset (d : Part) (dom t : Nat) (s : State) : Host.Outcome State Fault Refusal :=
  hostSettle "DOMAIN_RESET" (decide (dom < 32)) d (wr A.CFG_RESET_CTRL) t s (fun s => match d with | .sw => s.domainReset dom | .ep => s)

/-- PERST_N (R487): domain 27 alone is reset. -/
def execPerstN (t : Nat) (s : State) : Host.Outcome State Fault Refusal :=
  stepSettle "PERST_N" true t s (fun s => s.domainReset 27)

/-- POWER_LOSS (R498). -/
def execPowerLoss (d : Part) (t : Nat) (s : State) : Host.Outcome State Fault Refusal :=
  stepSettle "POWER_LOSS" true t s (fun s => s.powerLoss d)

/-- BOUNDARY_SCAN (R494). -/
def execBoundaryScan (d : Part) (bits : List Bool) (t : Nat) (s : State) : Host.Outcome State Fault Refusal :=
  stepSettle "BOUNDARY_SCAN" true t s (fun s => s.scan d bits)

end Sys2Proof.Machine
end

