-- ==== Sys2Proof/Machine/KettleSteps.lean ====
section
/-! DEFINITION. Commands of Kettle: domains, clocks, the voltage-request link, the power cap, and the margin planner
(spec/17). -/

namespace Sys2Proof.Machine

/-- A demand domain (Table 17.1). -/
def okDomain (dom : Nat) : Bool := demandDomains.contains dom

/-- DOMAIN_WAKE_DONE (R443). -/
def execDomainWakeDone (dom t : Nat) (s : State) : Host.Outcome State Fault Refusal :=
  stepSettle "DOMAIN_WAKE_DONE" (okDomain dom) t s (fun s => s.domainOn dom)

/-- DOMAIN_WAKE_TIMEOUT (R444). -/
def execDomainWakeTimeout (dom t : Nat) (s : State) : Host.Outcome State Fault Refusal :=
  stepSettle "DOMAIN_WAKE_TIMEOUT" (okDomain dom) t s (fun s => s.wakeTimeout dom)

/-- DOMAIN_OFF_TIMER (R443). -/
def execDomainOffTimer (dom t : Nat) (s : State) : Host.Outcome State Fault Refusal :=
  stepSettle "DOMAIN_OFF_TIMER" (okDomain dom) t s (fun s => s.offTimer dom)

/-- CLOCK_LEVEL_STEP (R445): clock 0 core, 1 arithmetic, 2 sequencer. -/
def execClockLevelStep (clk : Nat) (up : Bool) (t : Nat) (s : State) : Host.Outcome State Fault Refusal :=
  stepSettle "CLOCK_LEVEL_STEP" (decide (clk < 3)) t s (fun s => s.clockStep clk up)

/-- VR_REPLY (R448 to R450). -/
def execVrReply (frame : BitVec 32) (t : Nat) (s : State) : Host.Outcome State Fault Refusal :=
  stepSettle "VR_REPLY" true t s (fun s => s.vrReply frame)

/-- VR_REPLY_TIMEOUT (R450). -/
def execVrReplyTimeout (t : Nat) (s : State) : Host.Outcome State Fault Refusal :=
  stepSettle "VR_REPLY_TIMEOUT" true t s (fun s => s.vrTimeout)

/-- VR_KEEPALIVE_TIMER (R448). -/
def execVrKeepaliveTimer (t : Nat) (s : State) : Host.Outcome State Fault Refusal :=
  stepSettle "VR_KEEPALIVE_TIMER" true t s (fun s => s.vrKeepalive)

/-- EST_UPDATE (R451). -/
def execEstUpdate (t : Nat) (s : State) : Host.Outcome State Fault Refusal :=
  stepSettle "EST_UPDATE" true t s (fun s => s.estUpdate)

/-- FLOOR_RECOMPUTE (R453). -/
def execFloorRecompute (t : Nat) (s : State) : Host.Outcome State Fault Refusal :=
  stepSettle "FLOOR_RECOMPUTE" true t s (fun s => s.floorRecompute)

/-- CAP_WINDOW (R455). -/
def execCapWindow (t : Nat) (s : State) : Host.Outcome State Fault Refusal :=
  stepSettle "CAP_WINDOW" true t s (fun s => s.capWindow)

/-- AGEING_MONITOR_READ (R459): one slack for each of the 128 monitors. -/
def execAgeingMonitorRead (slacks : List Int) (t : Nat) (s : State) : Host.Outcome State Fault Refusal :=
  stepSettle "AGEING_MONITOR_READ" (slacks.length == 128) t s (fun s => s.monitorRead slacks)

/-- MARGIN_PLAN (R459, R460). -/
def execMarginPlan (t : Nat) (s : State) : Host.Outcome State Fault Refusal :=
  stepSettle "MARGIN_PLAN" true t s (fun s => s.marginPlan)

/-- AGEING_LOG_DAILY (R463). -/
def execAgeingLogDaily (t : Nat) (s : State) : Host.Outcome State Fault Refusal :=
  stepSettle "AGEING_LOG_DAILY" true t s (fun s => s.agelogDaily)

/-- EQ_RECOMPUTE (R461): new coefficients for one of a link's 17 data lanes are stored. -/
def execEqRecompute (d : Part) (p lane coeff t : Nat) (s : State) : Host.Outcome State Fault Refusal :=
  stepSettle "EQ_RECOMPUTE" (okPort d p && decide (lane < 17)) t s (fun s => s.storeCoeff d p lane coeff)

end Sys2Proof.Machine
end

