-- ==== Sys2Proof/Machine/Scalar.lean ====
section
/-! DEFINITION. Scalar, control, branch, local-memory and register-set instructions of a Linal core (R247 to R250). The
word is fetched at the core's PC; the step happens when that word is the instruction named and the core can take it. -/

namespace Sys2Proof.Machine

/-! ### Shared forms -/

/-- A step of a core: the core must be one of the 64. -/
def coreStep (name : String) (n t : Nat) (s : State) (f : State → State) : Host.Outcome State Fault Refusal :=
  stepIf name (okCore n) t s f

/-- sd = f (sa, sb). -/
def State.alu (s : State) (n op : Nat) (f : Word → Word → Word) : State :=
  s.instr n (opIs op) (fun w s =>
    s.retireS n (wSd w) (f ((s.core n).sreg (wSa w)) ((s.core n).sreg (wSb w))))

/-- sd = f (sa, sext(IMM)). -/
def State.aluImm (s : State) (n op : Nat) (f : Word → Word → Word) : State :=
  s.instr n (opIs op) (fun w s => s.retireS n (wSd w) (f ((s.core n).sreg (wSa w)) (wImmX w)))

/-- sd = a value. -/
def State.aluVal (s : State) (n op : Nat) (f : State → Nat → Word) : State :=
  s.instr n (opIs op) (fun w s => s.retireS n (wSd w) (f s w))

/-- A comparison's result. -/
def flagWord (b : Bool) : Word := if b then 1 else 0

/-- The shift amount of R247: bits [5:0]. -/
def shiftOf (x : Word) : Nat := x.toNat % 64

/-- A jump to `target` (R248): ALIGN when it is no multiple of 8, LOCAL_RANGE when it lies outside the code region. -/
def State.jump (s : State) (n : Nat) (target : Word) (go : State → State) : State :=
  if target.toNat % 8 ≠ 0 then s.except n Exc.ALIGN (target.toNat % 2 ^ 46)
  else if (s.core n).codeBytes ≤ target.toNat then s.except n Exc.LOCAL_RANGE (target.toNat % 2 ^ 46)
  else (go s).retireTo n target.toNat

/-- The relative target: PC + 8 × sext(IMM). -/
def State.relative (s : State) (n w : Nat) : Word := BitVec.ofNat 64 (s.pc n) + 8 * wImmX w

/-- A branch (Table 10.4). -/
def State.branch (s : State) (n op : Nat) (taken : Word → Word → Bool) : State :=
  s.instr n (opIs op) (fun w s =>
    if taken ((s.core n).sreg (wSa w)) ((s.core n).sreg (wSb w)) then s.jump n (s.relative n w) id else s.retireI n)

/-- The local address sa + sext(IMM). -/
def State.localAddr (s : State) (n w : Nat) : Nat := ((s.core n).sreg (wSa w) + wImmX w).toNat

/-- A load of `size` bytes, sign-extended or not (R249). `ue` says that the code cannot correct the word. -/
def State.load (s : State) (n op size : Nat) (signed ue : Bool) : State :=
  s.instr n (opIs op) (fun w s =>
    let a := s.localAddr n w
    s.localAcc n a size false (fun s =>
      if ue then s.localEcc n a
      else
        let x := Memory.num (s.core n).mem a size
        s.retireS n (wSd w) (if signed then BitVec.ofInt 64 (signedOf (8 * size) x) else BitVec.ofNat 64 x)))

/-- A store of the low `size` bytes of sb (R249). -/
def State.store (s : State) (n op size : Nat) : State :=
  s.instr n (opIs op) (fun w s =>
    let a := s.localAddr n w
    s.localAcc n a size true (fun s =>
      (s.setLocal n a (leBytes size ((s.core n).sreg (wSb w)).toNat)).retireI n))

/-! ### Scalar and control instructions (Table 10.3) -/

/-- NOP: no effect beyond the PC. -/
def execNop (n t : Nat) (s : State) : Host.Outcome State Fault Refusal :=
  coreStep "NOP" n t s (fun s => s.instr n (opIs 0x01) (fun _ s => s.retireI n))

/-- BREAK (R232): raises BREAK with DETAIL = IMM. -/
def execBreak (n t : Nat) (s : State) : Host.Outcome State Fault Refusal :=
  coreStep "BREAK" n t s (fun s => s.instr n (opIs 0x02) (fun w s => s.except n Exc.BREAK (wImm w)))

/-- RDCYC: core cycles since START. -/
def execRdcyc (n t : Nat) (s : State) : Host.Outcome State Fault Refusal :=
  coreStep "RDCYC" n t s (fun s => s.aluVal n 0x03 (fun s _ => BitVec.ofNat 64 ((s.core n).cycles / 160)))

/-- RDTIME: ns since power-on reset. -/
def execRdtime (n t : Nat) (s : State) : Host.Outcome State Fault Refusal :=
  coreStep "RDTIME" n t s (fun s => s.aluVal n 0x04 (fun s _ => BitVec.ofNat 64 (s.time .sw)))

/-- RDID: node id and logical core number. -/
def execRdid (n t : Nat) (s : State) : Host.Outcome State Fault Refusal :=
  coreStep "RDID" n t s (fun s => s.aluVal n 0x05 (fun s _ => BitVec.ofNat 64 ((s.dev .sw).node * 256 + n)))

/-- ADD: sd = sa + sb. -/
def execAdd (n t : Nat) (s : State) : Host.Outcome State Fault Refusal :=
  coreStep "ADD" n t s (fun s => s.alu n 0x10 (fun a b => a + b))

/-- SUB: sd = sa − sb. -/
def execSub (n t : Nat) (s : State) : Host.Outcome State Fault Refusal :=
  coreStep "SUB" n t s (fun s => s.alu n 0x11 (fun a b => a - b))

/-- AND: sd = sa AND sb. -/
def execAnd (n t : Nat) (s : State) : Host.Outcome State Fault Refusal :=
  coreStep "AND" n t s (fun s => s.alu n 0x12 (fun a b => a &&& b))

/-- OR: sd = sa OR sb. -/
def execOr (n t : Nat) (s : State) : Host.Outcome State Fault Refusal :=
  coreStep "OR" n t s (fun s => s.alu n 0x13 (fun a b => a ||| b))

/-- XOR: sd = sa XOR sb. -/
def execXor (n t : Nat) (s : State) : Host.Outcome State Fault Refusal :=
  coreStep "XOR" n t s (fun s => s.alu n 0x14 (fun a b => a ^^^ b))

/-- SLL: sd = sa << sb[5:0]. -/
def execSll (n t : Nat) (s : State) : Host.Outcome State Fault Refusal :=
  coreStep "SLL" n t s (fun s => s.alu n 0x15 (fun a b => a <<< shiftOf b))

/-- SRL: Logical right shift. -/
def execSrl (n t : Nat) (s : State) : Host.Outcome State Fault Refusal :=
  coreStep "SRL" n t s (fun s => s.alu n 0x16 (fun a b => a >>> shiftOf b))

/-- SRA: Arithmetic right shift. -/
def execSra (n t : Nat) (s : State) : Host.Outcome State Fault Refusal :=
  coreStep "SRA" n t s (fun s => s.alu n 0x17 (fun a b => a.sshiftRight (shiftOf b)))

/-- MUL: Low 64 bits of the product. -/
def execMul (n t : Nat) (s : State) : Host.Outcome State Fault Refusal :=
  coreStep "MUL" n t s (fun s => s.alu n 0x18 (fun a b => a * b))

/-- MULHU: High 64 bits of the unsigned product. -/
def execMulhu (n t : Nat) (s : State) : Host.Outcome State Fault Refusal :=
  coreStep "MULHU" n t s (fun s => s.alu n 0x19 (fun a b => BitVec.ofNat 64 (a.toNat * b.toNat / 2 ^ 64)))

/-- DIVU: Unsigned quotient; all-ones by zero. -/
def execDivu (n t : Nat) (s : State) : Host.Outcome State Fault Refusal :=
  coreStep "DIVU" n t s (fun s => s.alu n 0x1A (fun a b => if b = 0 then BitVec.allOnes 64 else a / b))

/-- REMU: Unsigned remainder; the dividend by zero. -/
def execRemu (n t : Nat) (s : State) : Host.Outcome State Fault Refusal :=
  coreStep "REMU" n t s (fun s => s.alu n 0x1B (fun a b => if b = 0 then a else a % b))

/-- SLT: sd = 1 if sa < sb, signed. -/
def execSlt (n t : Nat) (s : State) : Host.Outcome State Fault Refusal :=
  coreStep "SLT" n t s (fun s => s.alu n 0x1C (fun a b => flagWord (a.slt b)))

/-- SLTU: sd = 1 if sa < sb, unsigned. -/
def execSltu (n t : Nat) (s : State) : Host.Outcome State Fault Refusal :=
  coreStep "SLTU" n t s (fun s => s.alu n 0x1D (fun a b => flagWord (a.ult b)))

/-- ADDI: sd = sa + sext(IMM). -/
def execAddi (n t : Nat) (s : State) : Host.Outcome State Fault Refusal :=
  coreStep "ADDI" n t s (fun s => s.aluImm n 0x20 (fun a i => a + i))

/-- ANDI: sd = sa AND sext(IMM). -/
def execAndi (n t : Nat) (s : State) : Host.Outcome State Fault Refusal :=
  coreStep "ANDI" n t s (fun s => s.aluImm n 0x22 (fun a i => a &&& i))

/-- ORI: sd = sa OR sext(IMM). -/
def execOri (n t : Nat) (s : State) : Host.Outcome State Fault Refusal :=
  coreStep "ORI" n t s (fun s => s.aluImm n 0x23 (fun a i => a ||| i))

/-- XORI: sd = sa XOR sext(IMM). -/
def execXori (n t : Nat) (s : State) : Host.Outcome State Fault Refusal :=
  coreStep "XORI" n t s (fun s => s.aluImm n 0x24 (fun a i => a ^^^ i))

/-- SLLI: Left shift by IMM[5:0]. -/
def execSlli (n t : Nat) (s : State) : Host.Outcome State Fault Refusal :=
  coreStep "SLLI" n t s (fun s => s.aluImm n 0x25 (fun a i => a <<< shiftOf i))

/-- SRLI: Logical right shift by IMM[5:0]. -/
def execSrli (n t : Nat) (s : State) : Host.Outcome State Fault Refusal :=
  coreStep "SRLI" n t s (fun s => s.aluImm n 0x26 (fun a i => a >>> shiftOf i))

/-- SRAI: Arithmetic right shift by IMM[5:0]. -/
def execSrai (n t : Nat) (s : State) : Host.Outcome State Fault Refusal :=
  coreStep "SRAI" n t s (fun s => s.aluImm n 0x27 (fun a i => a.sshiftRight (shiftOf i)))

/-- SLTI: sd = 1 if sa < sext(IMM), signed. -/
def execSlti (n t : Nat) (s : State) : Host.Outcome State Fault Refusal :=
  coreStep "SLTI" n t s (fun s => s.aluImm n 0x2C (fun a i => flagWord (a.slt i)))

/-- SLTIU: sd = 1 if sa < sext(IMM), unsigned. -/
def execSltiu (n t : Nat) (s : State) : Host.Outcome State Fault Refusal :=
  coreStep "SLTIU" n t s (fun s => s.aluImm n 0x2D (fun a i => flagWord (a.ult i)))

/-- LI: sd = sext(IMM). -/
def execLi (n t : Nat) (s : State) : Host.Outcome State Fault Refusal :=
  coreStep "LI" n t s (fun s => s.aluVal n 0x2E (fun _ w => wImmX w))

/-- LIH: sd[63:32] = IMM; sd[31:0] is kept. -/
def execLih (n t : Nat) (s : State) : Host.Outcome State Fault Refusal :=
  coreStep "LIH" n t s (fun s => s.aluVal n 0x2F (fun s w => BitVec.ofNat 64 (wImm w * 2 ^ 32 + ((s.core n).sreg (wSd w)).toNat % 2 ^ 32)))

/-! ### Branches (Table 10.4) -/

/-- BEQ (R248). -/
def execBeq (n t : Nat) (s : State) : Host.Outcome State Fault Refusal :=
  coreStep "BEQ" n t s (fun s => s.branch n 0x30 (fun a b => a == b))

/-- BNE (R248). -/
def execBne (n t : Nat) (s : State) : Host.Outcome State Fault Refusal :=
  coreStep "BNE" n t s (fun s => s.branch n 0x31 (fun a b => a != b))

/-- BLT (R248). -/
def execBlt (n t : Nat) (s : State) : Host.Outcome State Fault Refusal :=
  coreStep "BLT" n t s (fun s => s.branch n 0x32 (fun a b => a.slt b))

/-- BGE (R248). -/
def execBge (n t : Nat) (s : State) : Host.Outcome State Fault Refusal :=
  coreStep "BGE" n t s (fun s => s.branch n 0x33 (fun a b => ! a.slt b))

/-- BLTU (R248). -/
def execBltu (n t : Nat) (s : State) : Host.Outcome State Fault Refusal :=
  coreStep "BLTU" n t s (fun s => s.branch n 0x34 (fun a b => a.ult b))

/-- BGEU (R248). -/
def execBgeu (n t : Nat) (s : State) : Host.Outcome State Fault Refusal :=
  coreStep "BGEU" n t s (fun s => s.branch n 0x35 (fun a b => ! a.ult b))

/-- JAL (R248): writes PC + 8 to sd and jumps. -/
def execJal (n t : Nat) (s : State) : Host.Outcome State Fault Refusal :=
  coreStep "JAL" n t s (fun s => s.instr n (opIs 0x38) (fun w s =>
    let link := BitVec.ofNat 64 (s.pc n + 8)
    s.jump n (s.relative n w) (fun s => s.modCore n (fun c => c.setS (wSd w) link))))

/-- JALR (R248): reads sa, writes PC + 8 to sd, and jumps to sa + 8 × sext(IMM). -/
def execJalr (n t : Nat) (s : State) : Host.Outcome State Fault Refusal :=
  coreStep "JALR" n t s (fun s => s.instr n (opIs 0x39) (fun w s =>
    let link := BitVec.ofNat 64 (s.pc n + 8)
    s.jump n ((s.core n).sreg (wSa w) + 8 * wImmX w) (fun s => s.modCore n (fun c => c.setS (wSd w) link))))

/-! ### Local memory and register sets (Table 10.5) -/

/-- LD.1 (R249). -/
def execLd1 (n : Nat) (ue : Bool) (t : Nat) (s : State) : Host.Outcome State Fault Refusal :=
  coreStep "LD_1" n t s (fun s => s.load n 0x40 1 false ue)

/-- LD.2 (R249). -/
def execLd2 (n : Nat) (ue : Bool) (t : Nat) (s : State) : Host.Outcome State Fault Refusal :=
  coreStep "LD_2" n t s (fun s => s.load n 0x41 2 false ue)

/-- LD.4 (R249). -/
def execLd4 (n : Nat) (ue : Bool) (t : Nat) (s : State) : Host.Outcome State Fault Refusal :=
  coreStep "LD_4" n t s (fun s => s.load n 0x42 4 false ue)

/-- LD.8 (R249). -/
def execLd8 (n : Nat) (ue : Bool) (t : Nat) (s : State) : Host.Outcome State Fault Refusal :=
  coreStep "LD_8" n t s (fun s => s.load n 0x43 8 false ue)

/-- LDS.1 (R249). -/
def execLds1 (n : Nat) (ue : Bool) (t : Nat) (s : State) : Host.Outcome State Fault Refusal :=
  coreStep "LDS_1" n t s (fun s => s.load n 0x44 1 true ue)

/-- LDS.2 (R249). -/
def execLds2 (n : Nat) (ue : Bool) (t : Nat) (s : State) : Host.Outcome State Fault Refusal :=
  coreStep "LDS_2" n t s (fun s => s.load n 0x45 2 true ue)

/-- LDS.4 (R249). -/
def execLds4 (n : Nat) (ue : Bool) (t : Nat) (s : State) : Host.Outcome State Fault Refusal :=
  coreStep "LDS_4" n t s (fun s => s.load n 0x46 4 true ue)

/-- ST.1 (R249). -/
def execSt1 (n t : Nat) (s : State) : Host.Outcome State Fault Refusal :=
  coreStep "ST_1" n t s (fun s => s.store n 0x48 1)

/-- ST.2 (R249). -/
def execSt2 (n t : Nat) (s : State) : Host.Outcome State Fault Refusal :=
  coreStep "ST_2" n t s (fun s => s.store n 0x49 2)

/-- ST.4 (R249). -/
def execSt4 (n t : Nat) (s : State) : Host.Outcome State Fault Refusal :=
  coreStep "ST_4" n t s (fun s => s.store n 0x4A 4)

/-- ST.8 (R249). -/
def execSt8 (n t : Nat) (s : State) : Host.Outcome State Fault Refusal :=
  coreStep "ST_8" n t s (fun s => s.store n 0x4B 8)

/-- CSET (R250): cN = sa. -/
def execCset (n t : Nat) (s : State) : Host.Outcome State Fault Refusal :=
  coreStep "CSET" n t s (fun s => s.instr n (opIs 0x50) (fun w s =>
    (s.modCore n (fun c => c.setC (wCn w) (c.sreg (wSa w)))).retireI n))

/-- CGET: sd = cN, with N in SB. -/
def execCget (n t : Nat) (s : State) : Host.Outcome State Fault Refusal :=
  coreStep "CGET" n t s (fun s => s.aluVal n 0x51 (fun s w => (s.core n).creg (bitsOf w 21 18)))

/-- CADD: cN.TARGET = (TARGET + sa) mod 2^48. -/
def execCadd (n t : Nat) (s : State) : Host.Outcome State Fault Refusal :=
  coreStep "CADD" n t s (fun s => s.instr n (opIs 0x52) (fun w s =>
    (s.modCore n (fun c =>
      let x := c.creg (wCn w)
      c.setC (wCn w) (BitVec.ofNat 64 (setBits x.toNat 47 0 (ctrTarget x + (c.sreg (wSa w)).toNat))))).retireI n))

/-- CLD: loads cN from 8 aligned bytes. -/
def execCld (n : Nat) (ue : Bool) (t : Nat) (s : State) : Host.Outcome State Fault Refusal :=
  coreStep "CLD" n t s (fun s => s.instr n (opIs 0x53) (fun w s =>
    let a := s.localAddr n w
    s.localAcc n a 8 false (fun s =>
      if ue then s.localEcc n a
      else (s.modCore n (fun c => c.setC (wCn w) (BitVec.ofNat 64 (Memory.num c.mem a 8)))).retireI n)))

/-- CST: stores cN to 8 aligned bytes. -/
def execCst (n t : Nat) (s : State) : Host.Outcome State Fault Refusal :=
  coreStep "CST" n t s (fun s => s.instr n (opIs 0x54) (fun w s =>
    let a := s.localAddr n w
    s.localAcc n a 8 true (fun s => (s.setLocal n a (leBytes 8 ((s.core n).creg (wCn w)).toNat)).retireI n)))

/-- DLD (R250): loads dN from 32 aligned bytes, unchecked. -/
def execDld (n : Nat) (ue : Bool) (t : Nat) (s : State) : Host.Outcome State Fault Refusal :=
  coreStep "DLD" n t s (fun s => s.instr n (opIs 0x58) (fun w s =>
    let a := s.localAddr n w
    s.localAcc n a 32 false (fun s =>
      if ue then s.localEcc n a
      else (s.modCore n (fun c => c.setD (wDn w) (Memory.num c.mem a 32))).retireI n)))

/-- DST: stores dN to 32 aligned bytes. -/
def execDst (n t : Nat) (s : State) : Host.Outcome State Fault Refusal :=
  coreStep "DST" n t s (fun s => s.instr n (opIs 0x59) (fun w s =>
    let a := s.localAddr n w
    s.localAcc n a 32 true (fun s => (s.setLocal n a (leBytes 32 ((s.core n).dreg (wDn w)))).retireI n)))

/-- DADDR: dN.ADDR = (ADDR + sa) mod 2^64. -/
def execDaddr (n t : Nat) (s : State) : Host.Outcome State Fault Refusal :=
  coreStep "DADDR" n t s (fun s => s.instr n (opIs 0x5A) (fun w s =>
    (s.modCore n (fun c =>
      let d := c.dreg (wDn w)
      c.setD (wDn w) (setBits d 255 192 (dAddr d + (c.sreg (wSa w)).toNat)))).retireI n))

/-- ILLEGAL (R243): the word at the PC has no meaning, or there is none to fetch. -/
def execIllegal (n t : Nat) (s : State) : Host.Outcome State Fault Refusal :=
  coreStep "ILLEGAL" n t s (fun s => s.illegal n)

end Sys2Proof.Machine
end

