-- ==== Sys2Proof/Machine/SecuritySteps.lean ====
section
/-! DEFINITION. The steps of the security island (spec/15). A request is in a session, or on a transport `tr`; `bad`
says that a command's bytes are malformed. -/

namespace Sys2Proof.Machine

/-- OWNER_SET (R400). -/
def execOwnerSet (ses : SesMsg) (bad : Bool) (key t : Nat) (s : State) : Host.Outcome State Fault Refusal :=
  stepIf "OWNER_SET" (okTransport .sw ses.via) t s (fun s => s.heardIn .sw ses (fun s => s.ownerSet ses.id bad key))

/-- OWNER_CLEAR (R400). -/
def execOwnerClear (ses : SesMsg) (bad : Bool) (t : Nat) (s : State) : Host.Outcome State Fault Refusal :=
  stepSettle "OWNER_CLEAR" (okTransport .sw ses.via) t s (fun s => s.heardIn .sw ses (fun s => s.ownerClear ses.id bad))

/-- TENANT_CREATE (R395). -/
def execTenantCreate (ses : SesMsg) (bad : Bool) (tenant key t : Nat) (s : State) : Host.Outcome State Fault Refusal :=
  stepIf "TENANT_CREATE" (okTransport .sw ses.via) t s (fun s => s.heardIn .sw ses (fun s => s.tenantCreate ses.id bad tenant key))

/-- TENANT_REMOVE (R410). -/
def execTenantRemove (ses : SesMsg) (bad : Bool) (tenant t : Nat) (s : State) : Host.Outcome State Fault Refusal :=
  stepSettle "TENANT_REMOVE" (okTransport .sw ses.via) t s (fun s => s.heardIn .sw ses (fun s => s.tenantRemove ses bad tenant))

/-- TENANT_ZEROING_DONE (R410). -/
def execTenantZeroingDone (tenant t : Nat) (s : State) : Host.Outcome State Fault Refusal :=
  stepSettle "TENANT_ZEROING_DONE" true t s (fun s => (s.zeroingDone tenant).tileCmds)

/-- PROGKEY_ADD (R400). -/
def execProgkeyAdd (ses : SesMsg) (bad : Bool) (tenant key t : Nat) (s : State) : Host.Outcome State Fault Refusal :=
  stepIf "PROGKEY_ADD" (okTransport .sw ses.via) t s (fun s => s.heardIn .sw ses (fun s => s.progkeyAdd ses.id bad tenant key))

/-- PROGKEY_DEL (R400). -/
def execProgkeyDel (ses : SesMsg) (bad : Bool) (tenant key t : Nat) (s : State) : Host.Outcome State Fault Refusal :=
  stepIf "PROGKEY_DEL" (okTransport .sw ses.via) t s (fun s => s.heardIn .sw ses (fun s => s.progkeyDel ses.id bad tenant key))

/-- ROLLBACK_SET (R393). -/
def execRollbackSet (ses : SesMsg) (bad : Bool) (prog version t : Nat) (s : State) : Host.Outcome State Fault Refusal :=
  stepIf "ROLLBACK_SET" (okTransport .sw ses.via) t s (fun s => s.heardIn .sw ses (fun s => s.rollbackSet ses.id bad prog version))

/-- EPOCH_ADVANCE (R401). -/
def execEpochAdvance (ses : SesMsg) (bad : Bool) (tenant t : Nat) (s : State) : Host.Outcome State Fault Refusal :=
  stepIf "EPOCH_ADVANCE" (okTransport .sw ses.via) t s (fun s => s.heardIn .sw ses (fun s => s.epochAdvance ses.id bad tenant))

/-- EPOCH_RETIRE (R403). -/
def execEpochRetire (ses : SesMsg) (bad : Bool) (tenant t : Nat) (s : State) : Host.Outcome State Fault Refusal :=
  stepSettle "EPOCH_RETIRE" (okTransport .sw ses.via) t s (fun s => s.heardIn .sw ses (fun s => s.epochRetire ses.id bad tenant))

/-- QUEUE_KEY_GET (R395). -/
def execQueueKeyGet (ses : SesMsg) (bad : Bool) (tenant q kind t : Nat) (s : State) : Host.Outcome State Fault Refusal :=
  stepIf "QUEUE_KEY_GET" (okTransport .sw ses.via) t s (fun s => s.heardIn .sw ses (fun s => s.queueKeyGet ses.id bad tenant q kind))

/-- CONF_ENTER (R404). -/
def execConfEnter (ses : SesMsg) (bad : Bool) (t : Nat) (s : State) : Host.Outcome State Fault Refusal :=
  stepSettle "CONF_ENTER" (okTransport .sw ses.via) t s (fun s => s.heardIn .sw ses (fun s => s.confEnter ses.id bad))

/-- CONF_EXIT (R400). -/
def execConfExit (ses : SesMsg) (bad : Bool) (t : Nat) (s : State) : Host.Outcome State Fault Refusal :=
  stepSettle "CONF_EXIT" (okTransport .sw ses.via) t s (fun s => s.heardIn .sw ses (fun s => s.confExit ses.id bad))

/-- DEBUG_OPEN (R400). -/
def execDebugOpen (ses : SesMsg) (bad : Bool) (t : Nat) (s : State) : Host.Outcome State Fault Refusal :=
  stepIf "DEBUG_OPEN" (okTransport .sw ses.via) t s (fun s => s.heardIn .sw ses (fun s => s.debugOpen ses.id bad))

/-- WEIGHT_KEY_PUT (R407). -/
def execWeightKeyPut (ses : SesMsg) (bad : Bool) (key object base size tagBase tenant t : Nat) (s : State) : Host.Outcome State Fault Refusal :=
  stepIf "WEIGHT_KEY_PUT" (okTransport .ep ses.via) t s (fun s => s.heardIn .ep ses (fun s => s.weightPut ses.id bad key object base size tagBase tenant))

/-- WEIGHT_KEY_DESTROY (R400, R412). -/
def execWeightKeyDestroy (ses : SesMsg) (bad : Bool) (slot t : Nat) (s : State) : Host.Outcome State Fault Refusal :=
  stepSettle "WEIGHT_KEY_DESTROY" (okTransport .ep ses.via) t s (fun s => s.heardIn .ep ses (fun s => s.weightDestroy ses.id bad slot))

/-- GET_VERSION (R398). -/
def execGetVersion (d : Part) (tr : Transport) (t : Nat) (s : State) : Host.Outcome State Fault Refusal :=
  stepIf "GET_VERSION" (okTransport d tr) t s (fun s => s.carried tr (fun s => s.getVersion d tr.num))

/-- GET_CAPABILITIES (R398). -/
def execGetCapabilities (d : Part) (tr : Transport) (t : Nat) (s : State) : Host.Outcome State Fault Refusal :=
  stepIf "GET_CAPABILITIES" (okTransport d tr) t s (fun s => s.carried tr (fun s => s.getCapabilities d tr.num))

/-- NEGOTIATE_ALGORITHMS (R398). -/
def execNegotiateAlgorithms (d : Part) (tr : Transport) (offers : Bool) (t : Nat) (s : State) : Host.Outcome State Fault Refusal :=
  stepIf "NEGOTIATE_ALGORITHMS" (okTransport d tr) t s (fun s => s.carried tr (fun s => s.negotiate d tr.num offers))

/-- GET_DIGESTS (R398). -/
def execGetDigests (d : Part) (tr : Transport) (t : Nat) (s : State) : Host.Outcome State Fault Refusal :=
  stepIf "GET_DIGESTS" (okTransport d tr) t s (fun s => s.carried tr (fun s => s.getDigests d tr.num))

/-- GET_CERTIFICATE (R398). -/
def execGetCertificate (d : Part) (tr : Transport) (slot t : Nat) (s : State) : Host.Outcome State Fault Refusal :=
  stepIf "GET_CERTIFICATE" (okTransport d tr) t s (fun s => s.carried tr (fun s => s.getCertificate d tr.num slot))

/-- CHALLENGE (R398, R399). -/
def execChallenge (d : Part) (tr : Transport) (slot t : Nat) (s : State) : Host.Outcome State Fault Refusal :=
  stepIf "CHALLENGE" (okTransport d tr) t s (fun s => s.carried tr (fun s => s.challenge d tr.num slot))

/-- GET_MEASUREMENTS (R397, R398). -/
def execGetMeasurements (d : Part) (tr : Transport) (index t : Nat) (s : State) : Host.Outcome State Fault Refusal :=
  stepIf "GET_MEASUREMENTS" (okTransport d tr) t s (fun s => s.carried tr (fun s => s.getMeasurements d tr.num index))

/-- KEY_EXCHANGE (R398). -/
def execKeyExchange (d : Part) (tr : Transport) (slot : Nat) (auth : Bool) (t : Nat) (s : State) : Host.Outcome State Fault Refusal :=
  stepIf "KEY_EXCHANGE" (okTransport d tr) t s (fun s => s.carried tr (fun s => s.keyExchange d tr.num slot auth))

/-- FINISH (R398, R399). -/
def execFinish (d : Part) (ses : SesMsg) (ok : Bool) (cred : Option Nat) (t : Nat) (s : State) : Host.Outcome State Fault Refusal :=
  stepIf "FINISH" (okTransport d ses.via) t s (fun s => s.heardIn d ses (fun s => s.finishSession d ses.id ok cred))

/-- END_SESSION (R398). -/
def execEndSession (d : Part) (ses : SesMsg) (t : Nat) (s : State) : Host.Outcome State Fault Refusal :=
  stepIf "END_SESSION" (okTransport d ses.via) t s (fun s => s.heardIn d ses (fun s => s.inSession d ses.id (fun x s => (s.endSession d ses.id).spdm d x.tr (.endSession ses.id))))

/-- SPDM_HEARTBEAT (R398). -/
def execSpdmHeartbeat (d : Part) (ses : SesMsg) (t : Nat) (s : State) : Host.Outcome State Fault Refusal :=
  stepIf "SPDM_HEARTBEAT" (okTransport d ses.via) t s (fun s => s.heardIn d ses (fun s => s.inSession d ses.id (fun x s => s.spdm d x.tr (.heartbeat ses.id))))

/-- HYBRID_SIG (R399). -/
def execHybridSig (d : Part) (tr : Transport) (t : Nat) (s : State) : Host.Outcome State Fault Refusal :=
  stepIf "HYBRID_SIG" (okTransport d tr) t s (fun s => s.carried tr (fun s => s.hybridSig d tr.num))

/-- PEER_SIG (R399). -/
def execPeerSig (d : Part) (ses : SesMsg) (env : List Byte) (t : Nat) (s : State) : Host.Outcome State Fault Refusal :=
  stepIf "PEER_SIG" (okTransport d ses.via) t s (fun s => s.heardIn d ses (fun s => s.peerSig d ses.id env))

end Sys2Proof.Machine
end

