-- ==== Sys2Proof/Machine/TierSteps.lean ====
section
/-! DEFINITION. The steps of the memory tiers and of the Caddy flash tier (spec/11), and of the patrol scrubber. -/

namespace Sys2Proof.Machine

/-! ### The patrol scrubber (R277, R418) -/

/-- The tile whose current copy lies at an address of unit 2 (hot tier) or 7 (LPDDR5X tier). -/
def State.tileAtPlace (s : State) (unit addr : Nat) : Option Nat :=
  let tier := if unit = 2 then 1 else 2
  if unit = 2 ∨ unit = 7 then (s.tiers.dir.find? (fun e => e.2.tier == tier && e.2.loc == addr / tileBytes)).map (fun e => e.1)
  else none

/-- The tile whose shadow copy lies at an LPDDR5X address. -/
def State.shadowAtPlace (s : State) (addr : Nat) : Option Nat :=
  (s.tiers.dir.find? (fun e => (e.2.shadow || e.2.copying) && e.2.shadowLoc == addr / tileBytes)).map (fun e => e.1)

/-- A list without entry `k`. -/
def without {α : Type} (l : List α) (k : Nat) : List α := l.take k ++ l.drop (k + 1)

/-- A packet of a device's packet buffer that a free choice picks is dropped (Table 16.2): one that has arrived at a port,
one that waits in an egress queue, or one that waits for its target's step; or the word's cell is free. -/
def State.cellLost (s : State) (d : Part) (k : Nat) : State :=
  let v := s.dev d
  let p := k / 4 % 33
  let c := k / 132 % 8
  let i := k / 1056
  match k % 4 with
  | 0 =>
    match (s.port d p).arrived[i]? with
    | some a => (s.modPort d p (fun q => { q with arrived := without q.arrived i })).freeArrived d p a
    | none => s
  | 1 =>
    match (v.queue p c)[i]? with
    | some x =>
      s.modDev d (fun v => (if i = 0 then v.dequeue s.now p c else v.setQueue p c (without (v.queue p c) i)).freeCells s.now
        x.inPort x.pkt.hdr.cls x.resv x.shared)
    | none => s
  | 2 =>
    match v.inbox[i]? with
    | some x => (s.modDev d (fun v => { v with inbox := without v.inbox i })).consumed d x
    | none => s
  | _ => s

/-- The flight-table entry that a free choice picks is uncorrectable: its transaction, if it holds one, completes
RESULT_UNKNOWN at its agent (Table 16.2). -/
def State.flightLost (s : State) (d : Part) (k : Nat) : State :=
  match (s.dev d).txns[k % 2097152]? with
  | some x => s.retire d x Code.RESULT_UNKNOWN []
  | none => s

/-- What an uncorrectable error does where the scrubber finds it (Table 16.2). -/
def State.patrolBad (s : State) (unit addr : Nat) : State :=
  let s1 := s.ue .sw unit addr
  if unit = 2 ∨ unit = 7 then
    match s.tileAtPlace unit addr, s.shadowAtPlace addr with
    | some t, _ =>
      let x := s1.tile t
      if x.lost || x.migrating then s1
      else if x.backed && ! x.dirty then ((s1.toCaddy t).promote t).1
      else s1.loseTile t
    | none, some t => if unit = 7 then s1.modTile t (fun y => { y with shadowBad := true }) else s1
    | none, none => s1
  else if unit = 3 then
    let v := s1.dev .sw
    match (List.range 256).find? (fun w =>
        decide (v.get (F.RED_WIN_A_BASE w) * 8192 ≤ addr) && decide (addr < (v.get (F.RED_WIN_A_BASE w) + v.get (F.RED_WIN_A_SIZE w)) * 8192)
        && v.get (F.RED_WIN_STATUS_STATE w) == 1) with
    | some w =>
      -- which piece's block lies there is not specified (free, log 1)
      (s1.modWin w (fun x => { x with bad := x.bad ++ [Config.choice s.fresh % v.pieces w] })).draw
    | none => s1
  else if unit = 8 then
    let base := s1.get .sw F.MEM_DIR_BASE_BASE * 65536
    let t := (addr - base) / 16
    if base ≤ addr ∧ t < s1.dirTiles then s1.entryLost t else s1
  else
    -- what the word at an address of these units holds is not specified (free, log 1)
    let k := Config.choice s.fresh
    (if unit = 1 then s1.cellLost .sw k
    else if unit = 4 then s1.flightLost .sw k
    else if unit = 5 then s1.modDev .sw (fun v => { v with chans := without v.chans (k % chanCap .sw) })
    else if unit = 6 then s1.modDev .sw (fun v => { v with xcache := without v.xcache k })
    else s1).draw

/-- PATROL_SCRUB (R277, R13): a word with one or two wrong bits is counted and written back corrected; three are
uncorrectable (Table 16.2). It reads bonded SRAM, units 1 to 6, and LPDDR5X, units 7 and 8. LOST tiles, tiles on the move and shadows in use are not changed (R418): an error in a shadow tells at the
step's end (Table 16.2). From THROTTLE 8 it is deferred (R454). -/
def State.patrol (s : State) (unit addr errs : Nat) : State :=
  if errs = 0 ∨ s.deferred then s
  else if errs ≤ 2 then s.ce .sw unit 1
  else s.patrolBad unit addr

/-- The move that MIGRATION_COMPLETE ends, with what its reads of the source met (R290, R13). -/
def State.migrationDone (s : State) (mv : TileRead) : State :=
  match s.moveOf mv.tile with
  | some m => if m.kind = .migrate then s.copyRead mv.tile mv.ecc (fun s => s.migrated mv.tile) (fun s => s.moveSpoilt mv.tile) else s
  | none => s

/-- MIGRATION_COMPLETE (R290). -/
def execMigrationComplete (mv : TileRead) (t : Nat) (s : State) : Host.Outcome State Fault Refusal :=
  stepSettle "MIGRATION_COMPLETE" true t s (fun s => (s.migrationDone mv).wakeTile mv.tile)

/-- DEMOTION_COMPLETE (R291). -/
def execDemotionComplete (tile t : Nat) (s : State) : Host.Outcome State Fault Refusal :=
  stepSettle "DEMOTION_COMPLETE" true t s (fun s => (s.demoted tile).wakeTile tile)

/-- CADDY_PROMOTION_COMPLETE (R291, R301). -/
def execCaddyPromotionComplete (tile : Nat) (lost retry : Bool) (t : Nat) (s : State) : Host.Outcome State Fault Refusal :=
  stepSettle "CADDY_PROMOTION_COMPLETE" true t s (fun s => (s.promoted tile lost retry).wakeTile tile)

/-- The copy that SHADOW_COPY_DONE ends, with what its reads of the current copy met (R304, R13). -/
def State.shadowRead (s : State) (mv : TileRead) : State :=
  if (s.tile mv.tile).copying then
    s.copyRead mv.tile mv.ecc (fun s => s.shadowDone mv.tile) (fun s => s.shadowSpoilt mv.tile)
  else s

/-- SHADOW_COPY_DONE (R303). -/
def execShadowCopyDone (mv : TileRead) (t : Nat) (s : State) : Host.Outcome State Fault Refusal :=
  stepSettle "SHADOW_COPY_DONE" true t s (fun s => (s.shadowRead mv).wakeTile mv.tile)

/-- WRITE_BUFFER_FLUSH_TIMER (R512). -/
def execWriteBufferFlushTimer (t : Nat) (s : State) : Host.Outcome State Fault Refusal :=
  stepSettle "WRITE_BUFFER_FLUSH_TIMER" true t s (fun s => s.flushPage)

/-- PAGE_PROGRAM_DONE (R298, R299, R301). -/
def execPageProgramDone (out : PageOut) (spare : Bool) (t : Nat) (s : State) : Host.Outcome State Fault Refusal :=
  stepSettle "PAGE_PROGRAM_DONE" true t s (fun s => s.pageDone out spare)

/-- GARBAGE_COLLECT (R298). -/
def execGarbageCollect (t : Nat) (s : State) : Host.Outcome State Fault Refusal :=
  stepSettle "GARBAGE_COLLECT" true t s (fun s => s.collectGarbage)

/-- WEAR_MOVE (R299). -/
def execWearMove (t : Nat) (s : State) : Host.Outcome State Fault Refusal :=
  stepSettle "WEAR_MOVE" true t s (fun s => s.wearMove)

/-- SUPERBLOCK_REFRESH (R300). -/
def execSuperblockRefresh (sb : Nat) (retry : Bool) (t : Nat) (s : State) : Host.Outcome State Fault Refusal :=
  stepSettle "SUPERBLOCK_REFRESH" true t s (fun s => s.refreshSb sb retry)

/-- BLOCK_ERASE_DONE (R299). -/
def execBlockEraseDone (sb : Nat) (ok spare : Bool) (t : Nat) (s : State) : Host.Outcome State Fault Refusal :=
  stepSettle "BLOCK_ERASE_DONE" true t s (fun s => s.eraseDone sb ok spare)

/-- PATROL_SCRUB (R277): the scrubber reads a word of a unit of TEL_UE_LAST, in which `errs` bits are wrong. -/
def execPatrolScrub (unit addr errs t : Nat) (s : State) : Host.Outcome State Fault Refusal :=
  stepSettle "PATROL_SCRUB" (decide (1 ≤ unit) && decide (unit ≤ 8) && decide (errs ≤ 3)) t s (fun s => s.patrol unit addr errs)

/-- CADDY_READY (R295, R481): what was read from the flash, and whether it was read. -/
def execCaddyReady (found : FlashFound) (ok : Bool) (t : Nat) (s : State) : Host.Outcome State Fault Refusal :=
  stepSettle "CADDY_READY" true t s (fun s => s.caddyReady found.geom.toNat found.unbuilt ok)

/-! ### Tile commands (Table 11.6), run by themselves -/

/-- A command of Table 11.6 on a range of tiles, without a packet. -/
def State.runTiles (s : State) (cmd tenant home floor : Nat) (stepver : Bool) (first count : Nat) : State :=
  s.tileCommand (tileCmdFor cmd tenant home floor stepver) first count false

/-- The tenant and the tiers of a command are numbers that its fields can hold (Table 11.5). -/
def okTiers (tenant home floor : Nat) : Bool := decide (tenant < 64) && decide (home < 4) && decide (floor < 4)

/-- MAP. -/
def execMap (first count tenant home floor : Nat) (stepver : Bool) (t : Nat) (s : State) : Host.Outcome State Fault Refusal :=
  stepSettle "MAP" (okTiers tenant home floor) t s (fun s => s.runTiles 1 tenant home floor stepver first count)

/-- FREE. -/
def execFree (first count tenant t : Nat) (s : State) : Host.Outcome State Fault Refusal :=
  stepSettle "FREE" (okTiers tenant 0 0) t s (fun s => s.runTiles 2 tenant 0 0 false first count)

/-- POLICY. -/
def execPolicy (first count tenant home floor : Nat) (stepver : Bool) (t : Nat) (s : State) :
    Host.Outcome State Fault Refusal :=
  stepSettle "POLICY" (okTiers tenant home floor) t s (fun s => s.runTiles 3 tenant home floor stepver first count)

/-- PROMOTE_HOT. -/
def execPromoteHot (first count tenant t : Nat) (s : State) : Host.Outcome State Fault Refusal :=
  stepSettle "PROMOTE_HOT" (okTiers tenant 0 0) t s (fun s => s.runTiles 4 tenant 0 0 false first count)

/-- PROMOTE_DRAM. -/
def execPromoteDram (first count tenant t : Nat) (s : State) : Host.Outcome State Fault Refusal :=
  stepSettle "PROMOTE_DRAM" (okTiers tenant 0 0) t s (fun s => s.runTiles 5 tenant 0 0 false first count)

/-- PIN. -/
def execPin (first count tenant t : Nat) (s : State) : Host.Outcome State Fault Refusal :=
  stepSettle "PIN" (okTiers tenant 0 0) t s (fun s => s.runTiles 6 tenant 0 0 false first count)

/-- UNPIN. -/
def execUnpin (first count tenant t : Nat) (s : State) : Host.Outcome State Fault Refusal :=
  stepSettle "UNPIN" (okTiers tenant 0 0) t s (fun s => s.runTiles 7 tenant 0 0 false first count)

/-- WRITEBACK. -/
def execWriteback (first count tenant t : Nat) (s : State) : Host.Outcome State Fault Refusal :=
  stepSettle "WRITEBACK" (okTiers tenant 0 0) t s (fun s => s.runTiles 8 tenant 0 0 false first count)

/-- DEMOTE. -/
def execDemote (first count tenant t : Nat) (s : State) : Host.Outcome State Fault Refusal :=
  stepSettle "DEMOTE" (okTiers tenant 0 0) t s (fun s => s.runTiles 9 tenant 0 0 false first count)

/-! ### The tier service (R294) -/

/-- OBJ_MAP. -/
def execObjMap (t : Nat) (s : State) : Host.Outcome State Fault Refusal :=
  stepSettle "OBJ_MAP" true t s (fun s => s.objMap)

/-- OBJ_FREE. -/
def execObjFree (t : Nat) (s : State) : Host.Outcome State Fault Refusal :=
  stepSettle "OBJ_FREE" true t s (fun s => s.objFree)

/-- OBJ_POLICY. -/
def execObjPolicy (t : Nat) (s : State) : Host.Outcome State Fault Refusal :=
  stepSettle "OBJ_POLICY" true t s (fun s => s.objPolicy)

/-- TIER_REQ. -/
def execTierReq (t : Nat) (s : State) : Host.Outcome State Fault Refusal :=
  stepSettle "TIER_REQ" true t s (fun s => s.tierReq)

end Sys2Proof.Machine
end

