-- ==== Sys2Proof/Machine/Dispatch.lean ====
section
/-! DEFINITION. The meaning of every command: one arm for each constructor, each a direct call of the command's own
definition. -/

namespace Sys2Proof.Machine

def exec (i : Instr) (s : State) : Host.Outcome State Fault Refusal :=
  match i with
  | .potClaim d t => Sys2Proof.Machine.execPotClaim d t s
  | .potClaimForce d t => Sys2Proof.Machine.execPotClaimForce d t s
  | .potCheck d t => Sys2Proof.Machine.execPotCheck d t s
  | .checkComplete d t => Sys2Proof.Machine.execCheckComplete d t s
  | .potPour d t => Sys2Proof.Machine.execPotPour d t s
  | .pourInstant d t => Sys2Proof.Machine.execPourInstant d t s
  | .potDiscard d t => Sys2Proof.Machine.execPotDiscard d t s
  | .potStagedWrite d addr size v t => Sys2Proof.Machine.execPotStagedWrite d addr size v t s
  | .registerWrite d fn addr size v t => Sys2Proof.Machine.execRegisterWrite d fn addr size v t s
  | .txDataFrame d p n t => Sys2Proof.Machine.execTxDataFrame d p n t s
  | .txIdleFrame d p t => Sys2Proof.Machine.execTxIdleFrame d p t s
  | .dataFrameReceive d p lanes t => Sys2Proof.Machine.execDataFrameReceive d p lanes t s
  | .partnerElectricalIdle d p t => Sys2Proof.Machine.execPartnerElectricalIdle d p t s
  | .recoveryEnd d p ok failed t => Sys2Proof.Machine.execRecoveryEnd d p ok failed t s
  | .controlAck d p ack t => Sys2Proof.Machine.execControlAck d p ack t s
  | .controlNack d p ack t => Sys2Proof.Machine.execControlNack d p ack t s
  | .controlCredit d p body t => Sys2Proof.Machine.execControlCredit d p body t s
  | .controlTs d p ts t => Sys2Proof.Machine.execControlTs d p ts t s
  | .controlNapReq d p t => Sys2Proof.Machine.execControlNapReq d p t s
  | .controlNapAck d p t => Sys2Proof.Machine.execControlNapAck d p t s
  | .controlNapNak d p t => Sys2Proof.Machine.execControlNapNak d p t s
  | .controlDown d p t => Sys2Proof.Machine.execControlDown d p t s
  | .nackRepeatTimeout d p t => Sys2Proof.Machine.execNackRepeatTimeout d p t s
  | .replayProgressTimeout d p t => Sys2Proof.Machine.execReplayProgressTimeout d p t s
  | .creditFrameTimer d p t => Sys2Proof.Machine.execCreditFrameTimer d p t s
  | .creditReturnDeadline d p t => Sys2Proof.Machine.execCreditReturnDeadline d p t s
  | .pourCreditUpdate d p t => Sys2Proof.Machine.execPourCreditUpdate d p t s
  | .creditGraceEnd d p c t => Sys2Proof.Machine.execCreditGraceEnd d p c t s
  | .trainingPhaseDone d p failed coeffs t => Sys2Proof.Machine.execTrainingPhaseDone d p failed coeffs t s
  | .trainingPhaseTimeout d p gone t => Sys2Proof.Machine.execTrainingPhaseTimeout d p gone t s
  | .trainingRetryTimer d p t => Sys2Proof.Machine.execTrainingRetryTimer d p t s
  | .linkNap d p t => Sys2Proof.Machine.execLinkNap d p t s
  | .linkWake d p t => Sys2Proof.Machine.execLinkWake d p t s
  | .napReplyTimeout d p t => Sys2Proof.Machine.execNapReplyTimeout d p t s
  | .deepEntryDone d p t => Sys2Proof.Machine.execDeepEntryDone d p t s
  | .beaconDetect d p t => Sys2Proof.Machine.execBeaconDetect d p t s
  | .clockLaneLoss d p t => Sys2Proof.Machine.execClockLaneLoss d p t s
  | .sprayWeightUpdate d t => Sys2Proof.Machine.execSprayWeightUpdate d t s
  | .edropAverageUpdate t => Sys2Proof.Machine.execEdropAverageUpdate t s
  | .packetForward d p ue t => Sys2Proof.Machine.execPacketForward d p ue t s
  | .pktNodeIdWrite d v t => Sys2Proof.Machine.execPktNodeIdWrite d v t s
  | .pktDrainWrite d k v t => Sys2Proof.Machine.execPktDrainWrite d k v t s
  | .transactionIssue d t => Sys2Proof.Machine.execTransactionIssue d t s
  | .packetAdmit d t => Sys2Proof.Machine.execPacketAdmit d t s
  | .rboundExpiry d txn t => Sys2Proof.Machine.execRboundExpiry d txn t s
  | .targetRead d ue t => Sys2Proof.Machine.execTargetRead d ue t s
  | .targetWrite d ue t => Sys2Proof.Machine.execTargetWrite d ue t s
  | .targetAmo d ue t => Sys2Proof.Machine.execTargetAmo d ue t s
  | .targetReduce ue t => Sys2Proof.Machine.execTargetReduce ue t s
  | .targetMsg d ue t => Sys2Proof.Machine.execTargetMsg d ue t s
  | .readData d t => Sys2Proof.Machine.execReadData d t s
  | .ack d t => Sys2Proof.Machine.execAck d t s
  | .amoResult d t => Sys2Proof.Machine.execAmoResult d t s
  | .error d t => Sys2Proof.Machine.execError d t s
  | .reissueTimeout d txn ue t => Sys2Proof.Machine.execReissueTimeout d txn ue t s
  | .deadTargetExpiry d txn t => Sys2Proof.Machine.execDeadTargetExpiry d txn t s
  | .slotExpire d src slot t => Sys2Proof.Machine.execSlotExpire d src slot t s
  | .releaseIssue d t => Sys2Proof.Machine.execReleaseIssue d t s
  | .memLctrWrite d n v t => Sys2Proof.Machine.execMemLctrWrite d n v t s
  | .winCmdArm n tag t => Sys2Proof.Machine.execWinCmdArm n tag t s
  | .winCmdClear n t => Sys2Proof.Machine.execWinCmdClear n t s
  | .winClearComplete n t => Sys2Proof.Machine.execWinClearComplete n t s
  | .pieceEmit cmd piece ue t => Sys2Proof.Machine.execPieceEmit cmd piece ue t s
  | .clusterSpareSwap c t => Sys2Proof.Machine.execClusterSpareSwap c t s
  | .collSubmit t => Sys2Proof.Machine.execCollSubmit t s
  | .chunkReady op chunk t => Sys2Proof.Machine.execChunkReady op chunk t s
  | .shardDone op t => Sys2Proof.Machine.execShardDone op t s
  | .hubDone t => Sys2Proof.Machine.execHubDone t s
  | .opAbort t => Sys2Proof.Machine.execAbort t s
  | .stop t => Sys2Proof.Machine.execStop t s
  | .dispatchSubmit t => Sys2Proof.Machine.execDispatchSubmit t s
  | .dispatchPlan op t => Sys2Proof.Machine.execDispatchPlan op t s
  | .combineEmit op h t => Sys2Proof.Machine.execCombineEmit op h t s
  | .seqLoadCmd cores t => Sys2Proof.Machine.execSeqLoadCmd cores t s
  | .loadVerifyDone t => Sys2Proof.Machine.execLoadVerifyDone t s
  | .loadCopyDone t => Sys2Proof.Machine.execLoadCopyDone t s
  | .coreStart n t => Sys2Proof.Machine.execCoreStart n t s
  | .coreHalt n t => Sys2Proof.Machine.execCoreHalt n t s
  | .coreHalted n t => Sys2Proof.Machine.execCoreHalted n t s
  | .coreReset n t => Sys2Proof.Machine.execCoreReset n t s
  | .watchdog n t => Sys2Proof.Machine.execWatchdog n t s
  | .sampleTake n skid t => Sys2Proof.Machine.execSampleTake n skid t s
  | .seqQueueDisable q t => Sys2Proof.Machine.execSeqQueueDisable q t s
  | .seqLocalDataAccess n write v t => Sys2Proof.Machine.execSeqLocalDataAccess n write v t s
  | .nop n t => Sys2Proof.Machine.execNop n t s
  | .opBreak n t => Sys2Proof.Machine.execBreak n t s
  | .rdcyc n t => Sys2Proof.Machine.execRdcyc n t s
  | .rdtime n t => Sys2Proof.Machine.execRdtime n t s
  | .rdid n t => Sys2Proof.Machine.execRdid n t s
  | .add n t => Sys2Proof.Machine.execAdd n t s
  | .sub n t => Sys2Proof.Machine.execSub n t s
  | .opAnd n t => Sys2Proof.Machine.execAnd n t s
  | .opOr n t => Sys2Proof.Machine.execOr n t s
  | .xor n t => Sys2Proof.Machine.execXor n t s
  | .sll n t => Sys2Proof.Machine.execSll n t s
  | .srl n t => Sys2Proof.Machine.execSrl n t s
  | .sra n t => Sys2Proof.Machine.execSra n t s
  | .mul n t => Sys2Proof.Machine.execMul n t s
  | .mulhu n t => Sys2Proof.Machine.execMulhu n t s
  | .divu n t => Sys2Proof.Machine.execDivu n t s
  | .remu n t => Sys2Proof.Machine.execRemu n t s
  | .slt n t => Sys2Proof.Machine.execSlt n t s
  | .sltu n t => Sys2Proof.Machine.execSltu n t s
  | .addi n t => Sys2Proof.Machine.execAddi n t s
  | .andi n t => Sys2Proof.Machine.execAndi n t s
  | .ori n t => Sys2Proof.Machine.execOri n t s
  | .xori n t => Sys2Proof.Machine.execXori n t s
  | .slli n t => Sys2Proof.Machine.execSlli n t s
  | .srli n t => Sys2Proof.Machine.execSrli n t s
  | .srai n t => Sys2Proof.Machine.execSrai n t s
  | .slti n t => Sys2Proof.Machine.execSlti n t s
  | .sltiu n t => Sys2Proof.Machine.execSltiu n t s
  | .li n t => Sys2Proof.Machine.execLi n t s
  | .lih n t => Sys2Proof.Machine.execLih n t s
  | .beq n t => Sys2Proof.Machine.execBeq n t s
  | .bne n t => Sys2Proof.Machine.execBne n t s
  | .blt n t => Sys2Proof.Machine.execBlt n t s
  | .bge n t => Sys2Proof.Machine.execBge n t s
  | .bltu n t => Sys2Proof.Machine.execBltu n t s
  | .bgeu n t => Sys2Proof.Machine.execBgeu n t s
  | .jal n t => Sys2Proof.Machine.execJal n t s
  | .jalr n t => Sys2Proof.Machine.execJalr n t s
  | .ld1 n ue t => Sys2Proof.Machine.execLd1 n ue t s
  | .ld2 n ue t => Sys2Proof.Machine.execLd2 n ue t s
  | .ld4 n ue t => Sys2Proof.Machine.execLd4 n ue t s
  | .ld8 n ue t => Sys2Proof.Machine.execLd8 n ue t s
  | .lds1 n ue t => Sys2Proof.Machine.execLds1 n ue t s
  | .lds2 n ue t => Sys2Proof.Machine.execLds2 n ue t s
  | .lds4 n ue t => Sys2Proof.Machine.execLds4 n ue t s
  | .st1 n t => Sys2Proof.Machine.execSt1 n t s
  | .st2 n t => Sys2Proof.Machine.execSt2 n t s
  | .st4 n t => Sys2Proof.Machine.execSt4 n t s
  | .st8 n t => Sys2Proof.Machine.execSt8 n t s
  | .cset n t => Sys2Proof.Machine.execCset n t s
  | .cget n t => Sys2Proof.Machine.execCget n t s
  | .cadd n t => Sys2Proof.Machine.execCadd n t s
  | .cld n ue t => Sys2Proof.Machine.execCld n ue t s
  | .cst n t => Sys2Proof.Machine.execCst n t s
  | .dld n ue t => Sys2Proof.Machine.execDld n ue t s
  | .dst n t => Sys2Proof.Machine.execDst n t s
  | .daddr n t => Sys2Proof.Machine.execDaddr n t s
  | .read n t => Sys2Proof.Machine.execRead n t s
  | .readAcq n t => Sys2Proof.Machine.execReadAcq n t s
  | .write n t => Sys2Proof.Machine.execWrite n t s
  | .writeRel n t => Sys2Proof.Machine.execWriteRel n t s
  | .amoAdd n t => Sys2Proof.Machine.execAmoAdd n t s
  | .amoAnd n t => Sys2Proof.Machine.execAmoAnd n t s
  | .amoOr n t => Sys2Proof.Machine.execAmoOr n t s
  | .amoXor n t => Sys2Proof.Machine.execAmoXor n t s
  | .amoSmin n t => Sys2Proof.Machine.execAmoSmin n t s
  | .amoSmax n t => Sys2Proof.Machine.execAmoSmax n t s
  | .amoUmin n t => Sys2Proof.Machine.execAmoUmin n t s
  | .amoUmax n t => Sys2Proof.Machine.execAmoUmax n t s
  | .amoSwap n t => Sys2Proof.Machine.execAmoSwap n t s
  | .amoCas n t => Sys2Proof.Machine.execAmoCas n t s
  | .msg n ue t => Sys2Proof.Machine.execMsg n ue t s
  | .tput n ue t => Sys2Proof.Machine.execTput n ue t s
  | .tget n t => Sys2Proof.Machine.execTget n t s
  | .tierPromoteHot n t => Sys2Proof.Machine.execTierPromoteHot n t s
  | .tierPromoteDram n t => Sys2Proof.Machine.execTierPromoteDram n t s
  | .tierPin n t => Sys2Proof.Machine.execTierPin n t s
  | .tierUnpin n t => Sys2Proof.Machine.execTierUnpin n t s
  | .tierWriteback n t => Sys2Proof.Machine.execTierWriteback n t s
  | .fence n t => Sys2Proof.Machine.execFence n t s
  | .waitc n t => Sys2Proof.Machine.execWaitc n t s
  | .lctrRd n t => Sys2Proof.Machine.execLctrRd n t s
  | .lctrSet n t => Sys2Proof.Machine.execLctrSet n t s
  | .winSet n t => Sys2Proof.Machine.execWinSet n t s
  | .winArm n t => Sys2Proof.Machine.execWinArm n t s
  | .winClear n t => Sys2Proof.Machine.execWinClear n t s
  | .reduce n t => Sys2Proof.Machine.execReduce n t s
  | .winStat n t => Sys2Proof.Machine.execWinStat n t s
  | .take n ue t => Sys2Proof.Machine.execTake n ue t s
  | .hcqPost n ue t => Sys2Proof.Machine.execHcqPost n ue t s
  | .chanInv n t => Sys2Proof.Machine.execChanInv n t s
  | .chanChk n t => Sys2Proof.Machine.execChanChk n t s
  | .stepRd n t => Sys2Proof.Machine.execStepRd n t s
  | .stepSet n t => Sys2Proof.Machine.execStepSet n t s
  | .stepSeal n t => Sys2Proof.Machine.execStepSeal n t s
  | .stepDiscard n t => Sys2Proof.Machine.execStepDiscard n t s
  | .wake n t => Sys2Proof.Machine.execWake n t s
  | .nap n t => Sys2Proof.Machine.execNap n t s
  | .stage n t => Sys2Proof.Machine.execStage n t s
  | .check n t => Sys2Proof.Machine.execCheck n t s
  | .pour n t => Sys2Proof.Machine.execPour n t s
  | .discard n t => Sys2Proof.Machine.execDiscard n t s
  | .ctrRd n t => Sys2Proof.Machine.execCtrRd n t s
  | .drain n t => Sys2Proof.Machine.execDrain n t s
  | .drained n t => Sys2Proof.Machine.execDrained n t s
  | .migrationComplete tile t => Sys2Proof.Machine.execMigrationComplete tile t s
  | .demotionComplete tile t => Sys2Proof.Machine.execDemotionComplete tile t s
  | .caddyPromotionComplete tile lost retry t => Sys2Proof.Machine.execCaddyPromotionComplete tile lost retry t s
  | .shadowCopyDone tile t => Sys2Proof.Machine.execShadowCopyDone tile t s
  | .writeBufferFlushTimer t => Sys2Proof.Machine.execWriteBufferFlushTimer t s
  | .pageProgramDone out spare t => Sys2Proof.Machine.execPageProgramDone out spare t s
  | .garbageCollect t => Sys2Proof.Machine.execGarbageCollect t s
  | .wearMove t => Sys2Proof.Machine.execWearMove t s
  | .superblockRefresh sb retry t => Sys2Proof.Machine.execSuperblockRefresh sb retry t s
  | .patrolScrub unit addr errs t => Sys2Proof.Machine.execPatrolScrub unit addr errs t s
  | .caddyReady geom ok t => Sys2Proof.Machine.execCaddyReady geom ok t s
  | .map first count tenant home floor stepver t => Sys2Proof.Machine.execMap first count tenant home floor stepver t s
  | .free first count tenant t => Sys2Proof.Machine.execFree first count tenant t s
  | .policy first count tenant home floor stepver t => Sys2Proof.Machine.execPolicy first count tenant home floor stepver t s
  | .promoteHot first count tenant t => Sys2Proof.Machine.execPromoteHot first count tenant t s
  | .promoteDram first count tenant t => Sys2Proof.Machine.execPromoteDram first count tenant t s
  | .pin first count tenant t => Sys2Proof.Machine.execPin first count tenant t s
  | .unpin first count tenant t => Sys2Proof.Machine.execUnpin first count tenant t s
  | .writeback first count tenant t => Sys2Proof.Machine.execWriteback first count tenant t s
  | .demote first count tenant t => Sys2Proof.Machine.execDemote first count tenant t s
  | .objMap t => Sys2Proof.Machine.execObjMap t s
  | .objFree t => Sys2Proof.Machine.execObjFree t s
  | .objPolicy t => Sys2Proof.Machine.execObjPolicy t s
  | .tierReq t => Sys2Proof.Machine.execTierReq t s
  | .walkComplete d walk bad t => Sys2Proof.Machine.execWalkComplete d walk bad t s
  | .xltInvRange d v t => Sys2Proof.Machine.execXltInvRange d v t s
  | .xltInvId d v t => Sys2Proof.Machine.execXltInvId d v t s
  | .xltInvAll d v t => Sys2Proof.Machine.execXltInvAll d v t s
  | .xltInvComplete d t => Sys2Proof.Machine.execXltInvComplete d t s
  | .faultBatchTimer t => Sys2Proof.Machine.execFaultBatchTimer t s
  | .xltFlogCtrlWrite d v t => Sys2Proof.Machine.execXltFlogCtrlWrite d v t s
  | .xltResumeRetry id t => Sys2Proof.Machine.execXltResumeRetry id t s
  | .xltResumeAbort id t => Sys2Proof.Machine.execXltResumeAbort id t s
  | .faultLimitExpiry id t => Sys2Proof.Machine.execFaultLimitExpiry id t s
  | .sqTailDoorbell fn q v t => Sys2Proof.Machine.execSqTailDoorbell fn q v t s
  | .cqHeadDoorbell fn q v t => Sys2Proof.Machine.execCqHeadDoorbell fn q v t s
  | .commandStart q entry t => Sys2Proof.Machine.execCommandStart q entry t s
  | .commandComplete q slot hostErr t => Sys2Proof.Machine.execCommandComplete q slot hostErr t s
  | .cqIntTimer q t => Sys2Proof.Machine.execCqIntTimer q t s
  | .cmdNop q t => Sys2Proof.Machine.execCmdNop q t s
  | .cmdPut q data t => Sys2Proof.Machine.execCmdPut q data t s
  | .cmdGet q t => Sys2Proof.Machine.execCmdGet q t s
  | .cmdFlag q t => Sys2Proof.Machine.execCmdFlag q t s
  | .cmdAmo q t => Sys2Proof.Machine.execCmdAmo q t s
  | .cmdMsg q data t => Sys2Proof.Machine.execCmdMsg q data t s
  | .cmdFence q t => Sys2Proof.Machine.execCmdFence q t s
  | .cmdEmit q t => Sys2Proof.Machine.execCmdEmit q t s
  | .cmdTile q data t => Sys2Proof.Machine.execCmdTile q data t s
  | .cmdChanInv q t => Sys2Proof.Machine.execCmdChanInv q t s
  | .cmdAbort q t => Sys2Proof.Machine.execCmdAbort q t s
  | .hifSqWordBWrite q v t => Sys2Proof.Machine.execHifSqWordBWrite q v t s
  | .hifCqWordBWrite q v t => Sys2Proof.Machine.execHifCqWordBWrite q v t s
  | .hifChanInvWrite d v t => Sys2Proof.Machine.execHifChanInvWrite d v t s
  | .chanInvComplete d t => Sys2Proof.Machine.execChanInvComplete d t s
  | .channelFetch d chan ok host t => Sys2Proof.Machine.execChannelFetch d chan ok host t s
  | .vfFlr v t => Sys2Proof.Machine.execVfFlr v t s
  | .capSet req t => Sys2Proof.Machine.execCapSet req t s
  | .capGet req t => Sys2Proof.Machine.execCapGet req t s
  | .telSnapshot req t => Sys2Proof.Machine.execTelSnapshot req t s
  | .health req t => Sys2Proof.Machine.execHealth req t s
  | .eventReply seq t => Sys2Proof.Machine.execEventReply seq t s
  | .eventResendTimer seq t => Sys2Proof.Machine.execEventResendTimer seq t s
  | .i3cPrivateWrite bytes t => Sys2Proof.Machine.execI3cPrivateWrite bytes t s
  | .i3cPrivateRead t => Sys2Proof.Machine.execI3cPrivateRead t s
  | .i3cDynamicAddress x t => Sys2Proof.Machine.execI3cDynamicAddress x t s
  | .engineRead n req t => Sys2Proof.Machine.execEngineRead n req t s
  | .engineWrite n req t => Sys2Proof.Machine.execEngineWrite n req t s
  | .engineTget n req t => Sys2Proof.Machine.execEngineTget n req t s
  | .engineTput n req own t => Sys2Proof.Machine.execEngineTput n req own t s
  | .engineAmo n req t => Sys2Proof.Machine.execEngineAmo n req t s
  | .engineFence n req t => Sys2Proof.Machine.execEngineFence n req t s
  | .engineInval n req t => Sys2Proof.Machine.execEngineInval n req t s
  | .engineWait n req t => Sys2Proof.Machine.execEngineWait n req t s
  | .weightSegmentVerify slot seg t => Sys2Proof.Machine.execWeightSegmentVerify slot seg t s
  | .ucieModuleTrained m t => Sys2Proof.Machine.execUcieModuleTrained m t s
  | .moduleDown m t => Sys2Proof.Machine.execModuleDown m t s
  | .rcacheInvChannel chan t => Sys2Proof.Machine.execRcacheInvChannel chan t s
  | .rcacheInvAll t => Sys2Proof.Machine.execRcacheInvAll t s
  | .ordResetFlow src chan t => Sys2Proof.Machine.execOrdResetFlow src chan t s
  | .ordResetAllFlows src t => Sys2Proof.Machine.execOrdResetAllFlows src t s
  | .ordResetComplete t => Sys2Proof.Machine.execOrdResetComplete t s
  | .ownerSet ses bad key t => Sys2Proof.Machine.execOwnerSet ses bad key t s
  | .ownerClear ses bad t => Sys2Proof.Machine.execOwnerClear ses bad t s
  | .tenantCreate ses bad tenant key t => Sys2Proof.Machine.execTenantCreate ses bad tenant key t s
  | .tenantRemove ses bad tenant t => Sys2Proof.Machine.execTenantRemove ses bad tenant t s
  | .tenantZeroingDone tenant t => Sys2Proof.Machine.execTenantZeroingDone tenant t s
  | .progkeyAdd ses bad tenant key t => Sys2Proof.Machine.execProgkeyAdd ses bad tenant key t s
  | .progkeyDel ses bad tenant key t => Sys2Proof.Machine.execProgkeyDel ses bad tenant key t s
  | .rollbackSet ses bad prog version t => Sys2Proof.Machine.execRollbackSet ses bad prog version t s
  | .epochAdvance ses bad tenant t => Sys2Proof.Machine.execEpochAdvance ses bad tenant t s
  | .epochRetire ses bad tenant t => Sys2Proof.Machine.execEpochRetire ses bad tenant t s
  | .queueKeyGet ses bad tenant q kind t => Sys2Proof.Machine.execQueueKeyGet ses bad tenant q kind t s
  | .confEnter ses bad t => Sys2Proof.Machine.execConfEnter ses bad t s
  | .confExit ses bad t => Sys2Proof.Machine.execConfExit ses bad t s
  | .debugOpen ses bad t => Sys2Proof.Machine.execDebugOpen ses bad t s
  | .weightKeyPut ses bad key object base size tagBase tenant t => Sys2Proof.Machine.execWeightKeyPut ses bad key object base size tagBase tenant t s
  | .weightKeyDestroy ses bad slot t => Sys2Proof.Machine.execWeightKeyDestroy ses bad slot t s
  | .getVersion d tr t => Sys2Proof.Machine.execGetVersion d tr t s
  | .getCapabilities d tr t => Sys2Proof.Machine.execGetCapabilities d tr t s
  | .negotiateAlgorithms d tr offers t => Sys2Proof.Machine.execNegotiateAlgorithms d tr offers t s
  | .getDigests d tr t => Sys2Proof.Machine.execGetDigests d tr t s
  | .getCertificate d tr slot t => Sys2Proof.Machine.execGetCertificate d tr slot t s
  | .challenge d tr slot t => Sys2Proof.Machine.execChallenge d tr slot t s
  | .getMeasurements d tr index t => Sys2Proof.Machine.execGetMeasurements d tr index t s
  | .keyExchange d tr slot auth t => Sys2Proof.Machine.execKeyExchange d tr slot auth t s
  | .finish d ses ok cred t => Sys2Proof.Machine.execFinish d ses ok cred t s
  | .endSession d ses t => Sys2Proof.Machine.execEndSession d ses t s
  | .spdmHeartbeat d ses t => Sys2Proof.Machine.execSpdmHeartbeat d ses t s
  | .hybridSig d tr t => Sys2Proof.Machine.execHybridSig d tr t s
  | .peerSig d ses env t => Sys2Proof.Machine.execPeerSig d ses env t s
  | .beat d p body t => Sys2Proof.Machine.execBeat d p body t s
  | .beatTimer d t => Sys2Proof.Machine.execBeatTimer d t s
  | .heartbeatSilence d p t => Sys2Proof.Machine.execHeartbeatSilence d p t s
  | .accuse d p body t => Sys2Proof.Machine.execAccuse d p body t s
  | .fatal d p body t => Sys2Proof.Machine.execFatal d p body t s
  | .opJoin d p body t => Sys2Proof.Machine.execJoin d p body t s
  | .stepReady d p body t => Sys2Proof.Machine.execStepReady d p body t s
  | .stepFail d p body t => Sys2Proof.Machine.execStepFail d p body t s
  | .stepDiscarded d p body t => Sys2Proof.Machine.execStepDiscarded d p body t s
  | .leaseAck d p body t => Sys2Proof.Machine.execLeaseAck d p body t s
  | .decisionEpoch d p body t => Sys2Proof.Machine.execDecisionEpoch d p body t s
  | .stepCommit d p body t => Sys2Proof.Machine.execStepCommit d p body t s
  | .stepReplay d p body t => Sys2Proof.Machine.execStepReplay d p body t s
  | .stepRestart d p body t => Sys2Proof.Machine.execStepRestart d p body t s
  | .decisionLease d p body t => Sys2Proof.Machine.execDecisionLease d p body t s
  | .leaseRenewTimer t => Sys2Proof.Machine.execLeaseRenewTimer t s
  | .coordinatorTakeover t => Sys2Proof.Machine.execCoordinatorTakeover t s
  | .decisionCatchup d p t => Sys2Proof.Machine.execDecisionCatchup d p t s
  | .stepPlan t => Sys2Proof.Machine.execStepPlan t s
  | .stepEnd t => Sys2Proof.Machine.execStepEnd t s
  | .stepFenced t => Sys2Proof.Machine.execStepFenced t s
  | .replayFenceTimeout t => Sys2Proof.Machine.execReplayFenceTimeout t s
  | .repairTest d t => Sys2Proof.Machine.execRepairTest d t s
  | .repairTestDone d lanes cores clusters bad t => Sys2Proof.Machine.execRepairTestDone d lanes cores clusters bad t s
  | .repairJoin d t => Sys2Proof.Machine.execRepairJoin d t s
  | .joinTimer d t => Sys2Proof.Machine.execJoinTimer d t s
  | .form d t => Sys2Proof.Machine.execForm d t s
  | .admitHeld d t => Sys2Proof.Machine.execAdmit d t s
  | .fatalFault d cause t => Sys2Proof.Machine.execFatalFault d cause t s
  | .logicHang d t => Sys2Proof.Machine.execLogicHang d t s
  | .clockLoss d t => Sys2Proof.Machine.execClockLoss d t s
  | .temperatureRead d temps t => Sys2Proof.Machine.execTemperatureRead d temps t s
  | .refclkLoss d t => Sys2Proof.Machine.execRefclkLoss d t s
  | .domainWakeDone dom t => Sys2Proof.Machine.execDomainWakeDone dom t s
  | .domainWakeTimeout dom t => Sys2Proof.Machine.execDomainWakeTimeout dom t s
  | .domainOffTimer dom t => Sys2Proof.Machine.execDomainOffTimer dom t s
  | .clockLevelStep clk up t => Sys2Proof.Machine.execClockLevelStep clk up t s
  | .vrReply frame t => Sys2Proof.Machine.execVrReply frame t s
  | .vrReplyTimeout t => Sys2Proof.Machine.execVrReplyTimeout t s
  | .vrKeepaliveTimer t => Sys2Proof.Machine.execVrKeepaliveTimer t s
  | .estUpdate t => Sys2Proof.Machine.execEstUpdate t s
  | .floorRecompute t => Sys2Proof.Machine.execFloorRecompute t s
  | .capWindow t => Sys2Proof.Machine.execCapWindow t s
  | .ageingMonitorRead slacks t => Sys2Proof.Machine.execAgeingMonitorRead slacks t s
  | .marginPlan t => Sys2Proof.Machine.execMarginPlan t s
  | .ageingLogDaily t => Sys2Proof.Machine.execAgeingLogDaily t s
  | .eqRecompute d p lane coeff t => Sys2Proof.Machine.execEqRecompute d p lane coeff t s
  | .windowBoundary d t => Sys2Proof.Machine.execWindowBoundary d t s
  | .telWinCfgWrite d v t => Sys2Proof.Machine.execTelWinCfgWrite d v t s
  | .powerOnReset d t => Sys2Proof.Machine.execPowerOnReset d t s
  | .bootStageDone d result t => Sys2Proof.Machine.execBootStageDone d result t s
  | .warmN d t => Sys2Proof.Machine.execWarmN d t s
  | .warm d t => Sys2Proof.Machine.execWarm d t s
  | .pf0Flr t => Sys2Proof.Machine.execPf0Flr t s
  | .warmResetDone d t => Sys2Proof.Machine.execWarmResetDone d t s
  | .domainReset d dom t => Sys2Proof.Machine.execDomainReset d dom t s
  | .perstN t => Sys2Proof.Machine.execPerstN t s
  | .powerLoss d t => Sys2Proof.Machine.execPowerLoss d t s
  | .epStartUp r t => Sys2Proof.Machine.execEpStartUp r t s
  | .acknowledgementDeadline d p t => Sys2Proof.Machine.execAcknowledgementDeadline d p t s
  | .marker d p lanes t => Sys2Proof.Machine.execMarker d p lanes t s
  | .computeDieAcknowledge id own t => Sys2Proof.Machine.execComputeDieAcknowledge id own t s
  | .readCacheInvalidationComplete t => Sys2Proof.Machine.execReadCacheInvalidationComplete t s
  | .blockEraseDone sb ok spare t => Sys2Proof.Machine.execBlockEraseDone sb ok spare t s
  | .arpNeighborDiscoveryIcmpEcho frame t => Sys2Proof.Machine.execArpNeighborDiscoveryIcmpEcho frame t s
  | .illegal n t => Sys2Proof.Machine.execIllegal n t s
  | .registerRead d fn addr size t => Sys2Proof.Machine.execRegisterRead d fn addr size t s
  | .boundaryScan d bits t => Sys2Proof.Machine.execBoundaryScan d bits t s

end Sys2Proof.Machine
end

