-- ==== Sys2Proof/WellFormed.lean ====
section
/-! DEFINITION. When a command is well-formed: its operands name a port, a core, a window, a queue or an engine that the
part has, a register it has, or values that fit (R9, R14, R42, R166, R219, R331, R342, R363, R369, R478). -/

namespace Sys2Proof

open Sys2Proof.Machine in
/-- A command whose operands name something that the part has. -/
def Instr.wf (i : Instr) : Bool :=
  match i with
  | .potClaim _ _ => true
  | .potClaimForce _ _ => true
  | .potCheck _ _ => true
  | .checkComplete _ _ => true
  | .potPour _ _ => true
  | .pourInstant _ _ => true
  | .potDiscard _ _ => true
  | .potStagedWrite d a size _ _ => okStaged d a size
  | .registerWrite d fn _ size _ _ => okAccess d fn size
  | .txDataFrame d p _ _ => okPort d p
  | .txIdleFrame d p _ => okPort d p
  | .dataFrameReceive d p lanes _ => okPort d p && okLanes lanes
  | .partnerElectricalIdle d p _ => okPort d p
  | .recoveryEnd d p _ _ _ => okPort d p
  | .controlAck d p _ _ => okPort d p
  | .controlNack d p _ _ => okPort d p
  | .controlCredit d p _ _ => okPort d p
  | .controlTs d p _ _ => okPort d p
  | .controlNapReq d p _ => okPort d p
  | .controlNapAck d p _ => okPort d p
  | .controlNapNak d p _ => okPort d p
  | .controlDown d p _ => okPort d p
  | .nackRepeatTimeout d p _ => okPort d p
  | .replayProgressTimeout d p _ => okPort d p
  | .creditFrameTimer d p _ => okPort d p
  | .creditReturnDeadline d p _ => okPort d p
  | .pourCreditUpdate d p _ => okPort d p
  | .creditGraceEnd d p c _ => okPort d p && decide (c < 8)
  | .trainingPhaseDone d p _ coeffs _ => okPort d p && coeffs.length == 17
  | .trainingPhaseTimeout d p _ _ => okPort d p
  | .trainingRetryTimer d p _ => okPort d p
  | .linkNap d p _ => okPort d p
  | .linkWake d p _ => okPort d p
  | .napReplyTimeout d p _ => okPort d p
  | .deepEntryDone d p _ => okPort d p
  | .beaconDetect d p _ => okPort d p
  | .clockLaneLoss d p _ => okPort d p
  | .sprayWeightUpdate _ _ => true
  | .edropAverageUpdate _ => true
  | .packetForward d p ue _ => okInPort d p && decide (ue ≤ 4)
  | .pktNodeIdWrite _ _ _ => true
  | .pktDrainWrite _ k _ _ => decide (k < 64)
  | .transactionIssue _ _ => true
  | .packetAdmit _ _ => true
  | .rboundExpiry _ _ _ => true
  | .targetRead _ ue _ => ue == 0 || ue == 1 || ue == 3
  | .targetWrite _ ue _ => decide (ue ≤ 4)
  | .targetAmo _ ue _ => decide (ue ≤ 4)
  | .targetReduce _ _ => true
  | .targetMsg _ ue _ => ue == 0 || ue == 2 || ue == 4
  | .readData _ _ => true
  | .ack _ _ => true
  | .amoResult _ _ => true
  | .error _ _ => true
  | .reissueTimeout _ _ _ _ => true
  | .deadTargetExpiry _ _ _ => true
  | .slotExpire _ src slot _ => okNode src && decide (slot < 65536)
  | .releaseIssue _ _ => true
  | .memLctrWrite _ n _ _ => decide (1 ≤ n) && decide (n < 65536)
  | .winCmdArm n tag _ => okWindow n && decide (tag < 256)
  | .winCmdClear n _ => okWindow n
  | .winClearComplete n _ => okWindow n
  | .pieceEmit _ _ _ _ => true
  | .clusterSpareSwap c _ => decide (c < 16)
  | .collSubmit _ => true
  | .chunkReady _ _ _ => true
  | .shardDone _ _ => true
  | .hubDone _ => true
  | .opAbort _ => true
  | .stop _ => true
  | .dispatchSubmit _ => true
  | .dispatchPlan _ _ => true
  | .combineEmit _ _ _ => true
  | .seqLoadCmd _ _ => true
  | .loadVerifyDone _ => true
  | .loadCopyDone _ => true
  | .coreStart n _ => okCore n
  | .coreHalt n _ => okCore n
  | .coreHalted n _ => okCore n
  | .coreReset n _ => okCore n
  | .watchdog n _ => okCore n
  | .sampleTake n _ _ => okCore n
  | .seqQueueDisable q _ => okServiceQueue q
  | .seqLocalDataAccess n _ _ _ => okCore n
  | .nop n _ => okCore n
  | .opBreak n _ => okCore n
  | .rdcyc n _ => okCore n
  | .rdtime n _ => okCore n
  | .rdid n _ => okCore n
  | .add n _ => okCore n
  | .sub n _ => okCore n
  | .opAnd n _ => okCore n
  | .opOr n _ => okCore n
  | .xor n _ => okCore n
  | .sll n _ => okCore n
  | .srl n _ => okCore n
  | .sra n _ => okCore n
  | .mul n _ => okCore n
  | .mulhu n _ => okCore n
  | .divu n _ => okCore n
  | .remu n _ => okCore n
  | .slt n _ => okCore n
  | .sltu n _ => okCore n
  | .addi n _ => okCore n
  | .andi n _ => okCore n
  | .ori n _ => okCore n
  | .xori n _ => okCore n
  | .slli n _ => okCore n
  | .srli n _ => okCore n
  | .srai n _ => okCore n
  | .slti n _ => okCore n
  | .sltiu n _ => okCore n
  | .li n _ => okCore n
  | .lih n _ => okCore n
  | .beq n _ => okCore n
  | .bne n _ => okCore n
  | .blt n _ => okCore n
  | .bge n _ => okCore n
  | .bltu n _ => okCore n
  | .bgeu n _ => okCore n
  | .jal n _ => okCore n
  | .jalr n _ => okCore n
  | .ld1 n _ _ => okCore n
  | .ld2 n _ _ => okCore n
  | .ld4 n _ _ => okCore n
  | .ld8 n _ _ => okCore n
  | .lds1 n _ _ => okCore n
  | .lds2 n _ _ => okCore n
  | .lds4 n _ _ => okCore n
  | .st1 n _ => okCore n
  | .st2 n _ => okCore n
  | .st4 n _ => okCore n
  | .st8 n _ => okCore n
  | .cset n _ => okCore n
  | .cget n _ => okCore n
  | .cadd n _ => okCore n
  | .cld n _ _ => okCore n
  | .cst n _ => okCore n
  | .dld n _ _ => okCore n
  | .dst n _ => okCore n
  | .daddr n _ => okCore n
  | .read n _ => okCore n
  | .readAcq n _ => okCore n
  | .write n _ => okCore n
  | .writeRel n _ => okCore n
  | .amoAdd n _ => okCore n
  | .amoAnd n _ => okCore n
  | .amoOr n _ => okCore n
  | .amoXor n _ => okCore n
  | .amoSmin n _ => okCore n
  | .amoSmax n _ => okCore n
  | .amoUmin n _ => okCore n
  | .amoUmax n _ => okCore n
  | .amoSwap n _ => okCore n
  | .amoCas n _ => okCore n
  | .msg n _ _ => okCore n
  | .tput n _ _ => okCore n
  | .tget n _ => okCore n
  | .tierPromoteHot n _ => okCore n
  | .tierPromoteDram n _ => okCore n
  | .tierPin n _ => okCore n
  | .tierUnpin n _ => okCore n
  | .tierWriteback n _ => okCore n
  | .fence n _ => okCore n
  | .waitc n _ => okCore n
  | .lctrRd n _ => okCore n
  | .lctrSet n _ => okCore n
  | .winSet n _ => okCore n
  | .winArm n _ => okCore n
  | .winClear n _ => okCore n
  | .reduce n _ => okCore n
  | .winStat n _ => okCore n
  | .take n _ _ => okCore n
  | .hcqPost n _ _ => okCore n
  | .chanInv n _ => okCore n
  | .chanChk n _ => okCore n
  | .stepRd n _ => okCore n
  | .stepSet n _ => okCore n
  | .stepSeal n _ => okCore n
  | .stepDiscard n _ => okCore n
  | .wake n _ => okCore n
  | .nap n _ => okCore n
  | .stage n _ => okCore n
  | .check n _ => okCore n
  | .pour n _ => okCore n
  | .discard n _ => okCore n
  | .ctrRd n _ => okCore n
  | .drain n _ => okCore n
  | .drained n _ => okCore n
  | .migrationComplete _ _ => true
  | .demotionComplete _ _ => true
  | .caddyPromotionComplete _ _ _ _ => true
  | .shadowCopyDone _ _ => true
  | .writeBufferFlushTimer _ => true
  | .pageProgramDone _ _ _ => true
  | .garbageCollect _ => true
  | .wearMove _ => true
  | .superblockRefresh _ _ _ => true
  | .patrolScrub unit _ errs _ => decide (1 ≤ unit) && decide (unit ≤ 8) && decide (errs ≤ 3)
  | .caddyReady _ _ _ => true
  | .map _ _ tenant home floor _ _ => okTiers tenant home floor
  | .free _ _ tenant _ => okTiers tenant 0 0
  | .policy _ _ tenant home floor _ _ => okTiers tenant home floor
  | .promoteHot _ _ tenant _ => okTiers tenant 0 0
  | .promoteDram _ _ tenant _ => okTiers tenant 0 0
  | .pin _ _ tenant _ => okTiers tenant 0 0
  | .unpin _ _ tenant _ => okTiers tenant 0 0
  | .writeback _ _ tenant _ => okTiers tenant 0 0
  | .demote _ _ tenant _ => okTiers tenant 0 0
  | .objMap _ => true
  | .objFree _ => true
  | .objPolicy _ => true
  | .tierReq _ => true
  | .walkComplete _ _ _ _ => true
  | .xltInvRange _ v _ => bitsOf v.toNat 1 0 == 0
  | .xltInvId _ v _ => bitsOf v.toNat 1 0 == 1
  | .xltInvAll _ v _ => bitsOf v.toNat 1 0 == 2
  | .xltInvComplete _ _ => true
  | .faultBatchTimer _ => true
  | .xltFlogCtrlWrite _ _ _ => true
  | .xltResumeRetry id _ => decide (id < 1048576)
  | .xltResumeAbort id _ => decide (id < 1048576)
  | .faultLimitExpiry id _ => decide (id < 1048576)
  | .sqTailDoorbell fn q _ _ => okFunction fn && okHostQueue q
  | .cqHeadDoorbell fn q _ _ => okFunction fn && okHostQueue q
  | .commandStart q _ _ => okHostQueue q
  | .commandComplete q _ _ _ => okHostQueue q
  | .cqIntTimer q _ => okHostQueue q
  | .cmdNop q _ => okHostQueue q
  | .cmdPut q _ _ => okHostQueue q
  | .cmdGet q _ => okHostQueue q
  | .cmdFlag q _ => okHostQueue q
  | .cmdAmo q _ => okHostQueue q
  | .cmdMsg q _ _ => okHostQueue q
  | .cmdFence q _ => okHostQueue q
  | .cmdEmit q _ => okHostQueue q
  | .cmdTile q _ _ => okHostQueue q
  | .cmdChanInv q _ => okHostQueue q
  | .cmdAbort q _ => okHostQueue q
  | .hifSqWordBWrite q _ _ => okHostQueue q
  | .hifCqWordBWrite q _ _ => okHostQueue q
  | .hifChanInvWrite _ _ _ => true
  | .chanInvComplete _ _ => true
  | .channelFetch _ _ _ _ _ => true
  | .vfFlr v _ => okFunction v && decide (1 ≤ v)
  | .capSet req _ => okType 0x01 req
  | .capGet req _ => okType 0x02 req
  | .telSnapshot req _ => okType 0x10 req
  | .health req _ => okType 0x20 req
  | .eventReply r _ => mh r.hdr 103 96 == 0xC0
  | .eventResendTimer _ _ => true
  | .i3cPrivateWrite _ _ => true
  | .i3cPrivateRead _ => true
  | .i3cDynamicAddress x _ => decide (x.addr < 128)
  | .engineRead n req _ => okEngine n && kindIs 1 req
  | .engineWrite n req _ => okEngine n && kindIs 2 req
  | .engineTget n req _ => okEngine n && kindIs 3 req
  | .engineTput n req _ _ => okEngine n && kindIs 4 req
  | .engineAmo n req _ => okEngine n && kindIs 5 req
  | .engineFence n req _ => okEngine n && kindIs 6 req
  | .engineInval n req _ => okEngine n && kindIs 7 req
  | .engineWait n req _ => okEngine n && kindIs 8 req
  | .weightSegmentVerify slot _ _ => decide (slot < 16)
  | .ucieModuleTrained m _ => decide (m < 8)
  | .moduleDown m _ => decide (m < 8)
  | .rcacheInvChannel chan _ => decide (chan < 2 ^ 20)
  | .rcacheInvAll _ => true
  | .ordResetFlow src chan _ => okNode src && decide (chan < 2 ^ 20)
  | .ordResetAllFlows src _ => okNode src
  | .ordResetComplete _ => true
  | .ownerSet m _ _ _ => okTransport .sw m.via
  | .ownerClear m _ _ => okTransport .sw m.via
  | .tenantCreate m _ _ _ _ => okTransport .sw m.via
  | .tenantRemove m _ _ _ => okTransport .sw m.via
  | .tenantZeroingDone _ _ => true
  | .progkeyAdd m _ _ _ _ => okTransport .sw m.via
  | .progkeyDel m _ _ _ _ => okTransport .sw m.via
  | .rollbackSet m _ _ _ _ => okTransport .sw m.via
  | .epochAdvance m _ _ _ => okTransport .sw m.via
  | .epochRetire m _ _ _ => okTransport .sw m.via
  | .queueKeyGet m _ _ _ _ _ => okTransport .sw m.via
  | .confEnter m _ _ => okTransport .sw m.via
  | .confExit m _ _ => okTransport .sw m.via
  | .debugOpen m _ _ => okTransport .sw m.via
  | .weightKeyPut m _ _ _ _ _ _ _ _ => okTransport .ep m.via
  | .weightKeyDestroy m _ _ _ => okTransport .ep m.via
  | .getVersion d tr _ => okTransport d tr
  | .getCapabilities d tr _ => okTransport d tr
  | .negotiateAlgorithms d tr _ _ => okTransport d tr
  | .getDigests d tr _ => okTransport d tr
  | .getCertificate d tr _ _ => okTransport d tr
  | .challenge d tr _ _ => okTransport d tr
  | .getMeasurements d tr _ _ => okTransport d tr
  | .keyExchange d tr _ _ _ => okTransport d tr
  | .finish d m _ _ _ => okTransport d m.via
  | .endSession d m _ => okTransport d m.via
  | .spdmHeartbeat d m _ => okTransport d m.via
  | .hybridSig d tr _ => okTransport d tr
  | .peerSig d m _ _ => okTransport d m.via
  | .beat d p _ _ => okPort d p
  | .beatTimer _ _ => true
  | .heartbeatSilence d p _ => okPort d p
  | .accuse d p _ _ => okPort d p
  | .fatal d p _ _ => okPort d p
  | .opJoin d p _ _ => okPort d p
  | .stepReady d p _ _ => okPort d p
  | .stepFail d p _ _ => okPort d p
  | .stepDiscarded d p _ _ => okPort d p
  | .leaseAck d p _ _ => okPort d p
  | .decisionEpoch d p _ _ => okPort d p
  | .stepCommit d p _ _ => okPort d p
  | .stepReplay d p _ _ => okPort d p
  | .stepRestart d p _ _ => okPort d p
  | .decisionLease d p _ _ => okPort d p
  | .leaseRenewTimer _ => true
  | .coordinatorTakeover _ => true
  | .decisionCatchup d p _ => okPort d p
  | .stepPlan _ => true
  | .stepEnd _ => true
  | .stepFenced _ => true
  | .replayFenceTimeout _ => true
  | .repairTest _ _ => true
  | .repairTestDone d lanes cores clusters bad _ =>
    lanes.all (fun x => okPort d x.1 && decide (x.2 < 17)) && cores.all (fun c => decide (c < 72)) && clusters.all (fun c => decide (c < 18)) && decide (bad < 8)
  | .repairJoin _ _ => true
  | .joinTimer _ _ => true
  | .form _ _ => true
  | .admitHeld _ _ => true
  | .fatalFault _ cause _ => decide (1 ≤ cause) && decide (cause ≤ 5)
  | .logicHang _ _ => true
  | .clockLoss _ _ => true
  | .temperatureRead d temps _ => okTemps d temps
  | .refclkLoss _ _ => true
  | .domainWakeDone dom _ => okDomain dom
  | .domainWakeTimeout dom _ => okDomain dom
  | .domainOffTimer dom _ => okDomain dom
  | .clockLevelStep clk _ _ => decide (clk < 3)
  | .vrReply _ _ => true
  | .vrReplyTimeout _ => true
  | .vrKeepaliveTimer _ => true
  | .estUpdate _ => true
  | .floorRecompute _ => true
  | .capWindow _ => true
  | .ageingMonitorRead slacks _ => slacks.length == 128
  | .marginPlan _ => true
  | .ageingLogDaily _ => true
  | .eqRecompute d p lane _ _ => okPort d p && decide (lane < 17)
  | .windowBoundary _ _ => true
  | .telWinCfgWrite _ _ _ => true
  | .powerOnReset _ _ => true
  | .bootStageDone d _ _ => d == .sw
  | .warmN _ _ => true
  | .warm _ _ => true
  | .pf0Flr _ => true
  | .warmResetDone _ _ => true
  | .domainReset _ dom _ => decide (dom < 32)
  | .perstN _ => true
  | .powerLoss _ _ => true
  | .epStartUp _ _ => true
  | .acknowledgementDeadline d p _ => okPort d p
  | .marker d p lanes _ => okPort d p && okLanes lanes
  | .computeDieAcknowledge _ _ _ => true
  | .readCacheInvalidationComplete _ => true
  | .blockEraseDone _ _ _ _ => true
  | .arpNeighborDiscoveryIcmpEcho _ _ => true
  | .illegal n _ => okCore n
  | .registerRead d fn _ size _ => okAccess d fn size
  | .boundaryScan _ _ _ => true

end Sys2Proof
end

