-- ==== Sys2Proof/Certificates/Slice0/Obligations.lean ====
section
/-! DEFINITION. The statements for the provers, and the few words they are written in. -/

namespace Sys2Proof.Claims
end Sys2Proof.Claims

open Sys2Proof Sys2Proof.Machine Sys2Proof.Claims

/-- The command, given at time `t`, answers the next state that `f` makes, with the clock and the queue as `keep` says. -/
def Sys2Proof.Claims.Does (i : Instr) (t : Nat) (s : State) (f : State → State) : Prop :=
  exec i s = .next ((s.tick t).keep (f (s.tick t)))

/-- The command, given at time `t`, answers the next state that `f` makes, once what is then complete has ended
(log 16). -/
def Sys2Proof.Claims.Leaves (i : Instr) (t : Nat) (s : State) (f : State → State) : Prop :=
  exec i s = .next ((s.tick t).keep (f (s.tick t)).settle)

/-- The command, given at time `t`, answers a next state: that of some effect which stands in a relation to the state at
that time, once what is then complete has ended (log 16). -/
def Sys2Proof.Claims.Comes (i : Instr) (t : Nat) (s : State) (P : State → State → Prop) : Prop :=
  ∃ u, P (s.tick t) u ∧ exec i s = .next ((s.tick t).keep u.settle)

/-- The command, given at time `t`, answers a next state: that of an effect which stands in a relation to the state at that
time. -/
def Sys2Proof.Claims.Ends (i : Instr) (t : Nat) (s : State) (P : State → State → Prop) : Prop :=
  ∃ u, P (s.tick t) u ∧ exec i s = .next ((s.tick t).keep u)

/-- The host reaches a part that has started up. -/
def Sys2Proof.Claims.Up (s : State) (d : Part) : Prop := s.barOn d = true

/-- The fields of CFG_POT_STATUS that a Pot command writes. -/
def Sys2Proof.Claims.potStatus (holder state result : Nat) (v : Dev) : Dev :=
  ((v.set F.CFG_POT_STATUS_HOLDER holder).set F.CFG_POT_STATUS_STATE state).set F.CFG_POT_STATUS_RESULT result

/-- RESULT of CFG_POT_STATUS alone. -/
def Sys2Proof.Claims.potResult (d : Part) (result : Nat) (s : State) : State := s.set d F.CFG_POT_STATUS_RESULT result

/-- The host holds the Pot, and no check or Pour is being decided. -/
def Sys2Proof.Claims.HostHolds (s : State) (d : Part) : Prop :=
  s.get d F.CFG_POT_STATUS_HOLDER = 1 ∧
    (s.get d F.CFG_POT_STATUS_STATE = 1 ∨ s.get d F.CFG_POT_STATUS_STATE = 3)

/-- A check or a Pour is being decided. -/
def Sys2Proof.Claims.Deciding (s : State) (d : Part) : Prop :=
  s.get d F.CFG_POT_STATUS_STATE = 2 ∨ s.get d F.CFG_POT_STATUS_STATE = 4

/-- O1. At a device that is up and READY: CLAIM of an EMPTY Pot, CLAIM with FORCE while no check or Pour is being
decided and no core holds the Pot, CHECK, POUR (after a passed check, and without one) and DISCARD by the owner
function do exactly what Table 2.7 and R508 give, and change nothing else. While a check or a Pour is being decided,
and, for every command but a claim, while the host does not hold the Pot, each Pot command of the host writes RESULT
BUSY and changes nothing else; so does a CLAIM while a core holds the Pot. (R19, R20, R21, R22, R23, R28, R481, R507,
R508, Table 2.7) -/
def Obligations.PotHostCommands : Prop := ∀ (d : Part) (t : Nat) (s : State), Up s d →
  (s.get d F.CFG_BOOT_STATUS_STAGE = 7 → s.get d F.CFG_POT_STATUS_STATE = 0 →
    Does (.potClaim d t) t s (fun a => a.modDev d (potStatus 1 1 0))) ∧
  (s.get d F.CFG_BOOT_STATUS_STAGE = 7 → ¬ Deciding s d → s.get d F.CFG_POT_STATUS_HOLDER < 0x40 →
    Leaves (.potClaimForce d t) t s (fun a => a.modDev d (fun v =>
      potStatus 1 1 0 { v with staged := [], potPassed := false }))) ∧
  (HostHolds s d → Leaves (.potCheck d t) t s (fun a => a.set d F.CFG_POT_STATUS_STATE 2)) ∧
  (HostHolds s d → s.get d F.CFG_POT_STATUS_STATE = 3 → (s.dev d).potPassed = true →
    Does (.potPour d t) t s (fun a => a.set d F.CFG_POT_STATUS_STATE 4)) ∧
  (HostHolds s d → (s.dev d).potPassed = false → Does (.potPour d t) t s (potResult d 4)) ∧
  (HostHolds s d → Leaves (.potDiscard d t) t s (fun a => a.modDev d (fun v =>
    potStatus 0 0 0 { v with staged := [], potPassed := false, potRelease := false }))) ∧
  (Deciding s d ∨ (s.get d F.CFG_POT_STATUS_HOLDER ≠ 1 ∧ s.get d F.CFG_POT_STATUS_STATE ≠ 0) →
    Does (.potClaim d t) t s (potResult d 6)) ∧
  (Deciding s d → Leaves (.potClaimForce d t) t s (potResult d 6)) ∧
  (Deciding s d ∨ s.get d F.CFG_POT_STATUS_HOLDER ≠ 1 →
    Leaves (.potCheck d t) t s (potResult d 6) ∧ Does (.potPour d t) t s (potResult d 6) ∧
    Leaves (.potDiscard d t) t s (potResult d 6) ∧
    (∀ a size x, okStaged d a size = true → Leaves (.potStagedWrite d a size x t) t s (potResult d 6)))

/-- O2. A write of the whole of a Pot register at its staged address, by the owner function that holds the Pot, leaves
every live register but CFG_POT_STATUS as it was, makes the staged copy read the RW fields of the value over its
earlier contents, leaves every other staged copy, makes STATE STAGING and RESULT NONE, and ends a passed check. (R16,
R22, R28, Table 2.7, R508) -/
def Obligations.PotStagedWrite : Prop := ∀ (d : Part) (t b : Nat) (r : RegRow) (x : Word) (s : State),
  Up s d → HostHolds s d → okStaged d (b + 2 ^ 23) r.bytes = true → potReg d b r.bytes = some (r, b) →
  b ≠ A.CFG_POT_STATUS →
  Comes (.potStagedWrite d (b + 2 ^ 23) r.bytes x t) t s (fun s u =>
    (u.dev d).potPassed = false ∧ u.get d F.CFG_POT_STATUS_STATE = 1 ∧ u.get d F.CFG_POT_STATUS_RESULT = 0 ∧
    u.get d F.CFG_POT_STATUS_HOLDER = 1 ∧
    (u.dev d).stagedReg b = merged ((s.dev d).stagedReg b) r.rw b b r.bytes x.toNat % 2 ^ 64 ∧
    (∀ c, c ≠ b → c ≠ A.CFG_POT_STATUS → (u.dev d).stagedReg c = (s.dev d).stagedReg c) ∧
    (∀ c, c ≠ A.CFG_POT_STATUS → (u.dev d).reg c = (s.dev d).reg c))

/-- The host holds the Pot, and no core waits for an answer of it. -/
def Sys2Proof.Claims.HostAlone (s : State) (d : Part) : Prop :=
  s.get d F.CFG_POT_STATUS_HOLDER = 1 ∧ (s.dev d).potRelease = false ∧
    ∀ n sd, (s.core n).wait ≠ .check sd ∧ (s.core n).wait ≠ .pour sd

/-- O3. The end of a check, whoever holds the Pot, with no violation clears every record of the report (DEDUCED, log 38), makes STATE CHECKED
and RESULT CHECK_PASS, and makes the pass current; with violations, STATE is STAGING, RESULT is CHECK_FAIL and
REPORT_COUNT is their number, at most 16; HOLDER and the staged copies stay. At a pour instant with a drain condition that
no longer holds, no register but CFG_POT_STATUS changes, the staged copies stay, and the Pot is STAGING, unchecked, with
POUR_ABORTED_DRAIN. A core that waits for the outcome then gets it, and the Pot of a core that has stopped is released;
nothing else follows. At any other pour instant every staged value goes live, STATE is EMPTY with no holder and POURED,
GEN is one higher modulo 2^32, and the links, the membership, the engines or Caddy, and the bounds follow what became
live. When a set goes live, each register of it reads its staged value, and every register outside it but CFG_POT_STATUS
and CFG_POT_GEN reads as before. A check or Pour that is not under way does nothing. (R24, R36, R25, R27, R29, R35,
Table 2.7, R508) -/
def Obligations.PotDecisions : Prop :=
  (∀ (d : Part) (t : Nat) (s : State), s.get d F.CFG_POT_STATUS_STATE = 2 → (d = .ep ∨ (s.tick t).checkWaits = false) →
    Comes (.checkComplete d t) t s (fun s u => ∃ b : State,
      u = (b.tellCheck d (if s.violations d = [] then 1 else 2)).potSettle d ∧ (HostAlone s d → u = b) ∧
      b.get d F.CFG_POT_STATUS_HOLDER = s.get d F.CFG_POT_STATUS_HOLDER ∧ (b.dev d).staged = (s.dev d).staged ∧
      (s.violations d = [] → b.get d F.CFG_POT_STATUS_STATE = 3 ∧ b.get d F.CFG_POT_STATUS_RESULT = 1 ∧
        (b.dev d).potPassed = true ∧ b.get d F.CFG_POT_STATUS_REPORT_COUNT = 0 ∧
        ∀ n, n < 16 → (b.dev d).reg (A.CFG_CHECK_REPORT_A n) = 0 ∧ (b.dev d).reg (A.CFG_CHECK_REPORT_B n) = 0) ∧
      (s.violations d ≠ [] → b.get d F.CFG_POT_STATUS_STATE = 1 ∧ b.get d F.CFG_POT_STATUS_RESULT = 2 ∧
        b.get d F.CFG_POT_STATUS_REPORT_COUNT = min 16 (s.violations d).length))) ∧
  (∀ (d : Part) (t : Nat) (s : State), s.get d F.CFG_POT_STATUS_STATE = 4 →
    ((s.tick t).drainPending d ≠ [] → Comes (.pourInstant d t) t s (fun s u => ∃ b : State,
      u = (b.tellPour d 5).potSettle d ∧ (HostAlone s d → u = b) ∧
      b.get d F.CFG_POT_STATUS_STATE = 1 ∧ b.get d F.CFG_POT_STATUS_HOLDER = s.get d F.CFG_POT_STATUS_HOLDER ∧
      b.get d F.CFG_POT_STATUS_RESULT = 5 ∧ (b.dev d).potPassed = false ∧ (b.dev d).staged = (s.dev d).staged ∧
      ∀ c, c ≠ A.CFG_POT_STATUS → (b.dev d).reg c = (s.dev d).reg c)) ∧
    ((s.tick t).drainPending d = [] → (s.dev d).potUnchanged = true → Leaves (.pourInstant d t) t s (fun s =>
      (s.setDev d (s.dev d).goLive).tellPour d 3)) ∧
    ((s.tick t).drainPending d = [] → (s.dev d).potUnchanged = false → Leaves (.pourInstant d t) t s (fun s =>
      let o := s.dev d
      let live := (s.setDev d (o.pourDev s.now)).turnAway d
      let links := (List.range (linkPorts d)).foldl (State.pourLink o d) live
      let memb := State.pourMemb o d links
      let own := match d with | .sw => State.pourCaddy o memb | .ep => State.pourEp o memb
      ((List.range (linkPorts d)).foldl (fun a p => a.bounds d p) own).tellPour d 3)) ∧
    (HostAlone s d → (s.dev d).staged = [] → (s.tick t).drainPending d = [] → Comes (.pourInstant d t) t s (fun s u =>
      u.get d F.CFG_POT_STATUS_STATE = 0 ∧ u.get d F.CFG_POT_STATUS_HOLDER = 0 ∧ u.get d F.CFG_POT_STATUS_RESULT = 3 ∧
      u.get d F.CFG_POT_GEN_GEN = (s.get d F.CFG_POT_GEN_GEN + 1) % 2 ^ 32))) ∧
  (∀ (d : Part) (t : Nat) (s : State),
    (s.get d F.CFG_POT_STATUS_STATE ≠ 2 ∨ (d = .sw ∧ (s.tick t).checkWaits = true) →
      Leaves (.checkComplete d t) t s (fun a => a)) ∧
    (s.get d F.CFG_POT_STATUS_STATE ≠ 4 → Leaves (.pourInstant d t) t s (fun a => a))) ∧
  (∀ (v : Dev) (now c : Nat), c ≠ A.CFG_POT_STATUS → c ≠ A.CFG_POT_GEN →
    v.goLive.reg c = v.stagedReg c ∧ (v.pourDev now).reg c = v.stagedReg c) ∧
  (∀ (v : Dev) (now : Nat), let u := v.pourDev now
    u.staged = [] ∧ u.get F.CFG_POT_STATUS_STATE = 0 ∧ u.get F.CFG_POT_STATUS_HOLDER = 0 ∧ u.get F.CFG_POT_STATUS_RESULT = 3 ∧
    u.get F.CFG_POT_GEN_GEN = (v.get F.CFG_POT_GEN_GEN + 1) % 2 ^ 32) ∧
  (∀ (v : Dev) (c : Nat), v.potUnchanged = true → c ≠ A.CFG_POT_STATUS → c ≠ A.CFG_POT_GEN → v.goLive.reg c = v.reg c)

/-- The register at `b` of row `r`, accessed whole by PF 0 or over the attach, in a device that has started up. -/
def Sys2Proof.Claims.Reached (s : State) (d : Part) (r : RegRow) (b : Nat) : Prop :=
  Up s d ∧ s.get d F.CFG_BOOT_STATUS_STAGE ≠ 0xF ∧ okSize r.bytes = true ∧ hitReg d b r.bytes = some (r, b) ∧ b < 2 ^ 28

/-- The device keeps the register as a stored value, which a read returns. -/
def Sys2Proof.Claims.Stored (d : Part) (b : Nat) : Prop :=
  (∀ s : State, s.readWord d b = (s.dev d).reg b) ∧ (d = .sw → indexOf (A.SEQ_LOCAL_DATA 0) 0x100 64 b = none)

/-- A write of the register does no more than set its fields. -/
def Sys2Proof.Claims.Plain (d : Part) (b : Nat) : Prop :=
  ∀ (s : State) (a : Nat) (full : Nat → Nat) (plain : State), handlers.findSome? (fun h => h s d b a full plain) = none

/-- O4. For a Pot register of a device that has started up: a read at its own address returns the live value, and a
read at its own address plus 0x0080_0000 the staged value; a write at its own address changes nothing; and a write of
the host at the staged address, whether taken or refused, leaves every live register but CFG_POT_STATUS, and every
other staged copy, as they were. (R16) -/
def Obligations.PotCopies : Prop := ∀ (d : Part) (t b : Nat) (r : RegRow) (x : Word) (s : State),
  Reached s d r b → r.staged = true → potReg d b r.bytes = some (r, b) → b + 2 ^ 23 < 2 ^ 28 → bitOf b 23 = false →
  hitReg d (b + 2 ^ 23) r.bytes = none → Stored d b → b ≠ A.CFG_POT_STATUS →
  Comes (.registerRead d 0 b r.bytes t) t s (fun s u =>
    u.out = s.out ++ [.readValue d (BitVec.ofNat 64 ((s.dev d).reg b % 2 ^ (8 * r.bytes)))] ∧
    (u.dev d).regs = (s.dev d).regs ∧ (u.dev d).staged = (s.dev d).staged) ∧
  Leaves (.registerRead d 0 (b + 2 ^ 23) r.bytes t) t s (fun s =>
    s.emit (.readValue d (BitVec.ofNat 64 ((s.dev d).stagedReg b % 2 ^ (8 * r.bytes))))) ∧
  Leaves (.registerWrite d 0 b r.bytes x t) t s id ∧
  Comes (.registerWrite d 0 (b + 2 ^ 23) r.bytes x t) t s (fun s u =>
    (∃ rs ss p, u = s.setDev d { s.dev d with regs := rs, staged := ss, potPassed := p }) ∧
    (∀ c, c ≠ A.CFG_POT_STATUS → (u.dev d).reg c = (s.dev d).reg c) ∧
    (∀ c, c ≠ b → c ≠ A.CFG_POT_STATUS → (u.dev d).stagedReg c = (s.dev d).stagedReg c) ∧
    (HostHolds s d → (u.dev d).stagedReg b = merged ((s.dev d).stagedReg b) r.rw b b r.bytes x.toNat % 2 ^ 64) ∧
    (¬ HostHolds s d → (u.dev d).staged = (s.dev d).staged))

/-- No transaction to a node whose bit the new word clears is parked. -/
def Sys2Proof.Claims.NoneParked (s : State) (d : Part) (k : Nat) : Prop :=
  ∀ x ∈ (s.dev d).txns, x.parked = true → x.pkt.hdr.dst.toNat / 64 ≠ k

/-- No register, and no staged copy of one, holds an access. -/
def Sys2Proof.Claims.NoHit (d : Part) (a size : Nat) : Prop := hitReg d a size = none ∧ stagedHit d a size = none

/-- An access of PF 0, or over the attach, falls outside every register, every staged copy and every doorbell. -/
def Sys2Proof.Claims.Outside (d : Part) (a size : Nat) : Prop :=
  if a < 2 ^ 28 then NoHit d a size ∧ (size = 8 → a % 8 = 0 → NoHit d a 4 ∧ NoHit d (a + 4) 4)
  else d = .sw → doorbellAt (a - 2 ^ 28) = none

/-- O5. A whole write of a live register that does no more than set its fields writes its RW bits, clears the RW1C
bits written with one, leaves every other bit, and changes nothing else; a read of a stored register returns its
value and leaves every register of the part, and so does an aligned 64-bit read at a 32-bit register with none behind it (a
choice of the model, log 33). An access that falls in no register
writes nothing and reads zero; at a switch it sets HIF_ERR.BAD_REG, records the access in HIF_BAD_ACCESS and raises PF 0
vector 0. A landing counter written holds the low 48 bits of the value.
PKT_NODE_ID is written only while no port's live ENABLE is set. A PKT_DRAIN word takes the value. SEQ_LOCAL_DATA reads
and writes the word of a core's local memory that SEQ_LOCAL_WIN names while the core is LOADED, HALTED or FAULTED,
outside confidential mode. Each of these changes nothing else. (R5, R6, R7, R8, R334, Table 0.7, R93, R104, R148,
R150, R221, R240) -/
def Obligations.PlainRegisters : Prop := ∀ (d : Part) (t b a size n k : Nat) (r : RegRow) (x : Word) (s : State),
  (Reached s d r b → r.staged = false → Plain d b → Leaves (.registerWrite d 0 b r.bytes x t) t s (fun s =>
    s.modDev d (fun v => v.plainWrite r b b r.bytes x.toNat))) ∧
  (Reached s d r b → Stored d b → Comes (.registerRead d 0 b r.bytes t) t s (fun s u =>
    u.out = s.out ++ [.readValue d (BitVec.ofNat 64 ((s.dev d).reg b % 2 ^ (8 * r.bytes)))] ∧
    (u.dev d).regs = (s.dev d).regs)) ∧
  (Reached s d r b → Stored d b → r.bytes = 4 → b % 8 = 0 → NoHit d b 8 → NoHit d (b + 4) 4 →
    Comes (.registerRead d 0 b 8 t) t s (fun s u =>
      u.out = s.out ++ [.readValue d (BitVec.ofNat 64 ((s.dev d).reg b % 2 ^ 32))] ∧ (u.dev d).regs = (s.dev d).regs)) ∧
  (Up s d → s.get d F.CFG_BOOT_STATUS_STAGE ≠ 0xF → okSize size = true → Outside d a size →
    (d = .ep → Leaves (.registerWrite d 0 a size x t) t s id ∧
      Leaves (.registerRead d 0 a size t) t s (fun s => s.emit (.readValue d 0))) ∧
    (d = .sw → s.pcieStopped = false →
      Leaves (.registerWrite d 0 a size x t) t s (fun s =>
        ((s.modDev d (fun v => v.setReg A.HIF_BAD_ACCESS (2 ^ 55 + a % 2 ^ 28))).set d F.HIF_ERR_BAD_REG 1).emit (.msix 0 0)) ∧
      Leaves (.registerRead d 0 a size t) t s (fun s =>
        (((s.modDev d (fun v => v.setReg A.HIF_BAD_ACCESS (a % 2 ^ 28))).set d F.HIF_ERR_BAD_REG 1).emit (.msix 0 0)).emit
          (.readValue d 0)))) ∧
  (Up s d →
    (1 ≤ n → n < 65536 → Leaves (.memLctrWrite d n x t) t s (fun s =>
      s.modDev d (fun v => v.setReg (A.MEM_LCTR n) (x.toNat % 2 ^ 48)))) ∧
    ((∀ p, p < linkPorts d → s.get d (F.LNK_CTRL_ENABLE p) = 0) → Does (.pktNodeIdWrite d x t) t s (fun s =>
      s.set d F.PKT_NODE_ID_NODE_ID (x.toNat % 4096))) ∧
    ((∃ p, p < linkPorts d ∧ s.get d (F.LNK_CTRL_ENABLE p) = 1) → Does (.pktNodeIdWrite d x t) t s id) ∧
    (k < 64 → NoneParked s d k → Leaves (.pktDrainWrite d k x t) t s (fun s =>
      s.modDev d (fun v => v.setReg (A.PKT_DRAIN k) x.toNat))) ∧
    (d = .sw → n < 64 → s.get .sw F.SEC_MODE_CONF = 0 →
      (s.get .sw (F.SEQ_CORE_STATUS_STATE n) = 2 ∨ s.get .sw (F.SEQ_CORE_STATUS_STATE n) = 5 ∨
        s.get .sw (F.SEQ_CORE_STATUS_STATE n) = 6) →
      Leaves (.seqLocalDataAccess n true x t) t s (fun s => s.modCore n (fun c =>
        { c with mem := Memory.setBytes c.mem (8 * s.get .sw (F.SEQ_LOCAL_WIN_WORD n)) (leBytes 8 x.toNat) })) ∧
      Leaves (.seqLocalDataAccess n false x t) t s (fun s => s.emit (.readValue .sw
        (BitVec.ofNat 64 (Memory.num (s.core n).mem (8 * s.get .sw (F.SEQ_LOCAL_WIN_WORD n)) 8))))))

/-- A frame as a port makes it: its lengths agree (R54), its padding and codes follow, and a DATA body is its packets. -/
def Sys2Proof.Claims.WellMade (f : Frame) (ps : List Packet) : Prop :=
  f.hdr.bodyLen.toNat ≤ 514 ∧ f.body.length = 16 * f.hdr.bodyLen.toNat ∧ f.hdr.lenUnits.toNat = unitsFor f.hdr.bodyLen.toNat ∧
  (f.hdr.type = 1 ∨ f.hdr.type = 2 ∨ f.hdr.type = 3) ∧
  (f.hdr.type = 1 → ps ≠ [] ∧ ps.length = f.hdr.pktCount.toNat ∧ f.body = ps.flatMap packetBytes ∧
    ∀ p ∈ ps, p.pay.length = 16 * p.hdr.payUnits.toNat) ∧
  (f.hdr.type ≠ 1 → ps = [])

/-- What the sixteen receivers make of what the sixteen lanes carry. -/
def Sys2Proof.Claims.received (scr : List Nat) (runs : List LaneRun) (lanes : List (List Sym)) : List LaneIn :=
  (List.range 16).map (fun n => recvLane (scrOf scr n) (runOf runs n) (lanes.getD n []))

/-- O6. For every well-made frame, and every state of the scramblers and of the runs on the lanes that both ends
share: striping, scrambling and stuffing at the sender, and destuffing, descrambling and joining at the receiver, give
back the frame's bytes on every lane without a lane error; the receiver's checks of HCRC, TYPE, length and CRC-64
pass, and the header, the body and each packet are those that were sent; and both ends' states agree after it. (R42,
R43, R44, R46, R48, R51, R52, R53, R54, R88, Table 3.1, Table 3.2) -/
def Obligations.LineCarriesFrames : Prop := ∀ (f : Frame) (ps : List Packet) (scr : List Nat) (runs : List LaneRun),
  WellMade f ps →
    let line := sendLanes scr runs (frameBytes f)
    let got := received scr runs line.1
    (∀ x ∈ got, x.ok = true) ∧ joinLanes (got.map (fun x => x.bytes)) = frameBytes f ∧
    checkFrame (joinLanes (got.map (fun x => x.bytes))) = .good f ps ∧
    got.map (fun x => x.scr) = line.2.1 ∧ got.map (fun x => x.run) = line.2.2

/-- O7. The 256 bits of a packet header, the 112 bits of a frame header below its HCRC, and the 256 bits of a training
set give back every field, for every value of every field; and any 256 bits are those of the packet header read from
them, and any 112 bits those of the frame header. (R52, R76, R88, Table 3.2, Table 3.6, Table 4.1) -/
def Obligations.HeadersRoundTrip : Prop :=
  (∀ h : PktHdr, pktHdrOf (PktHdrBits h) = h) ∧ (∀ x : BitVec 256, PktHdrBits (pktHdrOf x) = x) ∧
  (∀ h : FrameHdr, frameHdrOf (FrameHdrBits h) = h) ∧ (∀ x : BitVec 112, FrameHdrBits (frameHdrOf x) = x) ∧
  (∀ ts : TsBody, tsOf (tsBits ts) = ts) ∧
  (∀ a b : PktHdr, packetBytes ⟨a, []⟩ = packetBytes ⟨b, []⟩ → a = b)

/-- The frame that the device sends last: the header and body of what leaves port `p`. -/
def Sys2Proof.Claims.sent (d : Part) (p : Nat) (s u : State) (h : FrameHdr) (body : List Byte) : Prop :=
  ∃ l, u.out = s.out ++ [.frame d p ⟨h, body⟩ l]

/-- A CONTROL frame may go now: no other waits, and R56 allows it. -/
def Sys2Proof.Claims.Clear (s : State) (d : Part) (p : Nat) : Prop :=
  s.mayControl d p = true ∧ (s.port d p).ctlWait = []

/-- O8. On an ACTIVE link that is not HELD, when the scheduler gives packets, TX_DATA_FRAME sends one DATA frame with
the next SEQ, holding exactly those packets, keeps it for replay, and advances SEQ, and nothing else goes out unless a
CONTROL frame was waiting; a line that is up and has nothing else to send sends an IDLE frame of zeros, and TX_IDLE_FRAME
sends nothing elsewhere; where a CONTROL frame may go, after 100 ns an
acknowledgement goes in a CONTROL ACK, after 2 us an outstanding NACK is repeated and counted, and a CREDIT frame with
every class goes when a class is credit-controlled, when a credit change is 250 ns old, and when a Pour owes it. Only a
DATA frame may change a register of the device. While DATA waits and fewer than 127 units of it have gone since the last
other unit, a CONTROL frame waits in order. (R50, R55, R56, R58, R59, R60, R61, R64, R65, R112, Table 3.3, Table 3.7) -/
def Obligations.FramesSent : Prop := ∀ (d : Part) (p n t : Nat) (s : State), p < linkPorts d →
  (s.lnk d p = 2 → s.held d p = false → (State.pack d p ((s.tick t).maxPack d p n) (s.tick t) [] 0).2 ≠ [] →
    Comes (.txDataFrame d p n t) t s (fun s u =>
      let r := State.pack d p (s.maxPack d p n) s [] 0
      ∃ h, h.type = 1 ∧ h.seq = (r.1.port d p).txSeq ∧ h.pktCount = BitVec.ofNat 8 r.2.length ∧ h.ackValid = 1 ∧
        h.ackSeq = (r.1.port d p).rxSeq - 1 ∧ h.replay = 0 ∧
        (∃ l more, u.out = r.1.out ++ .frame d p ⟨h, r.2.flatMap packetBytes⟩ l :: more ∧
          ((s.port d p).ctlWait = [] → more = [])) ∧
        (u.port d p).txSeq = (r.1.port d p).txSeq + 1 ∧
        ∃ k, (u.port d p).replay = (r.1.port d p).replay ++ [⟨⟨k, r.2.flatMap packetBytes⟩, 0⟩] ∧ k.seq = h.seq)) ∧
  (let rest := (State.pack d p 1 (s.tick t) [] 0).2
   (s.lineUp d p = true → s.lnk d p ≠ 2 ∨ s.held d p = true ∨ rest = [] → Comes (.txIdleFrame d p t) t s (fun s u =>
      ∃ k, k ≤ 2 ∧ sent d p s u ((s.port d p).hdr 3 0 k) (List.replicate (16 * k) 0) ∧ (u.dev d).regs = (s.dev d).regs)) ∧
    (s.lineUp d p = false ∨ (s.lnk d p = 2 ∧ s.held d p = false ∧ rest ≠ []) → Leaves (.txIdleFrame d p t) t s (fun s => s))) ∧
  (∀ at_, s.lnk d p = 2 → Clear s d p → (s.port d p).ackDue = some at_ → at_ + 100 ≤ t → Comes (.acknowledgementDeadline d p t) t s (fun s u =>
    sent d p s u ((s.port d p).hdr 2 1 2) (List.replicate 32 0) ∧ (u.port d p).ackDue = none ∧ (u.dev d).regs = (s.dev d).regs)) ∧
  (∀ at_, s.lnk d p = 2 → Clear s d p → (s.port d p).nackAt = some at_ → at_ + 2000 ≤ t → Comes (.nackRepeatTimeout d p t) t s (fun s u =>
    sent d p s u ((s.port d p).hdr 2 2 2) (List.replicate 32 0) ∧ (u.port d p).nackAt = some s.now ∧
    SMap.at 0 (u.dev d).counters (32 * p + 7) = (SMap.at 0 (s.dev d).counters (32 * p + 7) + 1) % 2 ^ 48 ∧
    (u.dev d).regs = (s.dev d).regs)) ∧
  (s.lnk d p = 2 → ((s.port d p).creditAt + 2000 ≤ t → (∃ c, c < 8 ∧ (s.dev d).mode p c = 1) →
      Leaves (.creditFrameTimer d p t) t s (fun s => s.sendCredit d p)) ∧
    ((∃ c at_, c < 8 ∧ (s.port d p).creditOwed[c]? = some (some at_) ∧ at_ + 250 ≤ t) →
      Leaves (.creditReturnDeadline d p t) t s (fun s => s.sendCredit d p)) ∧
    ((s.port d p).pourOwed ≠ [] → Leaves (.pourCreditUpdate d p t) t s (fun s => s.sendCredit d p))) ∧
  (Clear s d p → (∃ l, (s.sendCredit d p).out = s.out ++ [.frame d p ⟨(s.port d p).hdr 2 3 2, leBytes 32 ((s.dev d).creditBody p).toNat⟩ l]) ∧
    ((s.sendCredit d p).port d p).pourOwed = []) ∧
  ((s.sendCredit d p).dev d).regs = (s.dev d).regs ∧
  (∀ sub body, s.dataWaits d p = true → (s.port d p).dataRun < 127 →
    (s.sendControl d p sub body).out = s.out ∧
    ((s.sendControl d p sub body).port d p).ctlWait = (s.port d p).ctlWait ++ [(sub, body)]) ∧
  (∀ sub body, Clear s d p → ((s.sendControl d p sub body).port d p).dataRun = 0 ∧
    ∃ l, (s.sendControl d p sub body).out = s.out ++ [.frame d p ⟨(s.port d p).hdr 2 sub 2, leBytes 32 body.toNat⟩ l])

/-- The lanes of a frame reach a port whose last 16 frames had no lane error. -/
def Sys2Proof.Claims.Arrives (s : State) (d : Part) (p : Nat) (f : Frame) (lanes : List (List Sym)) : Prop :=
  s.hears d p = true ∧ (s.port d p).laneErrs = [] ∧ lanes = (sendLanes (s.port d p).rxScr (s.port d p).rxRun (frameBytes f)).1

/-- O9. The lanes of a good CONTROL or IDLE frame act as the frame says, with the descramblers advanced by it. A DATA
frame with the expected SEQ is accepted: the next SEQ is expected and the acknowledgement is due; one ahead of it
leaves every packet and draws one NACK; one behind it is only acknowledged again. A marker reseeds every lane, and one that
is faulty on some lanes reseeds the others. An ACK
frees what it covers in the replay buffer; a NACK frees it and has the rest replayed, unless the link is HELD, when
nothing is replayed; CREDIT is taken, and the bounds follow it; a grace that is over ends. (R47, R48, R58, R59, R60, R61, R62, R63, R64, R82, R509,
Table 3.3) -/
def Obligations.FramesReceived : Prop := ∀ (d : Part) (p t : Nat) (s : State), p < linkPorts d →
  (∀ f lanes, WellMade f [] → Arrives s d p f lanes → Leaves (.dataFrameReceive d p lanes t) t s (fun s =>
    ((s.modPort d p (fun q => { q with laneErrs := [[]] })).modPort d p (fun q => { q with
      rxScr := (sendLanes q.rxScr q.rxRun (frameBytes f)).2.1, rxRun := (sendLanes q.rxScr q.rxRun (frameBytes f)).2.2 })).takeFrame
        d p f [])) ∧
  (∀ f ps lanes, f.hdr.type = 1 → WellMade f ps → Arrives s d p f lanes → s.lnk d p = 2 → f.hdr.seq = (s.port d p).rxSeq →
    (s.port d p).nackAt = none → Comes (.dataFrameReceive d p lanes t) t s (fun s u =>
      (u.port d p).rxSeq = (s.port d p).rxSeq + 1 ∧ (u.port d p).ackDue = some ((s.port d p).ackDue.getD s.now))) ∧
  (∀ f ps lanes, f.hdr.type = 1 → f.hdr.ackValid = 0 → f.hdr.crdValid = 0 → WellMade f ps → Arrives s d p f lanes →
    s.lnk d p = 2 → (s.port d p).nackAt = none → 1 ≤ (f.hdr.seq - (s.port d p).rxSeq).toNat →
    ((f.hdr.seq - (s.port d p).rxSeq).toNat < 32768 → Clear s d p → Comes (.dataFrameReceive d p lanes t) t s (fun s u =>
      sent d p s u ((s.port d p).hdr 2 2 2) (List.replicate 32 0) ∧ (u.port d p).nackAt = some s.now ∧
      (u.port d p).rxSeq = (s.port d p).rxSeq ∧ (u.port d p).arrived = (s.port d p).arrived ∧ (u.dev d).regs = (s.dev d).regs)) ∧
    (32768 ≤ (f.hdr.seq - (s.port d p).rxSeq).toNat → Comes (.dataFrameReceive d p lanes t) t s (fun s u =>
      u.out = s.out ∧ (u.port d p).ackDue.isSome = true ∧ (u.port d p).rxSeq = (s.port d p).rxSeq ∧
      (u.port d p).arrived = (s.port d p).arrived ∧ (u.dev d).regs = (s.dev d).regs))) ∧
  (Leaves (.marker d p ((List.range 16).map (fun n => markerSyms (runOf (s.port d p).rxRun n))) t) t s (fun s =>
    s.modPort d p (fun q => { q with rxScr := [], rxRun := List.replicate 16 markerRun }))) ∧
  (∀ lanes, okLanes lanes = true → Comes (.marker d p lanes t) t s (fun s u => ∀ n, n < 16 →
    isMarker (runOf (s.port d p).rxRun n) (lanes.getD n []) = true →
    scrOf (u.port d p).rxScr n = laneSeed n ∧ runOf (u.port d p).rxRun n = markerRun)) ∧
  (s.lnk d p = 2 → ∀ ack,
    Comes (.controlAck d p ack t) t s (fun s u =>
      (u.port d p).replay = (s.port d p).replay.filter (fun f => ! coversSeq ack f.frame.hdr.seq) ∧
      u.out = s.out ∧ (u.dev d).regs = (s.dev d).regs) ∧
    (s.held d p = true → Comes (.controlNack d p ack t) t s (fun s u =>
      (u.port d p).replay = (s.port d p).replay.filter (fun f => ! coversSeq ack f.frame.hdr.seq) ∧ u.out = s.out) ∧
      Leaves (.replayProgressTimeout d p t) t s (fun s => s)) ∧
    (s.held d p = false → ∀ h tl, (s.port d p).replay.filter (fun f => ! coversSeq ack f.frame.hdr.seq) = h :: tl → h.replays < 8 →
      Comes (.controlNack d p ack t) t s (fun s u =>
        (u.port d p).replay = (h :: tl).map (fun f => ⟨{ f.frame with hdr := { f.frame.hdr with replay := 1 } }, f.replays + 1⟩) ∧
        (∃ l, u.out[s.out.length]? = some (.marker d p l)) ∧ u.out.length = s.out.length + 2 + tl.length ∧
        SMap.at 0 (u.dev d).counters (32 * p + 8) = (SMap.at 0 (s.dev d).counters (32 * p + 8) + 1) % 2 ^ 48)) ∧
    (s.held d p = false → ∀ h tl, (s.port d p).replay = h :: tl → h.replays < 8 → (s.port d p).progressAt + 4000 ≤ t →
      Comes (.replayProgressTimeout d p t) t s (fun s u =>
        (u.port d p).replay.length = (s.port d p).replay.length ∧ (u.port d p).progressAt = s.now ∧
        u.out.length = s.out.length + 2 + tl.length))) ∧
  (s.lnk d p = 2 → (s.port d p).phase = none → ∀ body, Leaves (.controlCredit d p body t) t s (fun s =>
    ((s.heard d p).modPort d p (fun q => { q with credit := creditOf body })).bounds d p)) ∧
  (∀ c, c < 8 → (s.port d p).nackAt = none → s.recovering d p = false → Comes (.creditGraceEnd d p c t) t s (fun s u =>
    (∀ g ∈ (u.port d p).grace, g.cls = c → ∀ e, g.endAt = some e → s.now < e) ∧
    (∀ g ∈ (s.port d p).grace, g.cls ≠ c ∨ (∀ e, g.endAt = some e → s.now < e) → g ∈ (u.port d p).grace) ∧
    (u.dev d).regs = (s.dev d).regs ∧ u.out = s.out))

/-- The order of the phases of cold training (Table 3.5). -/
def Sys2Proof.Claims.coldOrder : List Phase := [.detect, .clockLock, .equalise, .deskew, .laneTest, .negotiate]

/-- O10. A phase that completes is followed by the next one of Table 3.5. Two failed lanes in LANE_TEST, and a phase
that outlasts its time, end a cold training: the link is DOWN, LAST_RESULT says why, and no phase is under way. A DOWN
link with ENABLE set starts again 10 ms after an attempt, from DETECT, with version and HELD cleared and SEQ zero. In
NEGOTIATE, a round-1 training set is answered by round 2, and the partner noted from it; a round-2 set that echoes a tag of this end within 1,500 ns and
agrees with the version it sent fixes version, partner and node id, and the cold training enters CREDIT; one that does
not agree, or comes later, fails it, and the partner is noted all the same. The chosen version is the
highest of 1.0, 1.1 and 2.0 that is not above either VER_MAX, and both ends compute the same. Cold training runs
DETECT, CLOCK_LOCK, EQUALISE, DESKEW, LANE_TEST, NEGOTIATE in that order. (R69, R71, R72, R75, R76, R77, R78, R79,
R81, R85, Table 3.5, Table 3.9) -/
def Obligations.TrainingRuns : Prop :=
  (∀ a b, chosenVersion a b = chosenVersion b a) ∧
  (∀ a b, 0x10 ≤ a → 0x10 ≤ b → chosenVersion a b ≤ a ∧ chosenVersion a b ≤ b ∧
    chosenVersion a b ∈ [0x10, 0x11, 0x20] ∧ ∀ v ∈ [0x10, 0x11, 0x20], v ≤ a → v ≤ b → v ≤ chosenVersion a b) ∧
  (∀ k, k < 5 → coldOrder[k]?.bind (nextPhase .cold) = coldOrder[k + 1]?) ∧
  (∀ (d : Part) (p t : Nat) (failed coeffs : List Nat) (s : State),
    p < linkPorts d → coeffs.length = 17 →
    (∀ ph nx, (s.port d p).phase = some ph → nextPhase (s.port d p).kind ph = some nx → (s.port d p).earlyTs = none →
      failed.length ≤ 1 → Comes (.trainingPhaseDone d p failed coeffs t) t s (fun s u =>
        (u.port d p).phase = some nx ∧ (u.port d p).phaseAt = s.now ∧ (u.port d p).kind = (s.port d p).kind)) ∧
    ((s.port d p).phase = some .laneTest → (s.port d p).kind = .cold → 2 ≤ failed.length →
      Comes (.trainingPhaseDone d p failed coeffs t) t s (fun _ u =>
        u.lnk d p = 7 ∧ u.get d (F.LNK_STATUS_LAST_RESULT p) = 5 ∧ (u.port d p).phase = none)) ∧
    (∀ ph, (s.port d p).phase = some ph → ph ≠ .credit → (s.port d p).kind = .cold →
      (s.port d p).phaseAt + phaseMax .cold ph ≤ t → Comes (.trainingPhaseTimeout d p false t) t s (fun _ u =>
        u.lnk d p = 7 ∧ u.get d (F.LNK_STATUS_LAST_RESULT p) = phaseCode 0 ph ∧ (u.port d p).phase = none)) ∧
    (s.lnk d p = 7 → s.get d (F.LNK_CTRL_ENABLE p) = 1 → (s.port d p).attemptAt + 10000000 ≤ t → s.portOn d p = true →
      Comes (.trainingRetryTimer d p t) t s (fun s u =>
        u.lnk d p = 1 ∧ u.get d (F.LNK_STATUS_VER_RUN p) = 0 ∧ u.held d p = false ∧ (u.port d p).phase = some .detect ∧
        (u.port d p).kind = .cold ∧ (u.port d p).txSeq = 0 ∧ (u.port d p).rxSeq = 0 ∧ (u.port d p).replay = [] ∧
        u.out = s.out ++ [.clockOn d p])) ∧
    (∀ ts : TsBody, (s.port d p).phase = some .negotiate → (d = .ep → ts.role ≠ 1) → 0x10 ≤ ts.verMax.toNat →
      (ts.round = 1 → Leaves (.controlTs d p ts t) t s (fun s =>
        ((((s.heard d p).notePartner d p ts (s.rtt d p)).modPort d p (fun q => { q with tsPeer := ts.tag })).modPort d p (fun q => { q with
          verSel := chosenVersion (s.verMax d p) ts.verMax.toNat })).sendTs d p 2)) ∧
      (ts.round = 2 → (s.port d p).tsTwo.isSome = true → (s.port d p).kind = .cold →
        (ts.verSel.toNat = (s.port d p).verSel → (s.port d p).tsDone = false → ∀ at_, (s.port d p).tsSentAt ts.echo = some at_ →
          (max s.now t - at_ ≤ 1500 → (s.port d p).earlyCredit = none → Comes (.controlTs d p ts t) t s (fun s u =>
            u.get d (F.LNK_STATUS_VER_RUN p) = ts.verSel.toNat ∧
            u.get d (F.LNK_PARTNER_NODE_ID p) = ts.node.toNat ∧ u.get d (F.LNK_PARTNER_RTT_NS p) = s.now - at_ ∧
            (u.port d p).tsDone = true ∧ (u.port d p).phase = some .credit)) ∧
          (1500 < max s.now t - at_ → Comes (.controlTs d p ts t) t s (fun _ u =>
            u.lnk d p = 7 ∧ u.get d (F.LNK_STATUS_LAST_RESULT p) = 7 ∧ u.get d (F.LNK_PARTNER_NODE_ID p) = ts.node.toNat))) ∧
        (ts.verSel.toNat ≠ (s.port d p).verSel → Comes (.controlTs d p ts t) t s (fun _ u =>
          u.lnk d p = 7 ∧ u.get d (F.LNK_STATUS_LAST_RESULT p) = 8 ∧ u.get d (F.LNK_STATUS_VER_RUN p) = 0 ∧
          u.get d (F.LNK_PARTNER_NODE_ID p) = ts.node.toNat)))))

/-- O11. A NAP sends NAP_REQ on an ACTIVE link that may enter DEEP, and is refused otherwise; a NAP_REQ is answered
NAP_ACK by an idle port that may, with DEEP entry, and NAP_NAK by one that may not; NAP_ACK enters DEEP entry, NAP_NAK
and a missing reply refuse the NAP; a NAP_REQ that crosses this end's own enters DEEP entry, with a wake held where
TARGET has become ACTIVE_HELD; entry ends in DEEP with the lanes off, and a packet still queued wakes the link; a WAKE or
a beacon starts the exit, and one during entry is held. A recovery starts with the lanes idle, ends ACTIVE once its
NEGOTIATE is done, with its replay counts begun again (a choice of the model, log 42), HELD while the device is outside the
membership, not before, or takes the link DOWN; so do DOWN from the partner and loss of the forwarded clock. When an
unanswered NAP_REQ is given up, and what becomes of one whose TARGET has changed, are the model's choices (log 20). (R62, R66, R67, R68, R69, R70, R73, R74, R75, R80,
R83, R415) -/
def Obligations.LowPowerAndRecovery : Prop := ∀ (d : Part) (p t : Nat) (s : State), p < linkPorts d →
  (Up s d →
    (s.lnk d p = 2 → s.mayDeep d p = true → (s.port d p).napAt = none → Leaves (.linkNap d p t) t s (fun s =>
      (s.sendControl d p 6 0).modPort d p (fun q => { q with napAt := some s.now }))) ∧
    (s.lnk d p ≠ 2 ∨ s.mayDeep d p = false → Leaves (.linkNap d p t) t s (fun s => s.napNo d p)) ∧
    (s.lnk d p = 4 → Leaves (.linkWake d p t) t s (fun s => s.startWake d p)) ∧
    (s.lnk d p = 3 → Leaves (.linkWake d p t) t s (fun s => s.modPort d p (fun q => { q with wakeHeld := true })))) ∧
  (s.lnk d p = 2 →
    ((s.port d p).napAt = none → s.mayDeep d p = true → (s.port d p).wakeHeld = false → (s.port d p).replay = [] →
      (s.dev d).egressEmpty p = true → Leaves (.controlNapReq d p t) t s (fun s =>
        ((s.heard d p).controlNow d p 7 0).enterDeep d p)) ∧
    ((s.port d p).napAt = none → s.mayDeep d p = false → Leaves (.controlNapReq d p t) t s (fun s =>
      (s.heard d p).sendControl d p 8 0)) ∧
    ((s.port d p).napAt.isSome = true → Leaves (.controlNapAck d p t) t s (fun s => (s.heard d p).enterDeep d p) ∧
      Leaves (.controlNapNak d p t) t s (fun s => (s.heard d p).napRefused d p) ∧
      (s.get d (F.LNK_CTRL_TARGET p) ≠ 0 → Leaves (.controlNapReq d p t) t s (fun s => (s.heard d p).enterDeep d p)) ∧
      (s.get d (F.LNK_CTRL_TARGET p) = 0 → Leaves (.controlNapReq d p t) t s (fun s =>
        ((s.heard d p).controlNow d p 8 0).enterDeep d p) ∧ ((s.enterDeep d p).port d p).wakeHeld = true)) ∧
    Leaves (.controlDown d p t) t s (fun s => (s.heard d p).linkDown d p) ∧
    Comes (.partnerElectricalIdle d p t) t s (fun s u =>
      u.lnk d p = 6 ∧ u.recovering d p = true ∧ u.get d (F.LNK_ERR_RECOVERY p) = 1 ∧ (u.port d p).phase = some .idle ∧
      (u.port d p).kind = .recovery ∧ (u.port d p).replay = (s.port d p).replay ∧ u.out = s.out ++ [.lanesIdle d p])) ∧
  (∀ at_, (s.port d p).napAt = some at_ → at_ + 1000 + s.rtt d p ≤ t →
    Leaves (.napReplyTimeout d p t) t s (fun s => s.napRefused d p)) ∧
  (s.lnk d p = 3 → (s.port d p).wakeHeld = false → (∀ n q sd, (s.core n).wait ≠ .nap q sd) →
    ((s.dev d).egressEmpty p = true →
      Comes (.deepEntryDone d p t) t s (fun s u => u.lnk d p = 4 ∧ u.out = s.out ++ [.lanesOff d p])) ∧
    ((s.dev d).egressEmpty p = false → Comes (.deepEntryDone d p t) t s (fun s u =>
      u.lnk d p = 5 ∧ u.get d (F.LNK_ERR_DEMAND_WAKE p) = 1 ∧ u.out = s.out ++ [.lanesOff d p, .beacon d p]))) ∧
  (s.lnk d p = 4 → Comes (.beaconDetect d p t) t s (fun _ u =>
    u.lnk d p = 5 ∧ (u.port d p).phase = some .clockLock ∧ (u.port d p).kind = .deepExit)) ∧
  (s.lnk d p = 3 → Leaves (.beaconDetect d p t) t s (fun s => s.modPort d p (fun q => { q with wakeHeld := true }))) ∧
  (s.recovering d p = true → ∀ failed : List Nat,
    (failed.length ≤ 1 → ((s.port d p).phase ≠ some .negotiate ∨ (s.port d p).tsDone = false) →
      Leaves (.recoveryEnd d p true failed t) t s (fun s => s)) ∧
    (failed.length ≤ 1 → (s.port d p).phase = some .negotiate → (s.port d p).tsDone = true →
      s.outside d = true ∨ s.membState d = Mb.FENCED → Comes (.recoveryEnd d p true failed t) t s (fun s u =>
      u.lnk d p = 2 ∧ u.recovering d p = false ∧ u.held d p = true ∧ (u.port d p).phase = none)) ∧
    (failed.length ≤ 1 → (s.port d p).phase = some .negotiate → (s.port d p).tsDone = true → s.held d p = false →
      s.outside d = false → s.membState d ≠ Mb.FENCED → Comes (.recoveryEnd d p true failed t) t s (fun s u =>
      u.lnk d p = 2 ∧ u.recovering d p = false ∧ (u.port d p).phase = none ∧ (u.port d p).nackAt = none ∧
      (u.port d p).replay = (s.port d p).replay.map (fun h =>
        ⟨{ h.frame with hdr := { h.frame.hdr with replay := 1 } }, 1⟩))) ∧
    Leaves (.recoveryEnd d p false failed t) t s (fun s => s.linkDown d p)) ∧
  (s.lnk d p = 2 ∨ s.recovering d p = true → Leaves (.clockLaneLoss d p t) t s (fun s => s.linkDown d p) ∧
    (s.membState d = Mb.OFF → (∀ n q sd, (s.core n).wait ≠ .nap q sd) → Comes (.clockLaneLoss d p t) t s (fun _ u =>
      u.lnk d p = 7 ∧ u.recovering d p = false ∧ u.get d (F.LNK_ERR_DOWN p) = 1 ∧ u.get d (F.LNK_STATUS_VER_RUN p) = 0 ∧
      (u.port d p).phase = none ∧ (u.port d p).replay = [] ∧ ∀ c, c < 8 → (u.dev d).queue p c = [])))

/-- The oldest packet that has arrived at a port, without an error in its cells, with no response waiting for room. -/
def Sys2Proof.Claims.Oldest (s : State) (d : Part) (p : Nat) (a : Arrived) (rest : List Arrived) : Prop :=
  okInPort d p = true ∧ (s.port d p).arrived = a :: rest ∧ (s.dev d).outbox = []

/-- The packet passes the port's Strainer as a tenant's; a device's own packets carry their tenant. -/
def Sys2Proof.Claims.Passes (s : State) (d : Part) (p : Nat) (a : Arrived) (tenant : Nat) : Prop :=
  (p = 32 ∧ a.tenant = tenant) ∨ (p ≠ 32 ∧ (s.dev d).strain p a.pkt = .pass tenant)

/-- O12. A packet that the Strainer passes and whose DST_NODE is the device's own node id joins no egress queue; at a
switch, and at an end-point when it is not an ordered request, it waits for its target or source as it came. A packet
that reaches an end-point on a link with another DST_NODE joins no queue either: it is dropped, MISROUTED, and
counted. (R94) -/
def Obligations.PacketsConsumed : Prop := ∀ (d : Part) (p t tenant : Nat) (a : Arrived) (rest : List Arrived) (s : State),
  Oldest s d p a rest → Passes s d p a tenant →
  (a.pkt.hdr.dst.toNat = (s.dev d).node → Comes (.packetForward d p 0 t) t s (fun s u =>
    (∀ m c, (u.dev d).queue m c = (s.dev d).queue m c) ∧ (u.port d p).arrived = rest ∧
    (d = .sw ∨ a.pkt.hdr.ordered = 0 ∨ isRequest a.pkt.hdr.op = false →
      (u.dev d).inbox = (s.dev d).inbox ++ [⟨a.pkt, p, tenant, a.resv, a.shared, a.at_, .plain⟩]))) ∧
  (d = .ep → p < 4 → a.pkt.hdr.dst.toNat ≠ (s.dev d).node → Comes (.packetForward d p 0 t) t s (fun s u =>
    (∀ m c, (u.dev d).queue m c = (s.dev d).queue m c) ∧ (u.port d p).arrived = rest ∧
    (u.dev d).inbox = (s.dev d).inbox ∧ bitOf ((u.dev d).reg A.PKT_DROP_STATUS) 9 = true ∧
    SMap.at 0 (u.dev d).counters (0x400 + 16 * p + 9) = (SMap.at 0 (s.dev d).counters (0x400 + 16 * p + 9) + 1) % 2 ^ 48))

/-- O13. At a switch, a packet that the Strainer turns away is dropped with its cause; one with HOPS of 3 or more, and
one for a node whose DRAIN is set, take their colour, and are dropped with HOPS_EXCEEDED and DRAINING. A packet whose route gives a member
whose class is promised joins that member's queue, behind what stands there, with HOPS one higher and everything else
as it came. A best-effort packet is green, and takes its line cost from the committed bucket, where the bucket holds it; else
yellow from the excess bucket; else red, and takes nothing; a meter whose CIR is 0x7FFFF keeps no tokens. A best-effort packet
for a best-effort queue is dropped with QUEUE_CAP where the queue would outgrow RESV + SHARE_CAP; else it joins the queue
while the queue's average is below MIN_TH of its colour, is dropped with the colour's EDROP from MAX_TH on, and between
them when the next value of the port's generator lies below the drop probability; a drop joins no queue, sets its event bit
and is counted. (R95, R97, R98,
R104, R109, R110, R114, R116, Table 4.11) -/
def Obligations.PacketsForwarded : Prop := ∀ (p t tenant : Nat) (a : Arrived) (rest : List Arrived) (s : State),
  Oldest s .sw p a rest →
  (∀ c, p ≠ 32 → (s.dev .sw).strain p a.pkt = .drop c → Leaves (.packetForward .sw p 0 t) t s (fun s =>
    (((s.modPort .sw p (fun q => { q with arrived := rest })).drop .sw p a.pkt.hdr c).freeArrived .sw p a).refill .sw)) ∧
  (Passes s .sw p a tenant → a.pkt.hdr.dst.toNat ≠ (s.dev .sw).node →
    (3 ≤ a.pkt.hdr.hops.toNat → Leaves (.packetForward .sw p 0 t) t s (fun s =>
      ((((s.modPort .sw p (fun q => { q with arrived := rest })).coloured .sw p tenant a.pkt.hdr).2.drop .sw p a.pkt.hdr 8).freeArrived .sw p a).refill .sw)) ∧
    (a.pkt.hdr.hops.toNat < 3 →
      ((s.dev .sw).draining a.pkt.hdr.dst.toNat = true → Leaves (.packetForward .sw p 0 t) t s (fun s =>
        ((((s.modPort .sw p (fun q => { q with arrived := rest })).coloured .sw p tenant a.pkt.hdr).2.drop .sw p a.pkt.hdr 11).freeArrived .sw p a).refill .sw)) ∧
      (∀ m, (s.dev .sw).draining a.pkt.hdr.dst.toNat = false → (s.dev .sw).mode m a.pkt.hdr.cls = 1 →
        ((s.path .sw a.pkt.hdr).1 = .spray m ∨ (s.path .sw a.pkt.hdr).1 = .pin m false) →
        Comes (.packetForward .sw p 0 t) t s (fun s u =>
          ∃ x, (u.dev .sw).queue m a.pkt.hdr.cls = (s.dev .sw).queue m a.pkt.hdr.cls ++ [x] ∧
            x.pkt = ⟨{ a.pkt.hdr with hops := a.pkt.hdr.hops + 1 }, a.pkt.pay⟩ ∧ x.inPort = p ∧ x.at_ = a.at_ ∧
            (u.port .sw p).arrived = rest ∧ (u.dev .sw).inbox = (s.dev .sw).inbox ∧
            ∀ m' c', (m', c') ≠ (m, a.pkt.hdr.cls) → c' < 8 → (u.dev .sw).queue m' c' = (s.dev .sw).queue m' c')) ∧
      (∀ m, (s.dev .sw).draining a.pkt.hdr.dst.toNat = false → (s.dev .sw).mode p a.pkt.hdr.cls = 2 →
        (s.dev .sw).mode m a.pkt.hdr.cls = 2 →
        ((s.path .sw a.pkt.hdr).1 = .spray m ∨ (s.path .sw a.pkt.hdr).1 = .pin m false) →
        let v := s.dev .sw
        let c := a.pkt.hdr.cls
        let col := (v.colour (max s.now t) tenant a.pkt.hdr).1
        let prof := v.get (F.SWC_CLASS_A_PROFILE m c)
        let lo := v.get (F.SWC_EDROP_PROFILE_K_MIN_TH prof col)
        let hi := v.get (F.SWC_EDROP_PROFILE_K_MAX_TH prof col)
        let avg := SMap.at 0 v.avgQ (pairKey m c)
        let fits := queueCells (v.queue m c) + cellsOf a.pkt.hdr ≤ v.resv m c + v.get (F.SWC_CLASS_A_SHARE_CAP m c)
        let unlucky := edropNext (v.lfsrOf m) % 65536 < v.get (F.SWC_EDROP_PROFILE_K_MAXP prof col) * (avg - 256 * lo) / (hi - lo)
        let joins (s u : State) : Prop := ∃ x, (u.dev .sw).queue m c = (s.dev .sw).queue m c ++ [x] ∧
          x.pkt = ⟨{ a.pkt.hdr with hops := a.pkt.hdr.hops + 1 }, a.pkt.pay⟩ ∧ x.inPort = p ∧ (u.port .sw p).arrived = rest
        let falls (bit : Fld) (k : Nat) (s u : State) : Prop := (∀ m' c', (u.dev .sw).queue m' c' = (s.dev .sw).queue m' c') ∧
          (u.port .sw p).arrived = rest ∧ u.get .sw bit = 1 ∧
          SMap.at 0 (u.dev .sw).counters (0x708 + k) = (SMap.at 0 (s.dev .sw).counters (0x708 + k) + 1) % 2 ^ 48
        (¬ fits → Comes (.packetForward .sw p 0 t) t s (falls F.SWC_EVENT_STATUS_QUEUE_CAP 3)) ∧
        (fits → avg < 256 * lo → Comes (.packetForward .sw p 0 t) t s joins) ∧
        (fits → 256 * lo ≤ avg → 256 * hi ≤ avg → Comes (.packetForward .sw p 0 t) t s (falls (edropBit col) (4 + col))) ∧
        (fits → 256 * lo ≤ avg → avg < 256 * hi → unlucky → Comes (.packetForward .sw p 0 t) t s (falls (edropBit col) (4 + col))) ∧
        (fits → 256 * lo ≤ avg → avg < 256 * hi → ¬ unlucky → Comes (.packetForward .sw p 0 t) t s joins)))) ∧
  (∀ ue unit, (ue, unit) ∈ [(1, 1), (2, 9)] → Leaves (.packetForward .sw p ue t) t s (fun s =>
    ((((s.modPort .sw p (fun q => { q with arrived := rest })).ue .sw unit (Config.choice s.fresh)).draw).freeArrived .sw p a).refill
      .sw)) ∧
  (∀ ue unit, (ue, unit) ∈ [(3, 1), (4, 9)] →
    exec (.packetForward .sw p ue t) s = exec (.packetForward .sw p 0 t) (s.ce .sw unit 1)) ∧
  (∀ (v : Dev) (now k : Nat) (m : Meter) (h : PktHdr), SMap.at none v.meters (8 * k + h.cls) = some m → m.at_ = now →
    let cir := v.get (F.SWC_METER_CIR k h.cls)
    let cost := 1000 * lineCost h
    let r := v.colour now k h
    (cir = 0x7FFFF → r = (0, v)) ∧
    (cir ≠ 0x7FFFF → m.c ≤ v.get (F.SWC_METER_CBS k h.cls) * 1024000 → m.e ≤ v.get (F.SWC_METER_EBS k h.cls) * 1024000 →
      (cost ≤ m.c → r.1 = 0 ∧ SMap.at none r.2.meters (8 * k + h.cls) = some ⟨m.c - cost, m.e, now⟩) ∧
      (m.c < cost → cost ≤ m.e → r.1 = 1 ∧ SMap.at none r.2.meters (8 * k + h.cls) = some ⟨m.c, m.e - cost, now⟩) ∧
      (m.c < cost → m.e < cost → r.1 = 2 ∧ SMap.at none r.2.meters (8 * k + h.cls) = some ⟨m.c, m.e, now⟩)))

/-- O14. Among the eligible members of a route entry, in ascending port order, a sprayed packet takes the one whose
credit plus weight is largest, the lowest port on a tie; every eligible member's credit grows by its weight and the
chosen one's falls by the sum of the weights, so that their sum stays as it was; other credits stay. A non-empty set
always gives a pinned packet a member, the one with index (h x N) >> 16. (R97, R99, R100) -/
def Obligations.SprayIsFair : Prop :=
  (∀ (v : Dev) (n : Nat) (elig : List Nat), elig ≠ [] → elig.Pairwise (· < ·) →
    ∃ p v', v.spray n elig = some (p, v') ∧ p ∈ elig ∧
      (∀ q ∈ elig, SMap.at 0 v.sprayCredit (memberKey n q) + v.sprayWeight q
          ≤ SMap.at 0 v.sprayCredit (memberKey n p) + v.sprayWeight p) ∧
      (∀ q ∈ elig, q < p → SMap.at 0 v.sprayCredit (memberKey n q) + v.sprayWeight q
          < SMap.at 0 v.sprayCredit (memberKey n p) + v.sprayWeight p) ∧
      (elig.map (fun q => SMap.at 0 v'.sprayCredit (memberKey n q))).sum
        = (elig.map (fun q => SMap.at 0 v.sprayCredit (memberKey n q))).sum ∧
      (∀ k, (∀ q ∈ elig, k ≠ memberKey n q) → SMap.at 0 v'.sprayCredit k = SMap.at 0 v.sprayCredit k)) ∧
  (∀ (ms : List Nat) (src dst chan seed : Nat), ms ≠ [] →
    ∃ m, m ∈ ms ∧ pinned ms (pinHash src dst chan seed) = some m ∧
      ms[(pinHash src dst chan seed * ms.length) >>> 16]? = some m)

/-- O15. While some promised head is due under its credit, the scheduler takes the due class with the least virtual
finish time, the lowest class on a tie, and moves nothing else. With no due promised head and no best-effort head that
credit allows, it takes the promised head with the least start time. A spray-weight update, 8 us after the last, makes each
port's weight 16 - min(15, cells / 66); an average update, 256 ns after the last, moves each best-effort queue's average by
the floor of 2^-W of its distance to the queue's length, and no other; sooner, neither changes anything. (R99, R113, R115) -/
def Obligations.EgressOrder : Prop :=
  (∀ (v : Dev) (now p c : Nat), c < 8 →
    let due (c : Nat) : Prop := (v.sendable p c).isSome = true ∧ v.queueMode p c = 1 ∧ 0 < v.queueRate p c ∧ v.startTime p c ≤ now
    due c → ∃ b, b < 8 ∧ due b ∧ v.pick now p = some (b, v) ∧
      ∀ e, e < 8 → due e → v.vTime p b ≤ v.vTime p e ∧ (v.vTime p e = v.vTime p b → b ≤ e)) ∧
  (∀ (v : Dev) (now p c : Nat), c < 8 → (v.sendable p c).isSome = true → v.queueMode p c = 1 → v.pickDue now p = none →
    (∀ e, e < 8 → v.queueMode p e = 2 → v.sendable p e = none) →
    ∃ b, b < 8 ∧ v.pick now p = some (b, v) ∧ v.queueMode p b = 1 ∧ v.startTime p b ≤ v.startTime p c) ∧
  (∀ (d : Part) (t : Nat) (s : State), max s.now t < (s.dev d).sprayAt + 8000 → Does (.sprayWeightUpdate d t) t s (fun s => s)) ∧
  (∀ (t : Nat) (s : State), max s.now t < (s.dev .sw).avgAt + 256 → Does (.edropAverageUpdate t) t s (fun s => s)) ∧
  (∀ (d : Part) (t : Nat) (s : State), (s.dev d).sprayAt + 8000 ≤ max s.now t → Ends (.sprayWeightUpdate d t) t s (fun s u =>
    (u.dev d).sprayAt = s.now ∧ (∀ p, p < linkPorts d → (u.dev d).sprayWeight p
      = 16 - min 15 (((List.range 8).map (fun c => queueCells ((s.dev d).queue p c))).sum / 66)) ∧
    (u.dev d).queues = (s.dev d).queues ∧ ∀ a, a ≠ A.PKT_SPRAY_WT0 → a ≠ A.PKT_SPRAY_WT1 → (u.dev d).reg a = (s.dev d).reg a)) ∧
  (∀ (t : Nat) (s : State), (s.dev .sw).avgAt + 256 ≤ max s.now t → Ends (.edropAverageUpdate t) t s (fun s u =>
    (u.dev .sw).avgAt = s.now ∧ (∀ k, k < 256 → SMap.at 0 (u.dev .sw).avgQ k =
      (if (s.dev .sw).queueMode (k / 8) (k % 8) ≠ 2 then SMap.at 0 (s.dev .sw).avgQ k
       else (((SMap.at 0 (s.dev .sw).avgQ k : Nat) : Int)
          + ((256 * queueCells ((s.dev .sw).queue (k / 8) (k % 8)) : Nat) - ((SMap.at 0 (s.dev .sw).avgQ k : Nat) : Int))
            / (2 ^ (s.dev .sw).get (F.SWC_EDROP_PROFILE_0_W ((s.dev .sw).get (F.SWC_CLASS_A_PROFILE (k / 8) (k % 8)))) : Int)).toNat)) ∧
    (u.dev .sw).queues = (s.dev .sw).queues ∧ (u.dev .sw).regs = (s.dev .sw).regs))

/-- What the issue of a waiting request leaves at its source: an outstanding transaction with the next TXN_ID, accepted
now, behind those that were outstanding, and no request with its number waiting. -/
def Sys2Proof.Claims.Issued (d : Part) (p : Pend) (s u : State) : Prop :=
  ∃ x : Txn, (u.dev d).txns.getLast? = some x ∧
    (u.dev d).txns.map (fun y => y.id) = (s.dev d).txns.map (fun y => y.id) ++ [(s.dev d).nextTxn] ∧
    (u.dev d).nextTxn = (s.dev d).nextTxn + 1 ∧
    (u.dev d).pends = (s.dev d).pends.filter (fun q => q.uid != p.uid) ∧
    x.id = (s.dev d).nextTxn ∧ x.uid = p.uid ∧ x.agent = p.agent ∧ x.job = p.job ∧ x.land = p.land ∧
    x.pkt.pay = p.pkt.pay ∧ x.pkt.hdr = { p.pkt.hdr with
      txn := (s.dev d).nextTxn, ordSeq := x.pkt.hdr.ordSeq, keyEpoch := x.pkt.hdr.keyEpoch,
      stepTag := BitVec.ofNat 8 p.step } ∧
    (p.pkt.hdr.ordered = 1 → x.pkt.hdr.ordSeq
      = BitVec.ofNat 16 ((s.dev d).nextSeq p.pkt.hdr.dst.toNat p.pkt.hdr.channel.toNat)) ∧
    (d = .sw → x.pkt.hdr.keyEpoch = BitVec.ofNat 8 (s.get .sw (F.SEC_TENANT_LIVE_EPOCH p.keyTenant))) ∧
    x.acceptAt = s.now ∧ x.issueAt = s.now ∧ x.reissues = 0 ∧ x.parked = false ∧
    x.timeout = (if p.promised then max p.rbound 1000 else s.get d F.MEM_SEM_CTRL_RETRY_100NS * 100)

/-- O16. The first waiting request that can be sent, promised or not, and a held release whose fence has completed
with OK and which can be sent, takes the next TXN_ID; its transaction is accepted now and stands behind the others,
its packet holds the request's fields and payload, an ordered one the flow's next number, and its first reissue
timeout is RBOUND, at least 1 us, or RETRY_100NS x 100 ns; a packet whose payload lies in the switch's own store reads
it as it leaves. A held release whose fence ends with another code is not
sent: no transaction begins, the release is gone, and its part of its job ends with RELEASE_ABORTED, an AMO's with all-ones.
In a fenced device a waiting request completes DEAD_TARGET at once and no transaction is left of it (log 53).
(R89, R101, R117, R131, R132, R144, R146, R153, R257) -/
def Obligations.RequestsIssued : Prop := ∀ (d : Part) (t : Nat) (s : State),
  (∀ p : Pend, (s.dev d).fenced = true → p.src = none → p.land = .drop →
    let ends (s u : State) : Prop := (u.dev d).txns = (s.dev d).txns.filter (fun x => x.id != (s.dev d).nextTxn) ∧
      (u.dev d).pends = (s.dev d).pends.filter (fun q => q.uid != p.uid) ∧
      (u.dev d).jobs = ((s.dev d).jobPart p.job Code.DEAD_TARGET).jobs
    ((s.dev d).firstReady (max s.now t) false = some p → Comes (.transactionIssue d t) t s ends) ∧
    ((s.dev d).firstReady (max s.now t) true = some p → Comes (.packetAdmit d t) t s ends)) ∧
  (∀ p : Pend, (s.dev d).fenced = false → (s.dev d).ownOff p.pkt.hdr = false →
    ((s.dev d).firstReady (max s.now t) false = some p → p.src = none → Comes (.transactionIssue d t) t s (Issued d p)) ∧
    ((s.dev d).firstReady (max s.now t) true = some p → p.src = none → Comes (.packetAdmit d t) t s (Issued d p)) ∧
    (∀ (off : Nat) (a : State) (bytes : List Byte), p.src = some off → (s.tick t).readOwn p.tenant p.step
        (packetsOf off (16 * p.pkt.hdr.payUnits.toNat)) [] = (a, some bytes) →
      ((s.dev d).firstReady (max s.now t) false = some p → Leaves (.transactionIssue d t) t s (fun _ =>
        a.issue d { p with pkt := ⟨p.pkt.hdr, bytes⟩, src := none })) ∧
      ((s.dev d).firstReady (max s.now t) true = some p → Leaves (.packetAdmit d t) t s (fun _ =>
        a.issue d { p with pkt := ⟨p.pkt.hdr, bytes⟩, src := none })))) ∧
  (∀ (r : Release) (f : Fence), (s.dev d).releases.findSome? (fun r =>
      ((s.dev d).fences.find? (fun f => f.id == r.fence && f.waits.isEmpty)).map (fun f => (r, f))) = some (r, f) →
    (f.code = 0 → (s.dev d).fenced = false → (s.dev d).canIssue (max s.now t) r.pend = true →
      (s.dev d).ownOff r.pend.pkt.hdr = false → Comes (.releaseIssue d t) t s (Issued d r.pend)) ∧
    (f.code ≠ 0 → Comes (.releaseIssue d t) t s (fun s u =>
      (u.dev d).txns = (s.dev d).txns ∧ (u.dev d).pends = (s.dev d).pends ∧
      (u.dev d).releases = (s.dev d).releases.filter (fun x => x.fence != r.fence) ∧
      (u.dev d).jobs = (((s.dev d).modJob r.pend.job (fun j => { j with
        data := if r.pend.pkt.hdr.op = Op.AMO then 0xFFFFFFFFFFFFFFFF else j.data })).jobPart r.pend.job Code.RELEASE_ABORTED).jobs)))

/-- O17. A due transaction whose target is not draining goes out again with RETRY set and HOPS zero: it keeps its
TXN_ID and acceptance, counts one more reissue, and doubles its timeout up to 256 us; with no room at port 32 its packet
waits there and is not lost; with its target draining it is
parked; before its timeout, and while parked, nothing changes. DEAD_US us after acceptance it ends DEAD_TARGET. A
promised transaction still open RBOUND after acceptance raises TIMING_FAULT once, with the record of its delay, target
and channel. The expiry of a slot that has been DONE for 4.0 ms or more makes it EXPIRED, with its TXN_ID and no
response, and leaves every other slot; before that time, and in any other state, no slot changes. A request with the
TXN_ID of an expired slot is never applied. (R109, R128, R141, R144, R145, R379, Table 6.6) -/
def Obligations.TimersOfTransactions : Prop :=
  (∀ (d : Part) (t : Nat) (txn : BitVec 32) (x : Txn) (s : State),
    (s.dev d).txns.find? (fun y => y.id == txn) = some x →
    (x.parked = false → x.issueAt + x.timeout ≤ max s.now t → (s.dev d).outbox = [] → x.pkt.hdr.txn = x.id →
      ((s.dev d).draining x.pkt.hdr.dst.toNat = false → (s.dev d).ownOff x.pkt.hdr = false →
        Comes (.reissueTimeout d txn .clean t) t s (fun s u =>
          (u.dev d).nextTxn = (s.dev d).nextTxn ∧
          (u.dev d).txns = (s.dev d).txns.map (fun y => if y.id = x.id then
            { x with pkt := ⟨{ x.pkt.hdr with retry := 1, hops := 0 }, x.pkt.pay⟩, reissues := x.reissues + 1,
                     timeout := min (2 * x.timeout) 256000, issueAt := s.now, parked := false } else y) ∧
          (u.dev d).outbox = (if (s.dev d).ownRoom x.pkt.hdr = true then []
            else [(⟨{ x.pkt.hdr with retry := 1, hops := 0 }, x.pkt.pay⟩, x.tenant)]) ∧
          SMap.at 0 (u.dev d).counters 0xC00 = (SMap.at 0 (s.dev d).counters 0xC00 + 1) % 2 ^ 48)) ∧
      ((s.dev d).draining x.pkt.hdr.dst.toNat = true → Leaves (.reissueTimeout d txn .clean t) t s (fun s =>
        s.modDev d (fun v => { v with txns := v.txns.map (fun y => if y.id = x.id then { y with parked := true } else y) })))) ∧
    ((x.parked = true ∨ max s.now t < x.issueAt + x.timeout) → ∀ ue, Leaves (.reissueTimeout d txn ue t) t s (fun s => s)) ∧
    (x.acceptAt + s.get d F.MEM_SEM_CTRL_DEAD_US * 1000 ≤ max s.now t →
      Leaves (.deadTargetExpiry d txn t) t s (fun s => s.retire d x Code.DEAD_TARGET [])) ∧
    (x.promised = true → x.late = false → x.acceptAt + x.rbound ≤ max s.now t →
      Comes (.rboundExpiry d txn t) t s (fun s u =>
        (u.dev d).txns = (s.dev d).txns.map (fun y => if y.id = x.id then { y with late := true } else y) ∧
        (d = .sw → u.get .sw F.SWC_EVENT_STATUS_TIMING_FAULT = 1 ∧ (u.dev .sw).reg A.SWC_TIMING_LAST =
          min (s.now - x.acceptAt) 16777215 * 2 ^ 40 + x.pkt.hdr.dst.toNat * 2 ^ 28 + x.pkt.hdr.channel.toNat) ∧
        (d = .ep → u.get .ep F.EP_EVENT_STATUS_TIMING_FAULT = 1 ∧ (u.dev .ep).reg A.EP_TIMING_LAST =
          min (s.now - x.acceptAt) 16777215 * 2 ^ 40 + x.pkt.hdr.dst.toNat * 2 ^ 28 + x.pkt.hdr.channel.toNat)))) ∧
  (∀ (d : Part) (src k t : Nat) (x : Slot) (s : State), src < 4096 → k < 65536 →
    (s.dev d).slot (src * 65536 + k) = some x →
    (x.state = .done → x.at_ + 4000000 ≤ max s.now t → Comes (.slotExpire d src k t) t s (fun s u =>
      (u.dev d).slot (src * 65536 + k) = some { x with state := .expired, resp := none } ∧
      (∀ j, j ≠ src * 65536 + k → (u.dev d).slot j = (s.dev d).slot j) ∧
      ∀ h : PktHdr, slotKey h = src * 65536 + k → h.txn = x.txn → (u.dev d).dedup h = .unknown)) ∧
    ((x.state ≠ .done ∨ max s.now t < x.at_ + 4000000) → Leaves (.slotExpire d src k t) t s (fun s => s)))

/-- The first response of an opcode that has arrived. -/
def Sys2Proof.Claims.Response (s : State) (d : Part) (op : Nat) (i : Inbox) : Prop :=
  (s.dev d).inbox.find? (fun i => i.pkt.hdr.op == op) = some i

/-- What the end of a transaction by its response leaves. -/
def Sys2Proof.Claims.RetiredBy (d : Part) (i : Inbox) (x : Txn) (s : State) : State :=
  ((s.modDev d (fun v => v.takeInbox i)).consumed d i).retire d x i.pkt.hdr.status.toNat i.pkt.pay

/-- O18. The first response for an outstanding TXN_ID from its target, of each of the four opcodes, ends that
transaction with its STATUS and data; a READ_DATA that does not answer a READ of its length is dropped as not
well-formed. A response for no outstanding transaction leaves every transaction and job, and is counted. (R91, R143,
R146, R149) -/
def Obligations.ResponsesRetire : Prop := ∀ (d : Part) (t : Nat) (i : Inbox) (s : State),
  (∀ x : Txn, (s.dev d).txnOf i.pkt.hdr = some x →
    (Response s d Op.READ_DATA i → x.pkt.hdr.op = Op.READ → i.pkt.hdr.payUnits = x.pkt.hdr.reqUnits →
      Leaves (.readData d t) t s (RetiredBy d i x)) ∧
    (Response s d Op.READ_DATA i → ¬ (x.pkt.hdr.op = Op.READ ∧ i.pkt.hdr.payUnits = x.pkt.hdr.reqUnits) →
      Comes (.readData d t) t s (fun s u => (u.dev d).txns = (s.dev d).txns ∧ (u.dev d).jobs = (s.dev d).jobs ∧
        bitOf ((u.dev d).reg A.PKT_DROP_STATUS) 1 = true)) ∧
    (Response s d Op.ACK i → Leaves (.ack d t) t s (RetiredBy d i x)) ∧
    (Response s d Op.AMO_RESULT i → Leaves (.amoResult d t) t s (RetiredBy d i x)) ∧
    (Response s d Op.ERROR i → Leaves (.error d t) t s (RetiredBy d i x))) ∧
  ((s.dev d).txnOf i.pkt.hdr = none → ∀ c : Instr, ∀ op : Nat,
    (c, op) ∈ [(Instr.readData d t, Op.READ_DATA), (.ack d t, Op.ACK), (.amoResult d t, Op.AMO_RESULT), (.error d t, Op.ERROR)] →
    Response s d op i → Comes c t s (fun s u =>
      (u.dev d).txns = (s.dev d).txns ∧ (u.dev d).jobs = (s.dev d).jobs ∧ (u.dev d).fences = (s.dev d).fences ∧
      (u.dev d).inbox = (s.dev d).inbox.erase i ∧
      SMap.at 0 (u.dev d).counters 0xC01 = (SMap.at 0 (s.dev d).counters 0xC01 + 1) % 2 ^ 48))

/-- O19. Whatever its code, an ended transaction is outstanding no more, every other one stays, and every fence waits
for it no longer and keeps the lowest code that is not OK. A word it returns reaches its job, all ones when the code
is not OK; a READ of a core lands its bytes in the core's local memory, and only an OK one counts its landing counter,
by its units. When the fault ring is on, with room and a legal place, a code other than OK advances its head by one
record; OK leaves it. (R143, R146, R149, R151, R154, Table 6.6) -/
def Obligations.RetirementDelivers : Prop := ∀ (d : Part) (x : Txn) (code : Nat) (data : List Byte) (s : State),
  x.fill = false → x.land = .word 0 ∨ x.land = .drop ∨ (∃ n a, d = .sw ∧ x.land = .local_ n a) →
  let u := s.retire d x code data
  let given := if code = 0 then data else onesFor x.pkt.hdr
  (u.dev d).txns.map (fun y => y.id) = ((s.dev d).txns.filter (fun y => y.id != x.id)).map (fun y => y.id) ∧
  (u.dev d).fences = (s.dev d).fences.map (fun f => if f.waits.contains x.uid then
    { f with waits := f.waits.erase x.uid, code := worse f.code code } else f) ∧
  (x.land = .word 0 → (u.dev d).jobs
    = (((s.dev d).modJob x.job (fun j => { j with data := wordOf given 0 })).jobPart x.job code).jobs) ∧
  (x.land = .drop → (u.dev d).jobs = ((s.dev d).jobPart x.job code).jobs) ∧
  (∀ n a, x.land = .local_ n a → (u.core n).mem = Memory.setBytes (s.core n).mem a given) ∧
  (∀ k, 0 < k → k < 65536 → (u.dev d).lctr k =
    (if code = 0 ∧ x.pkt.hdr.op = Op.READ ∧ x.pkt.hdr.lctr.toNat = k then
      ((s.dev d).lctr k + x.pkt.hdr.reqUnits.toNat) % 2 ^ 48 else (s.dev d).lctr k)) ∧
  (u.get d F.MEM_RFAULT_HEAD_HEAD =
    (if code ≠ 0 ∧ s.get d F.MEM_RFAULT_CTRL_ENABLE = 1 ∧
        ringFull (s.get d F.MEM_RFAULT_CTRL_LOG2_ENTRIES) (s.get d F.MEM_RFAULT_HEAD_HEAD) (s.get d F.MEM_RFAULT_TAIL_TAIL) = false ∧
        (s.dev d).placed (s.get d F.MEM_RFAULT_BASE_BASE * 2 ^ 12 + 32 * s.get d F.MEM_RFAULT_HEAD_HEAD) 32 = true
      then (s.get d F.MEM_RFAULT_HEAD_HEAD + 1) % 2 ^ s.get d F.MEM_RFAULT_CTRL_LOG2_ENTRIES % 2 ^ 20
      else s.get d F.MEM_RFAULT_HEAD_HEAD))

/-- O20. For each covered request taken at a target that supports it, with no error in its slot: an EMPTY slot applies
it when RETRY is clear; a slot with an older TXN_ID applies it; the same TXN_ID PENDING holds it, and DONE sends the slot's
response again. With an EMPTY slot and RETRY set, the same TXN_ID EXPIRED, or a newer TXN_ID, it is not applied: a REDUCE, a
WRITE or an AMO in the store of a switch's tenant that is not being removed, a WRITE or an AMO in an end-point's window that
allows it, and a MSG that finds room answer RESULT_UNKNOWN, and leave memory and their slot as they were. An applied request
makes its slot PENDING with its TXN_ID; once it has ended with a response its slot is DONE, and its repeat, RETRY or not, gets
that response again. The duplicate of an ordered packet is never applied (R102); its answer where the slot holds no response is
the model's choice (log 44). (R140) -/
def Obligations.DeduplicationDecides : Prop := ∀ (d : Part) (i : Inbox) (s : State),
  covered i.pkt.hdr.op = true → (s.dev d).unsupported i.pkt.hdr = false →
  let h := i.pkt.hdr
  let slot := (s.dev d).slot (slotKey h)
  let told (r : Packet) : Admission := .answered ((s.consumed d i).answer d i.tenant r)
  let answer := responseTo h Op.ERROR Code.RESULT_UNKNOWN []
  let unknown : Admission := if h.op = Op.REDUCE then told answer else .unsure s
  let apply : Admission := if i.note = .dup then unknown
    else .go (s.modDev d (fun v => v.setSlot (slotKey h) (some ⟨h.txn, .pending, none, s.now, 0⟩)))
  (slot = none → h.retry ≠ 1 → s.admitReq d i .clean = apply) ∧
  (slot = none → h.retry = 1 → s.admitReq d i .clean = unknown) ∧
  (∀ x, slot = some x →
    (1 ≤ (h.txn - x.txn).toNat → (h.txn - x.txn).toNat ≤ 2 ^ 31 - 1 → s.admitReq d i .clean = apply) ∧
    (1 ≤ (x.txn - h.txn).toNat → (x.txn - h.txn).toNat ≤ 2 ^ 31 - 1 → s.admitReq d i .clean = unknown) ∧
    (x.txn = h.txn → x.state = .pending → ∃ u, s.admitReq d i .clean = .answered u ∧
      (u.dev d).slot (slotKey h) = some { x with held := x.held + 1 } ∧ (u.dev d).outbox = (s.dev d).outbox) ∧
    (x.txn = h.txn → x.state = .expired → s.admitReq d i .clean = unknown) ∧
    (x.txn = h.txn → x.state = .done → ∀ r, x.resp = some r → s.admitReq d i .clean = told r)) ∧
  (∀ (t op : Nat) (a : State), (a.dev d).firstOf op = some i → h.op = op → op ≠ Op.REDUCE →
    ((a.tick t).modDev d (fun v => v.takeInbox i)).admitReq d i .clean = .unsure ((a.tick t).modDev d (fun v => v.takeInbox i)) →
    let b (a : State) : State := ((a.modDev d (fun v => v.takeInbox i)).consumed d i).answer d i.tenant answer
    (d = .sw → h.offset.toNat / 2 ^ 48 < 0xE → a.get .sw (F.SEC_TENANT_REMOVING i.tenant) = 0 →
      (op = Op.WRITE → Leaves (.targetWrite .sw 0 t) t a b) ∧ (op = Op.AMO → Leaves (.targetAmo .sw 0 t) t a b)) ∧
    (d = .ep → ∀ w x, (a.dev .ep).inbound i.tenant h.offset.toNat (if op = Op.AMO then 8 else h.span) = some (w, x) →
      Nat.land ((a.dev .ep).windowPerms w) (accessOf i.pkt).needs = (accessOf i.pkt).needs →
      (op = Op.WRITE → Leaves (.targetWrite .ep 0 t) t a b) ∧ (op = Op.AMO → Leaves (.targetAmo .ep 0 t) t a b)) ∧
    (op = Op.MSG → (∃ u, ((a.tick t).modDev d (fun v => v.takeInbox i)).enqueue h.opArg.toNat i.tenant i.pkt.pay = some u) →
      Leaves (.targetMsg d 0 t) t a b)) ∧
  (∀ (j : Inbox) (r : Packet) (a : State), j.pkt.hdr = h → j.note = .plain →
    (∃ y, (a.dev d).slot (slotKey h) = some y ∧ y.txn = h.txn) →
    ((a.finish d j r).dev d).dedup { h with retry := 1 } = .again r ∧ ((a.finish d j r).dev d).dedup { h with retry := 0 } = .again r)

/-- The first request of an opcode that a target may take, which it supports, and, where it is covered, which its slot
lets be applied. -/
def Sys2Proof.Claims.Taken (s : State) (d : Part) (op : Nat) (i : Inbox) : Prop :=
  (s.dev d).firstOf op = some i ∧ ((s.dev d).takeInbox i).unsupported i.pkt.hdr = false ∧ i.note ≠ .unsure ∧
    (covered op = true → i.note = .plain ∧ ((s.dev d).takeInbox i).dedup i.pkt.hdr = .apply)

/-- The state with a request taken and, for a covered one, its slot PENDING. -/
def Sys2Proof.Claims.Begun (d : Part) (op : Nat) (i : Inbox) (s : State) : State :=
  let a := s.modDev d (fun v => v.takeInbox i)
  if covered op then a.modDev d (fun v => v.pendSlot a.now i.pkt.hdr) else a

/-- O21. A READ, WRITE or AMO that a switch takes, in a tenant's store and outside the apertures, gets its access: an
OK access of an applied WRITE counts its landing counter and is acknowledged, a READ and an AMO answer their data, and
a failing access answers its STATUS, a READ with all-ones. One that an end-point's window holds whole, with the
permissions, is handed to the compute die, and else answered OUT_OF_RANGE. A MSG joins its queue and is acknowledged,
or answers QUOTA when there is no room. A REDUCE runs at its window of a switch. An unsupported request of any opcode, as
every REDUCE and MSG at an end-point is, answers UNSUPPORTED. Each AMO writes the new word of Table 6.2 and gives the old one. (R134, R135, R136, R137, R138, R148,
R235, R380, Table 6.2, Table 6.3) -/
def Obligations.TargetsServe : Prop :=
  (∀ (t : Nat) (i : Inbox) (s : State), i.pkt.hdr.offset.toNat / 2 ^ 48 < 0xE →
    ∀ c : Instr, ∀ op : Nat,
    (c, op) ∈ [(Instr.targetRead .sw 0 t, Op.READ), (.targetWrite .sw 0 t, Op.WRITE), (.targetAmo .sw 0 t, Op.AMO)] →
    Taken s .sw op i → Leaves c t s (fun s =>
      let a := Begun .sw op i s
      let r := a.storeAccess i.tenant i.pkt.hdr.offset.toNat (accessOf i.pkt) i.pkt.hdr.stepTag.toNat
        ((s.dev .sw).mode i.port i.pkt.hdr.cls == 1) .clean none (a.faultRecOf i.pkt.hdr i.tenant)
      match r.2 with
      | .ok data => r.1.applied .sw i data
      | .fail code => r.1.finish .sw i (errorFor i.pkt.hdr code)
      | .wait b st e => r.1.modDev .sw (fun v => { v with waiting := v.waiting ++ [⟨.packet i, b, st, e⟩] }))) ∧
  (∀ (t : Nat) (i : Inbox) (s : State) (c : Instr) (op : Nat),
    (c, op) ∈ [(Instr.targetRead .ep 0 t, Op.READ), (.targetWrite .ep 0 t, Op.WRITE), (.targetAmo .ep 0 t, Op.AMO)] →
    Taken s .ep op i → ∀ r, r = (s.dev .ep).inbound i.tenant i.pkt.hdr.offset.toNat (if op = Op.AMO then 8 else i.pkt.hdr.span) →
    (∀ w a, r = some (w, a) →
      Nat.land ((s.dev .ep).windowPerms w) (accessOf i.pkt).needs = (accessOf i.pkt).needs →
      Comes c t s (fun s u => (u.dev .ep).waiting =
          (s.dev .ep).waiting ++ [⟨.packet i, .die ((s.dev .ep).nextDie + 1), some (a, 0), .clean⟩] ∧
        u.out.length = s.out.length + 1 ∧ (u.dev .ep).mem = (s.dev .ep).mem)) ∧
    (r = none → Leaves c t s (fun s =>
      (Begun .ep op i s).finish .ep i (errorFor i.pkt.hdr Code.OUT_OF_RANGE)))) ∧
  (∀ (t : Nat) (i : Inbox) (s : State), Taken s .sw Op.MSG i →
    (∀ u, (Begun .sw Op.MSG i (s.tick t)).enqueue i.pkt.hdr.opArg.toNat i.tenant i.pkt.pay = some u →
      Leaves (.targetMsg .sw 0 t) t s (fun _ => u.finish .sw i (responseTo i.pkt.hdr Op.ACK 0 []))) ∧
    ((Begun .sw Op.MSG i (s.tick t)).enqueue i.pkt.hdr.opArg.toNat i.tenant i.pkt.pay = none →
      Leaves (.targetMsg .sw 0 t) t s (fun s => (Begun .sw Op.MSG i s).finish .sw i (errorFor i.pkt.hdr Code.QUOTA)))) ∧
  (∀ (t : Nat) (i : Inbox) (s : State), Taken s .sw Op.REDUCE i →
    Leaves (.targetReduce ⟨.sw, .clean⟩ t) t s (fun s => (Begun .sw Op.REDUCE i s).runReduce i)) ∧
  (∀ (d : Part) (t : Nat) (i : Inbox) (s : State) (c : Instr) (op : Nat),
    (c, op) ∈ [(Instr.targetRead d 0 t, Op.READ), (.targetWrite d 0 t, Op.WRITE), (.targetAmo d 0 t, Op.AMO),
      (.targetMsg d 0 t, Op.MSG), (.targetReduce ⟨d, .clean⟩ t, Op.REDUCE)] →
    (s.dev d).firstOf op = some i → ((s.dev d).takeInbox i).unsupported i.pkt.hdr = true →
    Leaves c t s (fun s => ((s.modDev d (fun v => v.takeInbox i)).consumed d i).answer d i.tenant (errorFor i.pkt.hdr Code.UNSUPPORTED))) ∧
  (∀ (m : Memory) (a op : Nat) (x y : Word),
    let old : Word := BitVec.ofNat 64 (Memory.num m a 8)
    let new : Word := if op = 0 then old + x else if op = 1 then old &&& x else if op = 2 then old ||| x
      else if op = 3 then old ^^^ x else if op = 4 then (if old.toInt ≤ x.toInt then old else x)
      else if op = 5 then (if old.toInt ≤ x.toInt then x else old) else if op = 6 then (if old.toNat ≤ x.toNat then old else x)
      else if op = 7 then (if old.toNat ≤ x.toNat then x else old) else if op = 8 then x else if old = y then x else old
    op < 10 → m.wf = true → let r := Memory.access m a (.amo op x y)
    (r.1.take 8 = leBytes 8 old.toNat ∧ r.1.length = 16 ∧ Memory.num r.2 a 8 = new.toNat ∧
      ∀ b, (b < a ∨ a + 8 ≤ b) → Memory.byte r.2 b = Memory.byte m b)) ∧
  (∀ (v : Dev) (h : PktHdr), v.part = .ep → (h.op = Op.REDUCE ∨ h.op = Op.MSG) → v.unsupported h = true)

/-- O22. A walk that ends at a PAGE has met a valid root, ends at a level from 1 to 3, keeps the address's offset
within that level's page, and, at an end-point, started from an address below 2^52. The same walk for fewer
permissions ends the same way. With no valid root it ends NO_ROOT at level 0, having read nothing. The end of a walk
frees its walker and counts it. At a switch the entries it read are cached when it ended at a PAGE and no invalidation
was written meanwhile; then every access that waited goes on at its address, or is answered with its fault; after an
invalidation each of them is translated again, and nothing is cached; an uncorrectable entry that it read is reported, and
one that is corrected is counted. At an end-point a request that waited takes its address, or its fault holds it (INVAL
passes over the page), or it is translated again after an invalidation or a change of its engine's context; then its engine
goes on. (R13, R313, R315, Table 12.2, Table 12.4, R316, R318, R321, R323, R325) -/
def Obligations.WalksComplete : Prop :=
  (∀ (v : Dev) (id addr needs : Nat) (bad : Option Nat),
    (∀ a l, (v.walk id addr needs bad).1 = .page a l →
      (v.root id).isSome = true ∧ 1 ≤ l ∧ l ≤ 3 ∧ a % 2 ^ lvlShift l = addr % 2 ^ lvlShift l ∧
      (v.part = .ep → addr < 2 ^ 52) ∧
      ∀ fewer, Nat.land needs fewer = fewer → (v.walk id addr fewer bad).1 = .page a l) ∧
    (v.root id = none → (v.part = .sw ∨ addr < 2 ^ 52) → v.walk id addr needs bad = (.fault XCause.NO_ROOT 0, []))) ∧
  (∀ (n t : Nat) (bad : Option Nat) (s : State),
    let e : Option EntryErr := bad.map (fun l => ⟨l, false⟩)
    (∀ w, (s.dev .sw).walks.find? (fun w => w.num == n) = some w → w.busy = true →
      let r := (s.dev .sw).walk w.id w.addr w.access bad
      let told (a : State) : State := match (s.dev .sw).badEntry w.id w.addr w.access bad with | some x => a.ue .sw 8 x | none => a
      let ended (s : State) : State := told (((s.countWalk .sw w.id w.addr r.2).modDev .sw (fun x => x.endWalk n)).modDev .sw
        (fun x => { x with waiting := x.waiting.filter (fun y => y.on != .walk n) }))
      let held := (s.dev .sw).waiting.filter (fun x => x.on == .walk n)
      let go (a : State) (x : Waiting) : State :=
        match ((s.dev .sw).walk x.request.1 x.request.2.1 x.request.2.2 bad).1 with
        | .page ad l => a.rerun x (some (ad, l))
        | .fault c l => a.walkFault x c l
      (w.stale = true → Leaves (.walkComplete .sw n e t) t s (fun s => held.foldl (fun a x => a.rerun x none) (ended s))) ∧
      (w.stale = false → ∀ a l, r.1 = .page a l →
        Leaves (.walkComplete .sw n e t) t s (fun s => held.foldl go ((ended s).cacheEntries .sw r.2))) ∧
      (w.stale = false → ∀ c l, r.1 = .fault c l →
        Leaves (.walkComplete .sw n e t) t s (fun s => held.foldl go (ended s))) ∧
      (∀ l x, (s.dev .sw).badEntry w.id w.addr w.access (some l) = some x →
        Leaves (.walkComplete .sw n (some ⟨l, true⟩) t) t s (fun s => (s.ce .sw 8 1).walkDone n none))) ∧
    (∀ w, (s.dev .ep).walks.find? (fun w => w.num == n) = some w → w.busy = true →
      let v := s.dev .ep
      let r := v.walk w.id w.addr w.access bad
      let ended (s : State) : State := (s.countWalk .ep w.id w.addr r.2).modDev .ep (fun x => x.endWalk n)
      let held := s.ep.flights.filter (fun f => f.walk == some n)
      let again (a : State) (f : Flight) : State := a.modFlight f.idx (fun x => { x with walk := none })
      let go (a : State) (f : Flight) : State :=
        if v.engineCtx f.engine ≠ w.id then again a f
        else match f.todo with
          | [] => a
          | p :: _ =>
            match (v.walk w.id p.ea (reqNeeds f.req) bad).1 with
            | .page ad _ => a.modFlight f.idx (fun x => x.take w.id (some ad))
            | .fault c l => if reqKind f.req = Kind.INVAL then a.modFlight f.idx (fun x => x.take w.id none) else a.l2Fault f p.ea c l
      let onward (a : State) : State := ((held.map (fun f => f.engine)).eraseDups).foldl (fun a e => a.pump e) a
      (w.stale = true → Leaves (.walkComplete .ep n e t) t s (fun s => onward (held.foldl again (ended s)))) ∧
      (w.stale = false → ∀ a l, r.1 = .page a l →
        Leaves (.walkComplete .ep n e t) t s (fun s => onward (held.foldl go ((ended s).cacheEntries .ep r.2)))) ∧
      (w.stale = false → ∀ c l, r.1 = .fault c l → Leaves (.walkComplete .ep n e t) t s (fun s => onward (held.foldl go (ended s)))))) ∧
  (∀ (f : Flight) (p : Piece) (ps : List Piece) (ctx a : Nat), f.todo = p :: ps →
    (f.take ctx (some a)).todo = ps ∧ (f.take ctx (some a)).walk = none ∧ (f.take ctx (some a)).made = f.made ++ [(a, p)] ∧
    (f.take ctx none).todo = ps ∧ (f.take ctx none).made = f.made)

/-- O23. A write of XLT_INV of each kind, while none is pending, sets PENDING and makes every walk that has begun stale;
the cache stays. While one is pending the write sets BUSY_REFUSED only. A RANGE of no pages does nothing. The
invalidation completes when no stale walk is left and nothing translated before is still under way: then exactly the
entries it covers are gone and PENDING is clear; at an end-point the requests not all formed that were translated under
such an entry are then translated again (log 17). Until then nothing changes. (R320, R321, Table 12.8) -/
def Obligations.InvalidationHolds : Prop := ∀ (d : Part) (t : Nat) (x : Word) (s : State),
  (Up s d → ∀ (c : Instr) (kind : Nat),
    (c, kind) ∈ [(Instr.xltInvRange d x t, 0), (.xltInvId d x t, 1), (.xltInvAll d x t, 2)] → bitsOf x.toNat 1 0 = kind →
    (kind = 0 → bitsOf x.toNat 27 12 = 0 → Leaves c t s (fun s => s)) ∧
    ((kind = 0 → bitsOf x.toNat 27 12 ≠ 0) →
      ((s.dev d).xinv = none → Comes c t s (fun s u =>
        (u.dev d).xinv = some ⟨kind, bitsOf x.toNat 11 4, bitsOf x.toNat 63 28, bitsOf x.toNat 27 12⟩ ∧
        u.get d F.XLT_INV_STATUS_PENDING = 1 ∧ (u.dev d).walks = (s.dev d).walks.map (fun w => { w with stale := w.stale || w.busy }) ∧
        (u.dev d).xcache = (s.dev d).xcache)) ∧
      ((s.dev d).xinv.isSome = true → Leaves c t s (fun s => s.set d F.XLT_INV_STATUS_BUSY_REFUSED 1)))) ∧
  (∀ i, (s.dev d).xinv = some i →
    let held := match d with | .sw => s.translatedSw i | .ep => s.translatedEp i
    ((∀ w ∈ (s.dev d).walks, w.stale = false) → held = false → Comes (.xltInvComplete d t) t s (fun s u => ∃ b : State,
      u = (match d with | .sw => b | .ep => b.untranslate i) ∧
      (b.dev d).xinv = none ∧ b.get d F.XLT_INV_STATUS_PENDING = 0 ∧ (b.dev d).walks = (s.dev d).walks ∧
      (∀ a, a ≠ A.XLT_INV_STATUS → (b.dev d).reg a = (s.dev d).reg a) ∧
      ∀ e, e ∈ (b.dev d).xcache ↔ e ∈ (s.dev d).xcache ∧ i.coversEntry e = false)) ∧
    (((∃ w ∈ (s.dev d).walks, w.stale = true) ∨ held = true) → Leaves (.xltInvComplete d t) t s (fun s => s)))

/-- O24. With the log on, a fault of the tenant, page and cause of a pending record adds one to its COUNT and nothing
else; another fault joins the batch, and the 64th sends it. The batch leaves, with one interrupt, once its oldest
record is BATCH_US us old, and not before. A write of XLT_FLOG_CTRL takes its three fields, and discards the batch
when it clears ENABLE. RETRY sends every request attached to a record to its translation again, ABORT and the expiry
of the limit complete each of them XLT_FAULT, and the expiry sets LIMIT_EXPIRED; a RESUME of no record sets
RESUME_STALE only, and a limit that is off or not reached does nothing. (R324, R325, R326) -/
def Obligations.FaultsAreReported : Prop :=
  (∀ (r : FaultRec) (s : State), s.get .sw F.XLT_FLOG_CTRL_ENABLE = 1 →
    let same (x : FaultRec) : Prop := x.tenant = r.tenant ∧ x.off / 65536 = r.off / 65536 ∧ x.cause = r.cause
    ((∃ x ∈ (s.dev .sw).fbatch, same x) → ((s.gatherFault r).dev .sw).fbatch.length = (s.dev .sw).fbatch.length ∧
      (s.gatherFault r).out = s.out ∧
      ∀ (k : Nat) (x y : FaultRec), (s.dev .sw).fbatch[k]? = some x → ((s.gatherFault r).dev .sw).fbatch[k]? = some y →
        (same x → y = { x with count := min (x.count + 1) 16777215 }) ∧ (¬ same x → y = x)) ∧
    ((∀ x ∈ (s.dev .sw).fbatch, ¬ same x) →
      ((s.dev .sw).fbatch.length < 63 → ((s.gatherFault r).dev .sw).fbatch = (s.dev .sw).fbatch ++ [r]) ∧
      ((s.dev .sw).fbatch.length = 63 → ((s.gatherFault r).dev .sw).fbatch = []))) ∧
  (∀ (t : Nat) (r : FaultRec) (rs : List FaultRec) (s : State), (s.dev .sw).fbatch = r :: rs →
    (r.at_ + s.get .sw F.XLT_FLOG_CTRL_BATCH_US * 1000 ≤ max s.now t → s.pcieStopped = false →
      Comes (.faultBatchTimer t) t s (fun s u => (u.dev .sw).fbatch = [] ∧ u.out = s.out ++ [.msix 0 2])) ∧
    (max s.now t < r.at_ + s.get .sw F.XLT_FLOG_CTRL_BATCH_US * 1000 → Leaves (.faultBatchTimer t) t s (fun s => s))) ∧
  (∀ (d : Part) (t : Nat) (x : Word) (s : State), Up s d → Comes (.xltFlogCtrlWrite d x t) t s (fun s u =>
    u.get d F.XLT_FLOG_CTRL_ENABLE = bitsOf x.toNat 31 31 ∧ u.get d F.XLT_FLOG_CTRL_BATCH_US = bitsOf x.toNat 15 5 ∧
    u.get d F.XLT_FLOG_CTRL_LOG2_ENTRIES = bitsOf x.toNat 4 0 ∧
    (u.dev d).fbatch = (if bitOf x.toNat 31 then (s.dev d).fbatch else []) ∧
    ∀ a, a ≠ A.XLT_FLOG_CTRL → (u.dev d).reg a = (s.dev d).reg a)) ∧
  (∀ (id t : Nat) (s : State), id < 1048576 → Up s .ep →
    (s.l2rec id = none → Leaves (.xltResumeRetry id t) t s (fun s => s.set .ep F.XLT_FLOG_STATUS_RESUME_STALE 1) ∧
      Leaves (.xltResumeAbort id t) t s (fun s => s.set .ep F.XLT_FLOG_STATUS_RESUME_STALE 1) ∧
      Leaves (.faultLimitExpiry id t) t s (fun s => s)) ∧
    (∀ r, s.l2rec id = some r →
      let es := s.enginesOf r.attached
      let ended (s : State) : State := es.foldl (fun a n => a.pump n) (r.attached.foldl (fun a i =>
        match a.flight i with
        | some f => a.engineDone f Code.XLT_FAULT 0 false
        | none => a) (s.dropL2 r.id))
      Leaves (.xltResumeRetry id t) t s (fun s => es.foldl (fun a n => a.pump n)
        (r.attached.foldl (fun a i => a.modFlight i (fun f => { f with stage := .translate })) (s.dropL2 id))) ∧
      Leaves (.xltResumeAbort id t) t s ended ∧
      (s.get .ep F.XLT_CFG_FAULT_LIMIT_MS ≠ 0 → r.at_ + s.get .ep F.XLT_CFG_FAULT_LIMIT_MS * 1000000 ≤ max s.now t →
        Leaves (.faultLimitExpiry id t) t s (fun s => (ended s).set .ep F.XLT_FLOG_STATUS_LIMIT_EXPIRED 1)) ∧
      ((s.get .ep F.XLT_CFG_FAULT_LIMIT_MS = 0 ∨ max s.now t < r.at_ + s.get .ep F.XLT_CFG_FAULT_LIMIT_MS * 1000000) →
        Leaves (.faultLimitExpiry id t) t s (fun s => s))))

/-- A window that ARM accepts: enabled, idle, and with the sizes and formats that R191 asks for. -/
def Sys2Proof.Claims.Armable (v : Dev) (w : Nat) : Prop :=
  let c := v.redCfg w
  v.contribs w * v.pieces w + v.assemblyBlocks w ≤ v.get (F.RED_WIN_A_SIZE w) ∧
  0 < v.lastElems w ∧ v.lastElems w ≤ v.srcElems w ∧ c.allowed = true ∧ v.carryTarget w = true ∧
  (c.weighted = true → c.op = 0 ∧ c.fmt ≤ 1 ∧ c.carryIn = false ∧ v.get (F.RED_WIN_D_ROW_32 w) ≠ 0) ∧
  ((isMx c.fmt = true ∨ isMx c.outFmt = true) → v.totalElems w % 512 = 0) ∧
  v.get (F.RED_WIN_STATUS_STATE w) = 0 ∧ v.get (F.RED_WIN_A_ENABLE w) = 1

/-- The host may command the window: it belongs to no tenant, or confidential mode is off. -/
def Sys2Proof.Claims.HostWindow (s : State) (w : Nat) : Prop :=
  Up s .sw ∧ w < 256 ∧ (s.get .sw F.SEC_MODE_CONF ≠ 1 ∨ s.get .sw (F.RED_WIN_A_TENANT w) = 0)

/-- O25. ARM of a window that meets every condition of R191 makes it ARMED with the TAG given, no piece emitted and no
slot bound; of any other window it leaves STATE and the bound slots, and ARM_RESULT is a code other than OK. CLEAR of
an ARMED window drops every binding at once, makes it CLEARING, and ends every emission command on it that is not over
with NOT_ARMED; otherwise CLEAR does nothing. The end of the clear makes a CLEARING window IDLE, and does nothing
else. No other window changes. (R165, R191, Table 7.18) -/
def Obligations.WindowsArm : Prop := ∀ (w tag t : Nat) (s : State), tag < 256 → HostWindow s w →
  (Armable (s.dev .sw) w → Comes (.winCmdArm w tag t) t s (fun s u =>
    u.get .sw (F.RED_WIN_STATUS_STATE w) = 1 ∧ u.get .sw (F.RED_WIN_STATUS_ARM_RESULT w) = 0 ∧
    u.get .sw (F.RED_WIN_STATUS_STEP_TAG w) = tag ∧ u.get .sw (F.RED_WIN_STATUS_EMITTED w) = 0 ∧ u.win w = Win.idle ∧
    (∀ x, x ≠ w → u.win x = s.win x) ∧ u.sw.emits = s.sw.emits)) ∧
  (¬ Armable (s.dev .sw) w → Comes (.winCmdArm w tag t) t s (fun s u =>
    u.get .sw (F.RED_WIN_STATUS_STATE w) = s.get .sw (F.RED_WIN_STATUS_STATE w) ∧
    u.get .sw (F.RED_WIN_STATUS_ARM_RESULT w) ≠ 0 ∧ (∀ x, u.win x = s.win x) ∧
    u.get .sw (F.RED_WIN_STATUS_STEP_TAG w) = s.get .sw (F.RED_WIN_STATUS_STEP_TAG w))) ∧
  (s.get .sw (F.RED_WIN_STATUS_STATE w) = 1 → Comes (.winCmdClear w t) t s (fun s u =>
    u.get .sw (F.RED_WIN_STATUS_STATE w) = 2 ∧ u.win w = Win.idle ∧ (∀ x, x ≠ w → u.win x = s.win x) ∧
    u.sw.emits = s.sw.emits.map (fun c => if c.win = w ∧ c.result = none then { c with left := [], result := some 2 } else c))) ∧
  (s.get .sw (F.RED_WIN_STATUS_STATE w) ≠ 1 → Leaves (.winCmdClear w t) t s (fun s => s)) ∧
  (s.get .sw (F.RED_WIN_STATUS_STATE w) = 2 →
    Leaves (.winClearComplete w t) t s (fun s => s.set .sw (F.RED_WIN_STATUS_STATE w) 0)) ∧
  (s.get .sw (F.RED_WIN_STATUS_STATE w) ≠ 2 → Leaves (.winClearComplete w t) t s (fun s => s))

/-- O26. A REDUCE that every check of Table 7.3 passes finds an enabled, armed window of its tenant, an empty slot of
a piece not emitted, and the format, TAG and size of the window; its payload is then what that slot holds, every other
slot of every window stays, and its landing counter grows by its units. One that fails a check leaves every window as
it was, and sets the status bit of the first check that fails. (R148, R169, R170, Table 7.3) -/
def Obligations.ContributionsBind : Prop := ∀ (i : Inbox) (s : State),
  let h := i.pkt.hdr
  let w := bitsOf h.offset.toNat 47 40
  let contrib := bitsOf h.offset.toNat 39 28
  let piece := bitsOf h.offset.toNat 27 13
  (s.reduceCheck i.tenant h = none →
    h.offset.toNat / 2 ^ 48 = 0xF ∧ s.get .sw (F.RED_WIN_A_ENABLE w) = 1 ∧ s.get .sw (F.RED_WIN_STATUS_STATE w) = 1 ∧
    i.tenant = s.get .sw (F.RED_WIN_A_TENANT w) ∧ h.opArg.toNat = ((s.dev .sw).redCfg w).inCode ∧
    h.stepTag.toNat = s.get .sw (F.RED_WIN_STATUS_STEP_TAG w) ∧ contrib < (s.dev .sw).contribs w ∧
    piece < (s.dev .sw).pieces w ∧ h.payUnits.toNat = (s.dev .sw).pieceUnits w piece ∧
    piece ∉ (s.win w).emitted ∧ (s.win w).slot piece contrib = [] ∧
    ((s.runReduce i).win w).slot piece contrib = i.pkt.pay ∧
    (∀ k, k ≠ slotOf piece contrib → SMap.at [] ((s.runReduce i).win w).bound k = SMap.at [] (s.win w).bound k) ∧
    (∀ x, x ≠ w → (s.runReduce i).win x = s.win x) ∧
    (0 < h.lctr.toNat → ((s.runReduce i).dev .sw).lctr h.lctr.toNat
      = ((s.dev .sw).lctr h.lctr.toNat + h.payUnits.toNat) % 2 ^ 48)) ∧
  (∀ k, s.reduceCheck i.tenant h = some k → (∀ x, (s.runReduce i).win x = s.win x) ∧
    ∀ f, reduceBit k w = some f → (s.runReduce i).get .sw f = 1)

/-- O27. In a window with OP SUM and plain contributions, whichever way the bound slots are ordered, with their
weights, each element's accumulator is the same, and so are the bytes and the status bits that emission makes of the
piece. Two contributions for two slots leave the same bytes in every slot, whichever binds first. (R170, R172, R175,
R179, R182) -/
def Obligations.ReductionOrderFree : Prop :=
  (∀ (c : RedCfg) (xs ys : List (List Byte × Option Nat)) (n : Nat), c.op = 0 → c.carryIn = false → c.fmt ≤ 0xC → xs.Perm ys →
    (∀ i, accOf c xs i = accOf c ys i) ∧
    emitElems c ((List.range n).map (fun i => accOf c xs i)) = emitElems c ((List.range n).map (fun i => accOf c ys i))) ∧
  (∀ (s : State) (w p q c e : Nat) (a b : List Byte), slotOf p c ≠ slotOf q e → ∀ k x,
    SMap.at [] (((s.bind w p c a).bind w q e b).win x).bound k = SMap.at [] (((s.bind w q e b).bind w p c a).win x).bound k)

/-- An emission command with a piece that can be emitted, and the weights that the piece needs. -/
def Sys2Proof.Claims.Emitting (s : State) (cmd piece : Nat) (c : EmitCmd) (a : State) (ws : List Byte) : Prop :=
  s.sw.emits.find? (fun c => c.id == cmd) = some c ∧ s.canEmit c piece = true ∧ s.pieceWeights c.win piece = (a, some ws)

/-- O28. A piece that a command names and that can be emitted is summed over the bound slots, rounded once, marks the
window's status, leaves the command's list and goes where OUT_ADDR says; without PARTIAL it is EMITTED then, for every
command; one whose staging block cannot be corrected is noted, and reported. A command on a window that is not ARMED, or for pieces beyond the window, ends NOT_ARMED or OUT_OF_GEOMETRY
and emits nothing. A failed logical cluster whose windows are all idle takes a free spare, and the other clusters
stay; with a window of it busy nothing changes. (R181, R182, R183, R438, Table 7.9) -/
def Obligations.PiecesEmit : Prop :=
  (∀ (cmd piece t : Nat) (c : EmitCmd) (a : State) (ws : List Byte) (s : State), Emitting (s.tick t) cmd piece c a ws →
    let e := emitElems ((a.dev .sw).redCfg c.win) (a.pieceAccs c.win piece ws ((a.win c.win).bad.contains piece))
    Leaves (.pieceEmit cmd piece .clean t) t s (fun _ =>
      (((((if c.partial_ then a else a.claimPiece cmd c.win piece).emitStatus c.win e.2).pieceDone cmd piece).output c.win piece
        e.1).flushEmit).closeEmits) ∧
    Comes (.pieceEmit cmd piece .bad t) t s (fun _ u =>
      piece ∈ (u.win c.win).bad ∧ u.get .sw F.TEL_FAULT_STATUS_UE = 1)) ∧
  (∀ (cmd w piece : Nat) (s : State),
    let u := s.claimPiece cmd w piece
    (u.win w).emitted = (s.win w).emitted ++ [piece] ∧ (u.win w).bound = (s.win w).bound ∧
    (∀ x, x ≠ w → u.win x = s.win x) ∧
    ∀ c ∈ u.sw.emits, c.win = w → c.id ≠ cmd → c.result = none → c.partial_ = false →
      ∃ c0 ∈ s.sw.emits, c0.id = c.id ∧ c.left = c0.left.erase piece) ∧
  (∀ (w first count : Nat) (part : Bool) (o : Owner) (s : State),
    (s.get .sw (F.RED_WIN_STATUS_STATE w) ≠ 1 → (s.startEmit w first count part o).2.sw.emits
      = s.sw.emits ++ [⟨s.sw.nextEmit, w, [], o, part, false, false, some 2⟩] ∧
      (s.startEmit w first count part o).2.sw.wins = s.sw.wins) ∧
    (s.get .sw (F.RED_WIN_STATUS_STATE w) = 1 → (s.dev .sw).pieces w < first + count →
      (s.startEmit w first count part o).2.sw.emits
        = s.sw.emits ++ [⟨s.sw.nextEmit, w, [], o, part, false, false, some 3⟩] ∧
      (s.startEmit w first count part o).2.sw.wins = s.sw.wins)) ∧
  (∀ (c t : Nat) (s : State), c < 16 → (s.dev .sw).cluster c ∈ s.sw.badClusters →
    let idle := ∀ w, w < 256 → bitOf (s.get .sw (F.RED_WIN_A_CLUSTER_MASK w)) c = true → s.get .sw (F.RED_WIN_STATUS_STATE w) = 0
    (idle → (∃ p, (p = 16 ∨ p = 17) ∧ p ∉ s.sw.badClusters ∧ ∀ i, i < 16 → (s.dev .sw).cluster i ≠ p) →
      Comes (.clusterSpareSwap c t) t s (fun s u =>
        ((u.dev .sw).cluster c = 16 ∨ (u.dev .sw).cluster c = 17) ∧ (u.dev .sw).cluster c ∉ s.sw.badClusters ∧
        (∀ i, i < 16 → i ≠ c → (u.dev .sw).cluster i = (s.dev .sw).cluster i ∧ (u.dev .sw).cluster i ≠ (u.dev .sw).cluster c) ∧
        u.get .sw F.TEL_FAULT_STATUS_SPARE_USED = 1)) ∧
    (¬ idle → Leaves (.clusterSpareSwap c t) t s (fun s => s)))

/-- The oldest record of service queue 4 is one of a TYPE, and `a` is the state without it. -/
def Sys2Proof.Claims.Head (s : State) (type : Nat) (r : Nat) (a : State) : Prop :=
  ∃ q : QRec, s.dequeue 4 = some (q, a) ∧ ofLe (q.data.take 8) % 256 = type ∧ ofLe q.data = r

/-- O29. A COLL_SUBMIT record whose descriptor is new at this switch, with its member table read from this switch's
own memory, leaves the queue; the operation then held under its OPID and step has that descriptor and table, and runs,
unless R198 gives a cause: then its part ends with HUB_DONE ERROR and that cause (what log 23 makes of a table elsewhere is the
model's). A descriptor that is held already
changes nothing but the queue. A descriptor that none of R198's checks refuses names a kind and a role of Table 8.2, a
shard of its shards, chunks that divide its segments, and nodes that have a route. (R195, R196, R198, Table 8.1) -/
def Obligations.CollectivesStart : Prop :=
  (∀ (r t : Nat) (a s : State), Head (s.tick t) 1 r a →
    (∀ o, s.collOp (cOpid r) (cStep r) = some o → o.desc ≠ 0 → Leaves (.collSubmit t) t s (fun _ => a)) ∧
    (s.collOp (cOpid r) (cStep r) = none → cMemberTable r / 2 ^ 52 = (s.dev .sw).node → ∀ (b c : State) (q : QRec) (bytes : List Byte),
      (s.tick t).readOwn (s.get .sw (F.RED_WIN_A_TENANT (cWindow r))) (cStep r % 256)
        (packetsOf (cMemberTable r % 2 ^ 52) (32 * cMembers r)) [] = (b, some bytes) →
      b.dequeue 4 = some (q, c) → c.sw.coll = s.sw.coll →
      Comes (.collSubmit t) t s (fun _ u => ∃ o, u.collOp (cOpid r) (cStep r) = some o ∧
        o.desc = r ∧ o.dispatch = false ∧ o.table = entriesOf (cMembers r) bytes ∧ o.rule = .open_ ∧ o.done = [] ∧
        o.part = (if c.rejects r o.table = 0 then .running else .report 1 (c.rejects r o.table)) ∧
        ∀ id step, (id, step) ≠ (cOpid r, cStep r) → u.collOp id step = s.collOp id step))) ∧
  (∀ (d : Nat) (table : List Nat) (s : State), s.rejects d table = 0 →
    1 ≤ cKind d ∧ cKind d ≤ 4 ∧ cRole d ≤ 2 ∧ cShard d < cShards d ∧ 1 ≤ cChunk d ∧ cSegPieces d % cChunk d = 0 ∧
    (cKind d = 4 → cRoot d < cMembers d) ∧ cMemberTable d / 2 ^ 52 = (s.dev .sw).node ∧
    (∀ e ∈ table, (s.dev .sw).noRoute (mResult e / 2 ^ 52) = false) ∧ (s.dev .sw).noRoute (cArbiter d) = false)

/-- O30. While an operation's part runs, a chunk of a begun segment that is neither done nor being emitted is emitted
from its window once every piece of it is bound (a reduction at a hub or a root) or, at a leaf, once the root's READY
has landed; a chunk of a gather or a broadcast goes to the members once its counter is full. With every segment closed
the shard is fenced. HUB_DONE with OK counts its switch once, with ERROR makes the arbiter take ABORTED with its
cause, with STOPPED counts the stop. ABORT takes ABORTED of an open operation that this switch arbitrates and answers
the requester with what it found; STOP stops the part. An outcome is taken once. What log 47 chooses is the model's. (R201, R203, R204, R216, R217, Table
8.5) -/
def Obligations.CollectivesRun : Prop :=
  (∀ (id chunk t : Nat) (o : CollOp) (s : State), s.opNamed id = some o → o.dispatch = false → o.part = .running →
    chunk < cAllChunks o.desc → cSegOf o.desc chunk < o.begun → chunk ∉ o.done → (∀ e ∈ o.emitting, e.1 ≠ chunk) →
    let emit (s : State) : State :=
      let e := s.startEmit (cWindow o.desc + cSegOf o.desc chunk % 2) (cFirst o.desc chunk) (cChunk o.desc) false (.service o.id)
      e.2.modOp o (fun x => { x with emitting := x.emitting ++ [(chunk, e.1)] })
    (isLeaf o.desc = false → reduces o.desc = true → s.chunkBound o chunk = true → Leaves (.chunkReady id chunk t) t s emit) ∧
    (isLeaf o.desc = true → chunk ∉ o.emitted → 1 ≤ (s.dev .sw).lctr (cDoneLctr o.desc) → Leaves (.chunkReady id chunk t) t s emit) ∧
    (isLeaf o.desc = false → reduces o.desc = false →
      cChunkBytes o.desc / 16 ≤ (s.dev .sw).lctr ((cHubLctr o.desc + chunk) % 65536) →
      Leaves (.chunkReady id chunk t) t s (fun s => s.putChunk o chunk)) ∧
    (isLeaf o.desc = true → chunk ∈ o.emitted →
      cChunkBytes o.desc / 16 ≤ (s.dev .sw).lctr ((cHubLctr o.desc + chunk) % 65536) →
      Leaves (.chunkReady id chunk t) t s (fun s => s.putChunk o chunk))) ∧
  (∀ (id t : Nat) (o : CollOp) (s : State), s.opNamed id = some o → o.dispatch = false → o.part = .running →
    o.closed.length = cSegments o.desc → Leaves (.shardDone id t) t s (fun s =>
      (s.svcFence 3).2.modOp o (fun x => { x with part := .shardFence (s.svcFence 3).1 }))) ∧
  (∀ (r t : Nat) (o : CollOp) (a s : State), Head (s.tick t) 3 r a → s.collOp (bitsOf r 127 96) (bitsOf r 95 64) = some o →
    let after (f : CollOp → CollOp) : Prop := Leaves (.hubDone t) t s (fun _ => a.modOp o f)
    (bitsOf r 51 48 = 0 → after (fun x => { x with
      ok := if o.ok.contains (bitsOf r 63 52) then o.ok else o.ok ++ [bitsOf r 63 52] })) ∧
    (bitsOf r 51 48 = 1 → after (fun x => x.decide_ 2 (bitsOf r 47 40) 0)) ∧
    (bitsOf r 51 48 = 2 → after (fun x => { x with stopped := x.stopped ++ [bitsOf r 63 52] }))) ∧
  (∀ (r t : Nat) (a s : State), Head (s.tick t) 2 r a →
    let told (c res : Nat) (b : State) : State := b.svcSend c
      [⟨dWord r 1, leBytes 16 (bitsOf r 63 32 * 2 ^ 96 + res * 2 ^ 88 + 0x11), bitsOf (dWord r 2) 63 48, false⟩]
    (∀ o, s.opNamed (bitsOf r 63 32) = some o → s.arbitrates o = true → ((s.tick t).useChan .sw (s.opChan o)).1 ≠ .miss →
      Leaves (.opAbort t) t s (fun _ => told (s.opChan o)
        (if o.rule = .open_ then 0 else if o.outcome = some 1 then 1 else 2) (a.modOp o (fun x => x.decide_ 2 Cause.REQUESTED 0)))) ∧
    ((∀ o, s.opNamed (bitsOf r 63 32) = some o → s.arbitrates o = false) → ((s.tick t).useChan .sw Config.serviceChan).1 ≠ .miss →
      Leaves (.opAbort t) t s (fun _ => told Config.serviceChan 3 a))) ∧
  (∀ (r t : Nat) (o : CollOp) (a s : State), Head (s.tick t) 4 r a → s.collOp (bitsOf r 127 96) (bitsOf r 95 64) = some o →
    o.desc ≠ 0 → Leaves (.stop t) t s (fun _ => a.stopOp o)) ∧
  (∀ (o : CollOp) (x c n : Nat), (o.rule = .open_ → (o.decide_ x c n).outcome = some x ∧ (o.decide_ x c n).cause = c ∧
    ∀ y d m, (o.decide_ x c n).decide_ y d m = o.decide_ x c n) ∧ (o.rule ≠ .open_ → o.decide_ x c n = o))

/-- O31. The plan holds one entry for each choice, in the order of the procedure: a valid choice of an expert with
room is given that expert's next row, so that the rows of one expert are 0, 1, 2 and so on without a gap, all below
its capacity, and keeps its weight; any other choice is given no row and weight zero. A DISPATCH_SUBMIT whose tables
are good begins a dispatch with them; a plan whose tables fail their check aborts it; a good one arms the windows,
holds the plans and lists back behind a fence, and marks the dispatch planned. A home whose counter has reached the
units of its served rows is noted, once, after those noted before it, and the homes are emitted with PARTIAL in that
order. (R207, R208, R209, R212, R213, Table 8.11) -/
def Obligations.DispatchPlans : Prop :=
  (∀ (cap : Nat → Nat) (cs : List (Nat × Nat × Nat × Nat × Bool × Nat)),
    let plan := planChoices cap cs []
    plan.map (fun p => (p.home, p.token, p.choice, p.expert)) = cs.map (fun c => (c.1, c.2.1, c.2.2.1, c.2.2.2.1)) ∧
    (∀ e, (plan.filter (fun p => p.expert == e)).filterMap (fun p => p.row)
      = List.range (min (cap e) (cs.filter (fun c => c.2.2.2.1 == e && c.2.2.2.2.1)).length)) ∧
    (∀ p ∈ plan, p.row = none → p.weight = 0) ∧
    (∀ (k : Nat) (p : Planned) (c : Nat × Nat × Nat × Nat × Bool × Nat), plan[k]? = some p → cs[k]? = some c → p.row ≠ none → p.weight = c.2.2.2.2.2)) ∧
  (∀ (r t : Nat) (a s : State), Head (s.tick t) 5 r a →
    (∀ o, s.collOp (cOpid r) (dStep r) = some o → Leaves (.dispatchSubmit t) t s (fun _ => a)) ∧
    (s.collOp (cOpid r) (dStep r) = none →
      (∀ n ∈ [dHomeTable r, dExpertMap r, dTopkBase r], n / 2 ^ 52 = (s.dev .sw).node) →
      dHomes r ≤ 32 → 1 ≤ dK r → dK r ≤ 8 → dRowFormat r ≤ 1 → dOutFormat r ≤ 1 → dCmbWindow r + dHomes r ≤ 256 → 0 < dRow32 r →
      dRowElems r % elemsPerPiece (dRowFormat r) = 0 → dTopkStride r % 16 = 0 →
      ∀ (b c : State) (q : QRec) (bytes : List Byte),
      (s.tick t).readOwn (s.get .sw (F.RED_WIN_A_TENANT (dCmbWindow r))) (dStep r % 256)
        (packetsOf (dHomeTable r % 2 ^ 52) (32 * dHomes r) ++ packetsOf (dExpertMap r % 2 ^ 52) (32 * dExperts r)) []
          = (b, some bytes) →
      b.dequeue 4 = some (q, c) → c.sw.coll = s.sw.coll →
      Comes (.dispatchSubmit t) t s (fun _ u => ∃ o, u.collOp (cOpid r) (dStep r) = some o ∧ o.desc = r ∧ o.dispatch = true ∧
        o.table = entriesOf (dHomes r) bytes ∧ o.experts = entriesOf (dExperts r) (bytes.drop (32 * dHomes r)) ∧ o.planned = false ∧
        (o.outcome = none ∨ (o.outcome = some 2 ∧ o.cause = Cause.NO_ROUTE))))) ∧
  (∀ (id t : Nat) (o : CollOp) (a s : State) (bytes : List Byte), s.opNamed id = some o →
    o.dispatch = true → o.planned = false → o.part = .running → o.rule = .open_ →
    dHomes o.desc * dTopkStride o.desc / 16 ≤ (s.dev .sw).lctr (dTopkLctr o.desc) →
    (s.tick t).readOwn (s.get .sw (F.RED_WIN_A_TENANT (dCmbWindow o.desc))) (o.step % 256)
      (packetsOf (dTopkBase o.desc % 2 ^ 52) (dHomes o.desc * dTopkStride o.desc)) [] = (a, some bytes) →
    let head (h : Nat) : Nat := ofLe (((bytes.drop (h * dTopkStride o.desc)).take (dTopkStride o.desc)).take 16)
    let good (h : Nat) : Prop := bitsOf (head h) 127 96 = o.step ∧ 1 ≤ bitsOf (head h) 95 80 ∧ bitsOf (head h) 95 80 ≤ 16384 ∧
      4 * bitsOf (head h) 95 80 * dK o.desc + 16 ≤ dTopkStride o.desc ∧ bitsOf (head h) 95 80 * dPieces o.desc ≤ 32768
    ((∃ h, h < dHomes o.desc ∧ ¬ good h) →
      Leaves (.dispatchPlan id t) t s (fun _ => a.modOp o (fun x => x.fail Cause.BAD_DESCRIPTOR))) ∧
    ((∀ h, h < dHomes o.desc → good h) → (s.collOp o.id o.step = some o) → a.sw.coll = s.sw.coll →
      (∀ b, a.armCombine o ((List.range (dHomes o.desc)).map (fun h => bitsOf (head h) 95 80)) (List.range (dHomes o.desc)) = (true, b) →
        Comes (.dispatchPlan id t) t s (fun _ u => ∃ x f, u.collOp o.id o.step = some x ∧ x.planned = true ∧
          x.part = .planFence f ∧ x.tokens = (List.range (dHomes o.desc)).map (fun h => bitsOf (head h) 95 80) ∧
          x.later.length = o.table.length + o.experts.length ∧ x.served.length = dHomes o.desc)) ∧
      (∀ b, a.armCombine o ((List.range (dHomes o.desc)).map (fun h => bitsOf (head h) 95 80)) (List.range (dHomes o.desc)) = (false, b) →
        Leaves (.dispatchPlan id t) t s (fun _ =>
          b.modOp o (fun x => { x.fail Cause.WINDOW with armed := a.newlyArmed b o }))))) ∧
  (∀ (id h t : Nat) (o : CollOp) (s : State), s.opNamed id = some o → o.dispatch = true → o.planned = true → o.part = .running →
    o.rule = .open_ → ∀ before after, o.ripe = before ++ h :: after → h ∉ o.done → (∀ e ∈ o.emitting, e.1 ≠ h) →
    (∀ k ∈ before, k ∈ o.done ∨ ∃ e ∈ o.emitting, e.1 = k) →
    Leaves (.combineEmit id h t) t s (fun s =>
      let e := s.startEmit (dCmbWindow o.desc + h) 0 (o.tokens.getD h 0 * dPieces o.desc) true (.service o.id)
      e.2.modOp o (fun x => { x with emitting := x.emitting ++ [(h, e.1)] }))) ∧
  (∀ (o : CollOp) (s : State), s.collOp o.id o.step = some o → o.dispatch = true → o.planned = true → o.part = .running →
    ∃ x new, (s.noteRipe o).collOp o.id o.step = some x ∧ x.ripe = o.ripe ++ new ∧ x.done = o.done ∧
      ∀ h, h ∈ new ↔ (h < dHomes o.desc ∧ h ∉ o.ripe ∧
        o.served.getD h 0 * elemsBytes (dRowFormat o.desc) (32 * dRow32 o.desc) / 16
          ≤ (s.dev .sw).lctr ((dCmbLctr o.desc + h) % 65536)))

/-- O32. A load command at a READY device with no load in progress and no named core loading, running or halting
begins its verification; otherwise RESULT is BUSY or NOT_STOPPED, and the load in progress stays. A verification that
fails ends the load with its RESULT, and LOAD_KEY_FAIL for a signer or version key; one that passes makes every named
core LOADING. The copy, once no named core has anything outstanding and its domains are not waking, leaves each named
core with a working physical core LOADED with the image's bytes from address 0, its entry, tenant, privileges, program
and version, its registers zero, and every other core as it was, with RESULT 0. (R222, R229, R230, R481, Table 9.5,
Table 9.6) -/
def Obligations.CoresLoad : Prop :=
  (∀ (x : Word) (t : Nat) (s : State), Up s .sw →
    let busy := ∃ n, n < 64 ∧ bitOf x.toNat n = true ∧ (s.coreState n = 1 ∨ s.coreState n = 3 ∨ s.coreState n = 4)
    ((s.get .sw F.CFG_BOOT_STATUS_STAGE ≠ 7 ∨ s.get .sw F.SEQ_LOAD_STATUS_STATE ≠ 0) →
      Leaves (.seqLoadCmd x t) t s (fun s => s.set .sw F.SEQ_LOAD_STATUS_RESULT 7)) ∧
    (s.get .sw F.CFG_BOOT_STATUS_STAGE = 7 → s.get .sw F.SEQ_LOAD_STATUS_STATE = 0 →
      (busy → Leaves (.seqLoadCmd x t) t s (fun s => s.set .sw F.SEQ_LOAD_STATUS_RESULT 8)) ∧
      (¬ busy → Comes (.seqLoadCmd x t) t s (fun s u => u.get .sw F.SEQ_LOAD_STATUS_STATE = 1 ∧
        u.sw.load = some ⟨coresOf x.toNat, s.get .sw F.SEQ_LOAD_ADDR_ADDR * 4096⟩ ∧ u.sw.cores = s.sw.cores)))) ∧
  (∀ (t : Nat) (l : Load) (s : State), s.sw.load = some l →
    (s.get .sw F.SEQ_LOAD_STATUS_STATE = 1 →
      (∀ r, (s.tick t).imageCheck l.image = r → r ≠ 0 → r < 16 → Comes (.loadVerifyDone t) t s (fun s u =>
        u.sw.load = none ∧ u.get .sw F.SEQ_LOAD_STATUS_STATE = 0 ∧ u.get .sw F.SEQ_LOAD_STATUS_RESULT = r ∧
        u.sw.cores = s.sw.cores ∧ ((r = 3 ∨ r = 4) → u.get .sw F.SEC_STATUS_LOAD_KEY_FAIL = 1))) ∧
      ((s.tick t).imageCheck l.image = 0 → (∀ n ∈ l.cores, n < 64) → Comes (.loadVerifyDone t) t s (fun s u =>
        u.get .sw F.SEQ_LOAD_STATUS_STATE = 2 ∧ u.sw.load = some l ∧ (∀ n ∈ l.cores, u.coreState n = 1) ∧
        ∀ n, n < 64 → n ∉ l.cores → u.coreState n = s.coreState n))) ∧
    (s.get .sw F.SEQ_LOAD_STATUS_STATE = 2 → (∀ n ∈ l.cores, n < 64 ∧ (s.dev .sw).coreOut n = 0 ∧
        s.get .sw (F.PWR_DOMAIN_STATUS_STATE (20 + s.corePhys n / 18)) ≠ 1) → s.get .sw F.SEC_MODE_CONF ≠ 1 →
      Comes (.loadCopyDone t) t s (fun s u =>
        let h := Memory.bytes (s.dev .sw).mem l.image 128
        u.sw.load = none ∧ u.get .sw F.SEQ_LOAD_STATUS_STATE = 0 ∧ u.get .sw F.SEQ_LOAD_STATUS_RESULT = 0 ∧
        (∀ n ∈ l.cores, s.corePhys n ∉ s.sw.badCores → s.get .sw (F.PWR_DOMAIN_STATUS_STATE (20 + s.corePhys n / 18)) ≠ 3 →
          (u.core n).mem = Memory.setBytes [] 0 (Memory.bytes (s.dev .sw).mem (l.image + 128) (hCodeBytes h + hDataBytes h)) ∧
          (u.core n).codeBytes = hCodeBytes h ∧ (u.core n).entry = hEntry h ∧
          (∀ i, (u.core n).sreg i = 0 ∧ (u.core n).creg i = 0 ∧ (u.core n).dreg i = 0) ∧
          (u.dev .sw).reg (A.SEQ_CORE_STATUS n)
            = (2 * 2 ^ 60 + hEntry h * 2 ^ 38 + hTenant h * 2 ^ 32 + hPriv h) % 2 ^ 64 ∧
          (u.dev .sw).reg (A.SEQ_CORE_PROG n) = hVersion h * 2 ^ 32 + hProgId h) ∧
        ∀ n, n < 64 → n ∉ l.cores → u.core n = s.core n ∧ u.coreState n = s.coreState n)))

/-- What START leaves of a core, beside its registers: running at an address, its counts since START at zero. -/
def Sys2Proof.Claims.Started (u : State) (n pc : Nat) : Prop :=
  u.coreState n = 3 ∧ u.pc n = pc % 2 ^ 18 ∧ (u.core n).retired = 0 ∧ (u.core n).cycles = 0 ∧ (u.core n).stallCycles = 0 ∧
    (u.core n).wait = .none

/-- O33. START of a LOADED core makes it RUNNING at its entry with all registers zero and its counts restarted; of a
HALTED core it goes on where it was, registers kept; of any other core nothing but its counts of time moves. HALT of a
RUNNING core abandons what it waits for, keeps its PC and makes it HALTING, and the boundary makes it HALTED. RESET
clears the core's memory, registers and status, unless it is LOADING. An instruction of which nothing
has been handed over yet, and which has stalled for longer than a limit that is not zero, raises WATCHDOG with the cause of
its stall (log 48). A due sample goes to the ring with the PC of the
instruction named. A queue that is disabled is empty, counts nothing, and says DROPPED when it held a record. No other
core changes. (R221, R231, R232, R233, R236, R239, R244, Table 9.6) -/
def Obligations.CoresStartAndStop : Prop := ∀ (n t : Nat) (s : State), n < 64 →
  let others (s u : State) : Prop := ∀ m, m ≠ n → u.core m = s.core m
  (Up s .sw →
    (s.coreState n = 2 → Comes (.coreStart n t) t s (fun s u => Started u n (s.core n).entry ∧ others s u ∧
      (u.core n).mem = (s.core n).mem ∧ ∀ i, (u.core n).sreg i = 0 ∧ (u.core n).creg i = 0 ∧ (u.core n).dreg i = 0)) ∧
    (s.coreState n = 5 → Comes (.coreStart n t) t s (fun s u => Started u n (s.pc n) ∧ others s u ∧
      (u.core n).mem = (s.core n).mem ∧ (u.core n).s = (s.core n).s ∧ (u.core n).c = (s.core n).c ∧ (u.core n).dsc = (s.core n).dsc)) ∧
    (s.coreState n ≠ 2 → s.coreState n ≠ 5 → Leaves (.coreStart n t) t s (fun s => s.accrue n)) ∧
    (s.coreState n = 3 → Comes (.coreHalt n t) t s (fun s u => u.coreState n = 4 ∧ u.pc n = s.pc n ∧ others s u ∧
      (u.core n).wait = .none ∧ (u.core n).mem = (s.core n).mem ∧ (u.core n).s = (s.core n).s ∧
      (u.core n).retired = (s.core n).retired)) ∧
    (s.coreState n ≠ 3 → Leaves (.coreHalt n t) t s (fun s => s)) ∧
    (s.coreState n ≠ 1 → Comes (.coreReset n t) t s (fun s u => (u.dev .sw).reg (A.SEQ_CORE_STATUS n) = 0 ∧
      (u.dev .sw).reg (A.SEQ_CORE_PROG n) = 0 ∧ (u.core n).mem = [] ∧ (u.core n).codeBytes = 0 ∧ (u.core n).wait = .none ∧
      (∀ i, (u.core n).sreg i = 0 ∧ (u.core n).creg i = 0 ∧ (u.core n).dreg i = 0) ∧ others s u)) ∧
    (s.coreState n = 1 → Leaves (.coreReset n t) t s (fun s => s))) ∧
  (s.coreState n = 4 → Comes (.coreHalted n t) t s (fun s u => u.coreState n = 5 ∧ u.pc n = s.pc n ∧ others s u ∧
    (u.core n).s = (s.core n).s ∧ (u.core n).mem = (s.core n).mem)) ∧
  (s.coreState n ≠ 4 → Leaves (.coreHalted n t) t s (fun s => s)) ∧
  (s.coreState n = 3 → s.mayBark n = true → 0 < s.get .sw (F.SEQ_WDOG_LIMIT_US n) →
    s.get .sw (F.SEQ_WDOG_LIMIT_US n) * 1000 < max s.now t - (s.core n).stallAt → (s.dev .sw).potHolder ≠ coreHolds n →
    Comes (.watchdog n t) t s (fun s u => u.coreState n = 6 ∧ u.get .sw (F.SEQ_CORE_STATUS_EXC_CAUSE n) = 8 ∧
      u.get .sw (F.SEQ_EXC_INFO_PC n) = s.pc n ∧ u.pc n = s.pc n ∧
      u.get .sw (F.SEQ_EXC_INFO_DETAIL n) = (s.core n).stall % 2 ^ 46 ∧
      bitOf ((u.dev .sw).reg A.SEQ_EXC_PENDING) n = true ∧ (u.core n).wait = .none ∧ others s u)) ∧
  ((s.coreState n ≠ 3 ∨ s.mayBark n = false ∨ s.get .sw (F.SEQ_WDOG_LIMIT_US n) = 0 ∨
      max s.now t - (s.core n).stallAt ≤ s.get .sw (F.SEQ_WDOG_LIMIT_US n) * 1000) →
    Leaves (.watchdog n t) t s (fun s => s.accrue n)) ∧
  (∀ (skid pc : Nat) (x : Sample) (xs : List Sample), (s.core n).cross = x :: xs → x.pcs[skid]? = some pc →
    Leaves (.sampleTake n skid t) t s (fun s => (s.modCore n (fun c => { c with cross := xs })).sampleRec
      (sampleBits pc n x.step x.cycles x.stall x.retired))) ∧
  (∀ (skid : Nat), (∀ x ∈ (s.core n).cross.head?, x.pcs.length ≤ skid) → Leaves (.sampleTake n skid t) t s (fun s => s)) ∧
  (∀ q, q < 16 → Up s .sw → s.get .sw (F.SEQ_QUEUE_B_ENABLE q) ≠ 0 → Comes (.seqQueueDisable q t) t s (fun s u =>
    (u.squeue q).recs = [] ∧ u.get .sw (F.SEQ_QUEUE_B_ENABLE q) = 0 ∧ u.get .sw (F.SEQ_QUEUE_B_COUNT q) = 0 ∧
    ((s.squeue q).recs ≠ [] → u.get .sw (F.SEQ_QUEUE_B_DROPPED q) = 1) ∧
    (∀ p, p ≠ q → u.squeue p = s.squeue p) ∧ u.enqueue q 0 [0] = none))

/-! ### Linal: what an instruction's end and an exception leave -/

/-- Core `n` of the 64 takes an instruction now: it runs and waits for nothing, and its word is a legal one of an opcode. -/
def Sys2Proof.Claims.Runs (s : State) (n w op : Nat) : Prop :=
  n < 64 ∧ s.coreReady n = true ∧ s.fetch n = some w ∧ legal w = true ∧ wOp w = op

/-- Nothing changes but core `n`, its status, and what counts its time and instructions. -/
def Sys2Proof.Claims.OnlyCore (n : Nat) (s u : State) : Prop :=
  (∀ m, m ≠ n → u.core m = s.core m) ∧ (∀ a, a ≠ A.SEQ_CORE_STATUS n → (u.dev .sw).reg a = (s.dev .sw).reg a) ∧
    u.ep = s.ep ∧ u.out = s.out ∧ u.sw.squeues = s.sw.squeues ∧ u.sw.wins = s.sw.wins ∧ u.sw.tiers = s.sw.tiers ∧
    (u.dev .sw).mem = (s.dev .sw).mem ∧ (u.dev .sw).txns = (s.dev .sw).txns ∧ (u.dev .sw).ports = (s.dev .sw).ports

/-- The instruction retires and the core goes on at `pc`: its status keeps all other fields. -/
def Sys2Proof.Claims.Retires (n pc : Nat) (s u : State) : Prop :=
  u.pc n = pc % 2 ^ 18 ∧ u.coreState n = s.coreState n ∧ u.coreTenant n = s.coreTenant n ∧
    u.get .sw (F.SEQ_CORE_STATUS_PRIV n) = s.get .sw (F.SEQ_CORE_STATUS_PRIV n) ∧
    (u.core n).retired = (s.core n).retired + 1 ∧ (u.core n).wait = .none ∧ OnlyCore n s u

/-- The core's registers and local memory, but for the register `sd`, which gets a value unless it is s0. -/
def Sys2Proof.Claims.WritesS (n sd : Nat) (x : Word) (s u : State) : Prop :=
  (u.core n).sreg sd = (if sd = 0 then 0 else x) ∧ (∀ j, j ≠ sd → (u.core n).sreg j = (s.core n).sreg j) ∧
    (∀ j, (u.core n).creg j = (s.core n).creg j) ∧ (∀ j, (u.core n).dreg j = (s.core n).dreg j) ∧
    (u.core n).mem = (s.core n).mem

/-- The core's registers stay. -/
def Sys2Proof.Claims.KeepsRegs (n : Nat) (s u : State) : Prop :=
  (∀ j, (u.core n).sreg j = (s.core n).sreg j) ∧ (∀ j, (u.core n).creg j = (s.core n).creg j) ∧
    (∀ j, (u.core n).dreg j = (s.core n).dreg j)

/-- An exception of R232: the core is FAULTED with the cause, the PC of the instruction and the detail, its pending bit is
set, and its registers and memory are as they were. -/
def Sys2Proof.Claims.Faulted (n cause detail : Nat) (s u : State) : Prop :=
  u.coreState n = 6 ∧ u.get .sw (F.SEQ_CORE_STATUS_EXC_CAUSE n) = cause ∧ u.pc n = s.pc n ∧
    u.get .sw (F.SEQ_EXC_INFO_PC n) = s.pc n ∧ u.get .sw (F.SEQ_EXC_INFO_DETAIL n) = detail % 2 ^ 46 ∧
    bitOf ((u.dev .sw).reg A.SEQ_EXC_PENDING) n = true ∧ (u.core n).retired = (s.core n).retired ∧
    KeepsRegs n s u ∧ (u.core n).mem = (s.core n).mem ∧ (∀ m, m ≠ n → u.core m = s.core m) ∧ u.sw.tiers = s.sw.tiers

/-- An exception that sends its interrupt, vector 1, alone. -/
def Sys2Proof.Claims.Excepts (n cause detail : Nat) (s u : State) : Prop :=
  Faulted n cause detail s u ∧ (s.pcieStopped = false → u.out = s.out ++ [.msix 0 1])

/-- LOCAL_ECC at a local address: an uncorrectable error, reported as every other is, and the exception. -/
def Sys2Proof.Claims.EccExcepts (n a : Nat) (s u : State) : Prop :=
  Faulted n 5 a s u ∧ (s.pcieStopped = false → u.out = s.out ++ [.msix 0 3, .msix 0 1]) ∧
    u.get .sw F.TEL_FAULT_STATUS_UE = 1 ∧ (u.dev .sw).reg A.TEL_UE_LAST % 2 ^ 60 = a % 2 ^ 48

/-- O34. Each arithmetic instruction of Table 10.3, whose legal word stands at the PC of a core that can take it,
writes the table's result of its operands to SD, s0 reading zero and discarding writes, retires and goes on 8 bytes
further modulo 2^18; every other register, the core's memory and every other core stay. Shifts use the low six bits of
their amount; division by zero gives all ones, and the dividend as remainder. The value instructions write the
PC-independent values of the table, NOP writes nothing. (R223, R242, R244, R247, Table 10.2, Table 10.3) -/
def Obligations.ScalarResults : Prop := ∀ (n w t : Nat) (s : State),
  (∀ x ∈ ([(.add n t, 0x10, fun a b => a + b), (.sub n t, 0x11, fun a b => a - b), (.opAnd n t, 0x12, fun a b => a &&& b),
      (.opOr n t, 0x13, fun a b => a ||| b), (.xor n t, 0x14, fun a b => a ^^^ b),
      (.sll n t, 0x15, fun a b => BitVec.ofNat 64 (a.toNat * 2 ^ (b.toNat % 64))),
      (.srl n t, 0x16, fun a b => BitVec.ofNat 64 (a.toNat / 2 ^ (b.toNat % 64))),
      (.sra n t, 0x17, fun a b => BitVec.ofInt 64 (a.toInt / 2 ^ (b.toNat % 64))),
      (.mul n t, 0x18, fun a b => BitVec.ofNat 64 (a.toNat * b.toNat)),
      (.mulhu n t, 0x19, fun a b => BitVec.ofNat 64 (a.toNat * b.toNat / 2 ^ 64)),
      (.divu n t, 0x1A, fun a b => if b = 0 then BitVec.ofNat 64 (2 ^ 64 - 1) else BitVec.ofNat 64 (a.toNat / b.toNat)),
      (.remu n t, 0x1B, fun a b => BitVec.ofNat 64 (a.toNat % b.toNat)),
      (.slt n t, 0x1C, fun a b => if a.toInt < b.toInt then 1 else 0),
      (.sltu n t, 0x1D, fun a b => if a.toNat < b.toNat then 1 else 0)] : List (Instr × Nat × (Word → Word → Word))),
    Runs s n w x.2.1 → Ends x.1 t s (fun s u => Retires n (s.pc n + 8) s u ∧
      WritesS n (wSd w) (x.2.2 ((s.core n).sreg (wSa w)) ((s.core n).sreg (wSb w))) s u)) ∧
  (∀ x ∈ ([(.addi n t, 0x20, fun a b => a + b), (.andi n t, 0x22, fun a b => a &&& b), (.ori n t, 0x23, fun a b => a ||| b),
      (.xori n t, 0x24, fun a b => a ^^^ b), (.slli n t, 0x25, fun a b => BitVec.ofNat 64 (a.toNat * 2 ^ (b.toNat % 64))),
      (.srli n t, 0x26, fun a b => BitVec.ofNat 64 (a.toNat / 2 ^ (b.toNat % 64))),
      (.srai n t, 0x27, fun a b => BitVec.ofInt 64 (a.toInt / 2 ^ (b.toNat % 64))),
      (.slti n t, 0x2C, fun a b => if a.toInt < b.toInt then 1 else 0),
      (.sltiu n t, 0x2D, fun a b => if a.toNat < b.toNat then 1 else 0)] : List (Instr × Nat × (Word → Word → Word))),
    Runs s n w x.2.1 → Ends x.1 t s (fun s u => Retires n (s.pc n + 8) s u ∧
      WritesS n (wSd w) (x.2.2 ((s.core n).sreg (wSa w)) (BitVec.ofInt 64 (signedOf 32 (wImm w)))) s u)) ∧
  (∀ x ∈ ([(.rdtime n t, 0x04, fun s => BitVec.ofNat 64 (s.time .sw)),
      (.rdid n t, 0x05, fun s => BitVec.ofNat 64 (s.get .sw F.PKT_NODE_ID_NODE_ID * 256 + n)),
      (.li n t, 0x2E, fun _ => BitVec.ofInt 64 (signedOf 32 (wImm w))),
      (.lih n t, 0x2F, fun s => BitVec.ofNat 64 (wImm w * 2 ^ 32 + ((s.core n).sreg (wSd w)).toNat % 2 ^ 32)),
      (.cget n t, 0x51, fun s => (s.core n).creg (bitsOf w 21 18))] : List (Instr × Nat × (State → Word))),
    Runs s n w x.2.1 → Ends x.1 t s (fun s u => Retires n (s.pc n + 8) s u ∧ WritesS n (wSd w) (x.2.2 s) s u)) ∧
  (Runs s n w 0x03 → s.coreState n = 3 → Ends (.rdcyc n t) t s (fun s u => Retires n (s.pc n + 8) s u ∧
    WritesS n (wSd w) (BitVec.ofNat 64 (((s.core n).cycles
      + (s.now - (s.core n).cycAt) * 17 * (16 - s.get .sw F.PWR_CLK_STATUS_SEQ_LEVEL)) / 160)) s u)) ∧
  (Runs s n w 0x01 → Ends (.nop n t) t s (fun s u => Retires n (s.pc n + 8) s u ∧ WritesS n 0 0 s u))

/-- O35. A branch whose comparison holds, and a jump, go to PC + 8 x sext(IMM), or sa + 8 x sext(IMM) for JALR, when
that is a multiple of 8 inside the code region; JAL and JALR write PC + 8 to SD, JALR having read sa first. A target
that is no multiple of 8 raises ALIGN, one outside the code region LOCAL_RANGE, with the target as detail, and neither
writes SD nor moves the PC. A branch whose comparison fails goes on with the next instruction. (R222, R244, R248,
Table 10.4) -/
def Obligations.BranchesJump : Prop := ∀ (n w t : Nat) (s : State),
  let ahead (x : Word) : Word := x + 8 * BitVec.ofInt 64 (signedOf 32 (wImm w))
  let goes (c : Instr) (target : Word) (after : State → State → Prop) : Prop :=
    (target.toNat % 8 = 0 → target.toNat < (s.core n).codeBytes → Ends c t s (fun s u => Retires n target.toNat s u ∧ after s u)) ∧
    (target.toNat % 8 ≠ 0 → (s.dev .sw).potHolder ≠ coreHolds n → Ends c t s (Excepts n 4 target.toNat)) ∧
    (target.toNat % 8 = 0 → (s.core n).codeBytes ≤ target.toNat → (s.dev .sw).potHolder ≠ coreHolds n →
      Ends c t s (Excepts n 3 target.toNat))
  (∀ x ∈ ([(.beq n t, 0x30, fun a b => a == b), (.bne n t, 0x31, fun a b => a != b),
      (.blt n t, 0x32, fun a b => decide (a.toInt < b.toInt)), (.bge n t, 0x33, fun a b => decide (b.toInt ≤ a.toInt)),
      (.bltu n t, 0x34, fun a b => decide (a.toNat < b.toNat)),
      (.bgeu n t, 0x35, fun a b => decide (b.toNat ≤ a.toNat))] : List (Instr × Nat × (Word → Word → Bool))),
    Runs s n w x.2.1 →
    (x.2.2 ((s.core n).sreg (wSa w)) ((s.core n).sreg (wSb w)) = true →
      goes x.1 (ahead (BitVec.ofNat 64 (s.pc n))) (fun s u => KeepsRegs n s u ∧ (u.core n).mem = (s.core n).mem)) ∧
    (x.2.2 ((s.core n).sreg (wSa w)) ((s.core n).sreg (wSb w)) = false →
      Ends x.1 t s (fun s u => Retires n (s.pc n + 8) s u ∧ KeepsRegs n s u ∧ (u.core n).mem = (s.core n).mem))) ∧
  (Runs s n w 0x38 → goes (.jal n t) (ahead (BitVec.ofNat 64 (s.pc n)))
    (fun s u => WritesS n (wSd w) (BitVec.ofNat 64 (s.pc n + 8)) s u)) ∧
  (Runs s n w 0x39 → goes (.jalr n t) (ahead ((s.core n).sreg (wSa w)))
    (fun s u => WritesS n (wSd w) (BitVec.ofNat 64 (s.pc n + 8)) s u))

/-- A local access of `size` bytes at `a` succeeds: aligned, inside the local memory and, for a write, above the code. -/
def Sys2Proof.Claims.LocalOk (s : State) (n a size : Nat) (write : Bool) : Prop :=
  a % size = 0 ∧ a + size ≤ 0x40000 ∧ (write = true → (s.core n).codeBytes ≤ a)

/-- A local access of `size` bytes at `a` by core `n` raises what R249 gives: ALIGN first, then LOCAL_RANGE. -/
def Sys2Proof.Claims.LocalFails (c : Instr) (t : Nat) (s : State) (n a size : Nat) (write : Bool) : Prop :=
  (s.dev .sw).potHolder ≠ coreHolds n →
    (a % size ≠ 0 → Ends c t s (Excepts n 4 a)) ∧
    (a % size = 0 → (0x40000 < a + size ∨ (write = true ∧ a < (s.core n).codeBytes)) → Ends c t s (Excepts n 3 a))

/-- O36. A load from an aligned address inside the local memory writes SD, or the counter or descriptor register, with
the bytes there, least significant first, sign-extended for LDS; an uncorrectable word raises LOCAL_ECC with its
address, and is reported with UE, its place and vector 3. A store to an aligned address inside the local memory and above the code changes exactly the bytes it names,
to the low bytes of its register. A misaligned address raises ALIGN, one outside LOCAL_RANGE, and nothing is written.
No other register, byte or core changes. (R221, R222, R244, R249, R416, Table 10.5) -/
def Obligations.LocalAccesses : Prop := ∀ (n w t : Nat) (s : State),
  let a := ((s.core n).sreg (wSa w) + BitVec.ofInt 64 (signedOf 32 (wImm w))).toNat
  (∀ x ∈ ([(fun e => .ld1 n e t, 0x40, 1, fun v => BitVec.ofNat 64 v), (fun e => .ld2 n e t, 0x41, 2, fun v => BitVec.ofNat 64 v),
      (fun e => .ld4 n e t, 0x42, 4, fun v => BitVec.ofNat 64 v), (fun e => .ld8 n e t, 0x43, 8, fun v => BitVec.ofNat 64 v),
      (fun e => .lds1 n e t, 0x44, 1, fun v => BitVec.ofInt 64 (signedOf 8 v)),
      (fun e => .lds2 n e t, 0x45, 2, fun v => BitVec.ofInt 64 (signedOf 16 v)),
      (fun e => .lds4 n e t, 0x46, 4, fun v => BitVec.ofInt 64 (signedOf 32 v))] :
        List ((Bool → Instr) × Nat × Nat × (Nat → Word))),
    Runs s n w x.2.1 →
    (LocalOk s n a x.2.2.1 false → Ends (x.1 false) t s (fun s u => Retires n (s.pc n + 8) s u ∧
      WritesS n (wSd w) (x.2.2.2 (Memory.num (s.core n).mem a x.2.2.1)) s u)) ∧
    (LocalOk s n a x.2.2.1 false → (s.dev .sw).potHolder ≠ coreHolds n → Ends (x.1 true) t s (EccExcepts n a)) ∧
    ∀ e, LocalFails (x.1 e) t s n a x.2.2.1 false) ∧
  (∀ x ∈ ([(.st1 n t, 0x48, 1), (.st2 n t, 0x49, 2), (.st4 n t, 0x4A, 4), (.st8 n t, 0x4B, 8)] : List (Instr × Nat × Nat)),
    Runs s n w x.2.1 →
    (LocalOk s n a x.2.2 true → Ends x.1 t s (fun s u => Retires n (s.pc n + 8) s u ∧ KeepsRegs n s u ∧
      ∀ b, Memory.byte (u.core n).mem b = (if a ≤ b ∧ b < a + x.2.2
        then BitVec.ofNat 8 (((s.core n).sreg (wSb w)).toNat / 256 ^ (b - a)) else Memory.byte (s.core n).mem b))) ∧
    LocalFails x.1 t s n a x.2.2 true) ∧
  (Runs s n w 0x53 →
    (LocalOk s n a 8 false → Ends (.cld n false t) t s (fun s u => Retires n (s.pc n + 8) s u ∧
      (u.core n).creg (wCn w) = BitVec.ofNat 64 (Memory.num (s.core n).mem a 8) ∧
      (∀ j, j ≠ wCn w → (u.core n).creg j = (s.core n).creg j) ∧ (∀ j, (u.core n).sreg j = (s.core n).sreg j) ∧
      (∀ j, (u.core n).dreg j = (s.core n).dreg j) ∧ (u.core n).mem = (s.core n).mem)) ∧
    (LocalOk s n a 8 false → (s.dev .sw).potHolder ≠ coreHolds n → Ends (.cld n true t) t s (EccExcepts n a)) ∧
    ∀ e, LocalFails (.cld n e t) t s n a 8 false) ∧
  (Runs s n w 0x58 →
    (LocalOk s n a 32 false → Ends (.dld n false t) t s (fun s u => Retires n (s.pc n + 8) s u ∧
      (u.core n).dreg (wDn w) = Memory.num (s.core n).mem a 32 % 2 ^ 256 ∧
      (∀ j, j ≠ wDn w → (u.core n).dreg j = (s.core n).dreg j) ∧ (∀ j, (u.core n).sreg j = (s.core n).sreg j) ∧
      (∀ j, (u.core n).creg j = (s.core n).creg j) ∧ (u.core n).mem = (s.core n).mem)) ∧
    (LocalOk s n a 32 false → (s.dev .sw).potHolder ≠ coreHolds n → Ends (.dld n true t) t s (EccExcepts n a)) ∧
    ∀ e, LocalFails (.dld n e t) t s n a 32 false) ∧
  (∀ x ∈ ([(.cst n t, 0x54, 8, fun s => ((s.core n).creg (wCn w)).toNat), (.dst n t, 0x59, 32, fun s => (s.core n).dreg (wDn w))] :
      List (Instr × Nat × Nat × (State → Nat))), Runs s n w x.2.1 →
    (LocalOk s n a x.2.2.1 true → Ends x.1 t s (fun s u => Retires n (s.pc n + 8) s u ∧ KeepsRegs n s u ∧
      ∀ b, Memory.byte (u.core n).mem b = (if a ≤ b ∧ b < a + x.2.2.1
        then BitVec.ofNat 8 (x.2.2.2 s / 256 ^ (b - a)) else Memory.byte (s.core n).mem b))) ∧
    LocalFails x.1 t s n a x.2.2.1 true)

/-- O37. CSET copies sa to cN; CADD adds sa to its TARGET modulo 2^48 and keeps its LCTR; DADDR adds sa to the address
of dN modulo 2^64 and keeps its other fields; no other register changes. BREAK raises BREAK with IMM as its detail. A
word with no meaning raises ILLEGAL with its low 46 bits, and a fetch outside the code region LOCAL_RANGE with the PC;
the core is then FAULTED, and takes no instruction. (R222, R224, R225, R232, R242, R243, R250, Table 10.5) -/
def Obligations.RegisterSetsAndExceptions : Prop := ∀ (n w t : Nat) (s : State),
  (Runs s n w 0x50 → Ends (.cset n t) t s (fun s u => Retires n (s.pc n + 8) s u ∧ (u.core n).mem = (s.core n).mem ∧
    (u.core n).creg (wCn w) = (s.core n).sreg (wSa w) ∧ (∀ j, j ≠ wCn w → (u.core n).creg j = (s.core n).creg j) ∧
    (∀ j, (u.core n).sreg j = (s.core n).sreg j) ∧ (∀ j, (u.core n).dreg j = (s.core n).dreg j))) ∧
  (Runs s n w 0x52 → Ends (.cadd n t) t s (fun s u => Retires n (s.pc n + 8) s u ∧ (u.core n).mem = (s.core n).mem ∧
    ctrTarget ((u.core n).creg (wCn w)) = (ctrTarget ((s.core n).creg (wCn w)) + ((s.core n).sreg (wSa w)).toNat) % 2 ^ 48 ∧
    ctrLctr ((u.core n).creg (wCn w)) = ctrLctr ((s.core n).creg (wCn w)) ∧
    (∀ j, j ≠ wCn w → (u.core n).creg j = (s.core n).creg j) ∧
    (∀ j, (u.core n).sreg j = (s.core n).sreg j) ∧ (∀ j, (u.core n).dreg j = (s.core n).dreg j))) ∧
  (Runs s n w 0x5A → (s.core n).dreg (wDn w) < 2 ^ 256 → Ends (.daddr n t) t s (fun s u => Retires n (s.pc n + 8) s u ∧
    (u.core n).mem = (s.core n).mem ∧
    dAddr ((u.core n).dreg (wDn w)) = (dAddr ((s.core n).dreg (wDn w)) + ((s.core n).sreg (wSa w)).toNat) % 2 ^ 64 ∧
    (u.core n).dreg (wDn w) % 2 ^ 192 = (s.core n).dreg (wDn w) % 2 ^ 192 ∧
    (∀ j, j ≠ wDn w → (u.core n).dreg j = (s.core n).dreg j) ∧
    (∀ j, (u.core n).sreg j = (s.core n).sreg j) ∧ (∀ j, (u.core n).creg j = (s.core n).creg j))) ∧
  ((s.dev .sw).potHolder ≠ coreHolds n →
    (Runs s n w 0x02 → Ends (.opBreak n t) t s (Excepts n 9 (wImm w))) ∧
    (n < 64 → s.coreReady n = true →
      (s.fetch n = some w → legal w = false → Ends (.illegal n t) t s (fun s u => Excepts n 1 (w % 2 ^ 46) s u ∧ u.coreReady n = false)) ∧
      (s.fetch n = none → Ends (.illegal n t) t s (fun s u => Excepts n 3 (s.pc n) s u ∧ u.coreReady n = false))))

/-- The instruction at hand uses a good descriptor and an open channel that its program may use: `a` is the state once the
channel's entry has been looked up, and its bucket found where it has one. -/
def Sys2Proof.Claims.Reaches (s : State) (t n w op raw b : Nat) (a : State) : Prop :=
  Runs s n w op ∧ descOk ((s.core n).dreg (wDn w)) = true ∧
    ((s.tick t).accrue n).coreChan n (dChan ((s.core n).dreg (wDn w))) true = (.ok raw b, a)

/-- The core may have another transaction outstanding, and port 32 has room for its packet. -/
def Sys2Proof.Claims.RoomFor (a : State) (n : Nat) (h : PktHdr) : Prop :=
  (a.dev .sw).coreOut n < 16384 ∧ (a.dev .sw).coresOut < 1048576 ∧
    ((a.dev .sw).ownOff h = true ∨ (a.dev .sw).ownRoom h = true)

/-- The request of one packet on a channel, whose bucket it takes, and the core waiting for it where it returns data or names
a completion register. -/
def Sys2Proof.Claims.Asks (a : State) (n w chan raw b sd cause : Nat) (returns : Bool) (pkt : Packet) (land : Land)
    (acq : Option Bool) : State :=
  let j := (a.grant chan raw).coreJob n 1 (wSc w) returns
  let p := (a.dev .sw).chanPend (.core n) j.1 raw b pkt land acq
  let u := if wOrd w = 1 then j.2.submitRelease .sw p (wScope w) (a.core n).since else j.2.submit .sw p
  if returns = true ∨ wSc w ≠ 0 then u.stallOn n (.job j.1 sd (wSc w)) cause else u.retireI n

/-- O38. With a good descriptor, an open channel and room, a scalar READ, WRITE or AMO sends one packet of the channel
to dN.ADDR + sa + sext(OFS): a READ asks for the aligned unit, a WRITE sets the byte enables of its half and carries
sb there, an AMO carries its operand, and sd as the compare value of CAS. A READ and an AMO, and a WRITE that names a
completion register, wait for the answer, a release held by its fence with cause 2; a posted WRITE retires. An acquire
holds later reads, with its scope deciding the read cache. An address that is no multiple of 8 sends no packet of a
READ or WRITE: SC becomes UNSUPPORTED. A bad descriptor raises DESC_INVALID, a channel that is refused CHANNEL_DENIED,
and one still to be fetched makes the core wait at its PC; at the limit or with no room it waits with cause 4 or 3.
(R92, R152, R153, R154, R225, R237, R251, R252, R253, R254) -/
def Obligations.FabricAccesses : Prop := ∀ (t n w raw b : Nat) (a s : State),
  let d := (s.core n).dreg (wDn w)
  let x := (BitVec.ofNat 64 (dAddr d) + (s.core n).sreg (wSa w) + BitVec.ofInt 64 (signedOf 20 (wOfs w))).toNat
  let hdr (addr : Nat) : PktHdr := (a.dev .sw).scalarHdr raw (dChan d) addr
  let acq := if wOrd w = 2 then some (decide (2 ≤ wScope w)) else none
  let cause := if wOrd w = 1 then 2 else 0
  let readHdr : PktHdr := { hdr (x / 16 * 16) with opcode := 1, reqUnits := 1, lctr := BitVec.ofNat 16 (dLctr d) }
  let writeHdr : PktHdr := { hdr (x / 16 * 16) with
    opcode := 3, payUnits := 1, lctr := BitVec.ofNat 16 (dLctr d), byteEn := if x % 16 < 8 then 0x00FF else 0xFF00 }
  (∀ c ∈ ([(.read n t, 0), (.readAcq n t, 2)] : List (Instr × Nat)), wOrd w = c.2 → Reaches s t n w 0x60 raw b a →
    (x % 8 = 0 → RoomFor a n readHdr →
      Leaves c.1 t s (fun _ => Asks a n w (dChan d) raw b (wSd w) 0 true ⟨readHdr, []⟩ (.word (x / 8 % 2)) acq)) ∧
    (x % 8 ≠ 0 → wSc w ≠ 0 → Comes c.1 t s (fun _ u => (u.core n).sreg (wSc w) = BitVec.ofNat 64 Code.UNSUPPORTED ∧
      (wSd w ≠ 0 → wSd w ≠ wSc w → (u.core n).sreg (wSd w) = BitVec.ofNat 64 (2 ^ 64 - 1)) ∧
      (u.dev .sw).txns = (a.dev .sw).txns ∧ (u.dev .sw).pends = (a.dev .sw).pends ∧ u.pc n = (s.pc n + 8) % 2 ^ 18)) ∧
    (x % 8 = 0 → 16384 ≤ (a.dev .sw).coreOut n → Leaves c.1 t s (fun _ => a.stallOn n .retry 4)) ∧
    (x % 8 = 0 → (a.dev .sw).coreOut n < 16384 → (a.dev .sw).coresOut < 1048576 → (a.dev .sw).ownOff readHdr = false →
      (a.dev .sw).ownRoom readHdr = false → Leaves c.1 t s (fun _ => a.stallOn n .retry 3))) ∧
  (∀ c ∈ ([(.write n t, 0), (.writeRel n t, 1)] : List (Instr × Nat)), wOrd w = c.2 → Reaches s t n w 0x61 raw b a →
    (x % 8 = 0 → RoomFor a n writeHdr → Leaves c.1 t s (fun _ => Asks a n w (dChan d) raw b 0 cause false
      ⟨writeHdr, leBytes 16 (((s.core n).sreg (wSb w)).toNat * 2 ^ (64 * (x / 8 % 2)))⟩ .drop none)) ∧
    (x % 8 ≠ 0 → wSc w ≠ 0 → Comes c.1 t s (fun _ u => (u.core n).sreg (wSc w) = BitVec.ofNat 64 Code.UNSUPPORTED ∧
      (u.dev .sw).txns = (a.dev .sw).txns ∧ (u.dev .sw).pends = (a.dev .sw).pends ∧ u.pc n = (s.pc n + 8) % 2 ^ 18))) ∧
  (∀ c ∈ ([(.amoAdd n t, 0), (.amoAnd n t, 1), (.amoOr n t, 2), (.amoXor n t, 3), (.amoSmin n t, 4), (.amoSmax n t, 5),
      (.amoUmin n t, 6), (.amoUmax n t, 7), (.amoSwap n t, 8), (.amoCas n t, 9)] : List (Instr × Nat)),
    Reaches s t n w (0x70 + c.2) raw b a →
    let h : PktHdr := { hdr x with opcode := 5, opArg := BitVec.ofNat 4 c.2, payUnits := 1 }
    RoomFor a n h → Leaves c.1 t s (fun _ => Asks a n w (dChan d) raw b (wSd w) cause true
      ⟨h, leBytes 16 (((s.core n).sreg (wSb w)).toNat + (if c.2 = 9 then ((s.core n).sreg (wSd w)).toNat else 0) * 2 ^ 64)⟩
      (.word 0) acq)) ∧
  (∀ c ∈ ([(.read n t, 0x60, 0), (.readAcq n t, 0x60, 2), (.write n t, 0x61, 0), (.writeRel n t, 0x61, 1),
      (.tput n false t, 0x63, wOrd w), (.tget n t, 0x64, wOrd w), (.amoAdd n t, 0x70, wOrd w)] : List (Instr × Nat × Nat)),
    Runs s n w c.2.1 → wOrd w = c.2.2 →
    (descOk d = false → Leaves c.1 t s (fun s => (s.accrue n).except n 7 (wDn w))) ∧
    (descOk d = true → wForm w = 0 → 16 * dRows d * dRowUnits d ≤ 65536 →
      (∀ cl, ((s.tick t).accrue n).coreChan n (dChan d) true = (.denied cl, a) → Leaves c.1 t s (fun _ => a.except n 6 (dChan d))) ∧
      (((s.tick t).accrue n).coreChan n (dChan d) true = (.miss, a) → Leaves c.1 t s (fun _ => a.stallOn n .retry 0))))

/-- A TIER request that is turned away: the completion register takes OUT_OF_RANGE, the program goes on, and no tile moves. -/
def Sys2Proof.Claims.Turned (n w : Nat) (tiers : Tiers) (s u : State) : Prop :=
  (wSc w ≠ 0 → (u.core n).sreg (wSc w) = BitVec.ofNat 64 Code.OUT_OF_RANGE) ∧ u.pc n = (s.pc n + 8) % 2 ^ 18 ∧ u.tiers = tiers

/-- O39. A MSG of 1 to 512 units, from an aligned range of local memory with a free issue buffer, sends them to the
service queue SEL of the descriptor's node. A TPUT splits its tile by R92 into WRITEs, marks the last, and takes their
bytes from local memory or, with FORM 1, names the place in this switch's own store that each is read from as it
leaves; a TGET sends the READs, each landing where its bytes belong. The packets of a tile are the rows in order, each
row's bytes once. A TIER request acts on the store tiles of the descriptor's pages, and takes its place among the
core's requests, once every page's walk has ended; a descriptor of another node, and a page that is not mapped to the
channel's tenant, turn the whole request away with OUT_OF_RANGE. A local address that is not aligned, or out of range, an
uncorrectable word, a bad descriptor of either side, and a refused channel raise their exceptions; a busy issue buffer
and a channel entry still to be fetched make the core wait. (R92, R251, R252, R256, R257, R258, R266, R294) -/
def Obligations.TilesAndMessages : Prop :=
  (∀ (t n w raw b : Nat) (a s : State),
    let d := (s.core n).dreg (wDn w)
    let units := bitsOf ((s.core n).sreg (wSb w)).toNat 9 0
    let at_ := ((s.core n).sreg (wSa w)).toNat
    let ps := tilePackets d
    (Reaches s t n w 0x62 raw b a →
      (1 ≤ units → units ≤ 512 → at_ % 16 = 0 → at_ + 16 * units ≤ 0x40000 → a.bufBusy n = false →
        let h : PktHdr := { (a.dev .sw).scalarHdr raw (dChan d) (dAddr d / 2 ^ 52 * 2 ^ 52) with
          opcode := 8, opArg := BitVec.ofNat 4 (wSel w), payUnits := BitVec.ofNat 10 units }
        RoomFor a n h → Leaves (.msg n false t) t s (fun _ =>
          let j := (a.grant (dChan d) raw).coreJob n 1 (wSc w) false
          let u := (j.2.modCore n (fun c => { c with buf := some j.1 })).submit .sw ((a.dev .sw).chanPend (.core n) j.1 raw b
            ⟨h, Memory.bytes (s.core n).mem at_ (16 * units)⟩ .drop none)
          if wSc w ≠ 0 then u.stallOn n (.job j.1 0 (wSc w)) 0 else u.retireI n)) ∧
      ((units = 0 ∨ 512 < units) → ∀ ue, Leaves (.msg n ue t) t s (fun s => (s.accrue n).except n 1 (w % 2 ^ 46)))) ∧
    (Reaches s t n w 0x63 raw b a → RoomFor a n ((a.dev .sw).tileHdr raw d true false (dAddr d) 16) →
      let j := (a.grant (dChan d) raw).coreJob n ps.length (wSc w) false
      let hdr (x : (Nat × Nat × Nat) × Bool) : PktHdr := (a.dev .sw).tileHdr raw d true x.2 x.1.1 x.1.2.1
      (wForm w = 0 → 16 * dRows d * dRowUnits d ≤ 65536 → at_ % 16 = 0 →
        at_ + 16 * dRows d * dRowUnits d ≤ 0x40000 → a.bufBusy n = false →
        Leaves (.tput n false t) t s (fun _ => ((markLast ps).foldl (fun a' x =>
          a'.submit .sw ((a.dev .sw).chanPend (.core n) j.1 raw b
            ⟨hdr x, Memory.bytes (s.core n).mem (at_ + x.1.2.2) x.1.2.1⟩ .drop none))
          (j.2.modCore n (fun c => { c with buf := some j.1 }))).coreHand n j.1 (wSc w))) ∧
      (wForm w = 1 → let m := (s.core n).dreg (wDm w)
        descOk m = true → dAddr m / 2 ^ 52 = s.get .sw F.PKT_NODE_ID_NODE_ID → dRows m = dRows d → dRowUnits m = dRowUnits d →
        ∀ ue, Leaves (.tput n ue t) t s (fun _ => ((markLast ps).foldl (fun a' x =>
          a'.submit .sw { (a.dev .sw).chanPend (.core n) j.1 raw b ⟨hdr x, []⟩ .drop none with
            src := some (tileAt m x.1.2.2) }) j.2).coreHand n j.1 (wSc w)))) ∧
    (Reaches s t n w 0x64 raw b a → RoomFor a n ((a.dev .sw).tileHdr raw d false false (dAddr d) 16) →
      let gets (land : Nat → Land) : State :=
        let j := (a.grant (dChan d) raw).coreJob n ps.length (wSc w) false
        ((markLast ps).foldl (fun a' x => a'.submit .sw ((a.dev .sw).chanPend (.core n) j.1 raw b
          ⟨(a.dev .sw).tileHdr raw d false x.2 x.1.1 x.1.2.1, []⟩ (land x.1.2.2) none)) j.2).coreHand n j.1 (wSc w)
      (wForm w = 0 → 16 * dRows d * dRowUnits d ≤ 65536 → at_ % 16 = 0 → at_ + 16 * dRows d * dRowUnits d ≤ 0x40000 →
        (s.core n).codeBytes ≤ at_ → Leaves (.tget n t) t s (fun _ => gets (fun o => .local_ n (at_ + o)))) ∧
      (wForm w = 1 → let m := (s.core n).dreg (wDm w)
        descOk m = true → dAddr m / 2 ^ 52 = s.get .sw F.PKT_NODE_ID_NODE_ID → dRows m = dRows d → dRowUnits m = dRowUnits d →
        Leaves (.tget n t) t s (fun _ => gets (fun o => .own (tileAt m o))))) ∧
    (∀ c ∈ ([(.tierPromoteHot n t, 0), (.tierPromoteDram n t, 1), (.tierPin n t, 2), (.tierUnpin n t, 3),
        (.tierWriteback n t, 4)] : List (Instr × Nat)), wSel w = c.2 → Reaches s t n w 0x65 raw b a →
      (dAddr d / 2 ^ 52 ≠ s.get .sw F.PKT_NODE_ID_NODE_ID → Comes c.1 t s (Turned n w a.tiers)) ∧
      (dAddr d / 2 ^ 52 = s.get .sw F.PKT_NODE_ID_NODE_ID → ∀ (e : State) (pages : List (Option Nat)),
        a.pageTiles (chanOf raw).tenant (descPages d) [] = (e, some pages) →
        (e.wholeTiles (chanOf raw).tenant pages = none → Comes c.1 t s (Turned n w e.tiers)) ∧
        ∀ tiles, e.wholeTiles (chanOf raw).tenant pages = some tiles → Leaves c.1 t s (fun _ =>
          let j := e.coreJob n tiles.length (wSc w) false
          let q := j.2.modDev .sw (fun v => { v with
            nextUid := v.nextUid + 1,
            tierReqs := v.tierReqs ++ [⟨j.1, v.nextUid, n, (a.dev .sw).scalarHdr raw (dChan d) (dAddr d)⟩] })
          let u := q.tierRequest (chanOf raw).tenant (c.2 + 4) j.1 tiles
          if wSc w ≠ 0 then u.stallOn n (.job j.1 0 (wSc w)) 0 else u.retireI n) ∧
        ∀ e, a.pageTiles (chanOf raw).tenant (descPages d) [] = (e, none) → Leaves c.1 t s (fun _ => e.stallOn n .retry 0))) ∧
    (∀ ue, ∀ c ∈ ([(.msg n ue t, 0x62, 16 * units), (.tput n ue t, 0x63, 16 * dRows d * dRowUnits d)] : List (Instr × Nat × Nat)),
      Reaches s t n w c.2.1 raw b a → (c.2.1 = 0x62 → 1 ≤ units ∧ units ≤ 512) → (c.2.1 = 0x63 → wForm w = 0 ∧ c.2.2 ≤ 65536) →
      (at_ % 16 ≠ 0 → Leaves c.1 t s (fun _ => a.except n Exc.ALIGN at_)) ∧
      (at_ % 16 = 0 → 0x40000 < at_ + c.2.2 → Leaves c.1 t s (fun _ => a.except n Exc.LOCAL_RANGE at_)) ∧
      (at_ % 16 = 0 → at_ + c.2.2 ≤ 0x40000 →
        (ue = true → Leaves c.1 t s (fun _ => a.eccIn n at_ c.2.2)) ∧
        (ue = false → a.bufBusy n = true → Leaves c.1 t s (fun _ => a.stallOn n .retry 3)))) ∧
    (Reaches s t n w 0x64 raw b a → wForm w = 0 → 16 * dRows d * dRowUnits d ≤ 65536 →
      (at_ % 16 ≠ 0 → Leaves (.tget n t) t s (fun _ => a.except n Exc.ALIGN at_)) ∧
      (at_ % 16 = 0 → 0x40000 < at_ + 16 * dRows d * dRowUnits d ∨ at_ < (s.core n).codeBytes →
        Leaves (.tget n t) t s (fun _ => a.except n Exc.LOCAL_RANGE at_))) ∧
    (∀ ue, ∀ c ∈ ([(.tput n ue t, 0x63), (.tget n t, 0x64)] : List (Instr × Nat)), Runs s n w c.2 → descOk d = true →
      (wForm w = 0 → 65536 < 16 * dRows d * dRowUnits d →
        Leaves c.1 t s (fun s => (s.accrue n).except n Exc.DESC_INVALID (wDn w))) ∧
      (wForm w = 1 → let m := (s.core n).dreg (wDm w)
        (descOk m = false → Leaves c.1 t s (fun s => (s.accrue n).except n Exc.DESC_INVALID (wDm w))) ∧
        (descOk m = true → dAddr m / 2 ^ 52 ≠ s.get .sw F.PKT_NODE_ID_NODE_ID ∨ dRows m ≠ dRows d ∨ dRowUnits m ≠ dRowUnits d →
          Leaves c.1 t s (fun s => (s.accrue n).except n Exc.DESC_INVALID (wDn w))))) ∧
    (∀ ue, ∀ c ∈ ([(.msg n ue t, 0x62, wSel w), (.tierPromoteHot n t, 0x65, 0), (.tierPromoteDram n t, 0x65, 1), (.tierPin n t, 0x65, 2),
        (.tierUnpin n t, 0x65, 3), (.tierWriteback n t, 0x65, 4)] : List (Instr × Nat × Nat)),
      Runs s n w c.2.1 → wSel w = c.2.2 → (c.2.1 = 0x62 → 1 ≤ units ∧ units ≤ 512) →
      (descOk d = false → Leaves c.1 t s (fun s => (s.accrue n).except n Exc.DESC_INVALID (wDn w))) ∧
      (descOk d = true →
        (∀ cl, ((s.tick t).accrue n).coreChan n (dChan d) true = (.denied cl, a) →
          Leaves c.1 t s (fun _ => a.except n Exc.CHANNEL_DENIED (dChan d))) ∧
        (((s.tick t).accrue n).coreChan n (dChan d) true = (.miss, a) → Leaves c.1 t s (fun _ => a.stallOn n .retry 0))))) ∧
  (∀ d : Nat, descOk d = true →
    ((tilePackets d).map (fun p => p.2.1)).sum = 16 * dRows d * dRowUnits d ∧
    ∀ p ∈ tilePackets d, 0 < p.2.1 ∧ p.2.1 ≤ 8192 ∧ p.2.1 % 16 = 0 ∧ p.1 % 65536 + p.2.1 ≤ 65536 ∧
      ∃ i, i < dRows d ∧ i * (16 * dRowUnits d) ≤ p.2.2 ∧ p.2.2 + p.2.1 ≤ (i + 1) * (16 * dRowUnits d) ∧
        p.1 = (dAddr d + i * dPitch d + (p.2.2 - i * (16 * dRowUnits d))) % 2 ^ 64)

/-- O40. Each of these instructions, at a core that can take it, has the effect of its row: FENCE answers the worst
code at once when nothing is outstanding in its scope, or waits; WAITC goes on when its counter has reached its
target, or waits; LCTR instructions read and write a landing counter, index 0 reading zero; window instructions act on
a window of the program's tenant and answer DENIED for another's; TAKE delivers the oldest record of a queue of the
core, and waits or answers 0 on an empty one; a record with an uncorrectable slot is discarded and reported, and the next
one is delivered, and a corrected one is counted. TAKE raises QUEUE for another core's queue, and TAKE and HCQ_POST raise
ALIGN and LOCAL_RANGE as an access does, HCQ_POST LOCAL_ECC too; HCQ_POST, CHAN_INV, CHAN_CHK, WAKE, NAP, the Pot
instructions, DRAIN and DRAINED answer as their rows give, and CTR_RD reads the counters as they stand. One that needs a
privilege which the program lacks raises PRIV with that privilege and has no other effect. (R228, R259, R260, R262, R263,
R264, R265, R269, R270, R271, R416, R472) -/
def Obligations.WindowAndCounterInstructions : Prop := ∀ (n w t : Nat) (s : State),
  let at_ (f : State → State) (s : State) : State := f (s.accrue n)
  let sa := ((s.core n).sreg (wSa w)).toNat
  let sb := ((s.core n).sreg (wSb w)).toNat
  let mine (k : Nat) : Prop := s.corePriv n 5 = true ∨ s.get .sw (F.RED_WIN_A_TENANT k) = s.coreTenant n
  (Runs s n w 0x66 → let set := (s.dev .sw).fenceSet (.core n) (wScope w) (s.core n).since
    (set = [] → Leaves (.fence n t) t s (at_ (fun s =>
      s.retireS n (wSc w) (BitVec.ofNat 64 ((s.dev .sw).failedIn (.core n) (wScope w)))))) ∧
    (set ≠ [] → Comes (.fence n t) t s (fun s u => u.pc n = s.pc n ∧ (u.core n).wait = .fence (s.dev .sw).nextJob (wSc w) ∧
      (u.dev .sw).fences = (s.dev .sw).fences ++ [⟨(s.dev .sw).nextJob, .core n, .core n, set,
        (s.dev .sw).failedIn (.core n) (wScope w)⟩]))) ∧
  (Runs s n w 0x67 → let x := (s.core n).creg (wCn w)
    ((ctrLctr x = 0 ∨ ctrTarget x ≤ (s.dev .sw).lctr (ctrLctr x)) → Leaves (.waitc n t) t s (at_ (fun s => s.retireI n))) ∧
    (ctrLctr x ≠ 0 → (s.dev .sw).lctr (ctrLctr x) < ctrTarget x → Leaves (.waitc n t) t s (at_ (fun s => s.stallOn n .counter 1)))) ∧
  (Runs s n w 0x68 → Leaves (.lctrRd n t) t s (at_ (fun s => s.retireS n (wSd w)
    (if sa % 65536 = 0 then 0 else BitVec.ofNat 64 ((s.dev .sw).lctr (sa % 65536)))))) ∧
  (Runs s n w 0x69 → Leaves (.lctrSet n t) t s (at_ (fun s => (if sa % 65536 = 0 then s
    else s.modDev .sw (fun v => v.setReg (A.MEM_LCTR (sa % 65536)) (sb % 2 ^ 48))).retireI n))) ∧
  (∀ c ∈ ([(.winSet n t, 0x80, sa % 256), (.winArm n t, 0x81, sa % 256), (.winClear n t, 0x82, sa % 256),
      (.reduce n t, 0x83, wImm w % 256), (.winStat n t, 0x84, sa % 256)] : List (Instr × Nat × Nat)),
    Runs s n w c.2.1 → ¬ mine c.2.2 → Leaves c.1 t s (at_ (fun s => s.retireS n (wSd w) 0xF))) ∧
  (Runs s n w 0x80 → mine (sa % 256) →
    (s.get .sw (F.RED_WIN_A_ENABLE (sa % 256)) = 0 → Leaves (.winSet n t) t s (at_ (fun s => s.retireS n (wSd w) 6))) ∧
    (s.get .sw (F.RED_WIN_A_ENABLE (sa % 256)) ≠ 0 → s.get .sw (F.RED_WIN_STATUS_STATE (sa % 256)) ≠ 0 →
      Leaves (.winSet n t) t s (at_ (fun s => s.retireS n (wSd w) 5))) ∧
    (s.get .sw (F.RED_WIN_A_ENABLE (sa % 256)) ≠ 0 → s.get .sw (F.RED_WIN_STATUS_STATE (sa % 256)) = 0 →
      Comes (.winSet n t) t s (fun s u => (wSd w ≠ 0 → (u.core n).sreg (wSd w) = 0) ∧ u.pc n = (s.pc n + 8) % 2 ^ 18 ∧
        (wImm w = 1 → (u.dev .sw).reg (A.RED_WIN_B (sa % 256)) = sb) ∧ (wImm w = 2 → (u.dev .sw).reg (A.RED_WIN_C (sa % 256)) = sb)))) ∧
  (Runs s n w 0x81 → mine (sa % 256) → Leaves (.winArm n t) t s (at_ (fun s =>
    (s.arm (sa % 256) (sb % 256)).2.retireS n (wSd w) (BitVec.ofNat 64 (s.arm (sa % 256) (sb % 256)).1)))) ∧
  (Runs s n w 0x82 → mine (sa % 256) → s.get .sw (F.RED_WIN_A_ENABLE (sa % 256)) ≠ 0 →
    (s.get .sw (F.RED_WIN_STATUS_STATE (sa % 256)) = 0 → Leaves (.winClear n t) t s (at_ (fun s => s.retireS n (wSd w) 0))) ∧
    (s.get .sw (F.RED_WIN_STATUS_STATE (sa % 256)) ≠ 0 → Leaves (.winClear n t) t s (at_ (fun s =>
      (s.clearWin (sa % 256)).stallOn n (.winClear (sa % 256) (wSd w)) 0)))) ∧
  (Runs s n w 0x83 → mine (wImm w % 256) → Leaves (.reduce n t) t s (at_ (fun s =>
    (s.startEmit (wImm w % 256) sa sb (bitOf (wImm w) 8) (.core n)).2.stallOn n (.emit s.sw.nextEmit (wSd w)) 0))) ∧
  (Runs s n w 0x84 → mine (sa % 256) → Comes (.winStat n t) t s (fun s u => u.pc n = (s.pc n + 8) % 2 ^ 18 ∧
    (wSd w ≠ 0 → (u.core n).sreg (wSd w) = BitVec.ofNat 64 ((s.dev .sw).reg (A.RED_WIN_STATUS (sa % 256)))) ∧
    (u.dev .sw).reg (A.RED_WIN_STATUS (sa % 256)) = (if wImm w % 2 = 1
      then (s.dev .sw).reg (A.RED_WIN_STATUS (sa % 256)) / 1024 * 1024 else (s.dev .sw).reg (A.RED_WIN_STATUS (sa % 256))))) ∧
  (Runs s n w 0x88 → let q := wImm w % 16
    (8 ≤ q ∨ s.corePriv n 3 = true) → s.get .sw (F.SEQ_QUEUE_B_CORE q) = n → sa % 16 = 0 → sa + 8192 ≤ 0x40000 → (s.core n).codeBytes ≤ sa →
    (∀ r rs, (s.squeue q).recs = r :: rs → Comes (.take n .clean t) t s (fun s u => u.pc n = (s.pc n + 8) % 2 ^ 18 ∧
      (u.squeue q).recs = rs ∧ (u.core n).mem = Memory.setBytes (s.core n).mem sa r.data ∧
      (wSd w ≠ 0 → (u.core n).sreg (wSd w) = BitVec.ofNat 64 r.units) ∧ ∀ p, p ≠ q → u.squeue p = s.squeue p)) ∧
    (∀ r rs, (s.squeue q).recs = r :: rs →
      Comes (.take n .fixed t) t s (fun s u => u.pc n = (s.pc n + 8) % 2 ^ 18 ∧ (u.squeue q).recs = rs ∧
        (u.core n).mem = Memory.setBytes (s.core n).mem sa r.data ∧ u.get .sw F.TEL_FAULT_STATUS_CE = 1) ∧
      Comes (.take n .bad t) t s (fun s u => u.get .sw F.TEL_FAULT_STATUS_UE = 1 ∧
        (u.dev .sw).reg A.TEL_UE_LAST = 2 * 2 ^ 60 + (s.get .sw (F.SEQ_QUEUE_A_BASE q) * 64 + 64 * r.slot) % 2 ^ 48 ∧
        (∀ r' rs', rs = r' :: rs' → u.pc n = (s.pc n + 8) % 2 ^ 18 ∧ (u.squeue q).recs = rs' ∧
          (u.core n).mem = Memory.setBytes (s.core n).mem sa r'.data) ∧
        (rs = [] → (u.squeue q).recs = [] ∧ (u.core n).mem = (s.core n).mem ∧
          (bitOf (wImm w) 4 = true → u.pc n = (s.pc n + 8) % 2 ^ 18 ∧ (wSd w ≠ 0 → (u.core n).sreg (wSd w) = 0)) ∧
          (bitOf (wImm w) 4 = false → u.pc n = s.pc n ∧ (u.core n).wait = .take q sa (wSd w))))) ∧
    (∀ ue, (s.squeue q).recs = [] → Leaves (.take n ue t) t s (at_ (fun s =>
      if bitOf (wImm w) 4 then s.retireS n (wSd w) 0 else s.stallOn n (.take q sa (wSd w)) 5)))) ∧
  (∀ ue, Runs s n w 0x88 → let q := wImm w % 16
    (8 ≤ q ∨ s.corePriv n 3 = true) → let exc (c d : Nat) := Leaves (.take n ue t) t s (at_ (fun a => a.except n c d))
    (s.get .sw (F.SEQ_QUEUE_B_CORE q) ≠ n → exc Exc.QUEUE q) ∧
    (s.get .sw (F.SEQ_QUEUE_B_CORE q) = n → (sa % 16 ≠ 0 → exc Exc.ALIGN sa) ∧
      (sa % 16 = 0 → 0x40000 < sa + 8192 ∨ sa < (s.core n).codeBytes → exc Exc.LOCAL_RANGE sa))) ∧
  (∀ ue, Runs s n w 0x88 → wImm w % 16 < 8 → s.corePriv n 3 = false → Comes (.take n ue t) t s (Excepts n 2 3)) ∧
  (∀ ue, Runs s n w 0x89 → s.corePriv n 4 = true →
    (sa % 32 ≠ 0 → Leaves (.hcqPost n ue t) t s (at_ (fun a => a.except n Exc.ALIGN sa))) ∧
    (sa % 32 = 0 → 0x40000 < sa + 32 → Leaves (.hcqPost n ue t) t s (at_ (fun a => a.except n Exc.LOCAL_RANGE sa))) ∧
    (sa % 32 = 0 → sa + 32 ≤ 0x40000 → ue = true → Leaves (.hcqPost n ue t) t s (at_ (fun a => a.eccIn n sa 32)))) ∧
  (Runs s n w 0x89 → s.corePriv n 4 = true → sa % 32 = 0 → sa + 32 ≤ 0x40000 → let q := wImm w % 65536
    ((1024 ≤ q ∨ s.get .sw (F.HIF_CQ_B_ENABLE q) = 0) → Leaves (.hcqPost n false t) t s (at_ (fun s => s.retireS n (wSd w) 2))) ∧
    (q < 1024 → s.get .sw (F.HIF_CQ_B_ENABLE q) ≠ 0 → (s.cqRoom q = false →
        Leaves (.hcqPost n false t) t s (at_ (fun s => s.retireS n (wSd w) 1))) ∧
      (s.cqRoom q = true → Leaves (.hcqPost n false t) t s (at_ (fun s =>
        (s.postEntry q (setBits (setBits (Memory.num (s.core n).mem sa 32) 31 21 0x7FF) 47 32 0)).retireS n (wSd w) 0))))) ∧
  (Runs s n w 0x90 → Leaves (.chanInv n t) t s (at_ (fun s => (s.modDev .sw (fun v => v.invChans (sa % 2 ^ 20) 1)).retireI n))) ∧
  (Runs s n w 0x91 → ∀ (r : CoreChan) (a : State), ((s.tick t).accrue n).coreChan n (sa % 2 ^ 20) false = (r, a) →
    Leaves (.chanChk n t) t s (fun _ => match r with
      | .ok _ _ => a.retireS n (wSd w) 0
      | .denied closed => a.retireS n (wSd w) (if closed then 1 else 2)
      | .miss => a.stallOn n .retry 0)) ∧
  (Runs s n w 0xA0 → s.corePriv n 1 = true → Leaves (.wake n t) t s (at_ (fun s =>
    (((List.range 32).filter (fun p => bitOf sa p)).foldl (fun a p => a.wakeLink .sw p) s).retireI n))) ∧
  (Runs s n w 0xA1 → s.corePriv n 1 = true → Leaves (.nap n t) t s (at_ (fun s =>
    if s.takesNap .sw (sa % 32) then (s.stallOn n (.nap (sa % 32) (wSd w)) 0).startNap .sw (sa % 32)
    else (s.napNo .sw (sa % 32)).retireS n (wSd w) 1))) ∧
  (s.corePriv n 0 = true → (s.core n).potTaken = false → let v := s.dev .sw
    (Runs s n w 0xA4 → let a := (wImm w % 256) * 2 ^ 24 + sa % 2 ^ 24
      let size := if bitOf (wImm w) 8 then 8 else 4
      (v.potState = 0 ∨ v.potMay (coreHolds n) = true →
        (∀ r b, potReg .sw a size = some (r, b) → potBits r b a size = true → Leaves (.stage n t) t s (at_ (fun s =>
          (s.setDev .sw ((((s.dev .sw).stage r b a size sb).setPotHolder (coreHolds n)).setPotResult 0)).retireS n (wSd w) 0))) ∧
        ((∀ x ∈ potReg .sw a size, potBits x.1 x.2 a size = false) → Leaves (.stage n t) t s (at_ (fun s => s.retireS n (wSd w) (BitVec.ofNat 64 Pot.NOT_POT))))) ∧
      (v.potState ≠ 0 → v.potMay (coreHolds n) = false →
        Leaves (.stage n t) t s (at_ (fun s => s.retireS n (wSd w) (BitVec.ofNat 64 Pot.BUSY))))) ∧
    (v.potMay (coreHolds n) = true →
      (Runs s n w 0xA5 → Leaves (.check n t) t s (at_ (fun s =>
        (s.modDev .sw (fun v => v.setPotState 2)).stallOn n (.check (wSd w)) 6))) ∧
      (Runs s n w 0xA6 → v.potPassed = true → v.potState = 3 → Leaves (.pour n t) t s (at_ (fun s =>
        (s.setDev .sw ((s.dev .sw).setPotState 4)).stallOn n (.pour (wSd w)) 6))) ∧
      (Runs s n w 0xA6 → v.potPassed = false → Leaves (.pour n t) t s (at_ (fun s =>
        (s.potResult .sw 4).retireS n (wSd w) 4))) ∧
      (Runs s n w 0xA7 → Leaves (.discard n t) t s (at_ (fun s =>
        (s.modDev .sw (fun v => v.revert.potFree.setPotResult 0)).retireS n (wSd w) 0)))) ∧
    (Runs s n w 0xA9 → Leaves (.drain n t) t s (at_ (fun s =>
      let old := (s.dev .sw).reg (A.PKT_DRAIN (sa % 64))
      (s.drainWrite .sw (sa % 64) (if wImm w % 2 = 0 then Nat.lor old sb else old - Nat.land old sb)).retireS n (wSd w) 0)))) ∧
  (Runs s n w 0xAA → Leaves (.drained n t) t s (at_ (fun s =>
    s.retireS n (wSd w) (BitVec.ofNat 64 (s.drainedWord .sw (sa % 64)))))) ∧
  (Runs s n w 0xA8 → Leaves (.ctrRd n t) t s (at_ (fun s => let a := s.syncCounters .sw
    a.retireS n (wSd w) (a.coreCounter n (sa % 4096))))) ∧
  (∀ c ∈ ([(.hcqPost n false t, 0x89, 4), (.stepSet n t, 0x99, 2), (.stepSeal n t, 0x9A, 2), (.stepDiscard n t, 0x9B, 2),
      (.wake n t, 0xA0, 1), (.nap n t, 0xA1, 1), (.stage n t, 0xA4, 0), (.check n t, 0xA5, 0), (.pour n t, 0xA6, 0),
      (.discard n t, 0xA7, 0), (.drain n t, 0xA9, 0)] : List (Instr × Nat × Nat)),
    Runs s n w c.2.1 → s.corePriv n c.2.2 = false → (s.dev .sw).potHolder ≠ coreHolds n → Comes c.1 t s (Excepts n 2 c.2.2))

/-- O41. TEL_WIN_CFG with ENABLE opens window 0, whose boundary falls WINDOW_US later, and takes LOG2_ENTRIES only
where ENABLE was 0. Before its time, or with ENABLE 0, a boundary does nothing. At a boundary the window number rises
and the next boundary falls WINDOW_US later. While the record before is being written, SKIPPED counts it and no memory
changes. Otherwise a ring with room, in memory that there is, takes the record of Table 18.2 and of the selected
groups' counters, masked as R473 says, which the switch keeps as its latest, HEAD advances and SKIPPED starts again; a full ring, or one with no memory,
sets LOST and changes no memory. (R470, R471, R473, R511, Table 18.2) -/
def Obligations.SnapshotWindows : Prop := ∀ (d : Part) (t : Nat) (s : State),
  (∀ x : Word, Up s d → Does (.telWinCfgWrite d x t) t s (fun a => a.modDev d (fun v =>
    let was := v.on F.TEL_WIN_CFG_ENABLE
    let w := ((if was then v else v.set F.TEL_WIN_CFG_LOG2_ENTRIES (bitsOf x.toNat 4 0)).set
      F.TEL_WIN_CFG_WINDOW_US (bitsOf x.toNat 51 32)).set F.TEL_WIN_CFG_ENABLE (bitsOf x.toNat 63 63)
    if bitOf x.toNat 63 = true ∧ was = false then { w with tel :=
      { w.tel with window := 0, nextAt := a.now + bitsOf x.toNat 51 32 * 1000 } } else w))) ∧
  ((s.dev d).on F.TEL_WIN_CFG_ENABLE = false ∨ max s.now t < (s.dev d).tel.nextAt →
    Does (.windowBoundary d t) t s (fun a => a)) ∧
  ((s.dev d).on F.TEL_WIN_CFG_ENABLE = true → (s.dev d).tel.nextAt ≤ max s.now t →
    Ends (.windowBoundary d t) t s (fun s u =>
      let v := s.dev d
      let groups := v.get F.TEL_WIN_GROUPS_GROUPS
      let a := v.get F.TEL_SNAP_BASE_BASE * 4096 + (64 + 512 * (groupsOf groups).length) * v.get F.TEL_SNAP_RING_HEAD
      let full := ringFull (v.get F.TEL_WIN_CFG_LOG2_ENTRIES) (v.get F.TEL_SNAP_RING_HEAD) (v.get F.TEL_SNAP_RING_TAIL)
      let room := full = false ∧ v.placed a (64 + 512 * (groupsOf groups).length) = true
      let head := (v.get F.TEL_SNAP_RING_HEAD + 1) % 2 ^ v.get F.TEL_WIN_CFG_LOG2_ENTRIES
      let conf := d = .sw ∧ s.conf = true
      (u.dev d).tel.window = v.tel.window + 1 ∧
      (u.dev d).tel.nextAt = v.tel.nextAt + v.get F.TEL_WIN_CFG_WINDOW_US * 1000 ∧
      (v.tel.nextAt < v.tel.busy → (u.dev d).tel.skipped = v.tel.skipped + 1 ∧ (u.dev d).mem = v.mem ∧
        u.get d F.TEL_SNAP_RING_HEAD = v.get F.TEL_SNAP_RING_HEAD ∧ (u.dev d).tel.recs = v.tel.recs) ∧
      (v.tel.busy ≤ v.tel.nextAt → room →
        (u.dev d).mem = Memory.setBytes v.mem a (snapBytes v.tel.window (v.tel.nextAt - v.clock0)
          (v.get F.TEL_WIN_CFG_WINDOW_US) groups v.step (v.get F.TEL_MEMB_STATE_EPOCH) v.tel.skipped (decide conf)
          ((groupsOf groups).flatMap (fun g => (s.syncCounters d).groupCounts d g))) ∧
        u.get d F.TEL_SNAP_RING_HEAD = head % 2 ^ 20 ∧
        (u.dev d).tel.skipped = 0 ∧ u.get d F.TEL_SNAP_RING_LOST = v.get F.TEL_SNAP_RING_LOST ∧
        (u.dev d).tel.recs.head? = some ⟨v.tel.window, v.get F.TEL_WIN_CFG_WINDOW_US, groups,
          (groupsOf groups).flatMap (fun g => (s.syncCounters d).groupCounts d g), decide conf⟩) ∧
      (v.tel.busy ≤ v.tel.nextAt → ¬ room → (u.dev d).mem = v.mem ∧ u.get d F.TEL_SNAP_RING_LOST = 1 ∧
        u.get d F.TEL_SNAP_RING_HEAD = v.get F.TEL_SNAP_RING_HEAD ∧ (u.dev d).tel.skipped = v.tel.skipped)))

/-- The reply to a management request of a TYPE: its header and body sent, and kept with the 64 latest. -/
def Sys2Proof.Claims.MgmtAnswer (r : MgmtReq) (type status : Nat) (body : List Byte) (a : State) : State :=
  let seq := mh r.hdr 95 64
  let h := mgmtHdr (128 + type) seq body.length (a.dev .sw).node status
  (a.emit (.mgmt h body)).modHif (fun q => { q with
    replies := (q.replies ++ [(⟨r.src, seq, [.mgmt h body]⟩ : KeptReply)]).drop (q.replies.length + 1 - 64) })

/-- A request that R358 lets in and that repeats no SEQ of its source. -/
def Sys2Proof.Claims.MgmtNew (s : State) (r : MgmtReq) : Prop :=
  s.mgmtOn = true ∧ s.get .sw F.CFG_BOOT_STATUS_STAGE ≠ 15 ∧ s.mgmtTakes r = true ∧
    s.sw.hif.replies.find? (fun k => k.src == r.src && k.seq == mh r.hdr 95 64) = none

/-- O42. A new request that R358 lets in is carried out and answered with its SEQ and TYPE + 128: CAP_SET applies the
cap of its body and answers the cap's report, CAP_GET answers it, TEL_SNAPSHOT answers the group asked for, HEALTH
answers the switch's health; a body of another length is answered BAD_LENGTH, and a TYPE that Table 13.13 does not list
UNKNOWN_TYPE, with nothing applied. While the port is off, or once start-up has stopped, nothing is answered. The reply is kept
among the last 64. A repeated SEQ of the same source sends the kept reply and changes nothing else. Any other datagram
sets MGMT_DROP and is counted: it is not for UDP_PORT, from the controller's address, of this MAGIC, VERSION and NODE, or
of the LENGTH its header says. What the island answers a message of TYPE 0x30 goes back with the request's SEQ and TYPE
0xB0, and is kept. EVENT_REPLY ends the EVENT of its SEQ; an EVENT without reply goes out again 100 ms after it was
sent, and ends after ten times. An ARP request for the port's address is answered with its MAC address, and a
frame is answered by one frame or none. The I3C port, which acknowledges nothing before it has its address,
takes its address by ENTDAA or at its static address, an offset of 4 B, and gives the 8 B of a readable register, and
otherwise zero. What the log's entries 18 and 50 choose, the standards' own formats among it, is the model's. (R357, R358, R359,
R360, R361, R441, R452, R474, Table 13.12, Table 13.13) -/
def Obligations.ManagementRequests : Prop := ∀ (t seq : Nat) (r : MgmtReq) (s : State),
  (MgmtNew s r → let type := mh r.hdr 103 96
    (type = 0x01 → r.body.length = 4 → Leaves (.capSet r t) t s (fun a => let b := a.capSet (ofBe (r.body.take 2))
      MgmtAnswer r 0x01 0 b.capBody b)) ∧
    (type = 0x01 → r.body.length ≠ 4 → Leaves (.capSet r t) t s (MgmtAnswer r 0x01 2 [])) ∧
    (type = 0x02 → r.body = [] → Leaves (.capGet r t) t s (fun a => MgmtAnswer r 0x02 0 a.capBody a)) ∧
    (type = 0x02 → r.body ≠ [] → Leaves (.capGet r t) t s (MgmtAnswer r 0x02 2 [])) ∧
    (type = 0x10 → ∀ g f : Byte, r.body = [g, f] → Leaves (.telSnapshot r t) t s (fun a =>
      if g.toNat ≤ 63 ∧ f.toNat ≤ 1 then let b := a.syncCounters .sw
        MgmtAnswer r 0x10 0 (b.snapBody g.toNat f.toNat) b
      else MgmtAnswer r 0x10 2 [] a)) ∧
    (type = 0x10 → r.body.length ≠ 2 → Leaves (.telSnapshot r t) t s (MgmtAnswer r 0x10 2 [])) ∧
    (type = 0x20 → r.body = [] → Leaves (.health r t) t s (fun a => MgmtAnswer r 0x20 0 a.healthBody a)) ∧
    (type = 0x20 → r.body ≠ [] → Leaves (.health r t) t s (MgmtAnswer r 0x20 2 [])) ∧
    (type < 128 → type ∉ [0x01, 0x02, 0x10, 0x20, 0x30] → ∀ c ∈ [Instr.capSet r t, .capGet r t, .telSnapshot r t, .health r t],
      Leaves c t s (MgmtAnswer r type 1 []))) ∧
  (s.mgmtOn = false ∨ s.get .sw F.CFG_BOOT_STATUS_STAGE = 15 →
    (∀ c ∈ ([(.capSet r t, 0x01), (.capGet r t, 0x02), (.telSnapshot r t, 0x10), (.health r t, 0x20)] : List (Instr × Nat)),
      mh r.hdr 103 96 = c.2 → Leaves c.1 t s (fun a => a)) ∧
    (mh r.hdr 103 96 = 0xC0 → Does (.eventReply r t) t s (fun a => a)) ∧
    ∀ f, Does (.arpNeighborDiscoveryIcmpEcho f t) t s (fun a => a)) ∧
  (∀ c ∈ ([(.capSet r t, 0x01), (.capGet r t, 0x02), (.telSnapshot r t, 0x10), (.health r t, 0x20)] : List (Instr × Nat)),
    s.mgmtOn = true → s.get .sw F.CFG_BOOT_STATUS_STAGE ≠ 15 → mh r.hdr 103 96 = c.2 →
    (s.mgmtTakes r = false → Leaves c.1 t s (fun a => (a.hifErr F.HIF_ERR_MGMT_DROP).count .sw 0xC9B 1)) ∧
    (s.mgmtTakes r = true → ∀ k, s.sw.hif.replies.find? (fun k => k.src == r.src && k.seq == mh r.hdr 95 64) = some k →
      Leaves c.1 t s (fun a => a.emits k.out))) ∧
  (s.mgmtOn = true → s.get .sw F.CFG_BOOT_STATUS_STAGE ≠ 15 → mh r.hdr 103 96 = 0xC0 →
    (s.mgmtTakes r = false → Does (.eventReply r t) t s (fun a => (a.hifErr F.HIF_ERR_MGMT_DROP).count .sw 0xC9B 1)) ∧
    (s.mgmtTakes r = true → Ends (.eventReply r t) t s (fun s u => (∀ e ∈ u.sw.hif.events, e.seq ≠ mh r.hdr 95 64) ∧
      (∀ e ∈ s.sw.hif.events, e.seq ≠ mh r.hdr 95 64 → e ∈ u.sw.hif.events) ∧ u.out = s.out))) ∧
  (s.mgmtTakes r = true → r.port = s.get .sw F.HIF_MGMT_CFG_UDP_PORT ∧ mh r.hdr 127 112 = 0xB51A ∧ mh r.hdr 111 104 = 1 ∧
    (mh r.hdr 43 32 = (s.dev .sw).node ∨ mh r.hdr 43 32 = 0xFFF) ∧ mh r.hdr 63 48 = r.body.length ∧
    r.src = (if r.v6 then (s.dev .sw).reg (A.HIF_MGMT_IP6 2) * 2 ^ 64 + (s.dev .sw).reg (A.HIF_MGMT_IP6 3)
      else s.get .sw F.HIF_MGMT_IP4_CONTROLLER)) ∧
  (∀ (u : State) (x : Out), u.out = s.out ++ [x] → ∃ len < 1437,
    let h := mgmtHdr 0xB0 (mh r.hdr 95 64) len (s.dev .sw).node 0
    let w := s.answerBy (.mgmt r) u
    (∀ p, x = .spdm .sw 1 p → w.out = s.out ++ [.mgmtSpdm h p] ∧
      w.sw.hif.replies.getLast? = some ⟨r.src, mh r.hdr 95 64, [.mgmtSpdm h p]⟩) ∧
    (∀ n c l, x = .island .sw n c l → w.out = s.out ++ [.mgmtIsland h n c l] ∧
      w.sw.hif.replies.getLast? = some ⟨r.src, mh r.hdr 95 64, [.mgmtIsland h n c l]⟩)) ∧
  (∀ e : MgmtEvent, s.sw.hif.events.find? (fun e => e.seq == seq) = some e → s.mgmtOn = true →
    (max s.now t < e.at_ + 100000000 → Does (.eventResendTimer seq t) t s (fun a => a)) ∧
    (e.at_ + 100000000 ≤ max s.now t → Ends (.eventResendTimer seq t) t s (fun s u =>
      u.out = s.out ++ [.mgmt (mgmtHdr 0x40 seq e.body.length (s.dev .sw).node 0) e.body] ∧
      (10 ≤ e.sends → ∀ x ∈ u.sw.hif.events, x.seq ≠ seq) ∧
      (e.sends < 10 → u.sw.hif.events.find? (fun e => e.seq == seq) = some ⟨seq, e.body, e.sends + 1, s.now⟩)))) ∧
  (∀ dst src sha spa tha : List Byte, dst.length = 6 → src.length = 6 → sha.length = 6 → spa.length = 4 → tha.length = 6 →
    s.mgmtOn = true → s.get .sw F.CFG_BOOT_STATUS_STAGE ≠ 15 → s.get .sw F.HIF_MGMT_CTRL_IP4_EN = 1 →
    let mac := beBytes 6 (s.get .sw F.HIF_MGMT_CFG_MAC)
    let ip := beBytes 4 (s.get .sw F.HIF_MGMT_IP4_OWN)
    Does (.arpNeighborDiscoveryIcmpEcho (dst ++ src ++ [8, 6, 0, 1, 8, 0, 6, 4, 0, 1] ++ sha ++ spa ++ tha ++ ip) t) t s
      (fun a => a.emit (.ethernet (src ++ mac ++ [8, 6, 0, 1, 8, 0, 6, 4, 0, 2] ++ mac ++ ip ++ sha ++ spa)))) ∧
  (s.mgmtOn = true → s.get .sw F.CFG_BOOT_STATUS_STAGE ≠ 15 → ∀ f : List Byte,
    Does (.arpNeighborDiscoveryIcmpEcho f t) t s (fun a => a.emits ((a.etherReply f).toList.map .ethernet))) ∧
  ((∀ e ∈ s.sw.hif.events, e.seq ≠ seq) ∨ s.mgmtOn = false → Does (.eventResendTimer seq t) t s (fun a => a)) ∧
  (s.sw.hif.i3cAddr = none → Does (.i3cPrivateRead t) t s (fun x => x.emit (.i3c false [])) ∧
    ∀ b, Does (.i3cPrivateWrite b t) t s (fun x => x.emit (.i3c false []))) ∧
  (∀ a : Nat, a < 128 → ∀ st : Option Nat,
    (st = none ∨ st = some s.sw.hif.i3cStatic →
      Does (.i3cDynamicAddress ⟨a, st⟩ t) t s (fun x => x.modHif (fun q => { q with i3cAddr := some a }))) ∧
    (st ≠ none → st ≠ some s.sw.hif.i3cStatic → Does (.i3cDynamicAddress ⟨a, st⟩ t) t s (fun x => x))) ∧
  (s.sw.hif.i3cAddr ≠ none →
    (∀ b : List Byte, b.length = 4 → Does (.i3cPrivateWrite b t) t s (fun x =>
      (x.modHif (fun q => { q with i3cOffset := ofLe b })).emit (.i3c true []))) ∧
    (∀ b : List Byte, b.length ≠ 4 → Does (.i3cPrivateWrite b t) t s (fun x => x.emit (.i3c false []))) ∧
    (i3cReads s.sw.hif.i3cOffset = true → Does (.i3cPrivateRead t) t s (fun x =>
      x.emit (.i3c true (leBytes 8 ((x.dev .sw).reg x.sw.hif.i3cOffset))))) ∧
    (i3cReads s.sw.hif.i3cOffset = false → Does (.i3cPrivateRead t) t s (fun x => x.emit (.i3c true [0, 0, 0, 0, 0, 0, 0, 0]))))

/-- The end of a tile's move or copy answers a next state: an effect which stands in a relation to the state at that time,
after which the accesses and commands that waited for the tile go on. -/
def Sys2Proof.Claims.Frees (i : Instr) (t tile : Nat) (s : State) (P : State → State → Prop) : Prop :=
  ∃ u, P (s.tick t) u ∧ exec i s = .next ((s.tick t).keep (u.wakeTile tile).settle)

/-- O43. The end of a migration changes the tile's TIER and place at one instant, ends its move and gives the source
charge back. The end of a demotion, and of a write-back, whose stripe stands makes the tile BACKED by that stripe and
clean; a demotion also leaves it in CADDY alone and gives its charge back. The end of a promotion decrypts the stripe's
codewords under the tenant's storage key to the tile and puts the tile at its destination; one whose codeword failed
loses the tile instead, or tells at the discard where the stripe is its shadow, gives the destination's charge back and
sets CDY_STATUS.LOST. What is encrypted for a tile's codeword decrypts to the same 4,096 B. The end of a shadow copy makes
the shadow stand, with the tile's bytes and the step, and counts it. A migration or shadow copy that reads a corrected word
goes on as one that reads none; where the tile is its only current copy, an uncorrectable one makes the tile LOST, and the
move, or the shadow, is given up (log 52). Then what waited for the tile goes on; where no such
move or copy is under way, that is all. What log 49 chooses of Caddy is the model's. (R290, R291, R296, R301, R304, R306,
R396, R416, R512, Table 11.3) -/
def Obligations.TileMovesEnd : Prop := ∀ (k t : Nat) (lost retry : Bool) (s : State), let x := s.tile k
  let others (kind : MoveKind) : List Move := s.tiers.moves.filter (fun m => m.tile != k || m.kind != kind)
  (∀ m, s.moveOf k = some m → m.kind = .migrate → ∀ e, e ≠ .bad →
    Frees (.migrationComplete ⟨k, e⟩ t) t k s (fun s u =>
      u.tile k = { x with tier := m.to_, loc := m.loc, migrating := false } ∧ u.tiers.moves = others .migrate ∧
      u.tiers.data = s.tiers.data ∧ u.get .sw (tierUse x.tier x.tenant) = s.get .sw (tierUse x.tier x.tenant) - 1 ∧
      (e = .fixed → u.get .sw F.TEL_FAULT_STATUS_CE = 1))) ∧
  (∀ m, s.moveOf k = some m → m.kind = .migrate → (x.backed = false ∨ x.dirty = true) →
    Frees (.migrationComplete ⟨k, .bad⟩ t) t k s (fun _ u =>
      (u.tile k).lost = true ∧ (∀ m ∈ u.tiers.moves, m.tile ≠ k) ∧ u.get .sw F.TEL_FAULT_STATUS_UE = 1)) ∧
  (∀ m n, s.flashOf k = some m → m.stripe = some n → Frees (.demotionComplete k t) t k s (fun s u =>
    let y := { x with backed := true, stripe := n, dirty := false, stripeBad := false }
    (m.kind ≠ .demote → u.tile k = y ∧ u.tiers.data = s.tiers.data ∧ u.tiers.moves = others m.kind) ∧
    (m.kind = .demote → u.tile k = { y with tier := 3, loc := 0, migrating := false } ∧
      (∀ m, m ∈ u.tiers.moves → m.tile = k → m.kind ≠ .demote) ∧
      u.tiers.data = Memory.clear s.tiers.data (k * 65536) 65536 ∧
      (x.tier = 2 → x.tenant < 64 → u.get .sw (tierUse 2 x.tenant) = s.get .sw (tierUse 2 x.tenant) - 1)))) ∧
  (∀ m, s.moveOf k = some m → m.kind = .promote → s.get .sw F.CDY_STATUS_STATE = 2 → x.tenant < 64 →
    Frees (.caddyPromotionComplete k lost retry t) t k s (fun s u => u.tiers.moves = others .promote ∧
      (retry = true → u.get .sw F.CDY_STATUS_RETRY_READ = 1) ∧
      (∀ st, lost = false → s.caddy.stripe x.stripe = some st →
        u.tile k = { x with tier := m.to_, loc := m.loc, migrating := false } ∧
        u.tiers.data = Memory.setBytes s.tiers.data (st.tile * 65536) (st.plain (s.storeKey x.tenant))) ∧
      (lost = true → u.tile k = { x with
          migrating := false, stripeBad := true, lost := x.lost || ! (x.shadow && x.shadowLoc == 0xFFFFFFFF) } ∧
        u.tiers.data = s.tiers.data ∧ u.get .sw F.CDY_STATUS_LOST = 1 ∧
        u.get .sw (tierUse m.to_ x.tenant) = s.get .sw (tierUse m.to_ x.tenant) - 1))) ∧
  (∀ (key q : Nat) (m : Memory) (a i : Nat), i < 16 →
    (codewords key k q m a)[i]?.map (Config.xts.dec key (xtsTweak k i q)) = some (BitVec.ofNat 32768 (Memory.num m (a + 4096 * i) 4096))) ∧
  (x.copying = true → ∀ e, e ≠ .bad → Frees (.shadowCopyDone ⟨k, e⟩ t) t k s (fun s u =>
    u.tile k = { x with copying := false, shadow := true, shadowStep := (s.dev .sw).step % 256 } ∧
    u.tiers.shadows = Memory.copy s.tiers.data (k * 65536) 65536 s.tiers.shadows (k * 65536) ∧
    u.tiers.data = s.tiers.data ∧
    u.get .sw F.MEM_STEP_STATUS_SHADOWS = (s.get .sw F.MEM_STEP_STATUS_SHADOWS + 1) % 2 ^ 24)) ∧
  (x.copying = true → (x.backed = false ∨ x.dirty = true) → Frees (.shadowCopyDone ⟨k, .bad⟩ t) t k s (fun s u =>
    (u.tile k).lost = true ∧ (u.tile k).copying = false ∧ (u.tile k).shadow = x.shadow ∧
    u.tiers.shadows = s.tiers.shadows ∧ u.get .sw F.TEL_FAULT_STATUS_UE = 1)) ∧
  (s.flashOf k = none → Leaves (.demotionComplete k t) t s (fun a => a.wakeTile k)) ∧
  (s.moveOf k = none → (∀ e, Leaves (.migrationComplete ⟨k, e⟩ t) t s (fun a => a.wakeTile k)) ∧
    Leaves (.caddyPromotionComplete k lost retry t) t s (fun a => a.wakeTile k)) ∧
  (x.copying = false → ∀ e, Leaves (.shadowCopyDone ⟨k, e⟩ t) t s (fun a => a.wakeTile k))

/-- O44. Caddy that is INIT becomes READY with the geometry read, or ABSENT; superblocks that cannot be built from good blocks
are out of use. While no slot waits to enter the write buffer, an open page whose first slot is 1 ms old
is padded. A full page that is programmed leaves the buffer, its slots' tiles have the stripes at its place in the
open superblock, encrypted under their tenants' storage keys, and that superblock has its slots filled; a failed program
retires a block and opens another superblock. Garbage collection takes, below GC_LOW_PERCENT, a held superblock with the
fewest valid stripes and, among those, the fewest erases of its most-worn block; a refresh, where it is due, the one
named: its valid stripes join the buffer and it is to be erased. Wear levelling, where the spread exceeds WEAR_SPREAD,
takes one of the least erases that holds valid data, to a free superblock; both only while Caddy is READY. An erase whose stripes are all rewritten frees
it and counts; a failed or worn-out block is retired, and its superblock dropped where no good block is left. The
scrubber corrects one or two wrong bits and counts them; three are reported, with the outcome of Table 16.2: a packet, a
transaction, a cached entry or a tile is lost. From THROTTLE 8, wear moves, refreshes and the scrubber rest, and garbage
collection while free superblocks are above half of GC_LOW_PERCENT. What the log's entries 49, 52 and 54 choose is the
model's. (R277, R297, R298, R299, R300, R396, R414, R416, R418,
R481, R512, spec/17 Admission throttling) -/
def Obligations.CaddyKeeps : Prop := ∀ (t sb unit addr : Nat) (geom : Word) (ok spare retry : Bool) (out : PageOut)
    (unbuilt : List Nat) (s : State),
  let c := s.caddy
  let cw := s.get .sw F.CDY_GEOM_PAGE_CW
  let takes (n : Nat) : State → State → Prop := fun s u =>
    u.caddy.rewriting = s.caddy.rewriting ++ [n] ∧
    u.caddy.page = s.caddy.page ++ (s.validIn n).map (fun k => (BufSlot.stripe k, s.now))
  (s.get .sw F.CDY_CFG_ENABLE ≠ 0 → s.get .sw F.CDY_STATUS_STATE = 1 →
    (ok = true → 4 ≤ bitsOf geom.toNat 23 16 → Comes (.caddyReady ⟨geom, unbuilt⟩ ok t) t s (fun _ u =>
      (u.dev .sw).reg A.CDY_GEOM = geom.toNat ∧ u.get .sw F.CDY_STATUS_STATE = 2 ∧
      u.caddy.total = bitsOf geom.toNat 63 60 * bitsOf geom.toNat 59 56 * bitsOf geom.toNat 55 36 ∧
      ∀ n ∈ unbuilt, n < u.caddy.total → (u.caddy.sb n).dropped = true ∧ u.caddy.isFree n = false)) ∧
    (ok = false ∨ bitsOf geom.toNat 23 16 < 4 → Leaves (.caddyReady ⟨geom, unbuilt⟩ ok t) t s (fun a =>
      a.set .sw F.CDY_STATUS_STATE 0))) ∧
  (0 < cw → c.page.length ≤ 1024 → ∀ b at_ l, c.page.drop (c.page.length / cw * cw) = (b, at_) :: l →
    (max s.now t < at_ + 1000000 → Leaves (.writeBufferFlushTimer t) t s (fun a => a)) ∧
    (at_ + 1000000 ≤ max s.now t → Leaves (.writeBufferFlushTimer t) t s (fun a => a.modCaddy (fun d => { d with
      page := d.page ++ List.replicate (cw - (l.length + 1)) (BufSlot.pad, a.now) })))) ∧
  (0 < cw → cw ≤ c.page.length → s.get .sw F.CDY_STATUS_STATE = 2 → c.open_ = some sb →
    (out.ok = true → (∀ e ∈ c.page.take cw, ∀ n, e.1 ≠ .stripe n) →
      Comes (.pageProgramDone out spare t) t s (fun s u =>
        u.caddy.page.map (fun e => e.1) = (s.caddy.page.drop cw).map (fun e => e.1) ∧
        (c.page.length ≤ 1024 → u.caddy.page = s.caddy.page.drop cw) ∧ (u.caddy.sb sb).filled = (c.sb sb).filled + cw ∧
        (u.caddy.sb sb).progAt = s.now ∧
        u.caddy.open_ = (if s.sbStripes ≤ (c.sb sb).filled + cw then none else some sb) ∧
        ∀ j k wb at_ m, j < cw → c.page[j]? = some (.tile k wb, at_) →
          (∀ i, i ≠ j → i < cw → (c.page[i]?).map (fun e => e.1) ≠ some (.tile k wb)) →
          (if wb then s.wbOf k else s.moveOf k) = some m → m.stripe = none → (m.kind = .demote ∨ m.kind = .writeback) →
          (∃ y, (if wb then u.wbOf k else u.moveOf k) = some y ∧ y.stripe = some (sb * s.sbStripes + (c.sb sb).filled + j)) ∧
          ∃ q, u.caddy.stripe (sb * s.sbStripes + (c.sb sb).filled + j)
            = some ⟨k, q, true, codewords (s.storeKey (s.tile k).tenant) k q s.tiers.data (k * 65536)⟩)) ∧
    (out.ok = false → Comes (.pageProgramDone out spare t) t s (fun s u =>
      u.get .sw F.CDY_STATUS_BLOCK_RETIRED = 1 ∧ u.caddy.open_ = none ∧
      (u.caddy.sb sb).dropped = ((c.sb sb).dropped || ! spare) ∧
      (0 < (c.sb sb).filled → takes sb s u)))) ∧
  (s.get .sw F.CDY_STATUS_STATE = 2 → 100 * c.freeCount < c.total * s.get .sw F.CDY_CFG_GC_LOW_PERCENT → s.heldSbs ≠ [] →
    (s.throttle < 8 ∨ 200 * c.freeCount ≤ c.total * s.get .sw F.CDY_CFG_GC_LOW_PERCENT) →
    Comes (.garbageCollect t) t s (fun s u => ∃ n ∈ s.heldSbs, takes n s u ∧
      ∀ k ∈ s.heldSbs, (s.validIn n).length < (s.validIn k).length ∨
        ((s.validIn n).length = (s.validIn k).length ∧ (c.sb n).worn ≤ (c.sb k).worn))) ∧
  (∀ hi ∈ s.validSbs, ∀ lo ∈ s.validSbs, lo ∉ c.rewriting →
    (c.sb lo).worn + s.get .sw F.CDY_CFG_WEAR_SPREAD < (c.sb hi).worn → (∃ n, c.isFree n = true) → c.wear = none →
    s.throttle < 8 → s.get .sw F.CDY_STATUS_STATE = 2 →
    Comes (.wearMove t) t s (fun s u => ∃ n ∈ s.validSbs, n ∉ c.rewriting ∧
      (∀ k ∈ s.validSbs, k ∉ c.rewriting → (c.sb n).worn ≤ (c.sb k).worn) ∧
      u.caddy.rewriting = c.rewriting ++ [n] ∧ u.caddy.page = c.page ∧ u.caddy.open_ ≠ some n ∧
      ∃ dst, c.isFree dst = true ∧ u.caddy.wear = some (dst, (s.validIn n).map BufSlot.stripe))) ∧
  (8 ≤ s.throttle →
    (c.total * s.get .sw F.CDY_CFG_GC_LOW_PERCENT < 200 * c.freeCount → Leaves (.garbageCollect t) t s (fun a => a)) ∧
    Leaves (.wearMove t) t s (fun a => a) ∧ Leaves (.superblockRefresh sb retry t) t s (fun a => a) ∧
    (1 ≤ unit → unit ≤ 8 → ∀ e, e ≤ 3 → Leaves (.patrolScrub unit addr e t) t s (fun a => a))) ∧
  (s.get .sw F.CDY_STATUS_STATE ≠ 2 →
    Leaves (.wearMove t) t s (fun a => a) ∧ Leaves (.superblockRefresh sb retry t) t s (fun a => a)) ∧
  (sb ∈ s.heldSbs → s.throttle < 8 → s.get .sw F.CDY_STATUS_STATE = 2 →
    (retry = true ∨ (c.sb sb).retried = true ∨ s.get .sw F.CDY_CFG_RD_LIMIT ≤ (c.sb sb).reads ∨
        (c.sb sb).progAt + 2592000000000000 < max s.now t →
      Comes (.superblockRefresh sb retry t) t s (takes sb)) ∧
    (¬ (retry = true ∨ (c.sb sb).retried = true ∨ s.get .sw F.CDY_CFG_RD_LIMIT ≤ (c.sb sb).reads ∨
        (c.sb sb).progAt + 2592000000000000 < max s.now t) →
      Leaves (.superblockRefresh sb retry t) t s (fun a => a))) ∧
  (sb ∈ c.rewriting → s.validIn sb = [] → Comes (.blockEraseDone sb ok spare t) t s (fun s u =>
    let bad := ok = false ∨ ∃ ch, ch < 16 ∧ s.get .sw F.CDY_GEOM_ENDURANCE * 100 ≤ SMap.at 0 (c.sb sb).erases ch + 1
    u.caddy.rewriting = c.rewriting.erase sb ∧ (u.caddy.sb sb).filled = 0 ∧ (u.caddy.sb sb).reads = 0 ∧
    (¬ bad → ∀ ch, ch < 16 → SMap.at 0 (u.caddy.sb sb).erases ch = SMap.at 0 (c.sb sb).erases ch + 1) ∧
    (bad → u.get .sw F.CDY_STATUS_BLOCK_RETIRED = 1) ∧
    ((u.caddy.sb sb).dropped = true ↔ ((c.sb sb).dropped = true ∨ (bad ∧ spare = false))))) ∧
  (1 ≤ unit → unit ≤ 8 → s.throttle < 8 →
    (Leaves (.patrolScrub unit addr 0 t) t s (fun a => a)) ∧
    (∀ e, 1 ≤ e → e ≤ 2 →
      Leaves (.patrolScrub unit addr e t) t s (fun a => a.ce .sw unit 1)) ∧
    (unit = 1 → Comes (.patrolScrub unit addr 3 t) t s (fun s u => u = ((s.ue .sw 1 addr).cellLost .sw (Config.choice s.fresh)).draw)) ∧
    (unit = 4 → Leaves (.patrolScrub unit addr 3 t) t s (fun a => ((a.ue .sw 4 addr).flightLost .sw (Config.choice a.fresh)).draw) ∧
      (∀ n x, n < 2097152 → s.sw.dev.txns[n]? = some x → s.flightLost .sw n = s.retire .sw x Code.RESULT_UNKNOWN []) ∧
      (∀ n, n < 2097152 → s.sw.dev.txns[n]? = none → s.flightLost .sw n = s)) ∧
    (unit = 5 ∨ unit = 6 → Comes (.patrolScrub unit addr 3 t) t s (fun s u =>
      (u.dev .sw).chans.Sublist (s.dev .sw).chans ∧ (u.dev .sw).xcache.Sublist (s.dev .sw).xcache ∧
      (unit = 5 → (s.dev .sw).chans.length ≤ (u.dev .sw).chans.length + 1 ∧ (u.dev .sw).xcache = (s.dev .sw).xcache) ∧
      (unit = 6 → (s.dev .sw).xcache.length ≤ (u.dev .sw).xcache.length + 1 ∧ (u.dev .sw).chans = (s.dev .sw).chans) ∧
      (u.dev .sw).reg A.TEL_UE_LAST = unit * 2 ^ 60 + addr % 2 ^ 48 ∧ u.get .sw F.TEL_FAULT_STATUS_UE = 1)) ∧
    (unit = 8 → ∀ k, k < s.dirTiles → addr / 16 = s.get .sw F.MEM_DIR_BASE_BASE * 4096 + k →
      Leaves (.patrolScrub unit addr 3 t) t s (fun a => (a.ue .sw 8 addr).entryLost k)) ∧
    (∀ k, (unit = 2 ∨ unit = 7) → s.tileAtPlace unit addr = some k → (s.tile k).lost = false → (s.tile k).migrating = false →
      ((s.tile k).backed = false ∨ (s.tile k).dirty = true) →
      Comes (.patrolScrub unit addr 3 t) t s (fun s u => u.tile k = { s.tile k with lost := true } ∧
        u.get .sw F.MEM_TIER_STATUS_TILE_LOST = 1)))

/-- A command of Table 11.6 without a packet, with the tiles whose move it began still to end. -/
def Sys2Proof.Claims.TileWaits (cmd tenant tile : Nat) (s : State) : State :=
  s.modTiers (fun x => { x with cmds := x.cmds ++ [{ tileCmdFor cmd tenant 0 0 false with tiles := [tile], begun := [tile] }] })

/-- A command acts on every tile of its range, each by itself, and on no other. -/
def Sys2Proof.Claims.OnTiles (first count : Nat) (f : Tile → Tile) (s u : State) : Prop :=
  (∀ k, first ≤ k → k < first + count → u.tile k = f (s.tile k)) ∧
  (∀ k, ¬ (first ≤ k ∧ k < first + count) → u.tile k = s.tile k)

/-- O45. Over a range that R293 accepts: MAP of unmapped tiles maps each, with its tenant, HOME, FLOOR and STEPVER;
FREE of idle tiles without a shadow unmaps each; POLICY of idle tiles that are not above FLOOR and have no shadow changes
HOME, FLOOR and STEPVER; PIN of tiles not in CADDY nor on the way there and UNPIN write PINNED; no other tile changes. On one idle tile,
where its tenant's quota has room: PROMOTE_HOT, PROMOTE_DRAM and DEMOTE of a hot tile begin a move; WRITEBACK of a
dirty tile joins the write buffer, where its bytes are copied; DEMOTE of a clean BACKED tile in DRAM leaves it in CADDY at once; from THROTTLE 8
a DEMOTE that would move a tile waits. A command that R293 refuses changes nothing. That the deferral of log 54 holds a
DEMOTE back is the model's choice. (R287, R289, R290, R291, R292, R293, Table 11.6) -/
def Obligations.TileCommands : Prop := ∀ (first count tenant home floor k t : Nat) (sv : Bool) (s : State),
  tenant < 64 → home < 4 → floor < 4 →
  let mine := ∀ j, first ≤ j → j < first + count → (s.tile j).mapped = true ∧ (s.tile j).tenant = tenant
  let x := s.tile k
  (1 ≤ count → count ≤ 256 → first + count ≤ s.dirTiles →
    ((∀ j, first ≤ j → j < first + count → (s.tile j).mapped = false) →
      Comes (.map first count tenant home floor sv t) t s (OnTiles first count (fun _ =>
        { Tile.unmapped with mapped := true, tenant := tenant, home := home, floor := floor, stepver := sv }))) ∧
    (mine →
      ((∀ j, first ≤ j → j < first + count → (s.tile j).shadow = false ∧ (s.tile j).copying = false) →
        Comes (.free first count tenant t) t s (OnTiles first count (fun _ => Tile.unmapped))) ∧
      ((∀ j, first ≤ j → j < first + count → (s.tile j).shadow = false ∧ (s.tile j).copying = false ∧ s.moveOf j = none ∧
          (s.tile j).tier ≤ floor) →
        Comes (.policy first count tenant home floor sv t) t s (OnTiles first count (fun x =>
          { x with home := home, floor := floor, stepver := sv }))) ∧
      ((∀ j, first ≤ j → j < first + count → (s.tile j).tier ≠ 3 ∧ ∀ m, s.moveOf j = some m → m.kind ≠ .demote) →
        Comes (.pin first count tenant t) t s (OnTiles first count (fun x => { x with pinned := true }))) ∧
      Comes (.unpin first count tenant t) t s (OnTiles first count (fun x => { x with pinned := false })))) ∧
  (k < s.dirTiles → x.mapped = true → x.tenant = tenant → x.shadow = false → x.copying = false → s.moveOf k = none →
    (x.tier = 2 ∨ x.tier = 3 → s.quotaFree 1 tenant = true → Leaves (.promoteHot k 1 tenant t) t s (fun a =>
      TileWaits 4 tenant k (a.startMove k 1 (if x.tier = 3 then .promote else .migrate)))) ∧
    (x.tier = 3 → s.quotaFree 2 tenant = true → Leaves (.promoteDram k 1 tenant t) t s (fun a =>
      TileWaits 5 tenant k (a.startMove k 2 .promote))) ∧
    (x.floor = 3 → x.dirty = true → x.tier = 1 ∨ x.tier = 2 → s.wbOf k = none → s.caddyTakes = true → x.backed = true ∨ s.quotaFree 3 tenant = true →
      Leaves (.writeback k 1 tenant t) t s (fun a => TileWaits 8 tenant k
        ((((if x.backed then a else a.chargeTile 3 tenant).modTiers (fun y => { y with moves := y.moves ++ [⟨k, .writeback, 3, 0, none, ! x.backed⟩] })).modCaddy
          (fun c => { c with page := c.page ++ [(.tile k true, a.now)] })).copyToBuffer a.tiers.data (k * 65536)))) ∧
    (8 ≤ s.throttle → (x.tier = 1 ∧ 2 ≤ x.floor) ∨ (x.tier = 2 ∧ x.floor = 3 ∧ x.pinned = false) →
      Leaves (.demote k 1 tenant t) t s (fun a => a.modTiers (fun z => { z with
        cmds := z.cmds ++ [{ tileCmdFor 9 tenant 0 0 false with tiles := [k] }] }))) ∧
    (s.throttle < 8 → x.tier = 1 → 2 ≤ x.floor → s.quotaFree 2 tenant = true → Leaves (.demote k 1 tenant t) t s (fun a =>
      TileWaits 9 tenant k (a.startMove k 2 .migrate))) ∧
    (s.throttle < 8 → x.tier = 2 → x.floor = 3 → x.pinned = false → s.caddyTakes = true → x.backed = true → x.dirty = false →
      Comes (.demote k 1 tenant t) t s (fun s u => u.tile k = { x with tier := 3, loc := 0 } ∧
        u.tiers.data = Memory.clear s.tiers.data (k * 65536) 65536 ∧ u.tiers.moves = s.tiers.moves ∧
        u.get .sw (tierUse 2 tenant) = s.get .sw (tierUse 2 tenant) - 1))) ∧
  (count = 0 ∨ 256 < count ∨ s.dirTiles < first + count ∨ (¬ mine) →
    (∀ c ∈ ([.free first count tenant t, .policy first count tenant home floor sv t, .promoteHot first count tenant t,
        .promoteDram first count tenant t, .pin first count tenant t, .unpin first count tenant t,
        .writeback first count tenant t, .demote first count tenant t] : List Instr), Leaves c t s (fun a => a))) ∧
  (count = 0 ∨ 256 < count ∨ s.dirTiles < first + count →
    Leaves (.map first count tenant home floor sv t) t s (fun a => a))

/-- The oldest record of service queue 2, of a TYPE and a tenant, with no other record in hand; the state without it. -/
def Sys2Proof.Claims.TierHead (s : State) (type tenant r : Nat) (a : State) : Prop :=
  s.tiers.inHand = none ∧ ∃ q, s.dequeue 2 = some (q, a) ∧ ofLe (q.data.take 1) = type ∧ q.tenant = tenant ∧ ofLe q.data = r

/-- O46. The tier service takes the oldest record of queue 2: OBJ_MAP of pages of which one is mapped, or of more
tiles than are free, and OBJ_FREE, OBJ_POLICY and TIER_REQ over a range that is not all mapped to the tenant, are
answered OUT_OF_RANGE or QUOTA; otherwise OBJ_POLICY gives each tile its POLICY command and TIER_REQ the command of
its request, as parts of one job, and OBJ_MAP maps the range's pages and MAPs its tiles. OBJ_FREE unmaps the pages; its
tiles are freed, and what the range's cached entries held is dropped, once every walk that had begun has ended and no
access translated under those entries is left, and not before. STEP.RD reads the step number. With privilege STEP: STEP.SET writes it where no shadow stands and returns 1 where one does;
STEP.SEAL and STEP.DISCARD of another step return MISMATCH and change nothing; STEP.SEAL releases every shadow and
leaves the tiles as they are, and advances the step; STEP.DISCARD returns every tile with a shadow to the place and
DIRTY state that its shadow gives. A FREE of a tile with a shadow waits, and a POLICY changes HOME and FLOOR at once and
STEPVER not yet; either end of the step then frees the tile, or gives it that STEPVER. What logs 17 and 49 choose is the
model's. (R267, R292, R294, R303, R305, R306, R315, R412, Table 11.6, Table 11.7) -/
def Obligations.TierServiceAndSteps : Prop := ∀ (n w t k tenant home floor : Nat) (sv : Bool) (s : State),
  (∀ tenant r a, let b := a.recBegin r 1
    let say (code : Nat) : State := b.2.modDev .sw (fun v => v.jobPart b.1 code)
    (TierHead (s.tick t) 0x20 tenant r a → ∀ root, (a.dev .sw).root tenant = some root →
      (a.recRange r = false ∨ (recPages r).any (fun p => (a.dev .sw).pageMapped tenant p) = true →
        Leaves (.objMap t) t s (fun _ => say Code.OUT_OF_RANGE)) ∧
      (a.recRange r = true → (recPages r).any (fun p => (a.dev .sw).pageMapped tenant p) = false →
        (a.dirTiles < a.tiers.mappedTiles.length + tTiles r → Leaves (.objMap t) t s (fun _ => say Code.QUOTA)) ∧
        (a.tiers.mappedTiles.length + tTiles r ≤ a.dirTiles → Leaves (.objMap t) t s (fun _ =>
          let b := a.recBegin r (tTiles r)
          b.2.mapRange (tileCmdFor 1 tenant (tHome r) (tFloor r) (tStepver r)) root b.1 (tTiles r) (tAddr r % 2 ^ 52) (tTiles r))))) ∧
    (TierHead (s.tick t) 0x21 tenant r a →
      (a.recTiles tenant r = none → Leaves (.objFree t) t s (fun _ => say Code.OUT_OF_RANGE)) ∧
      (∀ ts, a.recTiles tenant r = some ts →
        let lo := tAddr r % 2 ^ 52
        let i : XInv := ⟨0, tenant, lo / 65536, tTiles r⟩
        let c := (recPages r).foldl (fun z p => z.unmapPage (((a.dev .sw).root tenant).getD 0) lo (lo + tTiles r * 65536) p 4) a
        let b := (c.modDev .sw (fun v => { v with walks := v.walks.map (fun z => z.ends) })).recBegin r ts.length
        let u := b.2.modTiers (fun x => { x with inHand := x.inHand.map (fun y => { y with freeing := some (i, tenant, ts) }) })
        Leaves (.objFree t) t s (fun _ => u) ∧
        ((u.dev .sw).walks.any (fun z => z.stale) = true ∨ u.translatedSw i = true → u.freeInvalidated = u) ∧
        ((u.dev .sw).walks.any (fun z => z.stale) = false → u.translatedSw i = false → u.freeInvalidated =
          ts.foldl (fun z k => z.tileCommand { tileCmdFor 2 tenant 0 0 false with job := some b.1 } k 1 false)
            ((u.modDev .sw (fun v => v.dropEntries i)).modTiers (fun x => { x with
              inHand := x.inHand.map (fun y => { y with freeing := none }) }))))) ∧
    (TierHead (s.tick t) 0x22 tenant r a →
      (a.recTiles tenant r = none → Leaves (.objPolicy t) t s (fun _ => say Code.OUT_OF_RANGE)) ∧
      (∀ ts, a.recTiles tenant r = some ts → Leaves (.objPolicy t) t s (fun _ => let b := a.recBegin r ts.length
        ts.foldl (fun z k => z.tileCommand
          { tileCmdFor 3 tenant (tHome r) (tFloor r) (tStepver r) with job := some b.1 } k 1 false) b.2))) ∧
    (TierHead (s.tick t) 0x23 tenant r a →
      (4 < tOp r ∨ a.recTiles tenant r = none → Leaves (.tierReq t) t s (fun _ => say Code.OUT_OF_RANGE)) ∧
      (∀ ts, tOp r ≤ 4 → a.recTiles tenant r = some ts → Leaves (.tierReq t) t s (fun _ => let b := a.recBegin r ts.length
        ts.foldl (fun z k => z.tileCommand
          { tileCmdFor (tOp r + 4) tenant (tHome r) (tFloor r) (tStepver r) with job := some b.1 } k 1 false) b.2)))) ∧
  (k < s.dirTiles → tenant < 64 → home < 4 → floor < 4 → (s.tile k).mapped = true → (s.tile k).tenant = tenant →
    (s.tile k).shadow = true →
    Comes (.free k 1 tenant t) t s (fun s u => u.tile k = { s.tile k with freeDue := true } ∧
      (∀ j, j ≠ k → u.tile j = s.tile j) ∧ u.tiers.data = s.tiers.data ∧
      u.tiers.cmds = s.tiers.cmds ++ [{ tileCmdFor 2 tenant 0 0 false with tiles := [k] }]) ∧
    Comes (.policy k 1 tenant home floor sv t) t s (fun s u =>
      u.tile k = { s.tile k with home := home, floor := floor, policyDue := some sv } ∧
      (∀ j, j ≠ k → u.tile j = s.tile j) ∧ u.tiers.cmds = s.tiers.cmds)) ∧
  (let step := s.get .sw F.MEM_STEP_STEP
  let sa := ((s.core n).sreg (wSa w)).toNat
  let tells (k : Nat) : State → State := fun a => (a.accrue n).retireS n (wSd w) (BitVec.ofNat 64 k)
  let held := s.tiers.dir.any (fun e => e.2.shadow || e.2.copying)
  (Runs s n w 0x98 → Leaves (.stepRd n t) t s (tells step)) ∧
  (Runs s n w 0x99 → s.corePriv n 2 = true →
    (held = true → Leaves (.stepSet n t) t s (tells 1)) ∧
    (held = false → Leaves (.stepSet n t) t s (fun a =>
      ((a.accrue n).set .sw F.MEM_STEP_STEP sa).retireS n (wSd w) 0))) ∧
  (s.corePriv n 2 = true → sa % 2 ^ 32 ≠ step →
    (Runs s n w 0x9A → s.tiers.dir.any (fun e => e.2.copying) = false → Leaves (.stepSeal n t) t s (tells 2)) ∧
    (Runs s n w 0x9B → Leaves (.stepDiscard n t) t s (tells 2))) ∧
  (s.corePriv n 2 = true → sa % 2 ^ 32 = step → (s.tiers.dir.map (fun e => e.1)).Pairwise (· < ·) →
    ∀ c ∈ ([(.stepSeal n t, 0x9A), (.stepDiscard n t, 0x9B)] : List (Instr × Nat)), Runs s n w c.2 →
      (c.2 = 0x9A → s.tiers.dir.any (fun e => e.2.copying) = false) →
      Comes c.1 t s (fun s u => ∀ j, (s.tile j).shadow = true →
        ((s.tile j).freeDue = true → u.tile j = Tile.unmapped) ∧
        (∀ b, (s.tile j).freeDue = false → (s.tile j).policyDue = some b →
          (u.tile j).stepver = b ∧ (u.tile j).policyDue = none ∧ (u.tile j).shadow = false))) ∧
  (s.corePriv n 2 = true → sa % 2 ^ 32 = step → (s.tiers.dir.map (fun e => e.1)).Pairwise (· < ·) →
    (∀ e ∈ s.tiers.dir, e.2.shadow = true → e.2.tenant < 64 ∧ e.2.freeDue = false ∧ e.2.policyDue = none) →
    (Runs s n w 0x9A → s.tiers.dir.any (fun e => e.2.copying) = false → Comes (.stepSeal n t) t s (fun s u =>
      u.get .sw F.MEM_STEP_STEP = (step + 1) % 2 ^ 32 ∧ u.pc n = (s.pc n + 8) % 2 ^ 18 ∧
      (wSd w ≠ 0 → (u.core n).sreg (wSd w) = 0) ∧ u.tiers.data = s.tiers.data ∧
      ∀ k, u.tile k = if (s.tile k).shadow then { s.tile k with
        shadow := false, shadowDirty := false, shadowStep := 0, shadowLoc := 0, shadowBad := false } else s.tile k)) ∧
    (Runs s n w 0x9B → Comes (.stepDiscard n t) t s (fun s u =>
      u.get .sw F.MEM_STEP_STEP = step ∧ u.pc n = (s.pc n + 8) % 2 ^ 18 ∧ (wSd w ≠ 0 → (u.core n).sreg (wSd w) = 0) ∧
      ∀ k, let x := s.tile k
        let y := u.tile k
        (x.shadow = false → y = x) ∧
        (x.shadow = true → y.shadow = false ∧ y.dirty = x.shadowDirty ∧ y.tenant = x.tenant ∧
          (x.shadowLoc = 0xFFFFFFFE → y.tier = 0 ∧ y.lost = false) ∧
          (x.shadowLoc = 0xFFFFFFFF → y.tier = 3 ∧ y.lost = x.stripeBad) ∧
          (x.shadowLoc < 0xFFFFFFFE → y.tier = 2 ∧ y.loc = x.shadowLoc ∧ y.lost = x.shadowBad))))))

/-- O47. A doorbell of the function that owns an enabled queue, with a value inside the ring, moves TAIL or HEAD; any
other sets the writing function's BAD_DOORBELL and moves nothing. Enabling an SQ bound to an enabled CQ of its
function, and enabling a CQ, write its fields, start its ring afresh and take the key epoch of a CONF queue; in
confidential mode a tenant's queue without CONF is refused with CONF_REFUSED; an enabled queue ignores every write but
the one that disables it, and a CQ in use that one too; disabling it ends its key, an SQ's once no command is started. The interrupt timer signals INT_US after the oldest entry. A
function reset disables the function's queues and silences their commands. A channel invalidation is pending until it
completes, a second one is refused BUSY, and its end drops the range's channels below COUNT from the cache (log 50); a fetch
puts the entry of the table first in the cache, a corrected word of the switch's own memory counted, or makes the channel
closed for one use and reports it. (R339, R340, R342, R343, R349, R351,
R362, Table 13.4, Table 13.9) -/
def Obligations.HostQueueControl : Prop := ∀ (fn q x t c : Nat) (w : Word) (d : Part) (ecc : Ecc) (h : BitVec 1024) (s : State), q < 1024 → fn ≤ 63 →
  let bad : State → State := fun a => if fn = 0 then a.hifErr F.HIF_ERR_BAD_DOORBELL
    else a.set .sw (F.HIF_VF_STATUS_BAD_DOORBELL fn) 1
  let sqOn := s.get .sw (F.HIF_SQ_B_ENABLE q)
  let cqOn := s.get .sw (F.HIF_CQ_B_ENABLE q)
  (Up s .sw →
    (s.get .sw (F.HIF_SQ_B_FUNC q) = fn ∧ sqOn = 1 ∧ x < 2 ^ s.get .sw (F.HIF_SQ_B_LOG2_DEPTH q) →
      Leaves (.sqTailDoorbell fn q x t) t s (fun a => a.set .sw (F.HIF_SQ_C_TAIL q) x)) ∧
    (¬ (s.get .sw (F.HIF_SQ_B_FUNC q) = fn ∧ sqOn = 1 ∧ x < 2 ^ s.get .sw (F.HIF_SQ_B_LOG2_DEPTH q)) →
      Leaves (.sqTailDoorbell fn q x t) t s bad) ∧
    (s.get .sw (F.HIF_CQ_B_FUNC q) = fn ∧ cqOn = 1 ∧ x < 2 ^ s.get .sw (F.HIF_CQ_B_LOG2_DEPTH q) →
      Leaves (.cqHeadDoorbell fn q x t) t s (fun a => a.set .sw (F.HIF_CQ_C_HEAD q) x)) ∧
    (¬ (s.get .sw (F.HIF_CQ_B_FUNC q) = fn ∧ cqOn = 1 ∧ x < 2 ^ s.get .sw (F.HIF_CQ_B_LOG2_DEPTH q)) →
      Leaves (.cqHeadDoorbell fn q x t) t s bad) ∧
    (let f := bitsOf w.toNat 47 42
     let conf := bitsOf w.toNat 62 62
     let cq := bitsOf w.toNat 41 32
     let refused := s.conf = true ∧ f ≠ 0 ∧ conf = 0
     (sqOn = 1 → bitOf w.toNat 63 = true → Leaves (.hifSqWordBWrite q w t) t s (fun a => a)) ∧
     (sqOn = 1 → bitOf w.toNat 63 = false → Leaves (.hifSqWordBWrite q w t) t s (fun a =>
        if (a.cmdsOf q).isEmpty then ((a.set .sw (F.HIF_SQ_B_ENABLE q) 0).set .sw (F.HIF_SQ_B_STATE q) 0).dropKey q
        else a.set .sw (F.HIF_SQ_B_ENABLE q) 0)) ∧
     (sqOn = 0 → bitOf w.toNat 63 = true → refused →
        Leaves (.hifSqWordBWrite q w t) t s (fun a => a.hifErr F.HIF_ERR_CONF_REFUSED)) ∧
     (sqOn = 0 → bitOf w.toNat 63 = true → ¬ refused → s.get .sw (F.HIF_CQ_B_ENABLE cq) = 1 → s.get .sw (F.HIF_CQ_B_FUNC cq) = f →
        Comes (.hifSqWordBWrite q w t) t s (fun s u =>
          u.get .sw (F.HIF_SQ_B_ENABLE q) = 1 ∧ u.get .sw (F.HIF_SQ_B_STATE q) = 1 ∧ u.get .sw (F.HIF_SQ_B_HEAD q) = 0 ∧
          u.get .sw (F.HIF_SQ_C_TAIL q) = 0 ∧ u.get .sw (F.HIF_SQ_C_SEQ q) = 0 ∧ u.get .sw (F.HIF_SQ_B_FUNC q) = f ∧
          u.get .sw (F.HIF_SQ_B_CQ q) = cq ∧ u.get .sw (F.HIF_SQ_B_CONF q) = conf ∧
          u.get .sw (F.HIF_SQ_B_LOG2_DEPTH q) = bitsOf w.toNat 4 0 ∧
          SMap.at none u.sw.hif.queueKeys q = (if conf = 1 then let e := s.get .sw (F.SEC_TENANT_LIVE_EPOCH f)
            some (e, queueKey (SMap.at none (s.isl .sw).masters f) e q 0) else none))) ∧
     (sqOn = 0 → bitOf w.toNat 63 = true → ¬ (s.get .sw (F.HIF_CQ_B_ENABLE cq) = 1 ∧ s.get .sw (F.HIF_CQ_B_FUNC cq) = f) →
        ¬ refused → Leaves (.hifSqWordBWrite q w t) t s (fun a => a))) ∧
    (let f := bitsOf w.toNat 53 48
     let conf := bitsOf w.toNat 62 62
     let refused := s.conf = true ∧ f ≠ 0 ∧ conf = 0
     (cqOn = 1 → bitOf w.toNat 63 = true ∨ (∃ k < 1024, s.get .sw (F.HIF_SQ_B_CQ k) = q ∧ s.get .sw (F.HIF_SQ_B_ENABLE k) = 1) →
        Leaves (.hifCqWordBWrite q w t) t s (fun a => a)) ∧
     (cqOn = 1 → bitOf w.toNat 63 = false → (∀ k < 1024, s.get .sw (F.HIF_SQ_B_CQ k) = q → s.get .sw (F.HIF_SQ_B_ENABLE k) = 0) →
        Leaves (.hifCqWordBWrite q w t) t s (fun a => (a.set .sw (F.HIF_CQ_B_ENABLE q) 0).dropKey (1024 + q))) ∧
     (cqOn = 0 → bitOf w.toNat 63 = true → refused →
        Leaves (.hifCqWordBWrite q w t) t s (fun a => a.hifErr F.HIF_ERR_CONF_REFUSED)) ∧
     (cqOn = 0 → bitOf w.toNat 63 = true → ¬ refused → Comes (.hifCqWordBWrite q w t) t s (fun s u =>
        u.get .sw (F.HIF_CQ_B_ENABLE q) = 1 ∧ u.get .sw (F.HIF_CQ_B_TAIL q) = 0 ∧ u.get .sw (F.HIF_CQ_C_HEAD q) = 0 ∧
        u.get .sw (F.HIF_CQ_C_SEQ q) = 0 ∧ u.get .sw (F.HIF_CQ_B_FUNC q) = f ∧
        u.get .sw (F.HIF_CQ_B_VECTOR q) = bitsOf w.toNat 42 32 ∧ u.get .sw (F.HIF_CQ_B_LOG2_DEPTH q) = bitsOf w.toNat 4 0 ∧
        SMap.at true u.sw.hif.phase q = true ∧
        SMap.at none u.sw.hif.queueKeys (1024 + q) = (if conf = 1 then let e := s.get .sw (F.SEC_TENANT_LIVE_EPOCH f)
          some (e, queueKey (SMap.at none (s.isl .sw).masters f) e q 1) else none))))) ∧
  (let f := SMap.at (0, 0) s.sw.hif.fresh q
   let us := s.get .sw (F.HIF_CQ_D_INT_US q)
   f.1 ≠ 0 → us ≠ 0 → s.get .sw (F.HIF_CQ_D_INT_COUNT q) ≠ 0 → s.pcieStopped = false →
    (max s.now t < f.2 + 1000 * us → Leaves (.cqIntTimer q t) t s (fun a => a)) ∧
    (f.2 + 1000 * us ≤ max s.now t → Leaves (.cqIntTimer q t) t s (fun a =>
      (a.modHif (fun z => { z with fresh := SMap.put (0, 0) z.fresh q (0, 0) })).emit
        (.msix (a.get .sw (F.HIF_CQ_B_FUNC q)) (a.get .sw (F.HIF_CQ_B_VECTOR q)))))) ∧
  ((SMap.at (0, 0) s.sw.hif.fresh q).1 = 0 ∨ s.get .sw (F.HIF_CQ_D_INT_US q) = 0 ∨ s.get .sw (F.HIF_CQ_D_INT_COUNT q) = 0 ∨
      s.pcieStopped = true → Leaves (.cqIntTimer q t) t s (fun a => a)) ∧
  (1 ≤ fn → Comes (.vfFlr fn t) t s (fun s u =>
    (∀ k < 1024, (s.get .sw (F.HIF_SQ_B_FUNC k) = fn → u.get .sw (F.HIF_SQ_B_ENABLE k) = 0 ∧
        ∀ m ∈ u.sw.hif.cmds, m.q = k → m.silent = true) ∧
      (s.get .sw (F.HIF_CQ_B_FUNC k) = fn → u.get .sw (F.HIF_CQ_B_ENABLE k) = 0) ∧
      (s.get .sw (F.HIF_SQ_B_FUNC k) ≠ fn → u.get .sw (F.HIF_SQ_B_ENABLE k) = s.get .sw (F.HIF_SQ_B_ENABLE k) ∧
        u.cmdsOf k = s.cmdsOf k) ∧
      (s.get .sw (F.HIF_CQ_B_FUNC k) ≠ fn → u.get .sw (F.HIF_CQ_B_ENABLE k) = s.get .sw (F.HIF_CQ_B_ENABLE k))))) ∧
  (let pending := match d with | .sw => F.HIF_CHAN_INV_STATUS_PENDING | .ep => F.EP_CHAN_INV_STATUS_PENDING
   let busy := match d with | .sw => F.HIF_CHAN_INV_STATUS_BUSY_REFUSED | .ep => F.EP_CHAN_INV_STATUS_BUSY_REFUSED
   let count := bitsOf w.toNat 40 20
   (Up s d → 0 < count → (s.dev d).chanInv = none → Leaves (.hifChanInvWrite d w t) t s (fun a =>
      (a.modDev d (fun v => { v with chanInv := some (bitsOf w.toNat 19 0, count) })).set d pending 1)) ∧
    (Up s d → 0 < count → (s.dev d).chanInv ≠ none → Leaves (.hifChanInvWrite d w t) t s (fun a => a.set d busy 1)) ∧
    (Up s d → count = 0 → Leaves (.hifChanInvWrite d w t) t s (fun a => a)) ∧
    (∀ f n, (s.dev d).chanInv = some (f, n) → Comes (.chanInvComplete d t) t s (fun s u =>
      u.get d pending = 0 ∧ (u.dev d).chanInv = none ∧
      (u.dev d).chans = (s.dev d).chans.filter (fun e =>
        ! (decide (f ≤ e.chan) && decide (e.chan < f + n) && decide (e.chan < (s.dev d).chanCount))))) ∧
    ((s.dev d).chanInv = none → Leaves (.chanInvComplete d t) t s (fun a => a))) ∧
  (c ∈ (s.dev d).chanMiss → ∃ u : State, exec (.channelFetch d c ecc h t) s = .next ((s.tick t).keep (u.chanNext d).settle) ∧
    (u.dev d).chanMiss = (s.dev d).chanMiss.erase c ∧
    (ecc ≠ .bad → (u.dev d).chans = (⟨c, if d = .sw ∧ s.get .sw F.HIF_CHAN_BASE_LOCATION = 1 then h.toNat
      else Memory.num (s.dev d).mem ((match d with | .sw => s.get .sw F.HIF_CHAN_BASE_BASE | .ep => s.get .ep F.EP_CHAN_BASE_BASE)
        * 4096 + 128 * c) 128⟩ :: (s.dev d).chans).take (chanCap d)) ∧
    (ecc = .fixed → d = .sw → s.get .sw F.HIF_CHAN_BASE_LOCATION = 0 → u.get .sw F.TEL_FAULT_STATUS_CE = 1) ∧
    (ecc = .bad → (u.dev d).chans = (s.dev d).chans ∧ (u.dev d).chanBad = (s.dev d).chanBad ++ [c] ∧
      (d = .sw → u.get .sw F.HIF_ERR_CHAN_FETCH_ERR = 1) ∧ (d = .ep → u.get .ep F.EP_EVENT_STATUS_CHAN_FETCH_ERR = 1)))

/-- An enabled, running SQ that has an entry and room for a started command. -/
def Sys2Proof.Claims.CanStart (s : State) (q : Nat) : Prop :=
  s.get .sw (F.HIF_SQ_B_ENABLE q) = 1 ∧ s.get .sw (F.HIF_SQ_B_STATE q) = 1 ∧
    s.get .sw (F.HIF_SQ_B_HEAD q) ≠ s.get .sw (F.HIF_SQ_C_TAIL q) ∧ (s.cmdsOf q).length < 64 ∧ s.pcieStopped = false

/-- The state in which an entry has been started: the last of the started commands is its command, with the next number,
its CID and its slot, and HEAD and SEQ have moved on. -/
def Sys2Proof.Claims.StartedAs (q e : Nat) (done : Bool) (hstatus : Nat) (s u : State) : Prop :=
  (∃ c : Cmd, u.sw.hif.cmds = s.sw.hif.cmds ++ [c] ∧ c.num = s.sw.hif.nextCmd ∧ c.q = q ∧ c.cid = hCid e ∧ c.entry = e ∧
    c.slot = s.get .sw (F.HIF_SQ_B_HEAD q) ∧ c.seq = s.get .sw (F.HIF_SQ_C_SEQ q) ∧ c.step = (s.dev .sw).step ∧
    c.begun = false ∧ c.done = done ∧ c.hstatus = hstatus) ∧
  u.get .sw (F.HIF_SQ_B_HEAD q) = (s.get .sw (F.HIF_SQ_B_HEAD q) + 1) % 2 ^ s.get .sw (F.HIF_SQ_B_LOG2_DEPTH q) % 2 ^ 16

/-- O48. On an enabled, running queue, an entry that breaks Table 13.6 starts a command that is done
BAD_COMMAND; one that breaks no rule of the table, that its function may give, and that names no channel, or one that it may
use, starts a command to be carried out; one whose function may not give it, or may not use its channel, is done DENIED; one
of a CONF queue whose tag fails is done AUTH_FAIL; in each case HEAD moves on. An entry whose channel is still to be fetched
waits, and one behind a fence bit waits for the queue's started commands. A failed read of the ring stops the queue with
QUEUE_ERROR; on a queue that has no entry, no room, or is not running, nothing happens.
A decided command whose CQ has room writes its 32 B entry at the CQ's tail, with the CQ's phase, and with CONF its second
word encrypted, moves the tail, and is no longer started; a GET's data is written before it, or its status is HOST_ACCESS
where that write fails. Where the CQ has no room, and for an ABORT whose target is not completed yet, nothing changes. (R344, R346, R347, Table 13.5, Table 13.6, Table 13.7, Table 13.8) -/
def Obligations.HostCommandsStartAndEnd : Prop := ∀ (q slot t : Nat) (b : BitVec 512) (s : State), q < 1024 →
  (let e := b.toNat
   let fn := s.get .sw (F.HIF_SQ_B_FUNC q)
   CanStart s q →
    (Leaves (.commandStart q none t) t s (fun a => (a.set .sw (F.HIF_SQ_B_STATE q) 2).hifErr F.HIF_ERR_QUEUE_ERROR)) ∧
    (hFence e = true → s.cmdsOf q ≠ [] → Leaves (.commandStart q (some b) t) t s (fun a => a)) ∧
    (s.get .sw (F.HIF_SQ_B_CONF q) = 0 → s.openEntry q e = some e) ∧
    (hFence e = false ∨ s.cmdsOf q = [] →
      (s.openEntry q e = none → Comes (.commandStart q (some b) t) t s (StartedAs q e true 6)) ∧
      (∀ e, s.openEntry q b.toNat = some e →
        (hBad fn e = true → Comes (.commandStart q (some b) t) t s (StartedAs q e true 3)) ∧
        (hBad fn e = false → s.hDenied fn e = true → Comes (.commandStart q (some b) t) t s (StartedAs q e true 4)) ∧
        (hBad fn e = false → s.hDenied fn e = false →
          (hUsesChan (hOpc e) = false → Comes (.commandStart q (some b) t) t s (StartedAs q e false 0)) ∧
          (hUsesChan (hOpc e) = true →
            ((s.dev .sw).fenced = true → Comes (.commandStart q (some b) t) t s (StartedAs q e true 4)) ∧
            ((s.dev .sw).fenced = false → ∀ (use : ChanUse) (a : State), (s.tick t).useChan .sw (hChan e) = (use, a) →
              (use = .closed → Comes (.commandStart q (some b) t) t s (StartedAs q e true 4)) ∧
              (use = .miss → Leaves (.commandStart q (some b) t) t s (fun _ => a)) ∧
              (∀ raw, use = .entry raw → let may := (a.dev .sw).bucketFor a.now (hChan e) (chanOf raw)
                ((chanOf raw).tenant ≠ actsFor fn e ∨ ((chanOf raw).promised = true ∧ may = none) →
                  Comes (.commandStart q (some b) t) t s (StartedAs q e true 4)) ∧
                ((chanOf raw).tenant = actsFor fn e → ((chanOf raw).promised = true → may ≠ none) →
                  Comes (.commandStart q (some b) t) t s (fun s u => StartedAs q e false 0 s u ∧
                    ∀ c, u.sw.hif.cmds.getLast? = some c → c.chan = raw ∧
                      c.bucket = if (chanOf raw).promised then (may.map (fun m => m.1)).getD 0 else 0))))))))) ∧
  (¬ CanStart s q → ∀ x, Leaves (.commandStart q x t) t s (fun a => a)) ∧
  ((s.cmdsOf q).find? (fun c => c.slot == slot && c.done && ! c.silent) = none →
    ∀ err, Leaves (.commandComplete q slot err t) t s (fun a => a)) ∧
  (∀ c : Cmd, (s.cmdsOf q).find? (fun c => c.slot == slot && c.done && ! c.silent) = some c →
    let cq := s.get .sw (F.HIF_SQ_B_CQ q)
    let tail := s.get .sw (F.HIF_CQ_B_TAIL cq)
    (s.cqRoom cq = false → ∀ err, Leaves (.commandComplete q slot err t) t s (fun a => a)) ∧
    (s.abortWaits c = true → ∀ err, Leaves (.commandComplete q slot err t) t s (fun a => a)) ∧
    (hOpc c.entry ≠ Opc.GET ∨ c.got = [] → Leaves (.commandComplete q slot true t) t s (fun a => a)) ∧
    (∀ err, s.cqRoom cq = true → s.abortWaits c = false → (err = true → hOpc c.entry = Opc.GET ∧ c.got ≠ []) →
      s.pcieStopped = false →
      Comes (.commandComplete q slot err t) t s (fun s u =>
        let c1 : Cmd := if err then { c with hstatus := 5, code := 0, result := 0 } else c
        let w := leBytes 32 (setBit c1.cqe 20 (SMap.at true s.sw.hif.phase cq))
        .hostWrite (s.get .sw (F.HIF_CQ_B_FUNC cq)) (s.get .sw (F.HIF_CQ_A_BASE cq) * 4096 + 32 * tail)
          (if s.get .sw (F.HIF_CQ_B_CONF cq) = 0 then w else
            let x := Config.gcmSeal (((SMap.at none s.sw.hif.queueKeys (1024 + cq)).map (fun k => k.2)).getD 0)
              (nonce 1 1 cq (s.get .sw (F.HIF_CQ_C_SEQ cq)) 0) (w.take 8) ((w.drop 8).take 8)
            w.take 8 ++ x.1 ++ x.2) ∈ u.out ∧
        (hOpc c.entry = Opc.GET → err = false → c.q = q → s.get .sw (F.HIF_SQ_B_CONF q) = 0 → ∀ g ∈ c.got,
          .hostWrite (s.get .sw (F.HIF_SQ_B_FUNC q)) (hHost c.entry + g.1) g.2 ∈ u.out) ∧
        u.get .sw (F.HIF_CQ_B_TAIL cq) = (tail + 1) % 2 ^ s.get .sw (F.HIF_CQ_B_LOG2_DEPTH cq) % 2 ^ 16 ∧
        u.sw.hif.cmds = s.sw.hif.cmds.filter (fun x => x.num != c.num))))

/-- The oldest started command of a queue with an opcode whose meaning has not begun. -/
def Sys2Proof.Claims.NextCmd (s : State) (q opc : Nat) (c : Cmd) : Prop :=
  (s.cmdsOf q).find? (fun c => hOpc c.entry == opc && ! c.begun && ! c.done && ! c.silent) = some c

/-- Every command that the queue started before this one has begun, is done, or has been given up. -/
def Sys2Proof.Claims.EarlierBegun (s : State) (q : Nat) (c : Cmd) : Prop :=
  ∀ x ∈ s.cmdsOf q, x.num < c.num → (x.begun || x.done || x.silent) = true

/-- O49. The oldest started command of its opcode begins. NOP is done. PUT, of a queue without CONF whose data came,
sends its packets with the data as one job, the last marked LAST, and counts the bytes; where less data came, or less of a
CONF queue's data verifies, it sends the packets which that reaches, and is HOST_ACCESS or AUTH_FAIL; GET sends READs whose data
lands in host memory; FLAG one word under byte enables; AMO the operation and its operands; MSG one record; TILE its
32 B to this switch's tile-control aperture; where the data of PUT, MSG or TILE is missing they are done HOST_ACCESS.
FENCE waits for the queue's earlier transactions; it, and a FLAG or
AMO with REL, begins only once every command that the queue started before has. EMIT starts an emission. CHAN_INV drops the range and is done. ABORT
is done with 3 where its target is not started, 2 where it is aborted, 1 where it is decided, and otherwise with 0,
and its target issues nothing more. (R136, R151, R153, R181, R253, R292, R340, R348, R353, Table 13.6) -/
def Obligations.HostCommandsRun : Prop := ∀ (q t : Nat) (data : List Byte) (c : Cmd) (s : State), q < 1024 →
  let e := c.entry
  let begun : State → State := fun a => a.modCmd c.num (fun x => { x with begun := true })
  let ends (h k : Nat) (r : Word) : State → State := fun a => a.modCmd c.num (fun x =>
    { x with done := true, hstatus := h, code := k, result := r })
  let hdr (a : State) (addr : Nat) : PktHdr := (a.dev .sw).scalarHdr c.chan (hChan e) addr
  (NextCmd s q 0 c → Leaves (.cmdNop q t) t s (fun a => ends 0 0 0 (begun a))) ∧
  (NextCmd s q 1 c → s.get .sw (F.HIF_SQ_B_CONF q) = 0 → c.q = q →
    (hLen e ≤ data.length → hLen e ≠ 0 → Leaves (.cmdPut q (some data) t) t s (fun a =>
      (((begun a).modCmd c.num (fun x => { x with hstatus := 0 })).count .sw 0xC99 data.length).cmdPackets c
        (markLast (packetsOf (hAddr e) (hLen e))) (fun p h =>
          (⟨{ h with opcode := 3, payUnits := BitVec.ofNat 10 (p.2 / 16), lctr := BitVec.ofNat 16 (hLctr e) },
            ((data.take (hLen e)).drop (p.1 - hAddr e)).take p.2⟩, .drop)))) ∧
    (hLen e ≠ 0 → Leaves (.cmdPut q none t) t s (fun a => ends 5 0 0
      (((begun a).modCmd c.num (fun x => { x with hstatus := 5 })).count .sw 0xC99 0)))) ∧
  (NextCmd s q 1 c → ∀ d : Option (List Byte), let r := s.putData c d
    let ps := (markLast (packetsOf (hAddr e) (hLen e))).takeWhile (fun p => decide (p.1.1 - hAddr e + p.1.2 ≤ r.1.length))
    let put (a : State) : State := ((begun a).modCmd c.num (fun x => { x with hstatus := r.2 })).count .sw 0xC99 (d.getD []).length
    (s.get .sw (F.HIF_SQ_B_CONF c.q) = 0 → r = ((d.getD []).take (hLen e), if (d.getD []).length < hLen e then 5 else 0)) ∧
    (ps = [] → Leaves (.cmdPut q d t) t s (fun a => ends r.2 0 0 (put a))) ∧
    (ps ≠ [] → Leaves (.cmdPut q d t) t s (fun a => (put a).cmdPackets c ps (fun p h =>
      (⟨{ h with opcode := 3, payUnits := BitVec.ofNat 10 (p.2 / 16), lctr := BitVec.ofNat 16 (hLctr e) },
        (r.1.drop (p.1 - hAddr e)).take p.2⟩, .drop))))) ∧
  (∀ d : Option (List Byte), ∀ i ∈ ([(.cmdNop q t, 0), (.cmdPut q d t, 1), (.cmdGet q t, 2), (.cmdFlag q t, 3), (.cmdAmo q t, 4),
      (.cmdMsg q d t, 5), (.cmdFence q t, 6), (.cmdEmit q t, 7), (.cmdTile q d t, 8), (.cmdChanInv q t, 9), (.cmdAbort q t, 10)] :
      List (Instr × Nat)),
    (s.cmdsOf q).find? (fun c => hOpc c.entry == i.2 && ! c.begun && ! c.done && ! c.silent) = none → Leaves i.1 t s (fun a => a)) ∧
  (NextCmd s q 2 c → Leaves (.cmdGet q t) t s (fun a =>
    (begun a).cmdPackets c (markLast (packetsOf (hAddr e) (hLen e))) (fun p h =>
      (⟨{ h with opcode := 1, reqUnits := BitVec.ofNat 10 (p.2 / 16) }, []⟩, .host c.num (p.1 - hAddr e))))) ∧
  (NextCmd s q 3 c → hRel e = false ∨ EarlierBegun s q c → Leaves (.cmdFlag q t) t s (fun a =>
    (begun a).cmdOne c { hdr (begun a) (hAddr e / 16 * 16) with
        opcode := 3, payUnits := 1, lctr := BitVec.ofNat 16 (hLctr e),
        byteEn := if hAddr e / 8 % 2 = 0 then 0x00FF else 0xFF00 }
      (if hAddr e / 8 % 2 = 0 then leBytes 16 (hValue e) else leBytes 16 (hValue e * 2 ^ 64)) .drop (hRel e))) ∧
  (NextCmd s q 4 c → hRel e = false ∨ EarlierBegun s q c → Leaves (.cmdAmo q t) t s (fun a =>
    (begun a).cmdOne c { hdr (begun a) (hAddr e) with opcode := 5, opArg := BitVec.ofNat 4 (hSel e), payUnits := 1 }
      (leBytes 16 (if hSel e = 9 then hValue e + hArg2 e * 2 ^ 64 else hValue e)) (.word 0) (hRel e))) ∧
  (NextCmd s q 5 c →
    (data.length < hLen e → Leaves (.cmdMsg q (some data) t) t s (fun a =>
      ends 5 0 0 ((begun a).count .sw 0xC99 data.length))) ∧
    (hLen e ≤ data.length → Leaves (.cmdMsg q (some data) t) t s (fun a => let b := (begun a).count .sw 0xC99 data.length
      b.cmdOne c { hdr (begun a) (hAddr e / 2 ^ 52 * 2 ^ 52) with
        opcode := 8, opArg := BitVec.ofNat 4 (hSel e), payUnits := BitVec.ofNat 10 (hLen e / 16) }
        (data.take (hLen e)) .drop false)) ∧
    (hLen e ≠ 0 → Leaves (.cmdMsg q none t) t s (fun a => ends 5 0 0 ((begun a).count .sw 0xC99 0)))) ∧
  (¬ EarlierBegun s q c → (NextCmd s q 6 c → Leaves (.cmdFence q t) t s (fun a => a)) ∧
    (hRel e = true → (NextCmd s q 3 c → Leaves (.cmdFlag q t) t s (fun a => a)) ∧
      (NextCmd s q 4 c → Leaves (.cmdAmo q t) t s (fun a => a)))) ∧
  (NextCmd s q 6 c → EarlierBegun s q c → Leaves (.cmdFence q t) t s (fun a =>
    let f := (begun a).newFence .sw (.command c.num) (.host q) (hScope e) 0
    f.2.modCmd c.num (fun x => { x with fence := some f.1 }))) ∧
  (NextCmd s q 7 c → Leaves (.cmdEmit q t) t s (fun a =>
    let f := (begun a).startEmit (hWindow e) (hFirst e) (hCount e) (hPartial e) (.command c.num)
    f.2.modCmd c.num (fun x => { x with emit := some f.1 }))) ∧
  (NextCmd s q 8 c →
    (data.length < 32 → Leaves (.cmdTile q (some data) t) t s (fun a =>
      ends 5 0 0 ((begun a).count .sw 0xC99 data.length))) ∧
    (32 ≤ data.length → Leaves (.cmdTile q (some data) t) t s (fun a => let b := (begun a).count .sw 0xC99 data.length
      b.cmdOne c { hdr (begun a) (((begun a).dev .sw).node * 2 ^ 52 + 0xE800000000000) with opcode := 3, payUnits := 2 }
        (data.take 32) .drop false)) ∧
    Leaves (.cmdTile q none t) t s (fun a => ends 5 0 0 ((begun a).count .sw 0xC99 0))) ∧
  (NextCmd s q 9 c → Leaves (.cmdChanInv q t) t s (fun a => ends 0 0 0 ((begun a).modDev .sw (fun v =>
    v.invChans (bitsOf (hValue e) 19 0) (bitsOf (hValue e) 40 20))))) ∧
  (NextCmd s q 10 c →
    (((s.cmdsOf q).all (fun x => x.num == c.num || x.cid != hValue e % 2 ^ 16 || x.silent) = true) →
      Leaves (.cmdAbort q t) t s (fun a => ends 0 0 3 (begun a))) ∧
    (∀ x : Cmd, (s.cmdsOf q).find? (fun x => x.num != c.num && x.cid == hValue e % 2 ^ 16 && ! x.silent) = some x →
      (x.aborted = true → Leaves (.cmdAbort q t) t s (fun a => ends 0 0 2 (begun a))) ∧
      (x.aborted = false → x.done = true → Leaves (.cmdAbort q t) t s (fun a => ends 0 0 1 (begun a))) ∧
      (x.aborted = false → x.done = false → Comes (.cmdAbort q t) t s (fun _ u =>
        (x.job = none → ∀ y : Cmd, s.sw.hif.cmds.find? (fun m => m.num == x.num) = some y →
          u.sw.hif.cmds.find? (fun m => m.num == x.num) = some { y with
            aborted := true, done := true, hstatus := 2, code := 0, result := 0 }) ∧
        (∀ j, x.job = some j → ∀ p ∈ (u.dev .sw).pends, p.job ≠ j) ∧
        (∀ f ∈ (u.dev .sw).fences, some f.id ≠ x.fence) ∧ (∀ m ∈ u.sw.emits, some m.id ≠ x.emit)))))

/-- An engine with a credit, none of whose earlier requests is still to be translated, in a port that has a free entry. -/
def Sys2Proof.Claims.EngineReady (s : State) (n : Nat) : Prop :=
  n < 1024 ∧ s.engineCredit n = true ∧ s.ep.nextOf n = none ∧ s.ep.flights.length < 1048576

/-- A request's completion is delivered, and it holds no entry. -/
def Sys2Proof.Claims.Delivers (n r code : Nat) (data : Word) (s u : State) : Prop :=
  u.out = s.out ++ [.engineDone n (BitVec.ofNat 128 (data.toNat * 2 ^ 64 + reqTag r * 2 ^ 48 + code * 2 ^ 44))] ∧
    u.ep.flights = s.ep.flights ∧ SMap.at 0 (u.dev .ep).counters (0xD50 + code) = (SMap.at 0 (s.dev .ep).counters (0xD50 + code) + 1) % 2 ^ 48

/-- A request has its entry, at a stage. -/
def Sys2Proof.Claims.Flies (n r : Nat) (stage : Stage) (s u : State) : Prop :=
  ∃ f : Flight, u.ep.flights = s.ep.flights ++ [f] ∧ f.engine = n ∧ f.req = r ∧ f.stage = stage ∧ f.at_ = s.now ∧
    ∀ g ∈ s.ep.flights, g.idx ≠ f.idx

/-- The request of an engine by KIND. -/
def Sys2Proof.Claims.EngineRequest (n : Nat) (req : BitVec 512) (t : Nat) (c : Instr) (k : Nat) : Prop :=
  (c = .engineRead n req t ∧ k = 1) ∨ (c = .engineWrite n req t ∧ k = 2) ∨ (c = .engineTget n req t ∧ k = 3) ∨
  (c = .engineTput n req [] t ∧ k = 4) ∨ (c = .engineAmo n req t ∧ k = 5) ∨ (c = .engineFence n req t ∧ k = 6) ∨
  (c = .engineInval n req t ∧ k = 7) ∨ (c = .engineWait n req t ∧ k = 8)

/-- O50. An engine without a credit, or one whose attach has no trained module, presents nothing. A request that breaks check 1 of R371 completes BAD_REQUEST, and
one of a fenced end-point DENIED, at once, with nothing sent. READ, WRITE, TGET, TPUT and AMO on a channel whose entry
is still to be fetched wait for it; on one that is not open, or not the engine's tenant's, they complete DENIED; with
an open channel of the tenant, which has an admission bucket where it is PROMISED, every piece translated and no weight
slot that refuses it (which completes it with the first refusal), each piece is sent in order as a part of one job; with no bucket to be had it completes DENIED and sets
ADMIT_FULL, and pieces that with the tag READs of their segments are more than 64 packets complete it BAD_REQUEST
(DEDUCED, log 51); on a channel that is not
CACHEABLE each piece becomes one request packet of the kind at its fabric address, in order, as parts of one job.
FENCE waits for the engine's earlier transactions. INVAL RANGE, whose pages have each been translated or faulted at once,
completes and drops just the lines that the range covers in the pages that translated; INVAL CHANNEL drops the channel's lines
and completes, INVAL ALL waits for its end. WAIT completes once the counter has reached VALUE, and waits until then. What log 51 chooses is the model's.
(R151, R369, R370, R371, R372, R373, R374, R383, R408, Table 14.3, Table 14.4) -/
def Obligations.EngineRequestsRun : Prop := ∀ (n t : Nat) (req : BitVec 512) (s : State), let r := req.toNat
  (∀ own : List (Nat × Byte), exec (.engineTput n req own t) s = exec (.engineTput n req [] t)
    (s.modDev .ep (fun v => { v with mem := own.foldl (fun m x => Memory.setByte m x.1 x.2) v.mem }))) ∧
  (∀ c k, EngineRequest n req t c k → n < 1024 → reqKind r = k →
    (s.engineCredit n = false → Leaves c t s (fun a => a)) ∧
    (EngineReady s n →
      (badRequest r = true → Comes c t s (Delivers n r Code.BAD_REQUEST
        (if reqKind r = 1 ∨ reqKind r = 5 then 0xFFFFFFFFFFFFFFFF else 0))) ∧
      (badRequest r = false → (s.dev .ep).fenced = true → Comes c t s (Delivers n r Code.DENIED
        (if reqKind r = 1 ∨ reqKind r = 5 then 0xFFFFFFFFFFFFFFFF else 0))))) ∧
  (EngineReady s n → badRequest r = false → (s.dev .ep).fenced = false → let v := s.dev .ep
    let ctx := v.engineCtx n
    (∀ c k, EngineRequest n req t c k → reqKind r = k → k ≤ 5 → reqChan r < v.chanCount → v.chanBad.contains (reqChan r) = false →
      (v.chans.find? (fun e => e.chan == reqChan r) = none → v.chanMiss.contains (reqChan r) = false →
        Comes c t s (fun s u => Flies n r .channel s u ∧ (u.dev .ep).chanMiss = (s.dev .ep).chanMiss ++ [reqChan r])) ∧
      (∀ raw, v.chans.find? (fun e => e.chan == reqChan r) = some ⟨reqChan r, raw⟩ →
        (chanOpen raw = false ∨ (chanOf raw).tenant ≠ v.engineTenant n → Comes c t s (Delivers n r Code.DENIED
          (if reqKind r = 1 ∨ reqKind r = 5 then 0xFFFFFFFFFFFFFFFF else 0))) ∧
        (chanOpen raw = true → (chanOf raw).tenant = v.engineTenant n → ∀ at_ : Nat → Nat,
          ((chanOf raw).promised = true → (v.bucketFor (max s.now t) (reqChan r) (chanOf raw)).isSome = true) →
          (∀ p ∈ piecesOf r, ∃ x, v.walk ctx p.ea (reqNeeds r) none = (.page (at_ p.ea) x, [])) →
          (∀ code rest, (piecesOf r).filterMap (fun p => s.ep.weightCheck (v.engineTenant n) k (at_ p.ea) p.units) = code :: rest →
            Comes c t s (Delivers n r code (if reqKind r = 1 ∨ reqKind r = 5 then 0xFFFFFFFFFFFFFFFF else 0))) ∧
          ((∀ p ∈ piecesOf r, s.ep.weightCheck (v.engineTenant n) k (at_ p.ea) p.units = none) →
          let tags := ((piecesOf r).filter (fun p => (s.ep.boundSlot (at_ p.ea) (16 * p.units)).isSome)).length
          (0 < tags ∧ 64 < (piecesOf r).length + tags → Comes c t s (Delivers n r Code.BAD_REQUEST
            (if reqKind r = 1 ∨ reqKind r = 5 then 0xFFFFFFFFFFFFFFFF else 0))) ∧
          (tags = 0 ∨ (piecesOf r).length + tags ≤ 64 → Comes c t s (fun s u => ∃ (a : State) (f : Flight),
            u = (piecesOf r).foldl (fun b p => b.sendPiece f (at_ p.ea) p) a ∧ Flies n r .formed s a ∧
            f.engine = n ∧ f.req = r ∧ f.raw = raw ∧ f.job = (s.dev .ep).nextJob ∧
            (a.dev .ep).mem = (s.dev .ep).mem ∧ (a.dev .ep).pends = (s.dev .ep).pends ∧ a.out = s.out)))) ∧
        (chanOpen raw = true → (chanOf raw).tenant = v.engineTenant n → (chanOf raw).promised = true →
          v.bucketFor (max s.now t) (reqChan r) (chanOf raw) = none → Comes c t s (fun s u =>
            u.get .ep F.EP_EVENT_STATUS_ADMIT_FULL = 1 ∧ u.ep.flights = s.ep.flights ∧ ∃ x, .engineDone n x ∈ u.out ∧
              x.toNat / 2 ^ 44 % 16 = Code.DENIED ∧ x.toNat / 2 ^ 48 % 2 ^ 16 = reqTag r)) ∧
        (chanOpen raw = true → (chanOf raw).tenant = v.engineTenant n → (chanOf raw).promised = false →
          (chanOf raw).cacheable = false → reqOrd r ≠ 1 → s.ep.weights = [] → ∀ at_ : Nat → Nat,
          (∀ p ∈ piecesOf r, ∃ x, v.walk ctx p.ea (reqNeeds r) none = (.page (at_ p.ea) x, [])) →
          Comes c t s (fun s u => ∃ (a : State) (f : Flight),
            u = (piecesOf r).foldl (fun b p => b.submit .ep ((b.dev .ep).enginePend f
              ((b.dev .ep).piecePacket r raw (at_ p.ea) p)
              (if reqKind r = 1 then .word (at_ p.ea / 8 % 2) else if reqKind r = 3 then .accel p.local_
                else if reqKind r = 5 then .word 0 else .drop) false)) a ∧
            Flies n r .formed s a ∧ f.engine = n ∧ f.req = r ∧ f.raw = raw ∧ f.job = (s.dev .ep).nextJob ∧
            (∃ g ∈ a.ep.flights, g.idx = f.idx ∧ g.job = f.job ∧ g.req = r ∧ g.stage = .formed) ∧
            (a.dev .ep).jobs = (s.dev .ep).jobs ++ [⟨(s.dev .ep).nextJob, .engine n f.idx, (piecesOf r).length, (piecesOf r).length, 0, 0, false⟩] ∧
            (a.dev .ep).mem = (s.dev .ep).mem ∧ (a.dev .ep).pends = (s.dev .ep).pends ∧ (a.dev .ep).txns = (s.dev .ep).txns ∧
            (a.dev .ep).regs = (s.dev .ep).regs ∧ a.ep.rcache = s.ep.rcache ∧ a.out = s.out)))) ∧
    (reqKind r = 6 → Comes (.engineFence n req t) t s (fun s u => ∃ id f, Flies n r (.fence id) s u ∧
      (u.dev .ep).fences = (s.dev .ep).fences ++ [f] ∧ f.id = id ∧ f.agent = .engine n ∧
      f.waits = (s.dev .ep).fenceSet (.engine n) (reqScope r) 0)) ∧
    (reqKind r = 7 →
      (reqSel r = 0 → ∀ at_ : Nat → Option Nat,
        (∀ p ∈ piecesOf r, match at_ p.ea with
          | some a => ∃ x, v.walk ctx p.ea 0 none = (.page a x, [])
          | none => ∃ cause level, v.walk ctx p.ea 0 none = (.fault cause level, [])) →
        Comes (.engineInval n req t) t s (fun s u => Delivers n r Code.OK 0 s u ∧
          u.ep.rcache = s.ep.rcache.filter (fun l => ! (piecesOf r).any (fun p => match at_ p.ea with
            | some a => decide (l.addr < a + (min (reqEa r + reqValue r) (p.ea + 65536) - p.ea)) &&
                decide (a + (max (reqEa r) p.ea - p.ea) < l.addr + 256)
            | none => false)))) ∧
      (reqSel r = 2 → Comes (.engineInval n req t) t s (Flies n r .inval)) ∧
      (reqSel r = 1 → Comes (.engineInval n req t) t s (fun s u => Delivers n r Code.OK 0 s u ∧
        u.ep.rcache = s.ep.rcache.filter (fun l => l.chan != reqChan r)))) ∧
    (reqKind r = 8 →
      (reqLctr r = 0 ∨ reqValue r % 2 ^ 48 ≤ v.lctr (reqLctr r) → Comes (.engineWait n req t) t s (Delivers n r Code.OK 0)) ∧
      (reqLctr r ≠ 0 → v.lctr (reqLctr r) < reqValue r % 2 ^ 48 → Comes (.engineWait n req t) t s (Flies n r .waitCtr))))

/-- O51. A module that trains joins MODULES_UP and makes STATE up; one that fails leaves it, is reported and counted,
and the last one clears STATE. Over an attach with a trained module the compute die's acknowledgement ends a waiting
access, which is applied to accelerator memory now and answered; over one with none nothing happens. An AMO that the
compute die carries out itself is answered so; of any other the
read is acknowledged first, and its answer waits for the acknowledgement of the write of the new value (R136, R381). A weight segment whose two READs are in and whose tag verifies lands its
plaintext and counts the 512 units; one whose tag fails, or whose slot is gone, lands nothing. A host invalidation of
the read cache, before which one that is pending takes effect, is pending until its completion, which drops the channel's lines, or every line, and completes every
INVAL ALL. An ordered-flow reset discards and counts what the flows held and frees their entries, and is pending until
its completion. What log 51 chooses is the model's.
(R136, R367, R381, R382, R383, R384, R385, R408, R409) -/
def Obligations.EndPointUnits : Prop := ∀ (m t src chan id slot seg : Nat) (s : State),
  let up := s.get .ep F.EP_UCIE_STATUS_MODULES_UP
  (m < 8 →
    (Does (.ucieModuleTrained m t) t s (fun a =>
      (a.set .ep F.EP_UCIE_STATUS_MODULES_UP (setBit up m true)).set .ep F.EP_UCIE_STATUS_STATE 2)) ∧
    (bitOf up m = false → Does (.moduleDown m t) t s (fun a => a)) ∧
    (bitOf up m = true → Ends (.moduleDown m t) t s (fun s u =>
      u.get .ep F.EP_UCIE_STATUS_MODULES_UP = up - 2 ^ m ∧ u.get .ep F.EP_EVENT_STATUS_MODULE_DOWN = 1 ∧
      u.get .ep F.EP_UCIE_STATUS_STATE = (if up = 2 ^ m then 0 else s.get .ep F.EP_UCIE_STATUS_STATE) ∧
      SMap.at 0 (u.dev .ep).counters 0xD65 = (SMap.at 0 (s.dev .ep).counters 0xD65 + 1) % 2 ^ 48))) ∧
  (∀ (i : Inbox) (a x : Nat) (e : Ecc), (s.dev .ep).waiting.find? (fun w => w.on == .die id) = some ⟨.packet i, .die id, some (a, x), e⟩ →
    up ≠ 0 →
    (∀ bytes en, accessOf i.pkt = .write bytes en → Leaves (.computeDieAcknowledge id [] t) t s (fun b =>
      (b.modDev .ep (fun v => { v with
        waiting := v.waiting.filter (fun w => w.on != .die id), mem := Memory.setEnabled v.mem a bytes en })).applied .ep i [])) ∧
    (∀ k, accessOf i.pkt = .read k → Leaves (.computeDieAcknowledge id [] t) t s (fun b =>
      (b.modDev .ep (fun v => { v with waiting := v.waiting.filter (fun w => w.on != .die id) })).applied .ep i
        (Memory.bytes (b.dev .ep).mem a k))) ∧
    (∀ op v1 v2, accessOf i.pkt = .amo op v1 v2 →
      (x = 0 → Config.dieAtomic op = true → Leaves (.computeDieAcknowledge id [] t) t s (fun b =>
        let r := Memory.access (b.dev .ep).mem a (.amo op v1 v2)
        (b.modDev .ep (fun v => { v with waiting := v.waiting.filter (fun w => w.on != .die id), mem := r.2 })).applied .ep i r.1)) ∧
      (x = 0 → Config.dieAtomic op = false → Leaves (.computeDieAcknowledge id [] t) t s (fun b =>
        let v := b.dev .ep
        let n := v.nextDie + 1
        let r := Memory.access v.mem a (.amo op v1 v2)
        (b.setDev .ep { v with
          nextDie := n, mem := r.2,
          waiting := v.waiting.filter (fun w => w.on != .die id) ++ [⟨.packet i, .die n, some (a, ofLe r.1 + 1), .clean⟩] }).emit
            (.dieWrite n a (Memory.bytes r.2 a 8)))) ∧
      (∀ y, x = y + 1 → Leaves (.computeDieAcknowledge id [] t) t s (fun b =>
        (b.modDev .ep (fun v => { v with waiting := v.waiting.filter (fun w => w.on != .die id) })).applied .ep i
          (leBytes 16 y))))) ∧
  (up = 0 ∨ (s.dev .ep).waiting.find? (fun w => w.on == .die id) = none →
    Leaves (.computeDieAcknowledge id [] t) t s (fun a => a)) ∧
  (∀ own : List (Nat × Byte), exec (.computeDieAcknowledge id own t) s = exec (.computeDieAcknowledge id [] t)
    (s.modDev .ep (fun v => { v with mem := own.foldl (fun m x => Memory.setByte m x.1 x.2) v.mem }))) ∧
  (slot < 16 → s.ep.segs.find? (fun g => g.slot == slot && g.seg == seg && g.data.isSome && g.tag.isSome) = none →
    Leaves (.weightSegmentVerify slot seg t) t s (fun a => a)) ∧
  (slot < 16 → ∀ (g : Segment) (w : WeightSlot),
    s.ep.segs.find? (fun g => g.slot == slot && g.seg == seg && g.data.isSome && g.tag.isSome) = some g →
    (s.ep.weights.find? (fun w => w.slot == slot) = some w → g.dead = false → g.failed = 0 →
      ∀ plain, Config.gcmOpen w.key (w.object + seg * 2 ^ 32) [] (g.data.getD []) (g.tag.getD []) = some plain →
        Comes (.weightSegmentVerify slot seg t) t s (fun s u =>
          (u.dev .ep).mem = Memory.setBytes (s.dev .ep).mem g.dest plain ∧
          (g.lctr ≠ 0 → (u.dev .ep).lctr g.lctr = ((s.dev .ep).lctr g.lctr + 512) % 2 ^ 48) ∧
          u.ep.segs = s.ep.segs.filter (fun x => x.num != g.num) ∧ .dieWrite 0 g.dest plain ∈ u.out)) ∧
    (s.ep.weights.find? (fun w => w.slot == slot) = none ∨ g.dead = true ∨ g.failed ≠ 0 →
      Leaves (.weightSegmentVerify slot seg t) t s (fun a =>
        (a.modEp (fun e => { e with segs := e.segs.filter (fun x => x.num != g.num) })).modDev .ep (fun v =>
          v.jobPart g.job (if g.failed ≠ 0 then g.failed else Code.UNSUPPORTED)))) ∧
    (s.ep.weights.find? (fun w => w.slot == slot) = some w → g.dead = false → g.failed = 0 →
      Config.gcmOpen w.key (w.object + seg * 2 ^ 32) [] (g.data.getD []) (g.tag.getD []) = none →
        Comes (.weightSegmentVerify slot seg t) t s (fun s u => (g.lctr < 65536 → (u.dev .ep).lctr g.lctr = (s.dev .ep).lctr g.lctr) ∧
          (s.get .ep F.MEM_RFAULT_CTRL_ENABLE = 0 → (u.dev .ep).mem = (s.dev .ep).mem) ∧
          u.ep.segs = s.ep.segs.filter (fun x => x.num != g.num) ∧
          (∀ j, (s.dev .ep).jobs.find? (fun j => j.id == g.job) = some j → ∃ j', (u.dev .ep).jobs.find? (fun j => j.id == g.job) = some j' ∧
            j'.left = j.left - 1 ∧ j'.code = worse j.code Code.UNSUPPORTED) ∧
          SMap.at 0 (u.dev .ep).counters 0xD66 = (SMap.at 0 (s.dev .ep).counters 0xD66 + 1) % 2 ^ 48))) ∧
  (Up s .ep → s.ep.rcInv = none →
    (chan < 2 ^ 20 → Does (.rcacheInvChannel chan t) t s (fun a =>
      (a.modEp (fun e => { e with rcInv := some (some chan) })).set .ep F.EP_RCACHE_STATUS_PENDING 1)) ∧
    Does (.rcacheInvAll t) t s (fun a =>
      (a.modEp (fun e => { e with rcInv := some none })).set .ep F.EP_RCACHE_STATUS_PENDING 1)) ∧
  (Up s .ep → ∀ was, s.ep.rcInv = some was →
    ∀ c ∈ (.rcacheInvAll t, none) :: (if chan < 2 ^ 20 then [((.rcacheInvChannel chan t, some chan) : Instr × Option Nat)] else []),
      Ends c.1 t s (fun s u => u.ep.rcInv = some c.2 ∧ u.get .ep F.EP_RCACHE_STATUS_PENDING = 1 ∧
        u.ep.rcache = s.ep.rcache.filter (fun l => was.any (fun k => l.chan != k)))) ∧
  (Comes (.readCacheInvalidationComplete t) t s (fun s u => u.ep.rcInv = none ∧
    (∀ c, s.ep.rcInv = some (some c) → (∀ f ∈ s.ep.flights, f.stage ≠ .inval) →
      u.get .ep F.EP_RCACHE_STATUS_PENDING = 0 ∧ u.ep.rcache = s.ep.rcache.filter (fun l => l.chan != c)) ∧
    (s.ep.rcInv = some none → u.get .ep F.EP_RCACHE_STATUS_PENDING = 0 ∧ u.ep.rcache = []) ∧
    ((∃ f ∈ s.ep.flights, f.stage = .inval) → u.ep.rcache = []) ∧
    (∀ f ∈ s.ep.flights, f.stage = .inval → ∀ g ∈ u.ep.flights, g.idx ≠ f.idx) ∧
    ∀ f ∈ s.ep.flights, (∀ g ∈ s.ep.flights, g.stage = .inval → g.idx ≠ f.idx) → f ∈ u.ep.flights)) ∧
  (Up s .ep → src < 4096 →
    (chan < 2 ^ 20 → Ends (.ordResetFlow src chan t) t s (fun s u =>
      u.ep.rflows = s.ep.rflows.filter (fun f => ! (f.src == src && f.chan == chan)) ∧
      u.ep.ordReset = some (src, some chan) ∧ u.get .ep F.EP_ORD_STATUS_PENDING = 1)) ∧
    Ends (.ordResetAllFlows src t) t s (fun s u =>
      u.ep.rflows = s.ep.rflows.filter (fun f => f.src != src) ∧
      u.ep.ordReset = some (src, none) ∧ u.get .ep F.EP_ORD_STATUS_PENDING = 1 ∧
      SMap.at 0 (u.dev .ep).counters 0xD64 = (SMap.at 0 (s.dev .ep).counters 0xD64
        + ((s.ep.rflows.filter (fun f => f.src == src)).map (fun f => f.held.length)).sum) % 2 ^ 48)) ∧
  (s.ep.ordReset ≠ none → Does (.ordResetComplete t) t s (fun a =>
    (a.modEp (fun e => { e with ordReset := none })).set .ep F.EP_ORD_STATUS_PENDING 0)) ∧
  (s.ep.ordReset = none → Does (.ordResetComplete t) t s (fun a => a))

/-- A transport of a part: DOE or a management datagram of TYPE 0x30 at a switch, the attach at an end-point. -/
def Sys2Proof.Claims.Carries (d : Part) (via : Transport) : Prop :=
  (d = .sw ∧ (via = .doe ∨ ∃ q, via = .mgmt q ∧ mh q.hdr 103 96 = 0x30)) ∨ (d = .ep ∧ via = .attach)

/-- What a transport brings is taken: any message over DOE, or over an attach that runs (R367), and a new
request that R358 lets in. -/
def Sys2Proof.Claims.Brought (s : State) (via : Transport) : Prop :=
  (∀ q, via = .mgmt q → MgmtNew s q) ∧ (via = .attach → s.attachOn = true)

/-- A message that a transport brings leaves what `f` makes of the state, answered over that transport. -/
def Sys2Proof.Claims.DoesBy (via : Transport) (i : Instr) (t : Nat) (s : State) (f : State → State) : Prop :=
  Does i t s (fun a => a.carried via f)

/-- The same, once what is then complete has ended (log 16). -/
def Sys2Proof.Claims.LeavesBy (via : Transport) (i : Instr) (t : Nat) (s : State) (f : State → State) : Prop :=
  Leaves i t s (fun a => a.carried via f)

/-- A message that is taken answers a next state: that of an effect which stands in a relation to the state at that time,
answered over its transport. -/
def Sys2Proof.Claims.EndsBy (via : Transport) (i : Instr) (t : Nat) (s : State) (P : State → State → Prop) : Prop :=
  Brought s via → ∃ u, P (s.tick t) u ∧ exec i s = .next ((s.tick t).keep ((s.tick t).answerBy via u))

/-- The same, once what is then complete has ended (log 16). -/
def Sys2Proof.Claims.ComesBy (via : Transport) (i : Instr) (t : Nat) (s : State) (P : State → State → Prop) : Prop :=
  Brought s via → ∃ u, P (s.tick t) u ∧ exec i s = .next ((s.tick t).keep ((s.tick t).answerBy via u).settle)

/-- A command in an established session, on the session's transport, of a part that removes no tenant. -/
def Sys2Proof.Claims.Session_ (s : State) (d : Part) (m : SesMsg) (x : Session) : Prop :=
  s.session d m.id = some x ∧ x.tr = m.via.num ∧ x.open_ = true ∧ (s.isl d).removing = []

/-- The island answers OK. -/
def Sys2Proof.Claims.SaysOk (d : Part) (ses : Nat) (s u : State) : Prop := u.out = s.out ++ [.island d ses 0 []]

/-- A command of Table 15.5 of a session, with the credential that the table names; `bad` says that its bytes are
malformed. -/
def Sys2Proof.Claims.IslandCmd (m : SesMsg) (bad : Bool) (k key q n t : Nat) (d : Part) (c : Instr) (who : Cred) : Prop :=
  (d = .sw ∧ ((c = .ownerSet m bad key t ∧ who = .any) ∨ (c = .tenantCreate m bad k key t ∧ who = .owner) ∨
    (c = .progkeyAdd m bad k key t ∧ who = progCred k) ∨ (c = .progkeyDel m bad k key t ∧ who = progCred k) ∨
    (c = .rollbackSet m bad q n t ∧ who = .owner) ∨ (c = .epochAdvance m bad k t ∧ who = .ownerOr k) ∨
    (c = .queueKeyGet m bad k q n t ∧ who = .tenant k) ∨ (c = .debugOpen m bad t ∧ who = .owner))) ∨
  (d = .ep ∧ c = .weightKeyPut m bad key q n n q k t ∧ who = .any)

/-- The commands of Table 15.5 whose answer other things may follow. -/
def Sys2Proof.Claims.IslandCmdEnds (m : SesMsg) (bad : Bool) (k t : Nat) (d : Part) (c : Instr) (who : Cred) : Prop :=
  (d = .sw ∧ ((c = .ownerClear m bad t ∧ who = .owner) ∨ (c = .tenantRemove m bad k t ∧ who = .ownerOr k) ∨
    (c = .epochRetire m bad k t ∧ who = .ownerOr k) ∨ (c = .confEnter m bad t ∧ who = .owner) ∨
    (c = .confExit m bad t ∧ who = .owner))) ∨
  (d = .ep ∧ c = .weightKeyDestroy m bad k t ∧ who = .any)

/-- O52. A message reaches the island by its part's transport; a management datagram that R358 does not let in is dropped,
and one that repeats a SEQ gets the kept reply. On another transport than its session's a message has no effect. Outside an
established session a command is answered DENIED, during a removal BUSY, from another credential
than Table 15.5 names DENIED, and malformed BAD, with no other effect; DENIED and STATE at a switch set CMD_REFUSED.
From the right credential: OWNER_SET, TENANT_CREATE, TENANT_REMOVE, PROGKEY_ADD, PROGKEY_DEL, ROLLBACK_SET,
EPOCH_ADVANCE, EPOCH_RETIRE, QUEUE_KEY_GET, CONF_ENTER, CONF_EXIT, DEBUG_OPEN, OWNER_CLEAR, WEIGHT_KEY_PUT and
WEIGHT_KEY_DESTROY do what the table gives where their precondition holds, and are answered STATE where it does not;
tenant 0 is never removed. With its epoch or its tenant a queue's key goes (Table 15.3). CONF_ENTER undoes a passed check that
stages LOCATION 1 (DEDUCED, log 56). A
TENANT_REMOVE is answered once the tenant's tiles have been zeroed: then they are all unmapped, the tenant is
gone, and no session speaks for it. What logs 50 and 56 choose is the model's.
(R354, R393, R395, R400, R401, R403, R404, R407, R410, R412, Table 15.3, Table 15.5) -/
def Obligations.IslandCommands : Prop := ∀ (m : SesMsg) (k key t : Nat) (s : State), let ses := m.id
  (∀ bad d c who q n, IslandCmd m bad k key q n t d c who →
    (∀ g, m.via = .mgmt g → Carries d m.via → s.mgmtOn = true → s.get .sw F.CFG_BOOT_STATUS_STAGE ≠ 15 →
      (s.mgmtTakes g = false → Does c t s (fun a => (a.hifErr F.HIF_ERR_MGMT_DROP).count .sw 0xC9B 1)) ∧
      (∀ y, s.mgmtTakes g = true → s.sw.hif.replies.find? (fun y => y.src == g.src && y.seq == mh g.hdr 95 64) = some y →
        Does c t s (fun a => a.emits y.out))) ∧
    (Carries d m.via → (∀ x, s.session d ses = some x → x.tr ≠ m.via.num → DoesBy m.via c t s (fun a => a)) ∧
      ((∀ x, s.session d ses = some x → x.tr = m.via.num ∧ x.open_ = false) → DoesBy m.via c t s (fun a => a.islandAns d ses 1 [])) ∧
      (∀ x, s.session d ses = some x → x.tr = m.via.num → x.open_ = true → (s.isl d).removing ≠ [] → DoesBy m.via c t s (fun a => a.islandAns d ses 4 [])) ∧
      (∀ x, Session_ s d m x → (x.may who = false → DoesBy m.via c t s (fun a => a.islandAns d ses 1 [])) ∧
      (x.may who = true → bad = true → DoesBy m.via c t s (fun a => a.islandAns d ses 2 []))))) ∧
  (∀ bad d c who, IslandCmdEnds m bad k t d c who →
    (∀ g, m.via = .mgmt g → Carries d m.via → s.mgmtOn = true → s.get .sw F.CFG_BOOT_STATUS_STAGE ≠ 15 →
      (s.mgmtTakes g = false → Leaves c t s (fun a => (a.hifErr F.HIF_ERR_MGMT_DROP).count .sw 0xC9B 1)) ∧
      (∀ y, s.mgmtTakes g = true → s.sw.hif.replies.find? (fun y => y.src == g.src && y.seq == mh g.hdr 95 64) = some y →
        Leaves c t s (fun a => a.emits y.out))) ∧
    (Carries d m.via → (∀ x, s.session d ses = some x → x.tr ≠ m.via.num → LeavesBy m.via c t s (fun a => a)) ∧
      ((∀ x, s.session d ses = some x → x.tr = m.via.num ∧ x.open_ = false) → LeavesBy m.via c t s (fun a => a.islandAns d ses 1 [])) ∧
      (∀ x, s.session d ses = some x → x.tr = m.via.num → x.open_ = true → (s.isl d).removing ≠ [] → LeavesBy m.via c t s (fun a => a.islandAns d ses 4 [])) ∧
      (∀ x, Session_ s d m x → (x.may who = false → LeavesBy m.via c t s (fun a => a.islandAns d ses 1 [])) ∧
      (x.may who = true → bad = true → LeavesBy m.via c t s (fun a => a.islandAns d ses 2 []))))) ∧
  (∀ x, Carries .sw m.via → Session_ s .sw m x → let isl := s.isl .sw
    let state : State → State := fun a => a.islandAns .sw ses 3 []
    let made (j : Nat) (s u : State) : Prop := SaysOk .sw ses s u ∧ u.get .sw (F.SEC_TENANT_EXISTS j) = 1 ∧
      u.get .sw (F.SEC_TENANT_LIVE_EPOCH j) = 0 ∧ u.get .sw (F.SEC_TENANT_PREV_HELD j) = 0 ∧
      SMap.at none (u.isl .sw).masters j = some s.fresh ∧ u.fresh = s.fresh + 1
    (x.tr = 0 → isl.owner = none → EndsBy m.via (.ownerSet m false key t) t s (fun s u => made 0 s u ∧
      (u.isl .sw).owner = some key ∧ u.get .sw F.SEC_MODE_OWNED = 1)) ∧
    (x.tr = 0 → isl.owner ≠ none → DoesBy m.via (.ownerSet m false key t) t s state) ∧
    (x.tr ≠ 0 → DoesBy m.via (.ownerSet m false key t) t s (fun a => a.islandAns .sw ses 1 [])) ∧
    (x.role = some .owner →
      ComesBy m.via (.ownerClear m false t) t s (fun s u => SaysOk .sw ses s u ∧ (u.isl .sw).clearDue = true ∧
        (u.isl .sw).owner = (s.isl .sw).owner) ∧
      (1 ≤ k → k ≤ 63 →
        (s.exists_ k = false → EndsBy m.via (.tenantCreate m false k key t) t s (fun s u => made k s u ∧
          SMap.at none (u.isl .sw).creds k = some key)) ∧
        (s.exists_ k = true → DoesBy m.via (.tenantCreate m false k key t) t s state)) ∧
      (k = 0 ∨ 63 < k → DoesBy m.via (.tenantCreate m false k key t) t s (fun a => a.islandAns .sw ses 2 [])) ∧
      (∀ p n, p < 2 ^ 32 → n < 2 ^ 32 →
        (isl.minOf p ≤ n → isl.minima.length < 1024 → EndsBy m.via (.rollbackSet m false p n t) t s (fun s u => SaysOk .sw ses s u ∧
          (u.isl .sw).minOf p = n ∧ ∀ r, r ≠ p → (u.isl .sw).minOf r = (s.isl .sw).minOf r)) ∧
        (n < isl.minOf p ∨ (1024 ≤ isl.minima.length ∧ SMap.at 0 isl.minima p = 0) →
          DoesBy m.via (.rollbackSet m false p n t) t s state) ∧
        (isl.minOf p ≤ n → SMap.at 0 isl.minima p ≠ 0 → EndsBy m.via (.rollbackSet m false p n t) t s (fun s u =>
          SaysOk .sw ses s u ∧ (u.isl .sw).minOf p = n))) ∧
      (s.confReady = true → LeavesBy m.via (.confEnter m false t) t s (fun a =>
        ((a.set .sw F.SEC_MODE_CONF 1).modDev .sw (fun v =>
          if v.pot F.HIF_CHAN_BASE_LOCATION = 1 then { v with potPassed := false } else v)).islandAns .sw ses 0 [])) ∧
      (s.confReady = false → LeavesBy m.via (.confEnter m false t) t s state) ∧
      ((∀ j, 1 ≤ j → j < 64 → s.exists_ j = false) →
        LeavesBy m.via (.confExit m false t) t s (fun a => (a.set .sw F.SEC_MODE_CONF 0).islandAns .sw ses 0 [])) ∧
      (1 ≤ k → k < 64 → s.exists_ k = true → LeavesBy m.via (.confExit m false t) t s state) ∧
      (s.conf = true → DoesBy m.via (.debugOpen m false t) t s (fun a => a.islandAns .sw ses 1 [])) ∧
      (s.conf = false → DoesBy m.via (.debugOpen m false t) t s (fun a => (a.set .sw F.SEC_MODE_DEBUG_OPEN 1).islandAns .sw ses 0 []))) ∧
    (k ≤ 63 → x.may (.ownerOr k) = true →
      (k ≠ 0 → s.exists_ k = true → s.removable k = true → ComesBy m.via (.tenantRemove m false k t) t s (fun s u => u.out = s.out ∧
        SMap.at none (u.isl .sw).masters k = none ∧ (u.isl .sw).removing = [(k, m)] ∧
        (∀ q < 1024, (s.get .sw (F.HIF_SQ_B_FUNC q) = k → SMap.at none u.sw.hif.queueKeys q = none) ∧
          (s.get .sw (F.HIF_CQ_B_FUNC q) = k → SMap.at none u.sw.hif.queueKeys (1024 + q) = none)) ∧
        u.get .sw (F.SEC_TENANT_REMOVING k) = 1)) ∧
      (k = 0 ∨ s.exists_ k = false ∨ s.removable k = false → LeavesBy m.via (.tenantRemove m false k t) t s state) ∧
      (s.exists_ k = true → s.get .sw (F.SEC_TENANT_PREV_HELD k) = 0 → EndsBy m.via (.epochAdvance m false k t) t s (fun s u =>
        SaysOk .sw ses s u ∧ u.get .sw (F.SEC_TENANT_PREV_HELD k) = 1 ∧
        u.get .sw (F.SEC_TENANT_PREV_EPOCH k) = s.get .sw (F.SEC_TENANT_LIVE_EPOCH k) ∧
        u.get .sw (F.SEC_TENANT_LIVE_EPOCH k) = (s.get .sw (F.SEC_TENANT_LIVE_EPOCH k) + 1) % 256)) ∧
      (s.exists_ k = false ∨ s.get .sw (F.SEC_TENANT_PREV_HELD k) = 1 → DoesBy m.via (.epochAdvance m false k t) t s state) ∧
      (s.exists_ k = true → s.get .sw (F.SEC_TENANT_PREV_HELD k) = 1 → ComesBy m.via (.epochRetire m false k t) t s (fun s u =>
        SaysOk .sw ses s u ∧ u.get .sw (F.SEC_TENANT_PREV_HELD k) = 0 ∧
        ∀ q < 1024, let old := s.get .sw (F.SEC_TENANT_PREV_EPOCH k)
          let hit := s.get .sw (F.HIF_SQ_B_FUNC q) = k ∧ s.get .sw (F.HIF_SQ_B_ENABLE q) = 1 ∧
            (SMap.at none s.sw.hif.queueKeys q).map (fun x => x.1) = some old
          (hit → u.get .sw (F.HIF_SQ_B_ENABLE q) = 0 ∧ u.get .sw F.SEC_STATUS_QUEUE_RETIRED = 1 ∧
            ∀ m ∈ u.sw.hif.cmds, m.q = q → m.silent = true) ∧
          (¬ hit → u.get .sw (F.HIF_SQ_B_ENABLE q) = s.get .sw (F.HIF_SQ_B_ENABLE q)) ∧
          u.get .sw (F.HIF_CQ_B_ENABLE q) = (if s.get .sw (F.HIF_CQ_B_FUNC q) = k ∧
            (SMap.at none s.sw.hif.queueKeys (1024 + q)).map (fun x => x.1) = some old then 0
            else s.get .sw (F.HIF_CQ_B_ENABLE q)))) ∧
      (s.exists_ k = false ∨ s.get .sw (F.SEC_TENANT_PREV_HELD k) = 0 → LeavesBy m.via (.epochRetire m false k t) t s state)) ∧
    (k ≤ 63 → x.may (progCred k) = true → let ks := SMap.at [] isl.progKeys k
      (s.exists_ k = true → ks.length < 8 → key ∉ ks → EndsBy m.via (.progkeyAdd m false k key t) t s (fun s u => SaysOk .sw ses s u ∧
        SMap.at [] (u.isl .sw).progKeys k = ks ++ [key] ∧ u.get .sw (F.SEC_TENANT_PROG_KEYS k) = ks.length + 1)) ∧
      (s.exists_ k = true → ks.length < 8 → key ∈ ks → EndsBy m.via (.progkeyAdd m false k key t) t s (fun s u => SaysOk .sw ses s u ∧
        SMap.at [] (u.isl .sw).progKeys k = ks ∧ u.get .sw (F.SEC_TENANT_PROG_KEYS k) = ks.length)) ∧
      (s.exists_ k = false ∨ 8 ≤ ks.length → DoesBy m.via (.progkeyAdd m false k key t) t s state) ∧
      (key ∈ ks → ks.length ≤ 8 → EndsBy m.via (.progkeyDel m false k key t) t s (fun s u => SaysOk .sw ses s u ∧
        SMap.at [] (u.isl .sw).progKeys k = ks.erase key ∧ u.get .sw (F.SEC_TENANT_PROG_KEYS k) = ks.length - 1)) ∧
      (key ∉ ks → DoesBy m.via (.progkeyDel m false k key t) t s state)) ∧
    (∀ q kind, k ≤ 63 → x.may (.tenant k) = true → q < 1024 → kind ≤ 1 →
      (∀ mk, SMap.at none isl.masters k = some mk → DoesBy m.via (.queueKeyGet m false k q kind t) t s (fun a =>
        a.islandAns .sw ses 0 [queueKey (some mk) (s.get .sw (F.SEC_TENANT_LIVE_EPOCH k)) q kind,
          s.get .sw (F.SEC_TENANT_LIVE_EPOCH k)])) ∧
      (SMap.at none isl.masters k = none → DoesBy m.via (.queueKeyGet m false k q kind t) t s state))) ∧
  (k < 64 → (s.tiers.dir.map (fun e => e.1)).Pairwise (· < ·) → ∀ j, (s.isl .sw).removing.find? (fun y => y.1 == k) = some (k, j) →
    ∃ u : State, exec (.tenantZeroingDone k t) s = .next ((s.tick t).keep ((s.tick t).answerBy j.via u).tileCmds.settle) ∧
      u.out = s.out ++ [.island .sw j.id 0 []] ∧ u.get .sw (F.SEC_TENANT_EXISTS k) = 0 ∧ u.get .sw F.SEC_STATUS_REMOVE_DONE = 1 ∧
      SMap.at none (u.isl .sw).creds k = none ∧ SMap.at [] (u.isl .sw).progKeys k = [] ∧
      (∀ y ∈ (u.isl .sw).removing, y.1 ≠ k) ∧
      (u.isl .sw).sessions = (s.isl .sw).sessions.map (fun y => if y.role = some (.tenant k) then { y with role := none } else y) ∧
      ∀ i, u.tile i = if (s.tile i).mapped = true ∧ (s.tile i).tenant = k then Tile.unmapped else s.tile i) ∧
  ((s.isl .sw).removing.find? (fun y => y.1 == k) = none → Leaves (.tenantZeroingDone k t) t s (fun a => a.tileCmds)) ∧
  (∀ x, Carries .ep m.via → Session_ s .ep m x → ∀ object base size tagBase : Nat,
    let used := s.ep.weights.map (fun w => w.slot)
    let overlap := s.ep.weights.any (fun w => decide (base < w.base + 8192 * w.size) && decide (w.base < base + 8192 * size))
    (base % 8192 = 0 → tagBase % 16 = 0 → k ≤ 63 → 0 < size →
      (overlap = false → (∃ j < 16, j ∉ used) →
        EndsBy m.via (.weightKeyPut m false key object base size tagBase k t) t s (fun s u => ∃ slot, slot < 16 ∧ slot ∉ used ∧
          u.ep.weights = s.ep.weights ++ [⟨slot, key, object, base, size, tagBase, k⟩] ∧
          u.out = s.out ++ [.island .ep ses 0 [slot]])) ∧
      (overlap = true ∨ (∀ j < 16, j ∈ used) →
        DoesBy m.via (.weightKeyPut m false key object base size tagBase k t) t s (fun a => a.islandAns .ep ses 3 []))) ∧
    (base % 8192 ≠ 0 ∨ tagBase % 16 ≠ 0 ∨ 63 < k ∨ size = 0 →
      DoesBy m.via (.weightKeyPut m false key object base size tagBase k t) t s (fun a => a.islandAns .ep ses 2 [])) ∧
    (16 ≤ k → LeavesBy m.via (.weightKeyDestroy m false k t) t s (fun a => a.islandAns .ep ses 2 [])) ∧
    (k < 16 → ComesBy m.via (.weightKeyDestroy m false k t) t s (fun s u => SaysOk .ep ses s u ∧
      u.ep.weights = s.ep.weights.filter (fun w => w.slot != k) ∧
      u.ep.segs = s.ep.segs.map (fun g => if g.slot = k then { g with dead := true } else g))))

/-- A response that the island signs: its transcript hash is a free value, which it keeps. -/
def Sys2Proof.Claims.Signs (d : Part) (tr : Nat) (rsp : Nat → SpdmRsp) (a : State) : State :=
  let h := Config.transcript a.fresh
  (a.draw.modIsl d (fun i => { i with signed := SMap.put none i.signed tr (some h) })).emit (.spdm d tr (rsp h))

/-- O53. Each answer leaves over the transport of its request. GET_VERSION starts the negotiation of a transport; GET_CAPABILITIES and NEGOTIATE_ALGORITHMS carry it on;
before their turn they, and before its end every later request, are answered UNEXPECTED_REQUEST (the codes are log
14's). After it: the digests and the chain of three certificates of slot 0, a signed CHALLENGE and signed measurements, and KEY_EXCHANGE,
which begins a session where the transport has none and fewer than four exist. FINISH establishes the session, or ends
it where it does not verify; END_SESSION ends it; a heartbeat is answered; in a session that is not established these are
answered UNEXPECTED_REQUEST, and in none, or over another transport than the session's, have no effect. HYBRID_SIG sends an envelope of the alias key over the transcript hash last
signed; PEER_SIG gives the session its role where the envelope verifies, with the class of its key, under the credential that
FINISH used and that the island has registered. What logs 10, 14 and 50 choose is the model's.
(R391, R397, R398, R399, Table 15.2, Table 15.4) -/
def Obligations.SpdmResponder : Prop := ∀ (d : Part) (via : Transport) (m : SesMsg) (t : Nat) (s : State),
  (Carries d via → let tr := via.num
    let stage := (s.isl d).stageOf tr
    let say (r : SpdmRsp) : State → State := fun a => a.emit (.spdm d tr r)
    let to_ (n : Nat) (r : SpdmRsp) : State → State := fun a =>
      (a.modIsl d (fun i => { i with stage := SMap.put 0 i.stage tr n })).emit (.spdm d tr r)
    (DoesBy via (.getVersion d via t) t s (to_ 1 .version)) ∧
    (1 ≤ stage → DoesBy via (.getCapabilities d via t) t s (to_ 2 .capabilities)) ∧
    (stage = 0 → DoesBy via (.getCapabilities d via t) t s (say (.error 4))) ∧
    (2 ≤ stage → DoesBy via (.negotiateAlgorithms d via true t) t s (to_ 3 .algorithms)) ∧
    (2 ≤ stage → DoesBy via (.negotiateAlgorithms d via false t) t s (say (.error 1))) ∧
    (stage < 2 → ∀ b, DoesBy via (.negotiateAlgorithms d via b t) t s (say (.error 4))) ∧
    (stage < 3 → ∀ n b, DoesBy via (.getDigests d via t) t s (say (.error 4)) ∧ DoesBy via (.getCertificate d via n t) t s (say (.error 4)) ∧
      DoesBy via (.challenge d via n t) t s (say (.error 4)) ∧ DoesBy via (.getMeasurements d via n t) t s (say (.error 4)) ∧
      DoesBy via (.keyExchange d via n b t) t s (say (.error 4))) ∧
    (3 ≤ stage →
      DoesBy via (.getDigests d via t) t s (say .digests) ∧
      DoesBy via (.getCertificate d via 0 t) t s (fun a => say (.certificate 0 (certChain d (a.aliasKey d))) a) ∧
      DoesBy via (.challenge d via 0 t) t s (Signs d tr (fun h => .challengeAuth 0 h)) ∧
      (∀ n, n ≠ 0 → DoesBy via (.getCertificate d via n t) t s (say (.error 1)) ∧ DoesBy via (.challenge d via n t) t s (say (.error 1))) ∧
      (∀ n m, n ≠ 0xFF → s.measurement d n = some m →
        DoesBy via (.getMeasurements d via n t) t s (Signs d tr (fun h => .measurements [(n, m)] h))) ∧
      (∀ n, n ≠ 0xFF → s.measurement d n = none → DoesBy via (.getMeasurements d via n t) t s (say (.error 1))) ∧
      (DoesBy via (.getMeasurements d via 0xFF t) t s (Signs d tr (fun h =>
        .measurements ((match d with | .sw => [1, 2, 3, 4, 5, 6] | .ep => [1, 3, 5, 6]).filterMap (fun n =>
          (s.measurement d n).map (fun m => (n, m)))) h))) ∧
      (∀ b, (∀ x ∈ (s.isl d).sessions, x.tr ≠ tr) → (s.isl d).sessions.length < 4 →
        DoesBy via (.keyExchange d via 0 b t) t s (fun a => let n := (a.isl d).nextSession
          Signs d tr (fun h => .keyExchange n h) (a.modIsl d (fun i => { i with
            nextSession := n + 1, sessions := i.sessions ++ [⟨n, tr, false, b, none, 0, none⟩] })))) ∧
      (∀ b, (∃ x ∈ (s.isl d).sessions, x.tr = tr) ∨ 4 ≤ (s.isl d).sessions.length →
        DoesBy via (.keyExchange d via 0 b t) t s (say (.error 0xA))) ∧
      (∀ n b, n ≠ 0 → DoesBy via (.keyExchange d via n b t) t s (say (.error 1)))) ∧
    (∀ h, SMap.at none (s.isl d).signed tr = some h → DoesBy via (.hybridSig d via t) t s (fun a =>
      say (.hybridSig (envelope 5 4 (a.aliasKey d) h)) a)) ∧
    (SMap.at none (s.isl d).signed tr = none → DoesBy via (.hybridSig d via t) t s (say (.error 4)))) ∧
  (Carries d m.via → s.session d m.id = none ∨ (∃ x, s.session d m.id = some x ∧ x.tr ≠ m.via.num) →
    ∀ (ok : Bool) (cred : Option Nat) (env : List Byte), ∀ c ∈ [Instr.finish d m ok cred t, .endSession d m t, .spdmHeartbeat d m t, .peerSig d m env t],
      DoesBy m.via c t s (fun a => a)) ∧
  (Carries d m.via → ∀ x, let ses := m.id
    s.session d ses = some x → x.tr = m.via.num →
    let say (r : SpdmRsp) : State → State := fun a => a.emit (.spdm d x.tr r)
    let ended : State → State := fun a => a.modIsl d (fun i => { i with sessions := i.sessions.filter (fun y => y.id != ses) })
    (∀ cred, x.open_ = false → EndsBy m.via (.finish d m true cred t) t s (fun s u =>
      u.out = s.out ++ [.spdm d x.tr (.finish ses)] ∧
      u.session d ses = some { x with
        open_ := true, hash := Config.transcript s.fresh, cred := if x.auth then cred else none })) ∧
    (∀ cred, x.open_ = false → DoesBy m.via (.finish d m false cred t) t s (fun a => say (.error 6) (ended a))) ∧
    (∀ ok cred, x.open_ = true → DoesBy m.via (.finish d m ok cred t) t s (say (.error 4))) ∧
    (x.open_ = false → ∀ env : List Byte, ∀ c ∈ [Instr.endSession d m t, .spdmHeartbeat d m t, .peerSig d m env t],
      DoesBy m.via c t s (say (.error 4))) ∧
    (x.open_ = true →
      DoesBy m.via (.endSession d m t) t s (fun a => say (.endSession ses) (ended a)) ∧
      DoesBy m.via (.spdmHeartbeat d m t) t s (say (.heartbeat ses)) ∧
      ∀ env : List Byte,
        (∀ r, x.cred = some (envKey env) → envVerifies env 4 x.hash = true → (s.isl d).roleOf (envKey env) = some r → envClass env = r.cls →
          EndsBy m.via (.peerSig d m env t) t s (fun s u => u.out = s.out ++ [.spdm d x.tr (.peerSig true)] ∧
            u.session d ses = some { x with role := some r })) ∧
        (x.cred ≠ some (envKey env) ∨ envVerifies env 4 x.hash = false ∨ (s.isl d).roleOf (envKey env) = none ∨
            (∀ r, (s.isl d).roleOf (envKey env) = some r → envClass env ≠ r.cls) →
          DoesBy m.via (.peerSig d m env t) t s (say (.peerSig false)))))

/-- A record of a kind on an ACTIVE port that is not HELD, or is and stays so as the device is no member. -/
def Sys2Proof.Claims.Hears (s : State) (d : Part) (p : Nat) (b : HbBody) (kind : Nat) : Prop :=
  p < linkPorts d ∧ s.lnk d p = Lnk.ACTIVE ∧ hbKind b = kind ∧ s.membState d ≠ Mb.OFF ∧
    (s.held d p = false ∨ s.membState d ≠ Mb.MEMBER)

/-- A news record taken: the port is heard, the origin's number kept, and the record forwarded to every other ACTIVE
link and counted. -/
def Sys2Proof.Claims.NewsIn (d : Part) (p : Nat) (b : HbBody) (a : State) : State :=
  ((((a.heard d p).modMemb d (fun m => { m with taken := SMap.put none m.taken (hbOrigin b) (some (hbOseq b)) })).flood d
    (some p) b).count d 0xD03 1).seenCoord d b

/-- The decision records by ACT. -/
def Sys2Proof.Claims.DecisionRow (d : Part) (p : Nat) (b : HbBody) (t : Nat) (c : Instr) (act : Nat) : Prop :=
  (c = .decisionEpoch d p b t ∧ act = 1) ∨ (c = .stepCommit d p b t ∧ act = 2) ∨ (c = .stepReplay d p b t ∧ act = 3) ∨
  (c = .stepRestart d p b t ∧ act = 4) ∨ (c = .decisionLease d p b t ∧ act = 5)

/-- The other news records by KIND. -/
def Sys2Proof.Claims.NewsRow (d : Part) (p : Nat) (b : HbBody) (t : Nat) (c : Instr) (kind : Nat) : Prop :=
  (c = .accuse d p b t ∧ kind = 1) ∨ (c = .fatal d p b t ∧ kind = 2) ∨ (c = .opJoin d p b t ∧ kind = 3) ∨
  (c = .stepReady d p b t ∧ kind = 4) ∨ (c = .stepFail d p b t ∧ kind = 5) ∨ (c = .stepDiscarded d p b t ∧ kind = 6) ∨
  (c = .leaseAck d p b t ∧ kind = 7)

/-- O54. On a port that is not ACTIVE a record changes nothing; where its OSEQ is not newer
than the last taken of its ORIGIN, it only counts as heard, and a device without a membership takes no news. Otherwise it is
forwarded on every other ACTIVE link and
taken, by a FENCED device too: an accusation stands or is withdrawn, and one of this device sets ACCUSED; a FATAL and a JOIN that reports a
passed test are held once; STEP_READY, STEP_FAIL and STEP_DISCARDED are noted with their origin and step; a LEASE_ACK
counts for its renewal. A member applies a decision whose CSEQ is the next, keeps one that is ahead, and ignores one
it has applied, a FENCED device applies none; a device outside is admitted by the EPOCH decision that admits it, and notes whom
the others admit. A BEAT of a partner that is behind
starts its catch-up at a member, or sets STALE_PARTNER where the decision is no longer kept; one of a member more than 64
decisions ahead makes this device STALE. Catch-up sends one decision per HB_US. A BEAT with the device's ROLE, STATE, EPOCH, STEP
and CSEQ goes out on exactly the ACTIVE links that have had none for HB_US, HELD or not; a partner not heard for HB_MISS x HB_US is accused SILENT once. What log 53 chooses is the model's.
(R421, R422, R423, R424, R425, R428,
R431, R432, R433, R435, R439, Table 16.4) -/
def Obligations.MembershipRecords : Prop := ∀ (d : Part) (p t : Nat) (b : HbBody) (s : State),
  (∀ c kind, (NewsRow d p b t c kind ∨ ∃ act, DecisionRow d p b t c act ∧ hbAct b = act ∧ kind = 8) → p < linkPorts d →
    (s.lnk d p ≠ Lnk.ACTIVE ∨ hbKind b ≠ kind → Leaves c t s (fun a => a)) ∧
    (s.lnk d p = Lnk.ACTIVE → hbKind b = kind → s.membState d = Mb.OFF →
      Leaves c t s (fun a => (a.heard d p).unhold d p b)) ∧
    (Hears s d p b kind → s.takes d b = false → Leaves c t s (fun a => a.heard d p))) ∧
  (s.takes d b = true →
    (Hears s d p b 1 → let n := hbBits b 143 132
      let w := bitOf b.toNat 127
      Leaves (.accuse d p b t) t s (fun a => let z := NewsIn d p b a
        let u := (z.count d 0xD02 1).modMemb d (fun m => if (z.dev d).dead n then m else
          { m with accusations := (m.accusations.filter (fun x => ! (x.1 == hbOrigin b && x.2.1 == n && x.2.2 == hbBits b 131 128)))
              ++ (if w then [] else [(hbOrigin b, n, hbBits b 131 128)]) })
        if n = (z.dev d).node ∧ w = false then u.set d F.TEL_FAULT_STATUS_ACCUSED 1 else u)) ∧
    (Hears s d p b 2 → Leaves (.fatal d p b t) t s (fun a => let z := NewsIn d p b a
      z.modMemb d (fun m =>
        if (z.dev d).dead (hbOrigin b) ∨ hbOrigin b ∈ m.fatals then m else { m with fatals := m.fatals ++ [hbOrigin b] }))) ∧
    (Hears s d p b 3 → Leaves (.opJoin d p b t) t s (fun a =>
      if bitOf b.toNat 143 then (NewsIn d p b a).modMemb d (fun m =>
        if hbOrigin b ∈ m.joins then m else { m with joins := m.joins ++ [hbOrigin b] })
      else NewsIn d p b a)) ∧
    (Hears s d p b 4 → Leaves (.stepReady d p b t) t s (fun a => (NewsIn d p b a).modMemb d (fun m =>
      if (hbStepN b, hbOrigin b) ∈ m.ready then m else { m with ready := m.ready ++ [(hbStepN b, hbOrigin b)] }))) ∧
    (Hears s d p b 5 → Leaves (.stepFail d p b t) t s (fun a => (NewsIn d p b a).modMemb d (fun m =>
      if hbStepN b ∈ m.failSteps then m else { m with failSteps := m.failSteps ++ [hbStepN b] }))) ∧
    (Hears s d p b 6 → Leaves (.stepDiscarded d p b t) t s (fun a => (NewsIn d p b a).modMemb d (fun m =>
      if (hbStepN b, hbOrigin b) ∈ m.discarded then m else { m with discarded := m.discarded ++ [(hbStepN b, hbOrigin b)] }))) ∧
    (Hears s d p b 7 → Leaves (.leaseAck d p b t) t s (fun a => let z := NewsIn d p b a
      z.modMemb d (fun m => { m with renewals := m.renewals.map (fun r =>
        if r.cseq = hbBits b 143 128 then { r with acks := r.acks ++ [(hbOrigin b, z.now)] } else r) }))) ∧
    (∀ c act, DecisionRow d p b t c act → hbAct b = act → Hears s d p b 8 →
      let k := (hbCseq b + 65536 - s.cseq d) % 65536
      (s.membState d = Mb.MEMBER →
        (k = 1 → (s.memb d).future = [] → Leaves c t s (fun a => (NewsIn d p b a).applyOne d b)) ∧
        (k = 0 ∨ 32768 ≤ k → Leaves c t s (NewsIn d p b)) ∧
        (1 < k → k < 32768 → (∀ x ∈ (s.memb d).future, hbCseq x ≠ hbCseq b) → Leaves c t s (fun a =>
          (NewsIn d p b a).modMemb d (fun m => { m with future := m.future ++ [b] })))) ∧
      (s.membState d = Mb.FENCED → Leaves c t s (NewsIn d p b)) ∧
      (s.outside d = true →
        (admits b (s.dev d).node = true → Leaves c t s (fun a => (NewsIn d p b a).admitted d b)) ∧
        (admits b (s.dev d).node = false → Leaves c t s (fun a =>
          (NewsIn d p b a).modMemb d (fun m => m.noteEpoch b)))))) ∧
  (∀ n : Nat, Hears s .ep p b 8 → s.takes .ep b = true → s.membState .ep = Mb.MEMBER → hbAct b = 2 → hbActStep b = n →
    (hbCseq b + 65536 - s.cseq .ep) % 65536 = 1 → (s.memb .ep).future = [] →
    Comes (.stepCommit .ep p b t) t s (fun _ u => u.get .ep F.EP_STEP_STEP = (n + 1) % 2 ^ 32 ∧
      u.cseq .ep = hbCseq b ∧ u.coord .ep = hbOrigin b)) ∧
  (p < linkPorts d →
    (s.lnk d p ≠ Lnk.ACTIVE ∨ hbKind b ≠ 0 → Leaves (.beat d p b t) t s (fun a => a)) ∧
    (s.lnk d p = Lnk.ACTIVE → hbKind b = 0 → s.membState d = Mb.FENCED → Leaves (.beat d p b t) t s (fun a => a.heard d p)) ∧
    (s.lnk d p = Lnk.ACTIVE → hbKind b = 0 → s.membState d = Mb.OFF →
      Leaves (.beat d p b t) t s (fun a => (a.heard d p).unhold d p b)) ∧
    (Hears s d p b 0 → s.membState d ≠ Mb.MEMBER → s.membState d ≠ Mb.FENCED →
      Leaves (.beat d p b t) t s (fun a => (a.heard d p).seenCoord d b)) ∧
    ((s.port d p).catchUp = none ∨ s.lnk d p ≠ Lnk.ACTIVE → Leaves (.decisionCatchup d p t) t s (fun a => a)) ∧
    (∀ c, (s.port d p).catchUp = some c → s.lnk d p = Lnk.ACTIVE → (∀ x ∈ (s.memb d).applied, hbCseq x ≠ c) →
      (s.port d p).catchUpAt + s.get d F.TEL_MEMB_CFG_HB_US * 1000 ≤ max s.now t →
      Leaves (.decisionCatchup d p t) t s (fun a => a.modPort d p (fun q => { q with catchUp := none })))) ∧
  (Hears s d p b 0 → s.membState d = Mb.MEMBER →
    let k := (s.cseq d + 65536 - hbCseq b) % 65536
    let next := (hbCseq b + 1) % 65536
    let heard (a : State) : State := (a.heard d p).seenCoord d b
    (k = 0 → Leaves (.beat d p b t) t s (fun a => (heard a).modPort d p (fun q => { q with catchUp := none }))) ∧
    (0 < k → k < 32768 → (s.port d p).catchUp ≠ none → Leaves (.beat d p b t) t s heard) ∧
    (0 < k → k < 32768 → (s.port d p).catchUp = none → (∃ x ∈ (s.memb d).applied, hbCseq x = next) →
      Leaves (.beat d p b t) t s (fun a => (heard a).modPort d p (fun q => { q with catchUp := some next }))) ∧
    (0 < k → k < 32768 → (s.port d p).catchUp = none → (∀ x ∈ (s.memb d).applied, hbCseq x ≠ next) →
      Leaves (.beat d p b t) t s (fun a => (heard a).set d F.TEL_FAULT_STATUS_STALE_PARTNER 1)) ∧
    (32768 ≤ k → k < 65472 → hbBits b 141 139 = Mb.MEMBER → Leaves (.beat d p b t) t s (fun a => (heard a).goStale d)) ∧
    (65472 ≤ k ∨ (32768 ≤ k ∧ hbBits b 141 139 ≠ Mb.MEMBER) → Leaves (.beat d p b t) t s heard)) ∧
  (p < linkPorts d → ∀ c x, (s.port d p).catchUp = some c → s.lnk d p = Lnk.ACTIVE →
    (max s.now t < (s.port d p).catchUpAt + s.get d F.TEL_MEMB_CFG_HB_US * 1000 → Leaves (.decisionCatchup d p t) t s (fun a => a)) ∧
    ((s.port d p).catchUpAt + s.get d F.TEL_MEMB_CFG_HB_US * 1000 ≤ max s.now t →
      (s.memb d).applied.find? (fun y => hbCseq y == c) = some x → Leaves (.decisionCatchup d p t) t s (fun a =>
        (a.tell d p x).modPort d p (fun q => { q with
          catchUpAt := a.now, catchUp := if c = a.cseq d then none else some ((c + 1) % 65536) })))) ∧
  (s.membState d = Mb.OFF → Leaves (.beatTimer d t) t s (fun a => a)) ∧
  (s.membState d ≠ Mb.OFF → Leaves (.beatTimer d t) t s (fun a =>
    let due := (List.range (linkPorts d)).filter (fun k => a.lnk d k == Lnk.ACTIVE &&
      decide ((a.port d k).beatAt + a.get d F.TEL_MEMB_CFG_HB_US * 1000 ≤ a.now))
    let role := match d with | .sw => 2 | .ep => 1
    let beat := hbBody 0 (a.dev d).node 0 (a.epoch d) (a.dev d).step (a.cseq d) (role * 2 ^ 142 + a.membState d * 2 ^ 139)
    due.foldl (fun b k => (b.sendControl d k 4 beat).modPort d k (fun q => { q with beatAt := a.now })) a)) ∧
  (s.membState d ≠ Mb.OFF → Comes (.beatTimer d t) t s (fun s u => ∀ k, k < linkPorts d →
    (u.port d k).beatAt = if s.lnk d k = Lnk.ACTIVE ∧ (s.port d k).beatAt + s.get d F.TEL_MEMB_CFG_HB_US * 1000 ≤ s.now then s.now
      else (s.port d k).beatAt)) ∧
  (p < linkPorts d → let silent := s.lnk d p = Lnk.ACTIVE ∧ s.membState d ≠ Mb.OFF ∧
      (s.port d p).heardAt + s.get d F.TEL_MEMB_CFG_HB_MISS * s.get d F.TEL_MEMB_CFG_HB_US * 1000 ≤ max s.now t ∧
      ((s.dev d).node, s.partner d p, 2) ∉ (s.memb d).accusations
    (silent → Leaves (.heartbeatSilence d p t) t s (fun a => (a.count d 0xD00 1).accuse d (a.partner d p) 2)) ∧
    (¬ silent → Leaves (.heartbeatSilence d p t) t s (fun a => a)))

/-- The oldest record of service queue 1 has a TYPE and words `x`. -/
def Sys2Proof.Claims.StepHead (s : State) (type x : Nat) (r : QRec) (a : State) : Prop :=
  s.dequeue 1 = some (r, a) ∧ ofLe r.data = x ∧ x % 256 = type

/-- O55. A coordinator whose renewal is due renews its lease while it holds it or its first renewals are young, and
otherwise stops with LEASE_LOST. The next candidate that is a member, two LEASE_US after the last record of the coordinator, declares
it dead. STEP_PLAN takes the participants of its table, STEP_END and STEP_FENCED are noted with their step and node,
and a bad STEP_END of the plan's step fails it; DEAD_US after a REPLAY the step is discarded. A repair test starts a
recovery of every ACTIVE port and ends with what failed; a device outside whose test passed joins, and repeats it
every ms. FORM at CAND0 admits the nodes that have joined, where more than half of the step switches have, and a later FORM those
that have joined since, until the first commit; otherwise it is ignored. ADMIT at
the coordinator has those admitted whose JOIN it holds (by its next decisions, made as the step settles; log 16), and elsewhere is
ignored. A new test ends the JOINs of an earlier one. What logs 16 and 53 choose is the model's.
(R425, R428, R430, R433, R437, R438, R439, R483, R484, Table 16.5) -/
def Obligations.MembershipDecides : Prop := ∀ (d : Part) (t : Nat) (s : State), let v := s.dev .sw
  let m := v.memb
  (let due := s.coordinates = true ∧ (m.renewals = [] ∨ m.renewAt + s.leaseNs / 4 ≤ max s.now t)
   let young := m.renewals.length < 4 ∧ ∀ r ∈ m.renewals, max s.now t < r.at_ + s.leaseNs
   (¬ due → Leaves (.leaseRenewTimer t) t s (fun a => a)) ∧
    (due → young ∨ (s.tick t).leaseHeld = true → Leaves (.leaseRenewTimer t) t s (fun a => let c := (a.cseq .sw + 1) % 65536
      (a.modMemb .sw (fun m => { m with renewAt := a.now, renewals := (⟨c, a.now, []⟩ :: m.renewals).take 8 })).decree c 5
        (a.epoch .sw) 0)) ∧
    (due → ¬ young → (s.tick t).leaseHeld = false → Leaves (.leaseRenewTimer t) t s (fun a =>
      a.set .sw F.TEL_FAULT_STATUS_LEASE_LOST 1))) ∧
  (let old := s.coord .sw
   let next := v.candidates.find? (fun n => n != old && v.member n)
   (s.membState .sw = Mb.MEMBER → old ≠ v.node → next = some v.node → m.coordAt + 2 * s.leaseNs ≤ max s.now t →
      Leaves (.coordinatorTakeover t) t s (fun a =>
        ((a.modMemb .sw (fun m => { m with future := [] })).set .sw F.TEL_MEMB_STATE_CSEQ a.topCseq).decree
          ((a.topCseq + 1) % 65536) 1 ((a.epoch .sw + 1) % 2 ^ 32) (epochLow [] [old]))) ∧
    (s.membState .sw ≠ Mb.MEMBER ∨ old = v.node ∨ next ≠ some v.node ∨ max s.now t < m.coordAt + 2 * s.leaseNs →
      Leaves (.coordinatorTakeover t) t s (fun a => a))) ∧
  (∀ (x : Nat) (r : QRec) (a b c : State) (bytes : List Byte), StepHead (s.tick t) 0x30 x r a →
    bitsOf x 127 64 / 2 ^ 52 = v.node →
    (s.tick t).readOwn r.tenant (v.step % 256) (packetsOf (bitsOf x 127 64 % 2 ^ 52) (16 * bitsOf x 143 128)) [] = (b, some bytes) →
    b.dequeue 1 = some (r, c) →
    let parts := (List.range (bytes.length / 16)).map (fun i => let e := ofLe ((bytes.drop (16 * i)).take 16)
      (bitsOf e 63 0, bitsOf e 79 64, bitsOf e 91 80))
    Leaves (.stepPlan t) t s (fun _ =>
      let u := c.modStep (fun k => { k with
        planned := true, stepN := bitsOf x 63 32, parts := parts, failed := false, readySent := false,
        ended := k.ended.filter (fun e => e.1 == bitsOf x 63 32), fenced := k.fenced.filter (fun e => e.1 == bitsOf x 63 32),
        replayAt := if k.stepN = bitsOf x 63 32 then k.replayAt else none })
      let w := if u.sw.stepCtl.ended.any (fun e => decide (4096 ≤ e.2)) then u.stepFails 1 else u
      if parts.any (fun y => (w.dev .sw).dead y.2.2) then w.stepFails 2 else w)) ∧
  (∀ (x : Nat) (r : QRec) (a : State), StepHead (s.tick t) 0x30 x r a → bitsOf x 127 64 / 2 ^ 52 ≠ v.node →
    Comes (.stepPlan t) t s (fun s u => (u.squeue 1).recs = (s.squeue 1).recs.tail ∧
      u.sw.stepCtl.planned = true ∧ u.sw.stepCtl.stepN = bitsOf x 63 32 ∧ u.sw.stepCtl.parts = [])) ∧
  (∀ (x : Nat) (r : QRec) (a b : State), StepHead (s.tick t) 0x30 x r a → bitsOf x 127 64 / 2 ^ 52 = v.node →
    (s.tick t).readOwn r.tenant (v.step % 256) (packetsOf (bitsOf x 127 64 % 2 ^ 52) (16 * bitsOf x 143 128)) [] = (b, none) →
    Leaves (.stepPlan t) t s (fun _ => b)) ∧
  (∀ c ∈ ([(.stepPlan t, 0x30), (.stepEnd t, 0x31), (.stepFenced t, 0x32)] : List (Instr × Nat)),
    ((s.squeue 1).recs = [] → Leaves c.1 t s (fun a => a)) ∧
    (∀ r rs, (s.squeue 1).recs = r :: rs → 0x30 ≤ ofLe r.data % 256 → ofLe r.data % 256 ≤ 0x32 → ofLe r.data % 256 ≠ c.2 →
      Leaves c.1 t s (fun a => a))) ∧
  (∀ (x : Nat) (r : QRec) (a : State),
    (StepHead (s.tick t) 0x31 x r a → let n := bitsOf x 63 32
      let u (k : Nat) : State := a.modStep (fun c => { c with ended := c.ended ++ [(n, bitsOf x 75 64 + k)] })
      (bitOf x 76 = false → Leaves (.stepEnd t) t s (fun _ => u 0)) ∧
      (bitOf x 76 = true → a.sw.stepCtl.stepN ≠ n → Leaves (.stepEnd t) t s (fun _ => u 4096)) ∧
      (bitOf x 76 = true → a.sw.stepCtl.stepN = n → Leaves (.stepEnd t) t s (fun _ => (u 4096).stepFails 1))) ∧
    (StepHead (s.tick t) 0x32 x r a → Leaves (.stepFenced t) t s (fun _ => a.modStep (fun c => { c with
      fenced := c.fenced ++ [(bitsOf x 63 32, bitsOf x 75 64)] })))) ∧
  (∀ at_, s.sw.stepCtl.replayAt = some at_ →
    (at_ + s.get .sw F.MEM_SEM_CTRL_DEAD_US * 1000 ≤ max s.now t →
      Leaves (.replayFenceTimeout t) t s (fun a => a.discardStep)) ∧
    (max s.now t < at_ + s.get .sw F.MEM_SEM_CTRL_DEAD_US * 1000 → Leaves (.replayFenceTimeout t) t s (fun a => a))) ∧
  (s.sw.stepCtl.replayAt = none → Leaves (.replayFenceTimeout t) t s (fun a => a)) ∧
  (Up s d → s.get d F.TEL_REPAIR_TEST_STATE ≠ 1 → Comes (.repairTest d t) t s (fun s u =>
    u.get d F.TEL_REPAIR_TEST_STATE = 1 ∧ u.get d F.TEL_REPAIR_FAILED = 0 ∧
    (u.memb d).joinAt = none ∧ (s.dev d).node ∉ (u.memb d).joins ∧
    ∀ p, p < linkPorts d → s.lnk d p = Lnk.ACTIVE → u.recovering d p = true ∧ u.lnk d p = Lnk.IDLE)) ∧
  (Up s d → s.get d F.TEL_REPAIR_TEST_STATE = 1 → Leaves (.repairTest d t) t s (fun a => a)) ∧
  (∀ (lanes : List (Nat × Nat)) (cores clusters : List Nat) (bad : Nat), (∀ x ∈ lanes, x.1 < linkPorts d ∧ x.2 < 17) →
    (∀ x ∈ cores, x < 72) → (∀ x ∈ clusters, x < 18) → bad < 8 →
    (s.get d F.TEL_REPAIR_TEST_STATE ≠ 1 → Leaves (.repairTestDone d lanes cores clusters bad t) t s (fun a => a)) ∧
    (s.get d F.TEL_REPAIR_TEST_STATE = 1 → Comes (.repairTestDone d lanes cores clusters bad t) t s (fun s u =>
      u.get d F.TEL_REPAIR_TEST_STATE = (if u.get d F.TEL_REPAIR_FAILED = 0 then 2 else 3) ∧
      (u.get d F.TEL_REPAIR_FAILED % 2 = 1 ↔ ∃ x ∈ lanes, ∃ y ∈ lanes, x.1 = y.1 ∧ x.2 ≠ y.2) ∧
      u.get d F.TEL_REPAIR_FAILED / 8 = bad ∧
      (d = .ep → u.get d F.TEL_REPAIR_FAILED / 2 % 4 = 0) ∧
      (d = .sw → (∀ x ∈ clusters, x ∈ u.sw.badClusters) ∧ ∀ x ∈ s.sw.badClusters, x ∈ u.sw.badClusters)))) ∧
  (Up s d →
    (s.get d F.TEL_REPAIR_TEST_STATE = 2 → s.outside d = true → Comes (.repairJoin d t) t s (fun s u =>
      (u.memb d).joinAt = some s.now ∧ (s.dev d).node ∈ (u.memb d).joins ∧ (u.memb d).oseq = ((s.memb d).oseq + 1) % 65536)) ∧
    (s.get d F.TEL_REPAIR_TEST_STATE ≠ 2 ∨ s.outside d = false → Leaves (.repairJoin d t) t s (fun a => a))) ∧
  (∀ at_, (s.memb d).joinAt = some at_ → s.outside d = true →
    (at_ + 1000000 ≤ max s.now t → Comes (.joinTimer d t) t s (fun s u =>
      (u.memb d).joinAt = some s.now ∧ (u.memb d).oseq = ((s.memb d).oseq + 1) % 65536)) ∧
    (max s.now t < at_ + 1000000 → Leaves (.joinTimer d t) t s (fun a => a))) ∧
  ((s.memb d).joinAt = none ∨ s.outside d = false → Leaves (.joinTimer d t) t s (fun a => a)) ∧
  (Up s .sw → let sw := v.stepSwitches
    let held := (v.node :: m.joins).eraseDups
    (v.get F.TEL_MEMB_COORD_CAND0 ≠ v.node ∨ m.committed ≠ [] ∨ (s.epoch .sw ≠ 0 ∧ m.formed = false) ∨
        (s.outside .sw = false ∧ s.coordinates = false) ∨
        (m.formed = false ∧ 2 * (held.filter (fun n => sw.contains n)).length ≤ sw.length) →
      Leaves (.form .sw t) t s (fun a => a)) ∧
    (v.get F.TEL_MEMB_COORD_CAND0 = v.node → m.committed = [] → s.epoch .sw = 0 → m.formed = false → s.outside .sw = true →
      sw.length < 2 * (held.filter (fun n => sw.contains n)).length → Leaves (.form .sw t) t s (fun a =>
        let js := v.node :: m.joins.filter (fun n => n != v.node)
        let b := State.admitAll js.length a js
        b.modMemb .sw (fun m => { m with
          formed := true, renewAt := a.now, renewals := [⟨b.cseq .sw, a.now, js.map (fun n => (n, a.now))⟩] }))) ∧
    (v.get F.TEL_MEMB_COORD_CAND0 = v.node → m.committed = [] → m.formed = true → s.coordinates = true →
      Leaves (.form .sw t) t s (fun a => State.admitAll m.joins.length a m.joins)) ∧
    (s.coordinates = true → m.joins ≠ [] → Leaves (.admitHeld .sw t) t s (fun a =>
      a.modMemb .sw (fun m => { m with admitNext := true }))) ∧
    (s.coordinates = false ∨ m.joins = [] → Leaves (.admitHeld .sw t) t s (fun a => a))) ∧
  (Up s .ep → Leaves (.form .ep t) t s (fun a => a) ∧ Leaves (.admitHeld .ep t) t s (fun a => a))

/-- O56. A WAKING domain becomes ON and is counted, or FAILED with DOMAIN_FAIL four wake latencies later; one whose
demand has stopped for 1 ms, with HOLD clear, is reset and OFF. A reply that is an ACK records its CODE, frees the
link and lets a waiting SET go; any other reply, or none within 4 us, repeats the request up to three times and then
sets VR_FAIL. A keep-alive goes out 1 ms after the last request. The estimate is renewed every 10 us as the average of
its last values; the floor every 100 us as the model's prediction at THROTTLE 15 and the lowest levels; a cap window
of 100 us ends ENFORCING or MET, and starts no step down before THROTTLE has been set. A clock goes up one level where its
voltage is reached, no request is under way and the cap allows it, and
asks for the voltage first; it goes down where the cap, the planner or the voltage asks for it. The monitors are read once a second
at most: the worst slack is kept, and one below 5 ps raises GUARD; a plan raises GUARD below 15 ps and counts. A record goes to the
ageing log every 24 hours of power-on time, with the highest temperature since the last. New equaliser coefficients of an
ACTIVE port are stored. The model's predictions and estimates are free. What log 54 chooses is the model's. (R443, R444, R445, R448, R449, R450, R451,
R453, R455, R459, R461, R463) -/
def Obligations.KettleRuns : Prop := ∀ (t : Nat) (s : State), let k := s.sw.kettle
  let lv := s.level
  (∀ dom ∈ demandDomains,
    (s.domain dom = Dom.WAKING → Comes (.domainWakeDone dom t) t s (fun s u => u.domain dom = Dom.ON ∧
      (16 ≤ dom → dom < 24 → u = (s.set .sw (F.PWR_DOMAIN_STATUS_STATE dom) Dom.ON).count .sw 0xCE4 1))) ∧
    (s.domain dom ≠ Dom.WAKING → Leaves (.domainWakeDone dom t) t s (fun a => a)) ∧
    (let late := s.domain dom = Dom.WAKING ∧ SMap.at 0 k.wakeAt dom + 4 * wakeNs dom ≤ max s.now t
     (late → Leaves (.domainWakeTimeout dom t) t s (fun a =>
        (a.set .sw (F.PWR_DOMAIN_STATUS_STATE dom) Dom.FAILED).pwrEvent F.PWR_EVENT_DOMAIN_FAIL)) ∧
     (¬ late → Leaves (.domainWakeTimeout dom t) t s (fun a => a))) ∧
    (∀ at_, SMap.at none k.idleAt dom = some at_ →
      let off := s.domain dom = Dom.ON ∧ at_ + 1000000 ≤ max s.now t ∧ bitOf ((s.dev .sw).reg A.PWR_DOMAIN_HOLD) dom = false ∧
        dom ∉ (s.tick t).demands
      (off → Leaves (.domainOffTimer dom t) t s (fun a => (a.resetDomain dom).domainOff dom)) ∧
      (¬ off → Leaves (.domainOffTimer dom t) t s (fun a => a))) ∧
    (SMap.at none k.idleAt dom = none → Leaves (.domainOffTimer dom t) t s (fun a => a))) ∧
  (k.vr = none → (∀ f, Leaves (.vrReply f t) t s (fun a => a)) ∧ Leaves (.vrReplyTimeout t) t s (fun a => a) ∧
    (max s.now t < k.vrAt + 1000000 → Leaves (.vrKeepaliveTimer t) t s (fun a => a))) ∧
  (∀ r : VrReq, k.vr = some r →
    let again : State → State := fun a => if r.resent < 3 then
        (a.emit (.vr r.frame)).modKettle (fun x => { x with vr := some { r with at_ := a.now, resent := r.resent + 1 }, vrAt := a.now })
      else ((a.set .sw F.PWR_VR_STATUS_FAILS (min 255 (a.get .sw F.PWR_VR_STATUS_FAILS + 1))).modKettle (fun x => { x with
        vr := none, vrHold := true })).pwrEvent F.PWR_EVENT_VR_FAIL
    (∀ f : BitVec 32, vrFrame (f.toNat / 256) = f → bitsOf f.toNat 31 28 = 5 → bitsOf f.toNat 27 24 = 0 →
      let code := bitsOf f.toNat 23 12
      let old := s.get .sw F.PWR_VR_STATUS_ACK_CODE
      let got : State → State := fun a => (a.set .sw F.PWR_VR_STATUS_ACK_CODE code).modKettle (fun x => { x with
        vr := none, vrHold := false, rampEnd := a.now + (max old code - min old code) * 100 + 1000 })
      (k.setDue = none → Leaves (.vrReply f t) t s got) ∧
      (∀ c, k.setDue = some c → Leaves (.vrReply f t) t s (fun a =>
        ((got a).modKettle (fun x => { x with setDue := none })).vrSend 1 c 0))) ∧
    (∀ f : BitVec 32, vrFrame (f.toNat / 256) ≠ f ∨ bitsOf f.toNat 31 28 ≠ 5 ∨ bitsOf f.toNat 27 24 ≠ 0 →
      Leaves (.vrReply f t) t s again) ∧
    (r.at_ + 4000 ≤ max s.now t → Leaves (.vrReplyTimeout t) t s again) ∧
    (max s.now t < r.at_ + 4000 → Leaves (.vrReplyTimeout t) t s (fun a => a)) ∧
    Leaves (.vrKeepaliveTimer t) t s (fun a => a)) ∧
  (k.vr = none → k.vrAt + 1000000 ≤ max s.now t →
    (k.vrHold = true → Leaves (.vrKeepaliveTimer t) t s (fun a => a.vrSend 1 a.codeNow 0)) ∧
    (k.vrHold = false → Leaves (.vrKeepaliveTimer t) t s (fun a =>
      let q := a.get .sw F.PWR_VR_STATUS_REQ_CODE
      a.vrSend 2 (if q = 0 then a.codeNow else q) 0))) ∧
  (max s.now t < k.estAt + 10000 → Leaves (.estUpdate t) t s (fun a => a)) ∧
  (k.estAt + 10000 ≤ max s.now t → Comes (.estUpdate t) t s (fun s u =>
    let est := (Config.estWatts s.fresh :: k.est).take 100
    u.get .sw F.PWR_EST_EST_1MS_W = est.sum / max 1 est.length % 2 ^ 16 ∧
    u.get .sw F.PWR_EST_EST_100US_W = (est.take 10).sum / max 1 (est.take 10).length % 2 ^ 16 ∧
    u.sw.kettle.est = est ∧ u.sw.kettle.estAt = s.now ∧ u.get .sw F.PWR_CAP_STATUS_CAP_W = s.get .sw F.PWR_CAP_STATUS_CAP_W)) ∧
  (max s.now t < k.floorAt + 100000 → Leaves (.floorRecompute t) t s (fun a => a)) ∧
  (k.floorAt + 100000 ≤ max s.now t → Comes (.floorRecompute t) t s (fun s u => let w := s.capW
    let fl := s.predict 15 3 7 7 % 2 ^ 16
    u.get .sw F.PWR_CAP_STATUS_FLOOR_W = fl ∧ u.sw.kettle.floorAt = s.now ∧
    u.effectiveW = (if w = 0 then 1350 else min 1350 (max w fl)) ∧
    (w = 0 → u.capState = Cap.NONE) ∧ (w ≠ 0 → (u.capState = Cap.UNMET ↔ w < fl)) ∧
    (w ≠ 0 → w < fl → s.capState ≠ Cap.UNMET → u.get .sw F.PWR_EVENT_CAP_UNMET = 1))) ∧
  (max s.now t < k.winAt + 100000 → Leaves (.capWindow t) t s (fun a => a)) ∧
  (k.winAt + 100000 ≤ max s.now t → let above := s.effectiveW < s.est100 ∧ s.capW ≠ 0
    (s.capState = Cap.UNMET ∨ s.capW = 0 → Leaves (.capWindow t) t s (fun a =>
      a.modKettle (fun x => { x with winAt := a.now, stepDown := decide above && ! x.capDue }))) ∧
    (s.capState ≠ Cap.UNMET → s.capW ≠ 0 → Leaves (.capWindow t) t s (fun a =>
      (a.modKettle (fun x => { x with winAt := a.now, stepDown := decide above && ! x.capDue })).set .sw F.PWR_CAP_STATUS_STATE
        (if above then Cap.ENFORCING else Cap.MET)))) ∧
  (∀ c < 3, (max s.now t < SMap.at 0 k.stepAt c →
      ∀ up, Leaves (.clockLevelStep c up t) t s (fun a => a)) ∧
    (SMap.at 0 k.stepAt c ≤ max s.now t →
      let at_ (l j : Nat) : Nat := if j = c then l else lv j
      let code := s.codeFor (at_ (lv c - 1) 0) (at_ (lv c - 1) 1) (at_ (lv c - 1) 2)
      let ack := s.get .sw F.PWR_VR_STATUS_ACK_CODE
      let top := s.get .sw F.PWR_CLK_STATUS_MAX_LEVEL
      let may := top < lv c ∧ k.vrHold = false ∧ k.stepDown = false ∧ k.capDue = false ∧ s.couldRise c = true
      let need := (k.stepDown = true ∧ k.capDue = false ∧ s.effectiveW < s.est100) ∨ lv c < top ∨ (k.vrHold = true ∧ ack < s.codeNow)
      (¬ may → Leaves (.clockLevelStep c true t) t s (fun a => a)) ∧
      (may → code ≤ ack → k.vr = none → k.setDue = none → k.rampEnd ≤ max s.now t → Leaves (.clockLevelStep c true t) t s (fun a =>
        (a.countLevels.set .sw (clkLevel c) (lv c - 1)).modKettle (fun x => { x with stepAt := SMap.put 0 x.stepAt c (a.now + 20000) }))) ∧
      (may → (code ≤ ack ∧ (max s.now t < k.rampEnd ∨ k.vr ≠ none ∨ k.setDue ≠ none)) ∨ (ack < code ∧ s.get .sw F.PWR_VR_STATUS_REQ_CODE = code) →
        Leaves (.clockLevelStep c true t) t s (fun a => a)) ∧
      (may → ack < code → s.get .sw F.PWR_VR_STATUS_REQ_CODE ≠ code → Leaves (.clockLevelStep c true t) t s (fun a =>
        a.setVoltage code)) ∧
      (need → lv c < clkLowest c → Leaves (.clockLevelStep c false t) t s (fun a =>
        let b := (a.countLevels.set .sw (clkLevel c) (lv c + 1)).modKettle (fun x => { x with stepAt := SMap.put 0 x.stepAt c (a.now + 20000) })
        b.setVoltage b.codeNow)) ∧
      (¬ need ∨ clkLowest c ≤ lv c → Leaves (.clockLevelStep c false t) t s (fun a => a)))) ∧
  (∀ slacks : List Int, slacks.length = 128 → max s.now t < k.monAt + 1000000000 →
    Leaves (.ageingMonitorRead slacks t) t s (fun a => a)) ∧
  (∀ slacks : List Int, slacks.length = 128 → k.monAt + 1000000000 ≤ max s.now t →
    ((∀ x ∈ slacks, 5 ≤ x) → Comes (.ageingMonitorRead slacks t) t s (fun s u => ∃ x i, u.sw.kettle.slack = some (x, i) ∧
      u.sw.kettle.monAt = s.now ∧ (∀ y ∈ slacks, x ≤ y) ∧ (∀ y j, s.sw.kettle.slack = some (y, j) → x ≤ y) ∧
      (slacks[i]? = some x ∨ s.sw.kettle.slack = some (x, i)))) ∧
    ((∃ x ∈ slacks, x < 5) → s.get .sw F.PWR_AGE_STATUS_GUARD_MV ≤ 55 → Comes (.ageingMonitorRead slacks t) t s (fun s u =>
      u.get .sw F.PWR_AGE_STATUS_GUARD_MV = s.get .sw F.PWR_AGE_STATUS_GUARD_MV + 5 ∧
      u.get .sw F.PWR_EVENT_GUARD_RAISED = 1))) ∧
  (∀ x i, k.slack = some (x, i) → k.planAt = none → (∀ l, k.levelsAt = some l → l + 10000000000 ≤ max s.now t) → k.levelsAt ≠ none → i < 128 →
    Comes (.marginPlan t) t s (fun s u => u.sw.kettle.slack = none ∧ u.sw.kettle.planAt = some s.now ∧
      u.get .sw F.PWR_AGE_STATUS_WORST_MON = i ∧
      (x < 15 → s.get .sw F.PWR_AGE_STATUS_GUARD_MV ≤ 55 →
        u.get .sw F.PWR_AGE_STATUS_GUARD_MV = s.get .sw F.PWR_AGE_STATUS_GUARD_MV + 5 ∧ u.get .sw F.PWR_EVENT_GUARD_RAISED = 1) ∧
      (15 ≤ x → k.goodSince = none → u.get .sw F.PWR_AGE_STATUS_GUARD_MV = s.get .sw F.PWR_AGE_STATUS_GUARD_MV))) ∧
  (∀ slacks : List Int, slacks.length = 128 → k.monAt + 1000000000 ≤ max s.now t → (∃ x ∈ slacks, x < 5) → 55 < s.get .sw F.PWR_AGE_STATUS_GUARD_MV →
    Comes (.ageingMonitorRead slacks t) t s (fun _ u => u.get .sw F.PWR_AGE_STATUS_GUARD_MV = 60 ∧ u.get .sw F.PWR_EVENT_GUARD_RAISED = 1)) ∧
  (∀ x i p, k.slack = some (x, i) → k.planAt = some p → i < 128 → p + 3600000000000 ≤ max s.now t →
    Comes (.marginPlan t) t s (fun s u => u.sw.kettle.slack = none ∧ u.sw.kettle.planAt = some s.now ∧
      u.get .sw F.PWR_AGE_STATUS_WORST_MON = i ∧
      (x < 15 → u.get .sw F.PWR_AGE_STATUS_GUARD_MV = min 60 (s.get .sw F.PWR_AGE_STATUS_GUARD_MV + 5)) ∧
      (15 ≤ x → x < 25 → u.get .sw F.PWR_AGE_STATUS_GUARD_MV = s.get .sw F.PWR_AGE_STATUS_GUARD_MV) ∧
      (25 ≤ x → ∀ g, s.sw.kettle.goodSince = some g → u.get .sw F.PWR_AGE_STATUS_GUARD_MV =
        if g + 86400000000000 ≤ s.now then max 10 (s.get .sw F.PWR_AGE_STATUS_GUARD_MV - 5) else s.get .sw F.PWR_AGE_STATUS_GUARD_MV))) ∧
  ((∀ p, k.planAt = some p → max s.now t < p + 3600000000000) → (k.planAt = none → ∀ l, k.levelsAt = some l → max s.now t < l + 10000000000) →
    Leaves (.marginPlan t) t s (fun a => a)) ∧
  (k.slack = none → Leaves (.marginPlan t) t s (fun a => a)) ∧
  (s.sw.dev.boot.off = true ∨ (s.tick t).onTime < k.dailyAt + 86400000000000 → Leaves (.ageingLogDaily t) t s (fun a => a)) ∧
  (s.sw.dev.boot.off = false → k.dailyAt + 86400000000000 ≤ (s.tick t).onTime → Comes (.ageingLogDaily t) t s (fun s u =>
    u.sw.kettle.dailyAt = s.onTime ∧ u.sw.kettle.temp = none ∧ u.sw.kettle.logged = s.sw.kettle.logged + 1 ∧
    (∃ r, SMap.at 0 u.sw.kettle.log (s.get .sw F.PWR_AGE_LOG_IDX_HEAD) = r ∧ bitsOf r 127 96 = s.powerHours % 2 ^ 32 ∧
      bitsOf r 95 88 = s.get .sw F.PWR_AGE_STATUS_GUARD_MV ∧ bitsOf r 11 0 = 2 ∧
      ∀ x, k.temp = some x → bitsOf r 87 80 = wrapOf 8 x) ∧
    u.get .sw F.PWR_AGE_LOG_IDX_HEAD = (s.get .sw F.PWR_AGE_LOG_IDX_HEAD + 1) % 4096)) ∧
  (∀ (d : Part) (p lane c : Nat), p < linkPorts d → lane < 17 →
    (s.lnk d p ≠ Lnk.ACTIVE → Leaves (.eqRecompute d p lane c t) t s (fun a => a)) ∧
    (s.lnk d p = Lnk.ACTIVE → Leaves (.eqRecompute d p lane c t) t s (fun a => a.modPort d p (fun q => { q with
      newCoeffs := q.newCoeffs.filter (fun e => e.1 != lane) ++ [(lane, c)] }))))

/-- O57. A fatal fault of a part that is neither fatal nor off records its CAUSE, drives FATAL_N low and makes it
fatal, and during start-up stops it with a RESULT; one already fatal changes nothing; a lost clock is cause 1, a hang 2, and a
temperature above its trip
point 5. A power-on reset empties memory, the tiles, queues, windows, cores and counters, leaves the registers at
their reset values but for the ageing log's head, makes the island unowned, and keeps the fuses, the ageing log,
Caddy's wear and read counts, the hours and, unless OWNER_CLEAR is pending, the rollback minimums. A stage that completes leads
to the next one, the last to READY; a firmware stage takes slot B where A's image fails, measures the image that it runs and, where
that is marked so, advances the fused minimum; a stage that fails stops the start-up with its RESULT, which for firmware is the
verdict on the image. A warm reset, accepted unless one is under way or start-up has stopped,
records its cause, keeps the island's owner and of the membership the state and the epoch; its end makes the part READY
and STALE. DOMAIN_RESET resets a demand domain that is ON and turns it off; PERST_N disables every host queue. Without
power nothing but a power-on reset has an effect on start-up. A boundary scan is served without power, and with the
debug port open. What logs 2, 32, 51, 54 and 57 choose is the model's. (R393, R419, R478, R480, R482, R485, R486, R487, R488, R498, R501, R506) -/
def Obligations.ResetsAndFatalFaults : Prop := ∀ (d : Part) (t : Nat) (s : State), let b := (s.dev d).boot
  let fatal (cause : Nat) (s u : State) : Prop := u.get d F.TEL_FATAL_CAUSE = cause ∧ (u.dev d).boot.fatal = true ∧
    .pin d "FATAL_N" false ∈ u.out ∧ (∀ o ∈ s.out, o ∈ u.out) ∧
    (s.get d F.CFG_BOOT_STATUS_STAGE < 7 → b.warm = false → u.get d F.CFG_BOOT_STATUS_STAGE = 15 ∧
      u.get d F.CFG_BOOT_STATUS_RESULT = if cause = 4 then 6 else cause)
  (b.fatal = false → b.off = false →
    (∀ c, 1 ≤ c → c ≤ 5 → Comes (.fatalFault d c t) t s (fatal c)) ∧
    Comes (.logicHang d t) t s (fatal 2) ∧ Comes (.clockLoss d t) t s (fatal 1) ∧ Comes (.refclkLoss d t) t s (fatal 1) ∧
    (∀ x : Int, 115 < x → d = .ep → Comes (.temperatureRead .ep [x] t) t s (fatal 5)) ∧
    (∀ l : List Int, l.length = 24 → d = .sw → (∃ x ∈ l, 115 < x) → Comes (.temperatureRead .sw l t) t s (fatal 5))) ∧
  (b.fatal = true ∨ b.off = true →
    (∀ c, 1 ≤ c → c ≤ 5 → Leaves (.fatalFault d c t) t s (fun a => a)) ∧ Leaves (.logicHang d t) t s (fun a => a)) ∧
  (∀ l : List Int, l.length = 24 → (∀ x ∈ l, x ≤ 105) → Leaves (.temperatureRead .sw l t) t s (fun a =>
    a.modKettle (fun k => { k with temp := l.foldl (fun m x => some (max x (m.getD x))) k.temp }))) ∧
  (∀ l : List Int, l.length = 24 → b.fatal = false → b.off = false → d = .sw →
    (∃ i x, l[i]? = some x ∧ (if i < 16 then 115 else if i < 20 then 110 else 105) < x) → Comes (.temperatureRead .sw l t) t s (fatal 5)) ∧
  (∀ x : Int, x ≤ 115 → Leaves (.temperatureRead .ep [x] t) t s (fun a => a)) ∧
  (Comes (.powerOnReset .sw t) t s (fun s u => u.ep = s.ep ∧ u.sw.dev.mem = [] ∧ u.sw.tiers.dir = [] ∧ u.sw.tiers.data = [] ∧
    u.sw.dev.counters = [] ∧ u.sw.cores = Switch.initial.cores ∧ u.sw.wins = Switch.initial.wins ∧ u.sw.hif = Hif.start (Config.i3cSa s.fresh) ∧
    (∀ a, a ≠ A.PWR_AGE_LOG_IDX → u.sw.dev.reg a = (Dev.initial .sw).reg a) ∧
    u.get .sw F.PWR_AGE_LOG_IDX_HEAD = s.get .sw F.PWR_AGE_LOG_IDX_HEAD ∧
    u.sw.kettle.log = s.sw.kettle.log ∧ (u.isl .sw).owner = none ∧ (u.isl .sw).masters = [] ∧ (u.isl .sw).sessions = [] ∧
    (u.isl .sw).fusedMin = (s.isl .sw).fusedMin ∧ (u.isl .sw).debugLock = (s.isl .sw).debugLock ∧
    (u.isl .sw).minima = (if (s.isl .sw).clearDue then [] else (s.isl .sw).minima) ∧
    (∀ n, (u.caddy.sb n).erases = (s.caddy.sb n).erases ∧ (u.caddy.sb n).reads = (s.caddy.sb n).reads ∧
      (u.caddy.sb n).dropped = (s.caddy.sb n).dropped) ∧
    u.sw.kettle.onNs = (if s.sw.dev.boot.off then s.sw.kettle.onNs else s.onTime) ∧
    u.sw.dev.boot.off = false ∧ u.sw.dev.boot.fatal = false)) ∧
  (Comes (.powerOnReset .ep t) t s (fun s u => u.sw = s.sw ∧ u.ep.flights = [] ∧ u.ep.rcache = [] ∧ u.ep.weights = [] ∧
    u.ep.rflows = [] ∧ u.get .ep F.EP_UCIE_STATUS_STATE = 1 ∧
    (∀ a, a ≠ A.EP_UCIE_STATUS → u.ep.dev.reg a = (Dev.initial .ep).reg a) ∧ u.ep.dev.mem = s.ep.dev.mem)) ∧
  (∀ r : BootResult, let g := s.get .sw F.CFG_BOOT_STATUS_STAGE
    let c := s.sw.dev.boot
    let isl := s.isl .sw
    let image := if (if g = 1 then isl.verdict r.slotA = 0 else s.get .sw F.CFG_BOOT_STATUS_SLOT = 0) then r.slotA else r.slotB
    (7 ≤ g ∨ c.off = true ∨ (c.warm = true ∧ 5 ≤ g) → Leaves (.bootStageDone .sw r t) t s (fun a => a)) ∧
    (g < 7 → c.off = false → (c.warm = true → g < 5) →
      (r.ok = false → Comes (.bootStageDone .sw r t) t s (fun _ u => u.get .sw F.CFG_BOOT_STATUS_STAGE = 15 ∧
        u.get .sw F.CFG_BOOT_STATUS_RESULT = r.result % 16 ∧ u.sw.dev.boot.warm = false)) ∧
      (r.ok = true → g = 1 ∨ g = 2 → isl.verdict image ≠ 0 → Comes (.bootStageDone .sw r t) t s (fun _ u =>
        u.get .sw F.CFG_BOOT_STATUS_STAGE = 15 ∧ u.get .sw F.CFG_BOOT_STATUS_RESULT = isl.verdict image)) ∧
      (r.ok = true → g = 1 ∨ g = 2 → ∀ f, image = some f → isl.verdict image = 0 → Comes (.bootStageDone .sw r t) t s (fun _ u =>
        u.get .sw F.CFG_BOOT_STATUS_STAGE = (if g = 2 ∧ c.warm = true then 4 else g + 1) ∧
        (g = 1 → u.get .sw F.CFG_BOOT_STATUS_SLOT = if isl.verdict r.slotA = 0 then 0 else 1) ∧
        (u.isl .sw).fusedMin = (if f.advances then max isl.fusedMin f.version else isl.fusedMin) ∧
        SMap.at none (u.isl .sw).firmware (g + 1) = some f.digest)) ∧
      (r.ok = true → g = 4 → r.ranks % 65536 ≠ 0xFFFF → Comes (.bootStageDone .sw r t) t s (fun _ u =>
        u.get .sw F.CFG_BOOT_STATUS_STAGE = 15 ∧ u.get .sw F.CFG_BOOT_STATUS_RESULT = 4)) ∧
      (r.ok = true → g ≠ 1 → g ≠ 2 → (g = 4 → r.ranks % 65536 = 0xFFFF) → Comes (.bootStageDone .sw r t) t s (fun s u =>
        u.get .sw F.CFG_BOOT_STATUS_STAGE = g + 1 ∧
        (g = 6 → u.get .sw F.CFG_BOOT_STATUS_TIME_MS = (s.now - c.resetAt) / 1000000 % 2 ^ 32))))) ∧
  (let g := s.get .ep F.CFG_BOOT_STATUS_STAGE
   let c := s.ep.dev.boot
   (c.warm = false → c.off = false → g ≠ 7 → g ≠ 15 →
      ∀ x : Option FwImage,
        (∀ f, x = some f → (s.isl .ep).verdict x = 0 → Comes (.epStartUp ⟨true, x⟩ t) t s (fun _ u =>
          u.get .ep F.CFG_BOOT_STATUS_STAGE = 7 ∧ SMap.at none (u.isl .ep).firmware 3 = some f.digest)) ∧
        ((s.isl .ep).verdict x ≠ 0 → Comes (.epStartUp ⟨true, x⟩ t) t s (fun _ u =>
          u.get .ep F.CFG_BOOT_STATUS_STAGE = 15 ∧ u.get .ep F.CFG_BOOT_STATUS_RESULT = (s.isl .ep).verdict x)) ∧
        Comes (.epStartUp ⟨false, x⟩ t) t s (fun _ u => u.get .ep F.CFG_BOOT_STATUS_STAGE = 15)) ∧
   (c.warm = true ∨ c.off = true ∨ g = 7 ∨ g = 15 → ∀ r, Leaves (.epStartUp r t) t s (fun a => a))) ∧
  (let mayReset (d : Part) : Prop := (s.dev d).boot.warm = false ∧ (s.dev d).boot.off = false ∧ s.get d F.CFG_BOOT_STATUS_STAGE ≠ 15
   let warm (d : Part) (last : Nat) (s u : State) : Prop := (u.dev d).boot.warm = true ∧ (u.dev d).boot.fatal = false ∧
     u.get d F.CFG_BOOT_STATUS_STAGE = 2 ∧ u.get d F.CFG_RESET_CAUSE_LAST = last ∧
     (u.isl d).owner = (s.isl d).owner ∧ (u.isl d).masters = (s.isl d).masters ∧
     u.membState d = s.membState d ∧ u.epoch d = s.epoch d ∧ u.coord d = 0 ∧ u.cseq d = 0
   (mayReset d → Comes (.warmN d t) t s (warm d 2)) ∧
   (mayReset .sw → Comes (.pf0Flr t) t s (warm .sw 3)) ∧
   (mayReset d → Up s d → Comes (.warm d t) t s (warm d 4)) ∧
   (¬ mayReset d → Leaves (.warmN d t) t s (fun a => a)) ∧
   (¬ mayReset .sw → Leaves (.pf0Flr t) t s (fun a => a)) ∧
   (¬ mayReset d → Up s d → Leaves (.warm d t) t s (fun a => a))) ∧
  (b.warm = true → Comes (.warmResetDone d t) t s (fun _ u => (u.dev d).boot.warm = false ∧
    u.get d F.CFG_BOOT_STATUS_STAGE = 7 ∧ u.membState d = Mb.STALE)) ∧
  (b.warm = false → Leaves (.warmResetDone d t) t s (fun a => a)) ∧
  (Up s .sw → s.sw.dev.boot.warm = false → s.sw.dev.boot.off = false →
    (∀ dom ∈ demandDomains, (s.domain dom = Dom.ON ∨ s.domain dom = Dom.WAKING) →
      Leaves (.domainReset .sw dom t) t s (fun a => (a.resetDomain dom).domainOff dom)) ∧
    (∀ dom ∈ demandDomains, s.domain dom ≠ Dom.ON → s.domain dom ≠ Dom.WAKING → Leaves (.domainReset .sw dom t) t s (fun a => a)) ∧
    (∀ dom, dom < 32 → dom ∉ demandDomains → dom ≠ 27 → Leaves (.domainReset .sw dom t) t s (fun a => a)) ∧
    Leaves (.domainReset .sw 27 t) t s (fun a => a.disableQueues)) ∧
  (Up s .ep → ∀ dom < 32, Leaves (.domainReset .ep dom t) t s (fun a => a)) ∧
  (s.sw.dev.boot.warm = true ∨ s.sw.dev.boot.off = true → Leaves (.perstN t) t s (fun a => a) ∧
    (Up s .sw → ∀ dom < 32, Leaves (.domainReset .sw dom t) t s (fun a => a))) ∧
  (s.sw.dev.boot.warm = false → s.sw.dev.boot.off = false → Comes (.perstN t) t s (fun _ u =>
    ∀ q < 1024, u.get .sw (F.HIF_SQ_B_ENABLE q) = 0 ∧ u.get .sw (F.HIF_CQ_B_ENABLE q) = 0 ∧
      ∀ m ∈ u.sw.hif.cmds, m.q < 1024 → m.silent = true)) ∧
  (b.off = true → Leaves (.powerLoss d t) t s (fun a => a)) ∧
  (b.off = false → Comes (.powerLoss d t) t s (fun _ u => (u.dev d).boot.off = true ∧ (u.dev d).txns = [] ∧
    (u.isl d).masters = [])) ∧
  (∀ bits : List Bool,
    (b.off = true ∨ (d = .sw ∧ s.get .sw F.SEC_MODE_DEBUG_OPEN = 1 ∧ s.conf = false) → Comes (.boundaryScan d bits t) t s (fun s u =>
      ∃ out, u.out = s.out ++ [.scan d out] ∧ out.length = bits.length)) ∧
    (¬ (b.off = true ∨ (d = .sw ∧ s.get .sw F.SEC_MODE_DEBUG_OPEN = 1 ∧ s.conf = false)) →
      Leaves (.boundaryScan d bits t) t s (fun a => a)))

/-- O58. With a command at the front of its queue, a step answers what that command answers on the state with the
queue's rest. On an empty queue the block idles (log 4, the model's choice). (spec/95_what_each_step_holds.md) -/
def Obligations.StepRunsFrontCommand : Prop := ∀ (i : Instr) (rest : List Instr) (s : State),
  step { s with pending := i :: rest } = exec i { s with pending := rest } ∧
  step { s with pending := [] } = .next { s with pending := [] }

/-- Every command that waits is well-formed. -/
def Sys2Proof.Claims.QueueWf (s : State) : Prop := ∀ i ∈ s.pending, i.wf = true

/-- The state after a number of steps, if each answers a next state. -/
def Sys2Proof.Claims.runs : Nat → State → Option State
  | 0, s => some s
  | n + 1, s => match step s with
    | .next u => runs n u
    | _ => none

/-- O59. From every state whose waiting commands are well-formed, a step answers a next state, with no fault and no
refusal; the queue that it leaves is the old one without its front command, so it is well-formed again, and the clock
never runs back; so n steps take n commands. A command that is not well-formed, because it names what the part does
not have, stops with the fault of that name, and no command is ever refused. That a command stops so is the model's
choice. (spec/95_what_each_step_holds.md, R14, R363, R369, R478) -/
def Obligations.QueueRunsToItsEnd : Prop :=
  (∀ s : State, QueueWf s → ∃ u, step s = .next u ∧ QueueWf u ∧ s.now ≤ u.now ∧ u.pending = s.pending.tail) ∧
  (∀ (n : Nat) (s : State), QueueWf s → ∃ u, runs n s = some u ∧ u.pending = s.pending.drop n) ∧
  (∀ (i : Instr) (s : State), i.wf = false → ∃ name, exec i s = .fault (.illFormed name)) ∧
  (∀ (s : State) (r : Refusal), step s ≠ .refused r)

/-- O60. After reset no command waits, every register of each part reads its map's reset value, memory lists nothing,
every queue, window, counter and transaction list is empty, no tenant owns the island, and no part is in the fatal
state. The queue invariant of QueueRunsToItsEnd holds. A register for which the spec gives no reset value starts at
zero, and memory that nothing has written reads zero (log 2, log 27, the model's choice). (R478, Table 0.7, Table
19.1) -/
def Obligations.ResetState : Prop := QueueWf State.reset ∧ State.reset.pending = [] ∧ ∀ d : Part, let v := State.reset.dev d
  (∀ a, v.reg a = (resetWord d a).toNat) ∧ (∀ a, v.stagedReg a = v.reg a) ∧ v.mem.wf = true ∧ (∀ a, v.mem.byte a = 0) ∧
  v.txns = [] ∧ v.inbox = [] ∧ v.outbox = [] ∧ v.waiting = [] ∧ v.counters = [] ∧ v.walks = [] ∧ v.isl.owner = none ∧
  v.boot.fatal = false ∧ (∀ p c, v.queue p c = []) ∧ (∀ p, (v.port p).phase = none ∧ (v.port p).replay = []) ∧
  (∀ w, State.reset.win w = Win.idle) ∧ (∀ n, State.reset.core n = Core.initial)
end

