-- ==== Sys2Proof/Laws/Maps.lean ====
section
/-! SUPPORT. What reading a sparse table, a memory or a bit field gives after a write, and that writes keep the
canonical form. -/

namespace Sys2Proof.Machine

/-! ### Tables -/

theorem SMap.at_drop_self {α : Type} (d : α) (m : List (Nat × α)) (k : Nat) : SMap.at d (SMap.drop m k) k = d := by
  induction m with
  | nil => rfl
  | cons e m ih =>
    obtain ⟨k', v'⟩ := e
    by_cases h : k' = k
    · simp [SMap.drop, h, ih]
    · have h2 : ¬ k = k' := fun e => h e.symm
      simp [SMap.drop, SMap.at, h, h2, ih]

theorem SMap.at_drop_ne {α : Type} (d : α) (m : List (Nat × α)) {k j : Nat} (h : j ≠ k) :
    SMap.at d (SMap.drop m k) j = SMap.at d m j := by
  induction m with
  | nil => rfl
  | cons e m ih =>
    obtain ⟨k', v'⟩ := e
    by_cases hk : k' = k
    · have hj : ¬ j = k' := fun e => h (e.trans hk)
      simp [SMap.drop, SMap.at, hk, ih, h]
    · by_cases hj : j = k' <;> simp [SMap.drop, SMap.at, hk, hj, ih]

/-- Reading at the index written gives the value written. -/
@[simp] theorem SMap.at_put_self {α : Type} [DecidableEq α] (d : α) (m : List (Nat × α)) (k : Nat) (v : α) :
    SMap.at d (SMap.put d m k v) k = v := by
  induction m with
  | nil => by_cases h : v = d <;> simp [SMap.put, SMap.at, h]
  | cons e m ih =>
    obtain ⟨k', v'⟩ := e
    by_cases h1 : k < k'
    · by_cases h : v = d
      · simp only [SMap.put, h1, h, if_true]
        exact SMap.at_drop_self _ _ _
      · simp [SMap.put, SMap.at, h1, h]
    · by_cases h2 : k = k'
      · subst h2
        by_cases h : v = d
        · simp only [SMap.put, h1, h, if_true, if_false]
          exact SMap.at_drop_self _ _ _
        · simp [SMap.put, SMap.at, h]
      · simp [SMap.put, SMap.at, h1, h2, ih]

/-- Every other index reads as before, whatever it reads as by default. -/
theorem SMap.at_put_ne {α : Type} [DecidableEq α] (c d : α) (m : List (Nat × α)) {k j : Nat} (v : α) (h : j ≠ k) :
    SMap.at c (SMap.put d m k v) j = SMap.at c m j := by
  induction m with
  | nil => by_cases h' : v = d <;> simp [SMap.put, SMap.at, h', h]
  | cons e m ih =>
    obtain ⟨k', v'⟩ := e
    by_cases h1 : k < k'
    · by_cases h' : v = d
      · simp only [SMap.put, h1, h', if_true]
        exact SMap.at_drop_ne _ _ h
      · simp [SMap.put, SMap.at, h1, h', h]
    · by_cases h2 : k = k'
      · subst h2
        by_cases h' : v = d
        · simp only [SMap.put, h1, h', if_true, if_false]
          rw [SMap.at_drop_ne _ _ h]
          simp [SMap.at, h]
        · simp [SMap.put, SMap.at, h', h]
      · by_cases hj : j = k' <;> simp [SMap.put, SMap.at, h1, h2, hj, ih]

theorem SMap.at_put {α : Type} [DecidableEq α] (d : α) (m : List (Nat × α)) (k j : Nat) (v : α) :
    SMap.at d (SMap.put d m k v) j = if j = k then v else SMap.at d m j := by
  by_cases h : j = k
  · simp [h]
  · simp [h, SMap.at_put_ne d d m v h]

/-- Reading a table to which a function has been applied, where the function keeps the default. -/
theorem SMap.at_map' {α : Type} [DecidableEq α] (f : α → α) (d : α) (hf : f d = d) (m : List (Nat × α)) (k : Nat) :
    SMap.at d (SMap.map' f d m) k = f (SMap.at d m k) := by
  induction m with
  | nil => simp [SMap.map', SMap.at, hf]
  | cons e m ih =>
    obtain ⟨k', v'⟩ := e
    have hc : SMap.map' f d ((k', v') :: m) = SMap.put d (SMap.map' f d m) k' (f v') := rfl
    rw [hc, SMap.at_put]
    by_cases h : k = k' <;> simp [SMap.at, h, ih]

theorem SMap.okFrom_le {α : Type} [DecidableEq α] (d : α) {m : List (Nat × α)} {lo lo' : Nat} (h : lo' ≤ lo)
    (hm : SMap.okFrom d lo m = true) : SMap.okFrom d lo' m = true := by
  cases m with
  | nil => rfl
  | cons e m =>
    obtain ⟨k, v⟩ := e
    simp only [SMap.okFrom, Bool.and_eq_true, decide_eq_true_eq] at hm ⊢
    exact ⟨⟨Nat.le_trans h hm.1.1, hm.1.2⟩, hm.2⟩

theorem SMap.okFrom_drop {α : Type} [DecidableEq α] (d : α) (k : Nat) : ∀ (m : List (Nat × α)) (lo : Nat),
    SMap.okFrom d lo m = true → SMap.okFrom d lo (SMap.drop m k) = true
  | [], _, _ => rfl
  | (k', v) :: m, lo, h => by
    simp only [SMap.okFrom, Bool.and_eq_true, decide_eq_true_eq] at h
    by_cases hk : k' = k
    · simp only [SMap.drop, hk, if_true]
      exact SMap.okFrom_drop d k m lo (SMap.okFrom_le d (by omega) h.2)
    · simp only [SMap.drop, hk, if_false, SMap.okFrom, Bool.and_eq_true, decide_eq_true_eq]
      exact ⟨h.1, SMap.okFrom_drop d k m (k' + 1) h.2⟩

theorem SMap.okFrom_put {α : Type} [DecidableEq α] (d : α) (k : Nat) (v : α) : ∀ (m : List (Nat × α)) (lo : Nat),
    lo ≤ k → SMap.okFrom d lo m = true → SMap.okFrom d lo (SMap.put d m k v) = true
  | [], lo, hk, _ => by
    by_cases h : v = d <;> simp [SMap.put, SMap.okFrom, h, hk]
  | (k', v') :: m, lo, hk, h => by
    have h0 := h
    simp only [SMap.okFrom, Bool.and_eq_true, decide_eq_true_eq] at h
    by_cases h1 : k < k'
    · by_cases hv : v = d
      · simp only [SMap.put, h1, hv, if_true]
        exact SMap.okFrom_drop d k _ _ h0
      · simp only [SMap.put, h1, hv, if_true, if_false, SMap.okFrom, Bool.and_eq_true, decide_eq_true_eq]
        exact ⟨⟨hk, hv⟩, ⟨h1, h.1.2⟩, h.2⟩
    · by_cases h2 : k = k'
      · subst h2
        by_cases hv : v = d
        · simp only [SMap.put, hv, if_true, Nat.lt_irrefl, if_false]
          exact SMap.okFrom_drop d k _ _ (SMap.okFrom_le d (by omega) h.2)
        · simp only [SMap.put, hv, if_true, if_false, Nat.lt_irrefl, SMap.okFrom, Bool.and_eq_true, decide_eq_true_eq]
          exact ⟨⟨hk, hv⟩, h.2⟩
      · simp only [SMap.put, h1, h2, if_false, SMap.okFrom, Bool.and_eq_true, decide_eq_true_eq]
        exact ⟨h.1, SMap.okFrom_put d k v m (k' + 1) (by omega) h.2⟩

/-- A write keeps the canonical form. -/
theorem SMap.ok_put {α : Type} [DecidableEq α] (d : α) (m : List (Nat × α)) (k : Nat) (v : α)
    (h : SMap.ok d m = true) : SMap.ok d (SMap.put d m k v) = true :=
  SMap.okFrom_put d k v m 0 (Nat.zero_le k) h

/-! ### Memories -/

theorem Memory.wf_setByte (m : Memory) (a : Nat) (b : Byte) (h : m.wf = true) : (m.setByte a b).wf = true :=
  SMap.ok_put 0 m a b h

theorem Memory.wf_setBytes (bs : List Byte) : ∀ (m : Memory) (a : Nat), m.wf = true → (m.setBytes a bs).wf = true := by
  induction bs with
  | nil => exact fun _ _ h => h
  | cons b bs ih => exact fun m a h => ih (m.setByte a b) (a + 1) (Memory.wf_setByte m a b h)

theorem Memory.wf_setNum (m : Memory) (a n x : Nat) (h : m.wf = true) : (m.setNum a n x).wf = true :=
  Memory.wf_setBytes _ m a h

theorem Memory.byte_setByte (m : Memory) (a x : Nat) (b : Byte) :
    (m.setByte a b).byte x = if x = a then b else m.byte x :=
  SMap.at_put 0 m a x b

/-- The bytes written read back, and every other byte reads as before. -/
theorem Memory.byte_setBytes (bs : List Byte) : ∀ (m : Memory) (a x : Nat),
    (m.setBytes a bs).byte x = if a ≤ x ∧ x < a + bs.length then bs.getD (x - a) 0 else m.byte x := by
  induction bs with
  | nil =>
    intro m a x
    have h : ¬ (a ≤ x ∧ x < a + ([] : List Byte).length) := by simp
    simp only [Memory.setBytes, h, if_false]
  | cons b bs ih =>
    intro m a x
    simp only [Memory.setBytes, ih, Memory.byte_setByte, List.length_cons]
    by_cases h : a + 1 ≤ x ∧ x < a + 1 + bs.length
    · have h2 : a ≤ x ∧ x < a + (bs.length + 1) := by omega
      have h3 : x - a = (x - (a + 1)) + 1 := by omega
      simp [h, h2, h3]
    · by_cases hx : x = a
      · subst hx
        rw [if_neg h, if_pos rfl, if_pos (by omega)]
        simp
      · have h2 : ¬ (a ≤ x ∧ x < a + (bs.length + 1)) := by omega
        rw [if_neg h, if_neg hx, if_neg h2]

theorem Memory.byte_setBytes_out (m : Memory) (a x : Nat) (bs : List Byte) (h : x < a ∨ a + bs.length ≤ x) :
    (m.setBytes a bs).byte x = m.byte x := by
  rw [Memory.byte_setBytes]
  have h2 : ¬ (a ≤ x ∧ x < a + bs.length) := by omega
  simp [h2]

@[simp] theorem leBytes_length : ∀ (n x : Nat), (leBytes n x).length = n
  | 0, _ => rfl
  | n + 1, x => by simp [leBytes, leBytes_length n]

/-! ### Bit fields -/

theorem bitsOf_lt (x hi lo : Nat) : bitsOf x hi lo < 2 ^ (hi + 1 - lo) :=
  Nat.mod_lt _ (Nat.two_pow_pos _)

/-- A field that has been set reads as the low bits of what it was set to. -/
theorem bitsOf_setBits (x hi lo v : Nat) : bitsOf (setBits x hi lo v) hi lo = v % 2 ^ (hi + 1 - lo) := by
  unfold setBits bitsOf
  generalize hw : 2 ^ (hi + 1 - lo) = W
  have hW : 0 < W := hw ▸ Nat.two_pow_pos _
  have hL : 0 < 2 ^ lo := Nat.two_pow_pos _
  generalize 2 ^ lo = L at *
  have h1 : x = L * (x / L) + x % L := (Nat.div_add_mod x L).symm
  have h2 : x / L = W * (x / L / W) + x / L % W := (Nat.div_add_mod _ W).symm
  have h3 : x - x / L % W * L + v % W * L = L * (W * (x / L / W) + v % W) + x % L := by
    have h4 : x = L * (W * (x / L / W)) + L * (x / L % W) + x % L := by
      rw [← Nat.mul_add, ← h2, ← h1]
    have h5 : x / L % W * L = L * (x / L % W) := Nat.mul_comm _ _
    have h6 : v % W * L = L * (v % W) := Nat.mul_comm _ _
    rw [Nat.mul_add, h5, h6]
    omega
  rw [h3, Nat.mul_add_div hL, Nat.div_eq_of_lt (Nat.mod_lt x hL), Nat.add_zero, Nat.mul_add_mod,
    Nat.mod_eq_of_lt (Nat.mod_lt v hW)]

/-- What a field write leaves: the low part, the field, the high part. -/
theorem setBits_eq (x hi lo v : Nat) :
    setBits x hi lo v
      = 2 ^ lo * (2 ^ (hi + 1 - lo) * (x / 2 ^ lo / 2 ^ (hi + 1 - lo)) + v % 2 ^ (hi + 1 - lo)) + x % 2 ^ lo := by
  unfold setBits bitsOf
  generalize 2 ^ (hi + 1 - lo) = W
  generalize 2 ^ lo = L
  have h1 : L * (x / L) + x % L = x := Nat.div_add_mod x L
  have h2 : W * (x / L / W) + x / L % W = x / L := Nat.div_add_mod _ W
  have h4 : L * (W * (x / L / W)) + L * (x / L % W) + x % L = x := by rw [← Nat.mul_add, h2, h1]
  rw [Nat.mul_add, Nat.mul_comm (x / L % W) L, Nat.mul_comm (v % W) L]
  omega

/-- A field below the one that is set reads as before. -/
theorem bitsOf_setBits_below (x hi lo v hi' lo' : Nat) (h : hi' < lo) :
    bitsOf (setBits x hi lo v) hi' lo' = bitsOf x hi' lo' := by
  by_cases hl : hi' + 1 ≤ lo'
  · simp [bitsOf, Nat.sub_eq_zero_of_le hl, Nat.mod_one]
  · obtain ⟨k, hk⟩ : ∃ k, lo = lo' + ((hi' + 1 - lo') + k) := ⟨lo - hi' - 1, by omega⟩
    have hx : ∀ y, y % 2 ^ lo / 2 ^ lo' % 2 ^ (hi' + 1 - lo') = bitsOf y hi' lo' := by
      intro y
      rw [hk, Nat.pow_add 2 lo', Nat.mod_mul_right_div_self, Nat.pow_add, Nat.mod_mul_right_mod]
      rfl
    rw [← hx, ← hx x, setBits_eq, Nat.mul_add_mod, Nat.mod_mod]

/-- A field above the one that is set reads as before. -/
theorem bitsOf_setBits_above (x hi lo v hi' lo' : Nat) (h : hi < lo') (hl : lo ≤ hi + 1) :
    bitsOf (setBits x hi lo v) hi' lo' = bitsOf x hi' lo' := by
  obtain ⟨k, hk⟩ : ∃ k, lo' = lo + ((hi + 1 - lo) + k) := ⟨lo' - hi - 1, by omega⟩
  unfold bitsOf
  congr 1
  rw [setBits_eq, hk, Nat.pow_add, Nat.pow_add, ← Nat.div_div_eq_div_mul, ← Nat.div_div_eq_div_mul,
    ← Nat.div_div_eq_div_mul, ← Nat.div_div_eq_div_mul, Nat.mul_add_div (Nat.two_pow_pos _),
    Nat.div_eq_of_lt (Nat.mod_lt x (Nat.two_pow_pos _)), Nat.add_zero, Nat.mul_add_div (Nat.two_pow_pos _),
    Nat.div_eq_of_lt (Nat.mod_lt v (Nat.two_pow_pos _)), Nat.add_zero]

end Sys2Proof.Machine
end

