-- ==== Sys2Proof/Laws/State.lean ====
section
/-! SUPPORT. What each named update of the state leaves and what it sets, one lemma for each field, so that no later proof
unfolds a record update. -/

namespace Sys2Proof.Machine

@[simp] theorem Dev.setReg_part (v : Dev) (a x : Nat) :
    (v.setReg a x).part = v.part := rfl
@[simp] theorem Dev.setReg_staged (v : Dev) (a x : Nat) :
    (v.setReg a x).staged = v.staged := rfl
@[simp] theorem Dev.setReg_potPassed (v : Dev) (a x : Nat) :
    (v.setReg a x).potPassed = v.potPassed := rfl
@[simp] theorem Dev.setReg_potRelease (v : Dev) (a x : Nat) :
    (v.setReg a x).potRelease = v.potRelease := rfl
@[simp] theorem Dev.setReg_clock0 (v : Dev) (a x : Nat) :
    (v.setReg a x).clock0 = v.clock0 := rfl
@[simp] theorem Dev.setReg_ports (v : Dev) (a x : Nat) :
    (v.setReg a x).ports = v.ports := rfl
@[simp] theorem Dev.setReg_counters (v : Dev) (a x : Nat) :
    (v.setReg a x).counters = v.counters := rfl
@[simp] theorem Dev.setReg_inbox (v : Dev) (a x : Nat) :
    (v.setReg a x).inbox = v.inbox := rfl
@[simp] theorem Dev.setReg_waiting (v : Dev) (a x : Nat) :
    (v.setReg a x).waiting = v.waiting := rfl
@[simp] theorem Dev.setReg_queues (v : Dev) (a x : Nat) :
    (v.setReg a x).queues = v.queues := rfl
@[simp] theorem Dev.setReg_resvUsed (v : Dev) (a x : Nat) :
    (v.setReg a x).resvUsed = v.resvUsed := rfl
@[simp] theorem Dev.setReg_sharedUsed (v : Dev) (a x : Nat) :
    (v.setReg a x).sharedUsed = v.sharedUsed := rfl
@[simp] theorem Dev.setReg_queueOld (v : Dev) (a x : Nat) :
    (v.setReg a x).queueOld = v.queueOld := rfl
@[simp] theorem Dev.setReg_vfin (v : Dev) (a x : Nat) :
    (v.setReg a x).vfin = v.vfin := rfl
@[simp] theorem Dev.setReg_headS (v : Dev) (a x : Nat) :
    (v.setReg a x).headS = v.headS := rfl
@[simp] theorem Dev.setReg_drrPos (v : Dev) (a x : Nat) :
    (v.setReg a x).drrPos = v.drrPos := rfl
@[simp] theorem Dev.setReg_drrFresh (v : Dev) (a x : Nat) :
    (v.setReg a x).drrFresh = v.drrFresh := rfl
@[simp] theorem Dev.setReg_deficit (v : Dev) (a x : Nat) :
    (v.setReg a x).deficit = v.deficit := rfl
@[simp] theorem Dev.setReg_avgQ (v : Dev) (a x : Nat) :
    (v.setReg a x).avgQ = v.avgQ := rfl
@[simp] theorem Dev.setReg_lfsr (v : Dev) (a x : Nat) :
    (v.setReg a x).lfsr = v.lfsr := rfl
@[simp] theorem Dev.setReg_meters (v : Dev) (a x : Nat) :
    (v.setReg a x).meters = v.meters := rfl
@[simp] theorem Dev.setReg_buckets (v : Dev) (a x : Nat) :
    (v.setReg a x).buckets = v.buckets := rfl
@[simp] theorem Dev.setReg_sprayCredit (v : Dev) (a x : Nat) :
    (v.setReg a x).sprayCredit = v.sprayCredit := rfl
@[simp] theorem Dev.setReg_nextTxn (v : Dev) (a x : Nat) :
    (v.setReg a x).nextTxn = v.nextTxn := rfl
@[simp] theorem Dev.setReg_nextUid (v : Dev) (a x : Nat) :
    (v.setReg a x).nextUid = v.nextUid := rfl
@[simp] theorem Dev.setReg_nextJob (v : Dev) (a x : Nat) :
    (v.setReg a x).nextJob = v.nextJob := rfl
@[simp] theorem Dev.setReg_pends (v : Dev) (a x : Nat) :
    (v.setReg a x).pends = v.pends := rfl
@[simp] theorem Dev.setReg_outbox (v : Dev) (a x : Nat) :
    (v.setReg a x).outbox = v.outbox := rfl
@[simp] theorem Dev.setReg_claims (v : Dev) (a x : Nat) :
    (v.setReg a x).claims = v.claims := rfl
@[simp] theorem Dev.setReg_nextBucket (v : Dev) (a x : Nat) :
    (v.setReg a x).nextBucket = v.nextBucket := rfl
@[simp] theorem Dev.setReg_txns (v : Dev) (a x : Nat) :
    (v.setReg a x).txns = v.txns := rfl
@[simp] theorem Dev.setReg_jobs (v : Dev) (a x : Nat) :
    (v.setReg a x).jobs = v.jobs := rfl
@[simp] theorem Dev.setReg_fences (v : Dev) (a x : Nat) :
    (v.setReg a x).fences = v.fences := rfl
@[simp] theorem Dev.setReg_gens (v : Dev) (a x : Nat) :
    (v.setReg a x).gens = v.gens := rfl
@[simp] theorem Dev.setReg_sprayAt (v : Dev) (a x : Nat) :
    (v.setReg a x).sprayAt = v.sprayAt := rfl
@[simp] theorem Dev.setReg_avgAt (v : Dev) (a x : Nat) :
    (v.setReg a x).avgAt = v.avgAt := rfl
@[simp] theorem Dev.setReg_boundWas (v : Dev) (a x : Nat) :
    (v.setReg a x).boundWas = v.boundWas := rfl
@[simp] theorem Dev.setReg_tierReqs (v : Dev) (a x : Nat) :
    (v.setReg a x).tierReqs = v.tierReqs := rfl
@[simp] theorem Dev.setReg_releases (v : Dev) (a x : Nat) :
    (v.setReg a x).releases = v.releases := rfl
@[simp] theorem Dev.setReg_acquires (v : Dev) (a x : Nat) :
    (v.setReg a x).acquires = v.acquires := rfl
@[simp] theorem Dev.setReg_failed (v : Dev) (a x : Nat) :
    (v.setReg a x).failed = v.failed := rfl
@[simp] theorem Dev.setReg_slots (v : Dev) (a x : Nat) :
    (v.setReg a x).slots = v.slots := rfl
@[simp] theorem Dev.setReg_nextDie (v : Dev) (a x : Nat) :
    (v.setReg a x).nextDie = v.nextDie := rfl
@[simp] theorem Dev.setReg_chans (v : Dev) (a x : Nat) :
    (v.setReg a x).chans = v.chans := rfl
@[simp] theorem Dev.setReg_chanMiss (v : Dev) (a x : Nat) :
    (v.setReg a x).chanMiss = v.chanMiss := rfl
@[simp] theorem Dev.setReg_chanBad (v : Dev) (a x : Nat) :
    (v.setReg a x).chanBad = v.chanBad := rfl
@[simp] theorem Dev.setReg_chanInv (v : Dev) (a x : Nat) :
    (v.setReg a x).chanInv = v.chanInv := rfl
@[simp] theorem Dev.setReg_flows (v : Dev) (a x : Nat) :
    (v.setReg a x).flows = v.flows := rfl
@[simp] theorem Dev.setReg_xcache (v : Dev) (a x : Nat) :
    (v.setReg a x).xcache = v.xcache := rfl
@[simp] theorem Dev.setReg_walks (v : Dev) (a x : Nat) :
    (v.setReg a x).walks = v.walks := rfl
@[simp] theorem Dev.setReg_nextWalk (v : Dev) (a x : Nat) :
    (v.setReg a x).nextWalk = v.nextWalk := rfl
@[simp] theorem Dev.setReg_xinv (v : Dev) (a x : Nat) :
    (v.setReg a x).xinv = v.xinv := rfl
@[simp] theorem Dev.setReg_fbatch (v : Dev) (a x : Nat) :
    (v.setReg a x).fbatch = v.fbatch := rfl
@[simp] theorem Dev.setReg_mem (v : Dev) (a x : Nat) :
    (v.setReg a x).mem = v.mem := rfl
@[simp] theorem Dev.setReg_memb (v : Dev) (a x : Nat) :
    (v.setReg a x).memb = v.memb := rfl
@[simp] theorem Dev.setReg_isl (v : Dev) (a x : Nat) :
    (v.setReg a x).isl = v.isl := rfl
@[simp] theorem Dev.setReg_tel (v : Dev) (a x : Nat) :
    (v.setReg a x).tel = v.tel := rfl
@[simp] theorem Dev.setReg_boot (v : Dev) (a x : Nat) :
    (v.setReg a x).boot = v.boot := rfl
@[simp] theorem Dev.set_part (v : Dev) (g : Fld) (x : Nat) :
    (v.set g x).part = v.part := rfl
@[simp] theorem Dev.set_staged (v : Dev) (g : Fld) (x : Nat) :
    (v.set g x).staged = v.staged := rfl
@[simp] theorem Dev.set_potPassed (v : Dev) (g : Fld) (x : Nat) :
    (v.set g x).potPassed = v.potPassed := rfl
@[simp] theorem Dev.set_potRelease (v : Dev) (g : Fld) (x : Nat) :
    (v.set g x).potRelease = v.potRelease := rfl
@[simp] theorem Dev.set_clock0 (v : Dev) (g : Fld) (x : Nat) :
    (v.set g x).clock0 = v.clock0 := rfl
@[simp] theorem Dev.set_ports (v : Dev) (g : Fld) (x : Nat) :
    (v.set g x).ports = v.ports := rfl
@[simp] theorem Dev.set_counters (v : Dev) (g : Fld) (x : Nat) :
    (v.set g x).counters = v.counters := rfl
@[simp] theorem Dev.set_inbox (v : Dev) (g : Fld) (x : Nat) :
    (v.set g x).inbox = v.inbox := rfl
@[simp] theorem Dev.set_waiting (v : Dev) (g : Fld) (x : Nat) :
    (v.set g x).waiting = v.waiting := rfl
@[simp] theorem Dev.set_queues (v : Dev) (g : Fld) (x : Nat) :
    (v.set g x).queues = v.queues := rfl
@[simp] theorem Dev.set_resvUsed (v : Dev) (g : Fld) (x : Nat) :
    (v.set g x).resvUsed = v.resvUsed := rfl
@[simp] theorem Dev.set_sharedUsed (v : Dev) (g : Fld) (x : Nat) :
    (v.set g x).sharedUsed = v.sharedUsed := rfl
@[simp] theorem Dev.set_queueOld (v : Dev) (g : Fld) (x : Nat) :
    (v.set g x).queueOld = v.queueOld := rfl
@[simp] theorem Dev.set_vfin (v : Dev) (g : Fld) (x : Nat) :
    (v.set g x).vfin = v.vfin := rfl
@[simp] theorem Dev.set_headS (v : Dev) (g : Fld) (x : Nat) :
    (v.set g x).headS = v.headS := rfl
@[simp] theorem Dev.set_drrPos (v : Dev) (g : Fld) (x : Nat) :
    (v.set g x).drrPos = v.drrPos := rfl
@[simp] theorem Dev.set_drrFresh (v : Dev) (g : Fld) (x : Nat) :
    (v.set g x).drrFresh = v.drrFresh := rfl
@[simp] theorem Dev.set_deficit (v : Dev) (g : Fld) (x : Nat) :
    (v.set g x).deficit = v.deficit := rfl
@[simp] theorem Dev.set_avgQ (v : Dev) (g : Fld) (x : Nat) :
    (v.set g x).avgQ = v.avgQ := rfl
@[simp] theorem Dev.set_lfsr (v : Dev) (g : Fld) (x : Nat) :
    (v.set g x).lfsr = v.lfsr := rfl
@[simp] theorem Dev.set_meters (v : Dev) (g : Fld) (x : Nat) :
    (v.set g x).meters = v.meters := rfl
@[simp] theorem Dev.set_buckets (v : Dev) (g : Fld) (x : Nat) :
    (v.set g x).buckets = v.buckets := rfl
@[simp] theorem Dev.set_sprayCredit (v : Dev) (g : Fld) (x : Nat) :
    (v.set g x).sprayCredit = v.sprayCredit := rfl
@[simp] theorem Dev.set_nextTxn (v : Dev) (g : Fld) (x : Nat) :
    (v.set g x).nextTxn = v.nextTxn := rfl
@[simp] theorem Dev.set_nextUid (v : Dev) (g : Fld) (x : Nat) :
    (v.set g x).nextUid = v.nextUid := rfl
@[simp] theorem Dev.set_nextJob (v : Dev) (g : Fld) (x : Nat) :
    (v.set g x).nextJob = v.nextJob := rfl
@[simp] theorem Dev.set_pends (v : Dev) (g : Fld) (x : Nat) :
    (v.set g x).pends = v.pends := rfl
@[simp] theorem Dev.set_outbox (v : Dev) (g : Fld) (x : Nat) :
    (v.set g x).outbox = v.outbox := rfl
@[simp] theorem Dev.set_claims (v : Dev) (g : Fld) (x : Nat) :
    (v.set g x).claims = v.claims := rfl
@[simp] theorem Dev.set_nextBucket (v : Dev) (g : Fld) (x : Nat) :
    (v.set g x).nextBucket = v.nextBucket := rfl
@[simp] theorem Dev.set_txns (v : Dev) (g : Fld) (x : Nat) :
    (v.set g x).txns = v.txns := rfl
@[simp] theorem Dev.set_jobs (v : Dev) (g : Fld) (x : Nat) :
    (v.set g x).jobs = v.jobs := rfl
@[simp] theorem Dev.set_fences (v : Dev) (g : Fld) (x : Nat) :
    (v.set g x).fences = v.fences := rfl
@[simp] theorem Dev.set_gens (v : Dev) (g : Fld) (x : Nat) :
    (v.set g x).gens = v.gens := rfl
@[simp] theorem Dev.set_sprayAt (v : Dev) (g : Fld) (x : Nat) :
    (v.set g x).sprayAt = v.sprayAt := rfl
@[simp] theorem Dev.set_avgAt (v : Dev) (g : Fld) (x : Nat) :
    (v.set g x).avgAt = v.avgAt := rfl
@[simp] theorem Dev.set_boundWas (v : Dev) (g : Fld) (x : Nat) :
    (v.set g x).boundWas = v.boundWas := rfl
@[simp] theorem Dev.set_tierReqs (v : Dev) (g : Fld) (x : Nat) :
    (v.set g x).tierReqs = v.tierReqs := rfl
@[simp] theorem Dev.set_releases (v : Dev) (g : Fld) (x : Nat) :
    (v.set g x).releases = v.releases := rfl
@[simp] theorem Dev.set_acquires (v : Dev) (g : Fld) (x : Nat) :
    (v.set g x).acquires = v.acquires := rfl
@[simp] theorem Dev.set_failed (v : Dev) (g : Fld) (x : Nat) :
    (v.set g x).failed = v.failed := rfl
@[simp] theorem Dev.set_slots (v : Dev) (g : Fld) (x : Nat) :
    (v.set g x).slots = v.slots := rfl
@[simp] theorem Dev.set_nextDie (v : Dev) (g : Fld) (x : Nat) :
    (v.set g x).nextDie = v.nextDie := rfl
@[simp] theorem Dev.set_chans (v : Dev) (g : Fld) (x : Nat) :
    (v.set g x).chans = v.chans := rfl
@[simp] theorem Dev.set_chanMiss (v : Dev) (g : Fld) (x : Nat) :
    (v.set g x).chanMiss = v.chanMiss := rfl
@[simp] theorem Dev.set_chanBad (v : Dev) (g : Fld) (x : Nat) :
    (v.set g x).chanBad = v.chanBad := rfl
@[simp] theorem Dev.set_chanInv (v : Dev) (g : Fld) (x : Nat) :
    (v.set g x).chanInv = v.chanInv := rfl
@[simp] theorem Dev.set_flows (v : Dev) (g : Fld) (x : Nat) :
    (v.set g x).flows = v.flows := rfl
@[simp] theorem Dev.set_xcache (v : Dev) (g : Fld) (x : Nat) :
    (v.set g x).xcache = v.xcache := rfl
@[simp] theorem Dev.set_walks (v : Dev) (g : Fld) (x : Nat) :
    (v.set g x).walks = v.walks := rfl
@[simp] theorem Dev.set_nextWalk (v : Dev) (g : Fld) (x : Nat) :
    (v.set g x).nextWalk = v.nextWalk := rfl
@[simp] theorem Dev.set_xinv (v : Dev) (g : Fld) (x : Nat) :
    (v.set g x).xinv = v.xinv := rfl
@[simp] theorem Dev.set_fbatch (v : Dev) (g : Fld) (x : Nat) :
    (v.set g x).fbatch = v.fbatch := rfl
@[simp] theorem Dev.set_mem (v : Dev) (g : Fld) (x : Nat) :
    (v.set g x).mem = v.mem := rfl
@[simp] theorem Dev.set_memb (v : Dev) (g : Fld) (x : Nat) :
    (v.set g x).memb = v.memb := rfl
@[simp] theorem Dev.set_isl (v : Dev) (g : Fld) (x : Nat) :
    (v.set g x).isl = v.isl := rfl
@[simp] theorem Dev.set_tel (v : Dev) (g : Fld) (x : Nat) :
    (v.set g x).tel = v.tel := rfl
@[simp] theorem Dev.set_boot (v : Dev) (g : Fld) (x : Nat) :
    (v.set g x).boot = v.boot := rfl
@[simp] theorem Dev.setPort_part (v : Dev) (p : Nat) (x : Port) :
    (v.setPort p x).part = v.part := rfl
@[simp] theorem Dev.setPort_regs (v : Dev) (p : Nat) (x : Port) :
    (v.setPort p x).regs = v.regs := rfl
@[simp] theorem Dev.setPort_staged (v : Dev) (p : Nat) (x : Port) :
    (v.setPort p x).staged = v.staged := rfl
@[simp] theorem Dev.setPort_potPassed (v : Dev) (p : Nat) (x : Port) :
    (v.setPort p x).potPassed = v.potPassed := rfl
@[simp] theorem Dev.setPort_potRelease (v : Dev) (p : Nat) (x : Port) :
    (v.setPort p x).potRelease = v.potRelease := rfl
@[simp] theorem Dev.setPort_clock0 (v : Dev) (p : Nat) (x : Port) :
    (v.setPort p x).clock0 = v.clock0 := rfl
@[simp] theorem Dev.setPort_counters (v : Dev) (p : Nat) (x : Port) :
    (v.setPort p x).counters = v.counters := rfl
@[simp] theorem Dev.setPort_inbox (v : Dev) (p : Nat) (x : Port) :
    (v.setPort p x).inbox = v.inbox := rfl
@[simp] theorem Dev.setPort_waiting (v : Dev) (p : Nat) (x : Port) :
    (v.setPort p x).waiting = v.waiting := rfl
@[simp] theorem Dev.setPort_queues (v : Dev) (p : Nat) (x : Port) :
    (v.setPort p x).queues = v.queues := rfl
@[simp] theorem Dev.setPort_resvUsed (v : Dev) (p : Nat) (x : Port) :
    (v.setPort p x).resvUsed = v.resvUsed := rfl
@[simp] theorem Dev.setPort_sharedUsed (v : Dev) (p : Nat) (x : Port) :
    (v.setPort p x).sharedUsed = v.sharedUsed := rfl
@[simp] theorem Dev.setPort_queueOld (v : Dev) (p : Nat) (x : Port) :
    (v.setPort p x).queueOld = v.queueOld := rfl
@[simp] theorem Dev.setPort_vfin (v : Dev) (p : Nat) (x : Port) :
    (v.setPort p x).vfin = v.vfin := rfl
@[simp] theorem Dev.setPort_headS (v : Dev) (p : Nat) (x : Port) :
    (v.setPort p x).headS = v.headS := rfl
@[simp] theorem Dev.setPort_drrPos (v : Dev) (p : Nat) (x : Port) :
    (v.setPort p x).drrPos = v.drrPos := rfl
@[simp] theorem Dev.setPort_drrFresh (v : Dev) (p : Nat) (x : Port) :
    (v.setPort p x).drrFresh = v.drrFresh := rfl
@[simp] theorem Dev.setPort_deficit (v : Dev) (p : Nat) (x : Port) :
    (v.setPort p x).deficit = v.deficit := rfl
@[simp] theorem Dev.setPort_avgQ (v : Dev) (p : Nat) (x : Port) :
    (v.setPort p x).avgQ = v.avgQ := rfl
@[simp] theorem Dev.setPort_lfsr (v : Dev) (p : Nat) (x : Port) :
    (v.setPort p x).lfsr = v.lfsr := rfl
@[simp] theorem Dev.setPort_meters (v : Dev) (p : Nat) (x : Port) :
    (v.setPort p x).meters = v.meters := rfl
@[simp] theorem Dev.setPort_buckets (v : Dev) (p : Nat) (x : Port) :
    (v.setPort p x).buckets = v.buckets := rfl
@[simp] theorem Dev.setPort_sprayCredit (v : Dev) (p : Nat) (x : Port) :
    (v.setPort p x).sprayCredit = v.sprayCredit := rfl
@[simp] theorem Dev.setPort_nextTxn (v : Dev) (p : Nat) (x : Port) :
    (v.setPort p x).nextTxn = v.nextTxn := rfl
@[simp] theorem Dev.setPort_nextUid (v : Dev) (p : Nat) (x : Port) :
    (v.setPort p x).nextUid = v.nextUid := rfl
@[simp] theorem Dev.setPort_nextJob (v : Dev) (p : Nat) (x : Port) :
    (v.setPort p x).nextJob = v.nextJob := rfl
@[simp] theorem Dev.setPort_pends (v : Dev) (p : Nat) (x : Port) :
    (v.setPort p x).pends = v.pends := rfl
@[simp] theorem Dev.setPort_outbox (v : Dev) (p : Nat) (x : Port) :
    (v.setPort p x).outbox = v.outbox := rfl
@[simp] theorem Dev.setPort_claims (v : Dev) (p : Nat) (x : Port) :
    (v.setPort p x).claims = v.claims := rfl
@[simp] theorem Dev.setPort_nextBucket (v : Dev) (p : Nat) (x : Port) :
    (v.setPort p x).nextBucket = v.nextBucket := rfl
@[simp] theorem Dev.setPort_txns (v : Dev) (p : Nat) (x : Port) :
    (v.setPort p x).txns = v.txns := rfl
@[simp] theorem Dev.setPort_jobs (v : Dev) (p : Nat) (x : Port) :
    (v.setPort p x).jobs = v.jobs := rfl
@[simp] theorem Dev.setPort_fences (v : Dev) (p : Nat) (x : Port) :
    (v.setPort p x).fences = v.fences := rfl
@[simp] theorem Dev.setPort_gens (v : Dev) (p : Nat) (x : Port) :
    (v.setPort p x).gens = v.gens := rfl
@[simp] theorem Dev.setPort_sprayAt (v : Dev) (p : Nat) (x : Port) :
    (v.setPort p x).sprayAt = v.sprayAt := rfl
@[simp] theorem Dev.setPort_avgAt (v : Dev) (p : Nat) (x : Port) :
    (v.setPort p x).avgAt = v.avgAt := rfl
@[simp] theorem Dev.setPort_boundWas (v : Dev) (p : Nat) (x : Port) :
    (v.setPort p x).boundWas = v.boundWas := rfl
@[simp] theorem Dev.setPort_tierReqs (v : Dev) (p : Nat) (x : Port) :
    (v.setPort p x).tierReqs = v.tierReqs := rfl
@[simp] theorem Dev.setPort_releases (v : Dev) (p : Nat) (x : Port) :
    (v.setPort p x).releases = v.releases := rfl
@[simp] theorem Dev.setPort_acquires (v : Dev) (p : Nat) (x : Port) :
    (v.setPort p x).acquires = v.acquires := rfl
@[simp] theorem Dev.setPort_failed (v : Dev) (p : Nat) (x : Port) :
    (v.setPort p x).failed = v.failed := rfl
@[simp] theorem Dev.setPort_slots (v : Dev) (p : Nat) (x : Port) :
    (v.setPort p x).slots = v.slots := rfl
@[simp] theorem Dev.setPort_nextDie (v : Dev) (p : Nat) (x : Port) :
    (v.setPort p x).nextDie = v.nextDie := rfl
@[simp] theorem Dev.setPort_chans (v : Dev) (p : Nat) (x : Port) :
    (v.setPort p x).chans = v.chans := rfl
@[simp] theorem Dev.setPort_chanMiss (v : Dev) (p : Nat) (x : Port) :
    (v.setPort p x).chanMiss = v.chanMiss := rfl
@[simp] theorem Dev.setPort_chanBad (v : Dev) (p : Nat) (x : Port) :
    (v.setPort p x).chanBad = v.chanBad := rfl
@[simp] theorem Dev.setPort_chanInv (v : Dev) (p : Nat) (x : Port) :
    (v.setPort p x).chanInv = v.chanInv := rfl
@[simp] theorem Dev.setPort_flows (v : Dev) (p : Nat) (x : Port) :
    (v.setPort p x).flows = v.flows := rfl
@[simp] theorem Dev.setPort_xcache (v : Dev) (p : Nat) (x : Port) :
    (v.setPort p x).xcache = v.xcache := rfl
@[simp] theorem Dev.setPort_walks (v : Dev) (p : Nat) (x : Port) :
    (v.setPort p x).walks = v.walks := rfl
@[simp] theorem Dev.setPort_nextWalk (v : Dev) (p : Nat) (x : Port) :
    (v.setPort p x).nextWalk = v.nextWalk := rfl
@[simp] theorem Dev.setPort_xinv (v : Dev) (p : Nat) (x : Port) :
    (v.setPort p x).xinv = v.xinv := rfl
@[simp] theorem Dev.setPort_fbatch (v : Dev) (p : Nat) (x : Port) :
    (v.setPort p x).fbatch = v.fbatch := rfl
@[simp] theorem Dev.setPort_mem (v : Dev) (p : Nat) (x : Port) :
    (v.setPort p x).mem = v.mem := rfl
@[simp] theorem Dev.setPort_memb (v : Dev) (p : Nat) (x : Port) :
    (v.setPort p x).memb = v.memb := rfl
@[simp] theorem Dev.setPort_isl (v : Dev) (p : Nat) (x : Port) :
    (v.setPort p x).isl = v.isl := rfl
@[simp] theorem Dev.setPort_tel (v : Dev) (p : Nat) (x : Port) :
    (v.setPort p x).tel = v.tel := rfl
@[simp] theorem Dev.setPort_boot (v : Dev) (p : Nat) (x : Port) :
    (v.setPort p x).boot = v.boot := rfl
@[simp] theorem Dev.modPort_part (v : Dev) (p : Nat) (g : Port → Port) :
    (v.modPort p g).part = v.part := rfl
@[simp] theorem Dev.modPort_regs (v : Dev) (p : Nat) (g : Port → Port) :
    (v.modPort p g).regs = v.regs := rfl
@[simp] theorem Dev.modPort_staged (v : Dev) (p : Nat) (g : Port → Port) :
    (v.modPort p g).staged = v.staged := rfl
@[simp] theorem Dev.modPort_potPassed (v : Dev) (p : Nat) (g : Port → Port) :
    (v.modPort p g).potPassed = v.potPassed := rfl
@[simp] theorem Dev.modPort_potRelease (v : Dev) (p : Nat) (g : Port → Port) :
    (v.modPort p g).potRelease = v.potRelease := rfl
@[simp] theorem Dev.modPort_clock0 (v : Dev) (p : Nat) (g : Port → Port) :
    (v.modPort p g).clock0 = v.clock0 := rfl
@[simp] theorem Dev.modPort_counters (v : Dev) (p : Nat) (g : Port → Port) :
    (v.modPort p g).counters = v.counters := rfl
@[simp] theorem Dev.modPort_inbox (v : Dev) (p : Nat) (g : Port → Port) :
    (v.modPort p g).inbox = v.inbox := rfl
@[simp] theorem Dev.modPort_waiting (v : Dev) (p : Nat) (g : Port → Port) :
    (v.modPort p g).waiting = v.waiting := rfl
@[simp] theorem Dev.modPort_queues (v : Dev) (p : Nat) (g : Port → Port) :
    (v.modPort p g).queues = v.queues := rfl
@[simp] theorem Dev.modPort_resvUsed (v : Dev) (p : Nat) (g : Port → Port) :
    (v.modPort p g).resvUsed = v.resvUsed := rfl
@[simp] theorem Dev.modPort_sharedUsed (v : Dev) (p : Nat) (g : Port → Port) :
    (v.modPort p g).sharedUsed = v.sharedUsed := rfl
@[simp] theorem Dev.modPort_queueOld (v : Dev) (p : Nat) (g : Port → Port) :
    (v.modPort p g).queueOld = v.queueOld := rfl
@[simp] theorem Dev.modPort_vfin (v : Dev) (p : Nat) (g : Port → Port) :
    (v.modPort p g).vfin = v.vfin := rfl
@[simp] theorem Dev.modPort_headS (v : Dev) (p : Nat) (g : Port → Port) :
    (v.modPort p g).headS = v.headS := rfl
@[simp] theorem Dev.modPort_drrPos (v : Dev) (p : Nat) (g : Port → Port) :
    (v.modPort p g).drrPos = v.drrPos := rfl
@[simp] theorem Dev.modPort_drrFresh (v : Dev) (p : Nat) (g : Port → Port) :
    (v.modPort p g).drrFresh = v.drrFresh := rfl
@[simp] theorem Dev.modPort_deficit (v : Dev) (p : Nat) (g : Port → Port) :
    (v.modPort p g).deficit = v.deficit := rfl
@[simp] theorem Dev.modPort_avgQ (v : Dev) (p : Nat) (g : Port → Port) :
    (v.modPort p g).avgQ = v.avgQ := rfl
@[simp] theorem Dev.modPort_lfsr (v : Dev) (p : Nat) (g : Port → Port) :
    (v.modPort p g).lfsr = v.lfsr := rfl
@[simp] theorem Dev.modPort_meters (v : Dev) (p : Nat) (g : Port → Port) :
    (v.modPort p g).meters = v.meters := rfl
@[simp] theorem Dev.modPort_buckets (v : Dev) (p : Nat) (g : Port → Port) :
    (v.modPort p g).buckets = v.buckets := rfl
@[simp] theorem Dev.modPort_sprayCredit (v : Dev) (p : Nat) (g : Port → Port) :
    (v.modPort p g).sprayCredit = v.sprayCredit := rfl
@[simp] theorem Dev.modPort_nextTxn (v : Dev) (p : Nat) (g : Port → Port) :
    (v.modPort p g).nextTxn = v.nextTxn := rfl
@[simp] theorem Dev.modPort_nextUid (v : Dev) (p : Nat) (g : Port → Port) :
    (v.modPort p g).nextUid = v.nextUid := rfl
@[simp] theorem Dev.modPort_nextJob (v : Dev) (p : Nat) (g : Port → Port) :
    (v.modPort p g).nextJob = v.nextJob := rfl
@[simp] theorem Dev.modPort_pends (v : Dev) (p : Nat) (g : Port → Port) :
    (v.modPort p g).pends = v.pends := rfl
@[simp] theorem Dev.modPort_outbox (v : Dev) (p : Nat) (g : Port → Port) :
    (v.modPort p g).outbox = v.outbox := rfl
@[simp] theorem Dev.modPort_claims (v : Dev) (p : Nat) (g : Port → Port) :
    (v.modPort p g).claims = v.claims := rfl
@[simp] theorem Dev.modPort_nextBucket (v : Dev) (p : Nat) (g : Port → Port) :
    (v.modPort p g).nextBucket = v.nextBucket := rfl
@[simp] theorem Dev.modPort_txns (v : Dev) (p : Nat) (g : Port → Port) :
    (v.modPort p g).txns = v.txns := rfl
@[simp] theorem Dev.modPort_jobs (v : Dev) (p : Nat) (g : Port → Port) :
    (v.modPort p g).jobs = v.jobs := rfl
@[simp] theorem Dev.modPort_fences (v : Dev) (p : Nat) (g : Port → Port) :
    (v.modPort p g).fences = v.fences := rfl
@[simp] theorem Dev.modPort_gens (v : Dev) (p : Nat) (g : Port → Port) :
    (v.modPort p g).gens = v.gens := rfl
@[simp] theorem Dev.modPort_sprayAt (v : Dev) (p : Nat) (g : Port → Port) :
    (v.modPort p g).sprayAt = v.sprayAt := rfl
@[simp] theorem Dev.modPort_avgAt (v : Dev) (p : Nat) (g : Port → Port) :
    (v.modPort p g).avgAt = v.avgAt := rfl
@[simp] theorem Dev.modPort_boundWas (v : Dev) (p : Nat) (g : Port → Port) :
    (v.modPort p g).boundWas = v.boundWas := rfl
@[simp] theorem Dev.modPort_tierReqs (v : Dev) (p : Nat) (g : Port → Port) :
    (v.modPort p g).tierReqs = v.tierReqs := rfl
@[simp] theorem Dev.modPort_releases (v : Dev) (p : Nat) (g : Port → Port) :
    (v.modPort p g).releases = v.releases := rfl
@[simp] theorem Dev.modPort_acquires (v : Dev) (p : Nat) (g : Port → Port) :
    (v.modPort p g).acquires = v.acquires := rfl
@[simp] theorem Dev.modPort_failed (v : Dev) (p : Nat) (g : Port → Port) :
    (v.modPort p g).failed = v.failed := rfl
@[simp] theorem Dev.modPort_slots (v : Dev) (p : Nat) (g : Port → Port) :
    (v.modPort p g).slots = v.slots := rfl
@[simp] theorem Dev.modPort_nextDie (v : Dev) (p : Nat) (g : Port → Port) :
    (v.modPort p g).nextDie = v.nextDie := rfl
@[simp] theorem Dev.modPort_chans (v : Dev) (p : Nat) (g : Port → Port) :
    (v.modPort p g).chans = v.chans := rfl
@[simp] theorem Dev.modPort_chanMiss (v : Dev) (p : Nat) (g : Port → Port) :
    (v.modPort p g).chanMiss = v.chanMiss := rfl
@[simp] theorem Dev.modPort_chanBad (v : Dev) (p : Nat) (g : Port → Port) :
    (v.modPort p g).chanBad = v.chanBad := rfl
@[simp] theorem Dev.modPort_chanInv (v : Dev) (p : Nat) (g : Port → Port) :
    (v.modPort p g).chanInv = v.chanInv := rfl
@[simp] theorem Dev.modPort_flows (v : Dev) (p : Nat) (g : Port → Port) :
    (v.modPort p g).flows = v.flows := rfl
@[simp] theorem Dev.modPort_xcache (v : Dev) (p : Nat) (g : Port → Port) :
    (v.modPort p g).xcache = v.xcache := rfl
@[simp] theorem Dev.modPort_walks (v : Dev) (p : Nat) (g : Port → Port) :
    (v.modPort p g).walks = v.walks := rfl
@[simp] theorem Dev.modPort_nextWalk (v : Dev) (p : Nat) (g : Port → Port) :
    (v.modPort p g).nextWalk = v.nextWalk := rfl
@[simp] theorem Dev.modPort_xinv (v : Dev) (p : Nat) (g : Port → Port) :
    (v.modPort p g).xinv = v.xinv := rfl
@[simp] theorem Dev.modPort_fbatch (v : Dev) (p : Nat) (g : Port → Port) :
    (v.modPort p g).fbatch = v.fbatch := rfl
@[simp] theorem Dev.modPort_mem (v : Dev) (p : Nat) (g : Port → Port) :
    (v.modPort p g).mem = v.mem := rfl
@[simp] theorem Dev.modPort_memb (v : Dev) (p : Nat) (g : Port → Port) :
    (v.modPort p g).memb = v.memb := rfl
@[simp] theorem Dev.modPort_isl (v : Dev) (p : Nat) (g : Port → Port) :
    (v.modPort p g).isl = v.isl := rfl
@[simp] theorem Dev.modPort_tel (v : Dev) (p : Nat) (g : Port → Port) :
    (v.modPort p g).tel = v.tel := rfl
@[simp] theorem Dev.modPort_boot (v : Dev) (p : Nat) (g : Port → Port) :
    (v.modPort p g).boot = v.boot := rfl
@[simp] theorem Dev.count_part (v : Dev) (i n : Nat) :
    (v.count i n).part = v.part := rfl
@[simp] theorem Dev.count_regs (v : Dev) (i n : Nat) :
    (v.count i n).regs = v.regs := rfl
@[simp] theorem Dev.count_staged (v : Dev) (i n : Nat) :
    (v.count i n).staged = v.staged := rfl
@[simp] theorem Dev.count_potPassed (v : Dev) (i n : Nat) :
    (v.count i n).potPassed = v.potPassed := rfl
@[simp] theorem Dev.count_potRelease (v : Dev) (i n : Nat) :
    (v.count i n).potRelease = v.potRelease := rfl
@[simp] theorem Dev.count_clock0 (v : Dev) (i n : Nat) :
    (v.count i n).clock0 = v.clock0 := rfl
@[simp] theorem Dev.count_ports (v : Dev) (i n : Nat) :
    (v.count i n).ports = v.ports := rfl
@[simp] theorem Dev.count_inbox (v : Dev) (i n : Nat) :
    (v.count i n).inbox = v.inbox := rfl
@[simp] theorem Dev.count_waiting (v : Dev) (i n : Nat) :
    (v.count i n).waiting = v.waiting := rfl
@[simp] theorem Dev.count_queues (v : Dev) (i n : Nat) :
    (v.count i n).queues = v.queues := rfl
@[simp] theorem Dev.count_resvUsed (v : Dev) (i n : Nat) :
    (v.count i n).resvUsed = v.resvUsed := rfl
@[simp] theorem Dev.count_sharedUsed (v : Dev) (i n : Nat) :
    (v.count i n).sharedUsed = v.sharedUsed := rfl
@[simp] theorem Dev.count_queueOld (v : Dev) (i n : Nat) :
    (v.count i n).queueOld = v.queueOld := rfl
@[simp] theorem Dev.count_vfin (v : Dev) (i n : Nat) :
    (v.count i n).vfin = v.vfin := rfl
@[simp] theorem Dev.count_headS (v : Dev) (i n : Nat) :
    (v.count i n).headS = v.headS := rfl
@[simp] theorem Dev.count_drrPos (v : Dev) (i n : Nat) :
    (v.count i n).drrPos = v.drrPos := rfl
@[simp] theorem Dev.count_drrFresh (v : Dev) (i n : Nat) :
    (v.count i n).drrFresh = v.drrFresh := rfl
@[simp] theorem Dev.count_deficit (v : Dev) (i n : Nat) :
    (v.count i n).deficit = v.deficit := rfl
@[simp] theorem Dev.count_avgQ (v : Dev) (i n : Nat) :
    (v.count i n).avgQ = v.avgQ := rfl
@[simp] theorem Dev.count_lfsr (v : Dev) (i n : Nat) :
    (v.count i n).lfsr = v.lfsr := rfl
@[simp] theorem Dev.count_meters (v : Dev) (i n : Nat) :
    (v.count i n).meters = v.meters := rfl
@[simp] theorem Dev.count_buckets (v : Dev) (i n : Nat) :
    (v.count i n).buckets = v.buckets := rfl
@[simp] theorem Dev.count_sprayCredit (v : Dev) (i n : Nat) :
    (v.count i n).sprayCredit = v.sprayCredit := rfl
@[simp] theorem Dev.count_nextTxn (v : Dev) (i n : Nat) :
    (v.count i n).nextTxn = v.nextTxn := rfl
@[simp] theorem Dev.count_nextUid (v : Dev) (i n : Nat) :
    (v.count i n).nextUid = v.nextUid := rfl
@[simp] theorem Dev.count_nextJob (v : Dev) (i n : Nat) :
    (v.count i n).nextJob = v.nextJob := rfl
@[simp] theorem Dev.count_pends (v : Dev) (i n : Nat) :
    (v.count i n).pends = v.pends := rfl
@[simp] theorem Dev.count_outbox (v : Dev) (i n : Nat) :
    (v.count i n).outbox = v.outbox := rfl
@[simp] theorem Dev.count_claims (v : Dev) (i n : Nat) :
    (v.count i n).claims = v.claims := rfl
@[simp] theorem Dev.count_nextBucket (v : Dev) (i n : Nat) :
    (v.count i n).nextBucket = v.nextBucket := rfl
@[simp] theorem Dev.count_txns (v : Dev) (i n : Nat) :
    (v.count i n).txns = v.txns := rfl
@[simp] theorem Dev.count_jobs (v : Dev) (i n : Nat) :
    (v.count i n).jobs = v.jobs := rfl
@[simp] theorem Dev.count_fences (v : Dev) (i n : Nat) :
    (v.count i n).fences = v.fences := rfl
@[simp] theorem Dev.count_gens (v : Dev) (i n : Nat) :
    (v.count i n).gens = v.gens := rfl
@[simp] theorem Dev.count_sprayAt (v : Dev) (i n : Nat) :
    (v.count i n).sprayAt = v.sprayAt := rfl
@[simp] theorem Dev.count_avgAt (v : Dev) (i n : Nat) :
    (v.count i n).avgAt = v.avgAt := rfl
@[simp] theorem Dev.count_boundWas (v : Dev) (i n : Nat) :
    (v.count i n).boundWas = v.boundWas := rfl
@[simp] theorem Dev.count_tierReqs (v : Dev) (i n : Nat) :
    (v.count i n).tierReqs = v.tierReqs := rfl
@[simp] theorem Dev.count_releases (v : Dev) (i n : Nat) :
    (v.count i n).releases = v.releases := rfl
@[simp] theorem Dev.count_acquires (v : Dev) (i n : Nat) :
    (v.count i n).acquires = v.acquires := rfl
@[simp] theorem Dev.count_failed (v : Dev) (i n : Nat) :
    (v.count i n).failed = v.failed := rfl
@[simp] theorem Dev.count_slots (v : Dev) (i n : Nat) :
    (v.count i n).slots = v.slots := rfl
@[simp] theorem Dev.count_nextDie (v : Dev) (i n : Nat) :
    (v.count i n).nextDie = v.nextDie := rfl
@[simp] theorem Dev.count_chans (v : Dev) (i n : Nat) :
    (v.count i n).chans = v.chans := rfl
@[simp] theorem Dev.count_chanMiss (v : Dev) (i n : Nat) :
    (v.count i n).chanMiss = v.chanMiss := rfl
@[simp] theorem Dev.count_chanBad (v : Dev) (i n : Nat) :
    (v.count i n).chanBad = v.chanBad := rfl
@[simp] theorem Dev.count_chanInv (v : Dev) (i n : Nat) :
    (v.count i n).chanInv = v.chanInv := rfl
@[simp] theorem Dev.count_flows (v : Dev) (i n : Nat) :
    (v.count i n).flows = v.flows := rfl
@[simp] theorem Dev.count_xcache (v : Dev) (i n : Nat) :
    (v.count i n).xcache = v.xcache := rfl
@[simp] theorem Dev.count_walks (v : Dev) (i n : Nat) :
    (v.count i n).walks = v.walks := rfl
@[simp] theorem Dev.count_nextWalk (v : Dev) (i n : Nat) :
    (v.count i n).nextWalk = v.nextWalk := rfl
@[simp] theorem Dev.count_xinv (v : Dev) (i n : Nat) :
    (v.count i n).xinv = v.xinv := rfl
@[simp] theorem Dev.count_fbatch (v : Dev) (i n : Nat) :
    (v.count i n).fbatch = v.fbatch := rfl
@[simp] theorem Dev.count_mem (v : Dev) (i n : Nat) :
    (v.count i n).mem = v.mem := rfl
@[simp] theorem Dev.count_memb (v : Dev) (i n : Nat) :
    (v.count i n).memb = v.memb := rfl
@[simp] theorem Dev.count_isl (v : Dev) (i n : Nat) :
    (v.count i n).isl = v.isl := rfl
@[simp] theorem Dev.count_tel (v : Dev) (i n : Nat) :
    (v.count i n).tel = v.tel := rfl
@[simp] theorem Dev.count_boot (v : Dev) (i n : Nat) :
    (v.count i n).boot = v.boot := rfl
@[simp] theorem State.setDev_now (s : State) (d : Part) (v : Dev) :
    (s.setDev d v).now = s.now := by cases d <;> rfl
@[simp] theorem State.setDev_fresh (s : State) (d : Part) (v : Dev) :
    (s.setDev d v).fresh = s.fresh := by cases d <;> rfl
@[simp] theorem State.setDev_out (s : State) (d : Part) (v : Dev) :
    (s.setDev d v).out = s.out := by cases d <;> rfl
@[simp] theorem State.setDev_pending (s : State) (d : Part) (v : Dev) :
    (s.setDev d v).pending = s.pending := by cases d <;> rfl
@[simp] theorem State.setDev_sw_wins (s : State) (d : Part) (v : Dev) :
    (s.setDev d v).sw.wins = s.sw.wins := by cases d <;> rfl
@[simp] theorem State.setDev_sw_emits (s : State) (d : Part) (v : Dev) :
    (s.setDev d v).sw.emits = s.sw.emits := by cases d <;> rfl
@[simp] theorem State.setDev_sw_nextEmit (s : State) (d : Part) (v : Dev) :
    (s.setDev d v).sw.nextEmit = s.sw.nextEmit := by cases d <;> rfl
@[simp] theorem State.setDev_sw_outs (s : State) (d : Part) (v : Dev) :
    (s.setDev d v).sw.outs = s.sw.outs := by cases d <;> rfl
@[simp] theorem State.setDev_sw_coll (s : State) (d : Part) (v : Dev) :
    (s.setDev d v).sw.coll = s.sw.coll := by cases d <;> rfl
@[simp] theorem State.setDev_sw_collDropped (s : State) (d : Part) (v : Dev) :
    (s.setDev d v).sw.collDropped = s.sw.collDropped := by cases d <;> rfl
@[simp] theorem State.setDev_sw_qDiscards (s : State) (d : Part) (v : Dev) :
    (s.setDev d v).sw.qDiscards = s.sw.qDiscards := by cases d <;> rfl
@[simp] theorem State.setDev_sw_seals (s : State) (d : Part) (v : Dev) :
    (s.setDev d v).sw.seals = s.sw.seals := by cases d <;> rfl
@[simp] theorem State.setDev_sw_cores (s : State) (d : Part) (v : Dev) :
    (s.setDev d v).sw.cores = s.sw.cores := by cases d <;> rfl
@[simp] theorem State.setDev_sw_load (s : State) (d : Part) (v : Dev) :
    (s.setDev d v).sw.load = s.sw.load := by cases d <;> rfl
@[simp] theorem State.setDev_sw_badCores (s : State) (d : Part) (v : Dev) :
    (s.setDev d v).sw.badCores = s.sw.badCores := by cases d <;> rfl
@[simp] theorem State.setDev_sw_badClusters (s : State) (d : Part) (v : Dev) :
    (s.setDev d v).sw.badClusters = s.sw.badClusters := by cases d <;> rfl
@[simp] theorem State.setDev_sw_squeues (s : State) (d : Part) (v : Dev) :
    (s.setDev d v).sw.squeues = s.sw.squeues := by cases d <;> rfl
@[simp] theorem State.setDev_sw_stepCtl (s : State) (d : Part) (v : Dev) :
    (s.setDev d v).sw.stepCtl = s.sw.stepCtl := by cases d <;> rfl
@[simp] theorem State.setDev_sw_tiers (s : State) (d : Part) (v : Dev) :
    (s.setDev d v).sw.tiers = s.sw.tiers := by cases d <;> rfl
@[simp] theorem State.setDev_sw_hif (s : State) (d : Part) (v : Dev) :
    (s.setDev d v).sw.hif = s.sw.hif := by cases d <;> rfl
@[simp] theorem State.setDev_sw_kettle (s : State) (d : Part) (v : Dev) :
    (s.setDev d v).sw.kettle = s.sw.kettle := by cases d <;> rfl
@[simp] theorem State.setDev_ep_flights (s : State) (d : Part) (v : Dev) :
    (s.setDev d v).ep.flights = s.ep.flights := by cases d <;> rfl
@[simp] theorem State.setDev_ep_l2recs (s : State) (d : Part) (v : Dev) :
    (s.setDev d v).ep.l2recs = s.ep.l2recs := by cases d <;> rfl
@[simp] theorem State.setDev_ep_rflows (s : State) (d : Part) (v : Dev) :
    (s.setDev d v).ep.rflows = s.ep.rflows := by cases d <;> rfl
@[simp] theorem State.setDev_ep_ordReset (s : State) (d : Part) (v : Dev) :
    (s.setDev d v).ep.ordReset = s.ep.ordReset := by cases d <;> rfl
@[simp] theorem State.setDev_ep_rcache (s : State) (d : Part) (v : Dev) :
    (s.setDev d v).ep.rcache = s.ep.rcache := by cases d <;> rfl
@[simp] theorem State.setDev_ep_rcInv (s : State) (d : Part) (v : Dev) :
    (s.setDev d v).ep.rcInv = s.ep.rcInv := by cases d <;> rfl
@[simp] theorem State.setDev_ep_weights (s : State) (d : Part) (v : Dev) :
    (s.setDev d v).ep.weights = s.ep.weights := by cases d <;> rfl
@[simp] theorem State.setDev_ep_segs (s : State) (d : Part) (v : Dev) :
    (s.setDev d v).ep.segs = s.ep.segs := by cases d <;> rfl
@[simp] theorem State.modDev_now (s : State) (d : Part) (g : Dev → Dev) :
    (s.modDev d g).now = s.now := by cases d <;> rfl
@[simp] theorem State.modDev_fresh (s : State) (d : Part) (g : Dev → Dev) :
    (s.modDev d g).fresh = s.fresh := by cases d <;> rfl
@[simp] theorem State.modDev_out (s : State) (d : Part) (g : Dev → Dev) :
    (s.modDev d g).out = s.out := by cases d <;> rfl
@[simp] theorem State.modDev_pending (s : State) (d : Part) (g : Dev → Dev) :
    (s.modDev d g).pending = s.pending := by cases d <;> rfl
@[simp] theorem State.modDev_sw_wins (s : State) (d : Part) (g : Dev → Dev) :
    (s.modDev d g).sw.wins = s.sw.wins := by cases d <;> rfl
@[simp] theorem State.modDev_sw_emits (s : State) (d : Part) (g : Dev → Dev) :
    (s.modDev d g).sw.emits = s.sw.emits := by cases d <;> rfl
@[simp] theorem State.modDev_sw_nextEmit (s : State) (d : Part) (g : Dev → Dev) :
    (s.modDev d g).sw.nextEmit = s.sw.nextEmit := by cases d <;> rfl
@[simp] theorem State.modDev_sw_outs (s : State) (d : Part) (g : Dev → Dev) :
    (s.modDev d g).sw.outs = s.sw.outs := by cases d <;> rfl
@[simp] theorem State.modDev_sw_coll (s : State) (d : Part) (g : Dev → Dev) :
    (s.modDev d g).sw.coll = s.sw.coll := by cases d <;> rfl
@[simp] theorem State.modDev_sw_collDropped (s : State) (d : Part) (g : Dev → Dev) :
    (s.modDev d g).sw.collDropped = s.sw.collDropped := by cases d <;> rfl
@[simp] theorem State.modDev_sw_qDiscards (s : State) (d : Part) (g : Dev → Dev) :
    (s.modDev d g).sw.qDiscards = s.sw.qDiscards := by cases d <;> rfl
@[simp] theorem State.modDev_sw_seals (s : State) (d : Part) (g : Dev → Dev) :
    (s.modDev d g).sw.seals = s.sw.seals := by cases d <;> rfl
@[simp] theorem State.modDev_sw_cores (s : State) (d : Part) (g : Dev → Dev) :
    (s.modDev d g).sw.cores = s.sw.cores := by cases d <;> rfl
@[simp] theorem State.modDev_sw_load (s : State) (d : Part) (g : Dev → Dev) :
    (s.modDev d g).sw.load = s.sw.load := by cases d <;> rfl
@[simp] theorem State.modDev_sw_badCores (s : State) (d : Part) (g : Dev → Dev) :
    (s.modDev d g).sw.badCores = s.sw.badCores := by cases d <;> rfl
@[simp] theorem State.modDev_sw_badClusters (s : State) (d : Part) (g : Dev → Dev) :
    (s.modDev d g).sw.badClusters = s.sw.badClusters := by cases d <;> rfl
@[simp] theorem State.modDev_sw_squeues (s : State) (d : Part) (g : Dev → Dev) :
    (s.modDev d g).sw.squeues = s.sw.squeues := by cases d <;> rfl
@[simp] theorem State.modDev_sw_stepCtl (s : State) (d : Part) (g : Dev → Dev) :
    (s.modDev d g).sw.stepCtl = s.sw.stepCtl := by cases d <;> rfl
@[simp] theorem State.modDev_sw_tiers (s : State) (d : Part) (g : Dev → Dev) :
    (s.modDev d g).sw.tiers = s.sw.tiers := by cases d <;> rfl
@[simp] theorem State.modDev_sw_hif (s : State) (d : Part) (g : Dev → Dev) :
    (s.modDev d g).sw.hif = s.sw.hif := by cases d <;> rfl
@[simp] theorem State.modDev_sw_kettle (s : State) (d : Part) (g : Dev → Dev) :
    (s.modDev d g).sw.kettle = s.sw.kettle := by cases d <;> rfl
@[simp] theorem State.modDev_ep_flights (s : State) (d : Part) (g : Dev → Dev) :
    (s.modDev d g).ep.flights = s.ep.flights := by cases d <;> rfl
@[simp] theorem State.modDev_ep_l2recs (s : State) (d : Part) (g : Dev → Dev) :
    (s.modDev d g).ep.l2recs = s.ep.l2recs := by cases d <;> rfl
@[simp] theorem State.modDev_ep_rflows (s : State) (d : Part) (g : Dev → Dev) :
    (s.modDev d g).ep.rflows = s.ep.rflows := by cases d <;> rfl
@[simp] theorem State.modDev_ep_ordReset (s : State) (d : Part) (g : Dev → Dev) :
    (s.modDev d g).ep.ordReset = s.ep.ordReset := by cases d <;> rfl
@[simp] theorem State.modDev_ep_rcache (s : State) (d : Part) (g : Dev → Dev) :
    (s.modDev d g).ep.rcache = s.ep.rcache := by cases d <;> rfl
@[simp] theorem State.modDev_ep_rcInv (s : State) (d : Part) (g : Dev → Dev) :
    (s.modDev d g).ep.rcInv = s.ep.rcInv := by cases d <;> rfl
@[simp] theorem State.modDev_ep_weights (s : State) (d : Part) (g : Dev → Dev) :
    (s.modDev d g).ep.weights = s.ep.weights := by cases d <;> rfl
@[simp] theorem State.modDev_ep_segs (s : State) (d : Part) (g : Dev → Dev) :
    (s.modDev d g).ep.segs = s.ep.segs := by cases d <;> rfl
@[simp] theorem State.set_now (s : State) (d : Part) (g : Fld) (x : Nat) :
    (s.set d g x).now = s.now := by cases d <;> rfl
@[simp] theorem State.set_fresh (s : State) (d : Part) (g : Fld) (x : Nat) :
    (s.set d g x).fresh = s.fresh := by cases d <;> rfl
@[simp] theorem State.set_out (s : State) (d : Part) (g : Fld) (x : Nat) :
    (s.set d g x).out = s.out := by cases d <;> rfl
@[simp] theorem State.set_pending (s : State) (d : Part) (g : Fld) (x : Nat) :
    (s.set d g x).pending = s.pending := by cases d <;> rfl
@[simp] theorem State.set_sw_wins (s : State) (d : Part) (g : Fld) (x : Nat) :
    (s.set d g x).sw.wins = s.sw.wins := by cases d <;> rfl
@[simp] theorem State.set_sw_emits (s : State) (d : Part) (g : Fld) (x : Nat) :
    (s.set d g x).sw.emits = s.sw.emits := by cases d <;> rfl
@[simp] theorem State.set_sw_nextEmit (s : State) (d : Part) (g : Fld) (x : Nat) :
    (s.set d g x).sw.nextEmit = s.sw.nextEmit := by cases d <;> rfl
@[simp] theorem State.set_sw_outs (s : State) (d : Part) (g : Fld) (x : Nat) :
    (s.set d g x).sw.outs = s.sw.outs := by cases d <;> rfl
@[simp] theorem State.set_sw_coll (s : State) (d : Part) (g : Fld) (x : Nat) :
    (s.set d g x).sw.coll = s.sw.coll := by cases d <;> rfl
@[simp] theorem State.set_sw_collDropped (s : State) (d : Part) (g : Fld) (x : Nat) :
    (s.set d g x).sw.collDropped = s.sw.collDropped := by cases d <;> rfl
@[simp] theorem State.set_sw_qDiscards (s : State) (d : Part) (g : Fld) (x : Nat) :
    (s.set d g x).sw.qDiscards = s.sw.qDiscards := by cases d <;> rfl
@[simp] theorem State.set_sw_seals (s : State) (d : Part) (g : Fld) (x : Nat) :
    (s.set d g x).sw.seals = s.sw.seals := by cases d <;> rfl
@[simp] theorem State.set_sw_cores (s : State) (d : Part) (g : Fld) (x : Nat) :
    (s.set d g x).sw.cores = s.sw.cores := by cases d <;> rfl
@[simp] theorem State.set_sw_load (s : State) (d : Part) (g : Fld) (x : Nat) :
    (s.set d g x).sw.load = s.sw.load := by cases d <;> rfl
@[simp] theorem State.set_sw_badCores (s : State) (d : Part) (g : Fld) (x : Nat) :
    (s.set d g x).sw.badCores = s.sw.badCores := by cases d <;> rfl
@[simp] theorem State.set_sw_badClusters (s : State) (d : Part) (g : Fld) (x : Nat) :
    (s.set d g x).sw.badClusters = s.sw.badClusters := by cases d <;> rfl
@[simp] theorem State.set_sw_squeues (s : State) (d : Part) (g : Fld) (x : Nat) :
    (s.set d g x).sw.squeues = s.sw.squeues := by cases d <;> rfl
@[simp] theorem State.set_sw_stepCtl (s : State) (d : Part) (g : Fld) (x : Nat) :
    (s.set d g x).sw.stepCtl = s.sw.stepCtl := by cases d <;> rfl
@[simp] theorem State.set_sw_tiers (s : State) (d : Part) (g : Fld) (x : Nat) :
    (s.set d g x).sw.tiers = s.sw.tiers := by cases d <;> rfl
@[simp] theorem State.set_sw_hif (s : State) (d : Part) (g : Fld) (x : Nat) :
    (s.set d g x).sw.hif = s.sw.hif := by cases d <;> rfl
@[simp] theorem State.set_sw_kettle (s : State) (d : Part) (g : Fld) (x : Nat) :
    (s.set d g x).sw.kettle = s.sw.kettle := by cases d <;> rfl
@[simp] theorem State.set_ep_flights (s : State) (d : Part) (g : Fld) (x : Nat) :
    (s.set d g x).ep.flights = s.ep.flights := by cases d <;> rfl
@[simp] theorem State.set_ep_l2recs (s : State) (d : Part) (g : Fld) (x : Nat) :
    (s.set d g x).ep.l2recs = s.ep.l2recs := by cases d <;> rfl
@[simp] theorem State.set_ep_rflows (s : State) (d : Part) (g : Fld) (x : Nat) :
    (s.set d g x).ep.rflows = s.ep.rflows := by cases d <;> rfl
@[simp] theorem State.set_ep_ordReset (s : State) (d : Part) (g : Fld) (x : Nat) :
    (s.set d g x).ep.ordReset = s.ep.ordReset := by cases d <;> rfl
@[simp] theorem State.set_ep_rcache (s : State) (d : Part) (g : Fld) (x : Nat) :
    (s.set d g x).ep.rcache = s.ep.rcache := by cases d <;> rfl
@[simp] theorem State.set_ep_rcInv (s : State) (d : Part) (g : Fld) (x : Nat) :
    (s.set d g x).ep.rcInv = s.ep.rcInv := by cases d <;> rfl
@[simp] theorem State.set_ep_weights (s : State) (d : Part) (g : Fld) (x : Nat) :
    (s.set d g x).ep.weights = s.ep.weights := by cases d <;> rfl
@[simp] theorem State.set_ep_segs (s : State) (d : Part) (g : Fld) (x : Nat) :
    (s.set d g x).ep.segs = s.ep.segs := by cases d <;> rfl
@[simp] theorem State.count_now (s : State) (d : Part) (i n : Nat) :
    (s.count d i n).now = s.now := by cases d <;> rfl
@[simp] theorem State.count_fresh (s : State) (d : Part) (i n : Nat) :
    (s.count d i n).fresh = s.fresh := by cases d <;> rfl
@[simp] theorem State.count_out (s : State) (d : Part) (i n : Nat) :
    (s.count d i n).out = s.out := by cases d <;> rfl
@[simp] theorem State.count_pending (s : State) (d : Part) (i n : Nat) :
    (s.count d i n).pending = s.pending := by cases d <;> rfl
@[simp] theorem State.count_sw_wins (s : State) (d : Part) (i n : Nat) :
    (s.count d i n).sw.wins = s.sw.wins := by cases d <;> rfl
@[simp] theorem State.count_sw_emits (s : State) (d : Part) (i n : Nat) :
    (s.count d i n).sw.emits = s.sw.emits := by cases d <;> rfl
@[simp] theorem State.count_sw_nextEmit (s : State) (d : Part) (i n : Nat) :
    (s.count d i n).sw.nextEmit = s.sw.nextEmit := by cases d <;> rfl
@[simp] theorem State.count_sw_outs (s : State) (d : Part) (i n : Nat) :
    (s.count d i n).sw.outs = s.sw.outs := by cases d <;> rfl
@[simp] theorem State.count_sw_coll (s : State) (d : Part) (i n : Nat) :
    (s.count d i n).sw.coll = s.sw.coll := by cases d <;> rfl
@[simp] theorem State.count_sw_collDropped (s : State) (d : Part) (i n : Nat) :
    (s.count d i n).sw.collDropped = s.sw.collDropped := by cases d <;> rfl
@[simp] theorem State.count_sw_qDiscards (s : State) (d : Part) (i n : Nat) :
    (s.count d i n).sw.qDiscards = s.sw.qDiscards := by cases d <;> rfl
@[simp] theorem State.count_sw_seals (s : State) (d : Part) (i n : Nat) :
    (s.count d i n).sw.seals = s.sw.seals := by cases d <;> rfl
@[simp] theorem State.count_sw_cores (s : State) (d : Part) (i n : Nat) :
    (s.count d i n).sw.cores = s.sw.cores := by cases d <;> rfl
@[simp] theorem State.count_sw_load (s : State) (d : Part) (i n : Nat) :
    (s.count d i n).sw.load = s.sw.load := by cases d <;> rfl
@[simp] theorem State.count_sw_badCores (s : State) (d : Part) (i n : Nat) :
    (s.count d i n).sw.badCores = s.sw.badCores := by cases d <;> rfl
@[simp] theorem State.count_sw_badClusters (s : State) (d : Part) (i n : Nat) :
    (s.count d i n).sw.badClusters = s.sw.badClusters := by cases d <;> rfl
@[simp] theorem State.count_sw_squeues (s : State) (d : Part) (i n : Nat) :
    (s.count d i n).sw.squeues = s.sw.squeues := by cases d <;> rfl
@[simp] theorem State.count_sw_stepCtl (s : State) (d : Part) (i n : Nat) :
    (s.count d i n).sw.stepCtl = s.sw.stepCtl := by cases d <;> rfl
@[simp] theorem State.count_sw_tiers (s : State) (d : Part) (i n : Nat) :
    (s.count d i n).sw.tiers = s.sw.tiers := by cases d <;> rfl
@[simp] theorem State.count_sw_hif (s : State) (d : Part) (i n : Nat) :
    (s.count d i n).sw.hif = s.sw.hif := by cases d <;> rfl
@[simp] theorem State.count_sw_kettle (s : State) (d : Part) (i n : Nat) :
    (s.count d i n).sw.kettle = s.sw.kettle := by cases d <;> rfl
@[simp] theorem State.count_ep_flights (s : State) (d : Part) (i n : Nat) :
    (s.count d i n).ep.flights = s.ep.flights := by cases d <;> rfl
@[simp] theorem State.count_ep_l2recs (s : State) (d : Part) (i n : Nat) :
    (s.count d i n).ep.l2recs = s.ep.l2recs := by cases d <;> rfl
@[simp] theorem State.count_ep_rflows (s : State) (d : Part) (i n : Nat) :
    (s.count d i n).ep.rflows = s.ep.rflows := by cases d <;> rfl
@[simp] theorem State.count_ep_ordReset (s : State) (d : Part) (i n : Nat) :
    (s.count d i n).ep.ordReset = s.ep.ordReset := by cases d <;> rfl
@[simp] theorem State.count_ep_rcache (s : State) (d : Part) (i n : Nat) :
    (s.count d i n).ep.rcache = s.ep.rcache := by cases d <;> rfl
@[simp] theorem State.count_ep_rcInv (s : State) (d : Part) (i n : Nat) :
    (s.count d i n).ep.rcInv = s.ep.rcInv := by cases d <;> rfl
@[simp] theorem State.count_ep_weights (s : State) (d : Part) (i n : Nat) :
    (s.count d i n).ep.weights = s.ep.weights := by cases d <;> rfl
@[simp] theorem State.count_ep_segs (s : State) (d : Part) (i n : Nat) :
    (s.count d i n).ep.segs = s.ep.segs := by cases d <;> rfl
@[simp] theorem State.modPort_now (s : State) (d : Part) (p : Nat) (g : Port → Port) :
    (s.modPort d p g).now = s.now := by cases d <;> rfl
@[simp] theorem State.modPort_fresh (s : State) (d : Part) (p : Nat) (g : Port → Port) :
    (s.modPort d p g).fresh = s.fresh := by cases d <;> rfl
@[simp] theorem State.modPort_out (s : State) (d : Part) (p : Nat) (g : Port → Port) :
    (s.modPort d p g).out = s.out := by cases d <;> rfl
@[simp] theorem State.modPort_pending (s : State) (d : Part) (p : Nat) (g : Port → Port) :
    (s.modPort d p g).pending = s.pending := by cases d <;> rfl
@[simp] theorem State.modPort_sw_wins (s : State) (d : Part) (p : Nat) (g : Port → Port) :
    (s.modPort d p g).sw.wins = s.sw.wins := by cases d <;> rfl
@[simp] theorem State.modPort_sw_emits (s : State) (d : Part) (p : Nat) (g : Port → Port) :
    (s.modPort d p g).sw.emits = s.sw.emits := by cases d <;> rfl
@[simp] theorem State.modPort_sw_nextEmit (s : State) (d : Part) (p : Nat) (g : Port → Port) :
    (s.modPort d p g).sw.nextEmit = s.sw.nextEmit := by cases d <;> rfl
@[simp] theorem State.modPort_sw_outs (s : State) (d : Part) (p : Nat) (g : Port → Port) :
    (s.modPort d p g).sw.outs = s.sw.outs := by cases d <;> rfl
@[simp] theorem State.modPort_sw_coll (s : State) (d : Part) (p : Nat) (g : Port → Port) :
    (s.modPort d p g).sw.coll = s.sw.coll := by cases d <;> rfl
@[simp] theorem State.modPort_sw_collDropped (s : State) (d : Part) (p : Nat) (g : Port → Port) :
    (s.modPort d p g).sw.collDropped = s.sw.collDropped := by cases d <;> rfl
@[simp] theorem State.modPort_sw_qDiscards (s : State) (d : Part) (p : Nat) (g : Port → Port) :
    (s.modPort d p g).sw.qDiscards = s.sw.qDiscards := by cases d <;> rfl
@[simp] theorem State.modPort_sw_seals (s : State) (d : Part) (p : Nat) (g : Port → Port) :
    (s.modPort d p g).sw.seals = s.sw.seals := by cases d <;> rfl
@[simp] theorem State.modPort_sw_cores (s : State) (d : Part) (p : Nat) (g : Port → Port) :
    (s.modPort d p g).sw.cores = s.sw.cores := by cases d <;> rfl
@[simp] theorem State.modPort_sw_load (s : State) (d : Part) (p : Nat) (g : Port → Port) :
    (s.modPort d p g).sw.load = s.sw.load := by cases d <;> rfl
@[simp] theorem State.modPort_sw_badCores (s : State) (d : Part) (p : Nat) (g : Port → Port) :
    (s.modPort d p g).sw.badCores = s.sw.badCores := by cases d <;> rfl
@[simp] theorem State.modPort_sw_badClusters (s : State) (d : Part) (p : Nat) (g : Port → Port) :
    (s.modPort d p g).sw.badClusters = s.sw.badClusters := by cases d <;> rfl
@[simp] theorem State.modPort_sw_squeues (s : State) (d : Part) (p : Nat) (g : Port → Port) :
    (s.modPort d p g).sw.squeues = s.sw.squeues := by cases d <;> rfl
@[simp] theorem State.modPort_sw_stepCtl (s : State) (d : Part) (p : Nat) (g : Port → Port) :
    (s.modPort d p g).sw.stepCtl = s.sw.stepCtl := by cases d <;> rfl
@[simp] theorem State.modPort_sw_tiers (s : State) (d : Part) (p : Nat) (g : Port → Port) :
    (s.modPort d p g).sw.tiers = s.sw.tiers := by cases d <;> rfl
@[simp] theorem State.modPort_sw_hif (s : State) (d : Part) (p : Nat) (g : Port → Port) :
    (s.modPort d p g).sw.hif = s.sw.hif := by cases d <;> rfl
@[simp] theorem State.modPort_sw_kettle (s : State) (d : Part) (p : Nat) (g : Port → Port) :
    (s.modPort d p g).sw.kettle = s.sw.kettle := by cases d <;> rfl
@[simp] theorem State.modPort_ep_flights (s : State) (d : Part) (p : Nat) (g : Port → Port) :
    (s.modPort d p g).ep.flights = s.ep.flights := by cases d <;> rfl
@[simp] theorem State.modPort_ep_l2recs (s : State) (d : Part) (p : Nat) (g : Port → Port) :
    (s.modPort d p g).ep.l2recs = s.ep.l2recs := by cases d <;> rfl
@[simp] theorem State.modPort_ep_rflows (s : State) (d : Part) (p : Nat) (g : Port → Port) :
    (s.modPort d p g).ep.rflows = s.ep.rflows := by cases d <;> rfl
@[simp] theorem State.modPort_ep_ordReset (s : State) (d : Part) (p : Nat) (g : Port → Port) :
    (s.modPort d p g).ep.ordReset = s.ep.ordReset := by cases d <;> rfl
@[simp] theorem State.modPort_ep_rcache (s : State) (d : Part) (p : Nat) (g : Port → Port) :
    (s.modPort d p g).ep.rcache = s.ep.rcache := by cases d <;> rfl
@[simp] theorem State.modPort_ep_rcInv (s : State) (d : Part) (p : Nat) (g : Port → Port) :
    (s.modPort d p g).ep.rcInv = s.ep.rcInv := by cases d <;> rfl
@[simp] theorem State.modPort_ep_weights (s : State) (d : Part) (p : Nat) (g : Port → Port) :
    (s.modPort d p g).ep.weights = s.ep.weights := by cases d <;> rfl
@[simp] theorem State.modPort_ep_segs (s : State) (d : Part) (p : Nat) (g : Port → Port) :
    (s.modPort d p g).ep.segs = s.ep.segs := by cases d <;> rfl
@[simp] theorem State.setDev_dev (s : State) (d : Part) (v : Dev) :
    (s.setDev d v).dev d = v := by cases d <;> rfl
@[simp] theorem State.setDev_sw_dev_ep (s : State) (v : Dev) :
    (s.setDev .sw v).dev .ep = s.dev .ep := rfl
@[simp] theorem State.setDev_ep_dev_sw (s : State) (v : Dev) :
    (s.setDev .ep v).dev .sw = s.dev .sw := rfl
@[simp] theorem State.modDev_dev (s : State) (d : Part) (g : Dev → Dev) :
    (s.modDev d g).dev d = g (s.dev d) := by cases d <;> rfl
@[simp] theorem State.modDev_sw_dev_ep (s : State) (g : Dev → Dev) :
    (s.modDev .sw g).dev .ep = s.dev .ep := rfl
@[simp] theorem State.modDev_ep_dev_sw (s : State) (g : Dev → Dev) :
    (s.modDev .ep g).dev .sw = s.dev .sw := rfl
@[simp] theorem State.set_dev (s : State) (d : Part) (g : Fld) (x : Nat) :
    (s.set d g x).dev d = (s.dev d).set g x := by cases d <;> rfl
@[simp] theorem State.count_dev (s : State) (d : Part) (i n : Nat) :
    (s.count d i n).dev d = (s.dev d).count i n := by cases d <;> rfl
@[simp] theorem State.modPort_dev (s : State) (d : Part) (p : Nat) (g : Port → Port) :
    (s.modPort d p g).dev d = (s.dev d).modPort p g := by cases d <;> rfl
@[simp] theorem State.tick_now (s : State) (t : Nat) :
    (s.tick t).now = max s.now t := rfl
@[simp] theorem State.tick_fresh (s : State) (t : Nat) :
    (s.tick t).fresh = s.fresh := rfl
@[simp] theorem State.tick_out (s : State) (t : Nat) :
    (s.tick t).out = s.out := rfl
@[simp] theorem State.tick_pending (s : State) (t : Nat) :
    (s.tick t).pending = s.pending := rfl
@[simp] theorem State.tick_sw (s : State) (t : Nat) :
    (s.tick t).sw = s.sw := rfl
@[simp] theorem State.tick_ep (s : State) (t : Nat) :
    (s.tick t).ep = s.ep := rfl
@[simp] theorem State.emit_now (s : State) (x : Out) :
    (s.emit x).now = s.now := rfl
@[simp] theorem State.emit_fresh (s : State) (x : Out) :
    (s.emit x).fresh = s.fresh := rfl
@[simp] theorem State.emit_out (s : State) (x : Out) :
    (s.emit x).out = s.out ++ [x] := rfl
@[simp] theorem State.emit_pending (s : State) (x : Out) :
    (s.emit x).pending = s.pending := rfl
@[simp] theorem State.emit_sw (s : State) (x : Out) :
    (s.emit x).sw = s.sw := rfl
@[simp] theorem State.emit_ep (s : State) (x : Out) :
    (s.emit x).ep = s.ep := rfl
@[simp] theorem State.emits_now (s : State) (x : List Out) :
    (s.emits x).now = s.now := rfl
@[simp] theorem State.emits_fresh (s : State) (x : List Out) :
    (s.emits x).fresh = s.fresh := rfl
@[simp] theorem State.emits_out (s : State) (x : List Out) :
    (s.emits x).out = s.out ++ x := rfl
@[simp] theorem State.emits_pending (s : State) (x : List Out) :
    (s.emits x).pending = s.pending := rfl
@[simp] theorem State.emits_sw (s : State) (x : List Out) :
    (s.emits x).sw = s.sw := rfl
@[simp] theorem State.emits_ep (s : State) (x : List Out) :
    (s.emits x).ep = s.ep := rfl
@[simp] theorem State.draw_now (s : State)  :
    (s.draw).now = s.now := rfl
@[simp] theorem State.draw_fresh (s : State)  :
    (s.draw).fresh = s.fresh + 1 := rfl
@[simp] theorem State.draw_out (s : State)  :
    (s.draw).out = s.out := rfl
@[simp] theorem State.draw_pending (s : State)  :
    (s.draw).pending = s.pending := rfl
@[simp] theorem State.draw_sw (s : State)  :
    (s.draw).sw = s.sw := rfl
@[simp] theorem State.draw_ep (s : State)  :
    (s.draw).ep = s.ep := rfl
@[simp] theorem State.keep_now (s u : State) :
    (s.keep u).now = s.now := rfl
@[simp] theorem State.keep_fresh (s u : State) :
    (s.keep u).fresh = u.fresh := rfl
@[simp] theorem State.keep_out (s u : State) :
    (s.keep u).out = u.out := rfl
@[simp] theorem State.keep_pending (s u : State) :
    (s.keep u).pending = s.pending := rfl
@[simp] theorem State.keep_sw (s u : State) :
    (s.keep u).sw = u.sw := rfl
@[simp] theorem State.keep_ep (s u : State) :
    (s.keep u).ep = u.ep := rfl
@[simp] theorem State.tick_dev (s : State) (t : Nat) (d : Part) :
    (s.tick t).dev d = s.dev d := by cases d <;> rfl
@[simp] theorem State.emit_dev (s : State) (x : Out) (d : Part) :
    (s.emit x).dev d = s.dev d := by cases d <;> rfl
@[simp] theorem State.emits_dev (s : State) (x : List Out) (d : Part) :
    (s.emits x).dev d = s.dev d := by cases d <;> rfl
@[simp] theorem State.draw_dev (s : State)  (d : Part) :
    (s.draw).dev d = s.dev d := by cases d <;> rfl
@[simp] theorem State.keep_dev (s u : State) (d : Part) :
    (s.keep u).dev d = u.dev d := by cases d <;> rfl
@[simp] theorem State.setCore_now (s : State) (n : Nat) (c : Core) :
    (s.setCore n c).now = s.now := rfl
@[simp] theorem State.setCore_fresh (s : State) (n : Nat) (c : Core) :
    (s.setCore n c).fresh = s.fresh := rfl
@[simp] theorem State.setCore_out (s : State) (n : Nat) (c : Core) :
    (s.setCore n c).out = s.out := rfl
@[simp] theorem State.setCore_pending (s : State) (n : Nat) (c : Core) :
    (s.setCore n c).pending = s.pending := rfl
@[simp] theorem State.setCore_ep (s : State) (n : Nat) (c : Core) :
    (s.setCore n c).ep = s.ep := rfl
@[simp] theorem State.setCore_sw_dev (s : State) (n : Nat) (c : Core) :
    (s.setCore n c).sw.dev = s.sw.dev := rfl
@[simp] theorem State.setCore_sw_wins (s : State) (n : Nat) (c : Core) :
    (s.setCore n c).sw.wins = s.sw.wins := rfl
@[simp] theorem State.setCore_sw_emits (s : State) (n : Nat) (c : Core) :
    (s.setCore n c).sw.emits = s.sw.emits := rfl
@[simp] theorem State.setCore_sw_nextEmit (s : State) (n : Nat) (c : Core) :
    (s.setCore n c).sw.nextEmit = s.sw.nextEmit := rfl
@[simp] theorem State.setCore_sw_outs (s : State) (n : Nat) (c : Core) :
    (s.setCore n c).sw.outs = s.sw.outs := rfl
@[simp] theorem State.setCore_sw_coll (s : State) (n : Nat) (c : Core) :
    (s.setCore n c).sw.coll = s.sw.coll := rfl
@[simp] theorem State.setCore_sw_collDropped (s : State) (n : Nat) (c : Core) :
    (s.setCore n c).sw.collDropped = s.sw.collDropped := rfl
@[simp] theorem State.setCore_sw_qDiscards (s : State) (n : Nat) (c : Core) :
    (s.setCore n c).sw.qDiscards = s.sw.qDiscards := rfl
@[simp] theorem State.setCore_sw_seals (s : State) (n : Nat) (c : Core) :
    (s.setCore n c).sw.seals = s.sw.seals := rfl
@[simp] theorem State.setCore_sw_load (s : State) (n : Nat) (c : Core) :
    (s.setCore n c).sw.load = s.sw.load := rfl
@[simp] theorem State.setCore_sw_badCores (s : State) (n : Nat) (c : Core) :
    (s.setCore n c).sw.badCores = s.sw.badCores := rfl
@[simp] theorem State.setCore_sw_badClusters (s : State) (n : Nat) (c : Core) :
    (s.setCore n c).sw.badClusters = s.sw.badClusters := rfl
@[simp] theorem State.setCore_sw_squeues (s : State) (n : Nat) (c : Core) :
    (s.setCore n c).sw.squeues = s.sw.squeues := rfl
@[simp] theorem State.setCore_sw_stepCtl (s : State) (n : Nat) (c : Core) :
    (s.setCore n c).sw.stepCtl = s.sw.stepCtl := rfl
@[simp] theorem State.setCore_sw_tiers (s : State) (n : Nat) (c : Core) :
    (s.setCore n c).sw.tiers = s.sw.tiers := rfl
@[simp] theorem State.setCore_sw_hif (s : State) (n : Nat) (c : Core) :
    (s.setCore n c).sw.hif = s.sw.hif := rfl
@[simp] theorem State.setCore_sw_kettle (s : State) (n : Nat) (c : Core) :
    (s.setCore n c).sw.kettle = s.sw.kettle := rfl
@[simp] theorem State.setCore_dev (s : State) (n : Nat) (c : Core) (d : Part) :
    (s.setCore n c).dev d = s.dev d := by cases d <;> rfl
@[simp] theorem State.modCore_now (s : State) (n : Nat) (g : Core → Core) :
    (s.modCore n g).now = s.now := rfl
@[simp] theorem State.modCore_fresh (s : State) (n : Nat) (g : Core → Core) :
    (s.modCore n g).fresh = s.fresh := rfl
@[simp] theorem State.modCore_out (s : State) (n : Nat) (g : Core → Core) :
    (s.modCore n g).out = s.out := rfl
@[simp] theorem State.modCore_pending (s : State) (n : Nat) (g : Core → Core) :
    (s.modCore n g).pending = s.pending := rfl
@[simp] theorem State.modCore_ep (s : State) (n : Nat) (g : Core → Core) :
    (s.modCore n g).ep = s.ep := rfl
@[simp] theorem State.modCore_sw_dev (s : State) (n : Nat) (g : Core → Core) :
    (s.modCore n g).sw.dev = s.sw.dev := rfl
@[simp] theorem State.modCore_sw_wins (s : State) (n : Nat) (g : Core → Core) :
    (s.modCore n g).sw.wins = s.sw.wins := rfl
@[simp] theorem State.modCore_sw_emits (s : State) (n : Nat) (g : Core → Core) :
    (s.modCore n g).sw.emits = s.sw.emits := rfl
@[simp] theorem State.modCore_sw_nextEmit (s : State) (n : Nat) (g : Core → Core) :
    (s.modCore n g).sw.nextEmit = s.sw.nextEmit := rfl
@[simp] theorem State.modCore_sw_outs (s : State) (n : Nat) (g : Core → Core) :
    (s.modCore n g).sw.outs = s.sw.outs := rfl
@[simp] theorem State.modCore_sw_coll (s : State) (n : Nat) (g : Core → Core) :
    (s.modCore n g).sw.coll = s.sw.coll := rfl
@[simp] theorem State.modCore_sw_collDropped (s : State) (n : Nat) (g : Core → Core) :
    (s.modCore n g).sw.collDropped = s.sw.collDropped := rfl
@[simp] theorem State.modCore_sw_qDiscards (s : State) (n : Nat) (g : Core → Core) :
    (s.modCore n g).sw.qDiscards = s.sw.qDiscards := rfl
@[simp] theorem State.modCore_sw_seals (s : State) (n : Nat) (g : Core → Core) :
    (s.modCore n g).sw.seals = s.sw.seals := rfl
@[simp] theorem State.modCore_sw_load (s : State) (n : Nat) (g : Core → Core) :
    (s.modCore n g).sw.load = s.sw.load := rfl
@[simp] theorem State.modCore_sw_badCores (s : State) (n : Nat) (g : Core → Core) :
    (s.modCore n g).sw.badCores = s.sw.badCores := rfl
@[simp] theorem State.modCore_sw_badClusters (s : State) (n : Nat) (g : Core → Core) :
    (s.modCore n g).sw.badClusters = s.sw.badClusters := rfl
@[simp] theorem State.modCore_sw_squeues (s : State) (n : Nat) (g : Core → Core) :
    (s.modCore n g).sw.squeues = s.sw.squeues := rfl
@[simp] theorem State.modCore_sw_stepCtl (s : State) (n : Nat) (g : Core → Core) :
    (s.modCore n g).sw.stepCtl = s.sw.stepCtl := rfl
@[simp] theorem State.modCore_sw_tiers (s : State) (n : Nat) (g : Core → Core) :
    (s.modCore n g).sw.tiers = s.sw.tiers := rfl
@[simp] theorem State.modCore_sw_hif (s : State) (n : Nat) (g : Core → Core) :
    (s.modCore n g).sw.hif = s.sw.hif := rfl
@[simp] theorem State.modCore_sw_kettle (s : State) (n : Nat) (g : Core → Core) :
    (s.modCore n g).sw.kettle = s.sw.kettle := rfl
@[simp] theorem State.modCore_dev (s : State) (n : Nat) (g : Core → Core) (d : Part) :
    (s.modCore n g).dev d = s.dev d := by cases d <;> rfl
@[simp] theorem State.modHif_now (s : State) (g : Hif → Hif) :
    (s.modHif g).now = s.now := rfl
@[simp] theorem State.modHif_fresh (s : State) (g : Hif → Hif) :
    (s.modHif g).fresh = s.fresh := rfl
@[simp] theorem State.modHif_out (s : State) (g : Hif → Hif) :
    (s.modHif g).out = s.out := rfl
@[simp] theorem State.modHif_pending (s : State) (g : Hif → Hif) :
    (s.modHif g).pending = s.pending := rfl
@[simp] theorem State.modHif_ep (s : State) (g : Hif → Hif) :
    (s.modHif g).ep = s.ep := rfl
@[simp] theorem State.modHif_sw_dev (s : State) (g : Hif → Hif) :
    (s.modHif g).sw.dev = s.sw.dev := rfl
@[simp] theorem State.modHif_sw_wins (s : State) (g : Hif → Hif) :
    (s.modHif g).sw.wins = s.sw.wins := rfl
@[simp] theorem State.modHif_sw_emits (s : State) (g : Hif → Hif) :
    (s.modHif g).sw.emits = s.sw.emits := rfl
@[simp] theorem State.modHif_sw_nextEmit (s : State) (g : Hif → Hif) :
    (s.modHif g).sw.nextEmit = s.sw.nextEmit := rfl
@[simp] theorem State.modHif_sw_outs (s : State) (g : Hif → Hif) :
    (s.modHif g).sw.outs = s.sw.outs := rfl
@[simp] theorem State.modHif_sw_coll (s : State) (g : Hif → Hif) :
    (s.modHif g).sw.coll = s.sw.coll := rfl
@[simp] theorem State.modHif_sw_collDropped (s : State) (g : Hif → Hif) :
    (s.modHif g).sw.collDropped = s.sw.collDropped := rfl
@[simp] theorem State.modHif_sw_qDiscards (s : State) (g : Hif → Hif) :
    (s.modHif g).sw.qDiscards = s.sw.qDiscards := rfl
@[simp] theorem State.modHif_sw_seals (s : State) (g : Hif → Hif) :
    (s.modHif g).sw.seals = s.sw.seals := rfl
@[simp] theorem State.modHif_sw_cores (s : State) (g : Hif → Hif) :
    (s.modHif g).sw.cores = s.sw.cores := rfl
@[simp] theorem State.modHif_sw_load (s : State) (g : Hif → Hif) :
    (s.modHif g).sw.load = s.sw.load := rfl
@[simp] theorem State.modHif_sw_badCores (s : State) (g : Hif → Hif) :
    (s.modHif g).sw.badCores = s.sw.badCores := rfl
@[simp] theorem State.modHif_sw_badClusters (s : State) (g : Hif → Hif) :
    (s.modHif g).sw.badClusters = s.sw.badClusters := rfl
@[simp] theorem State.modHif_sw_squeues (s : State) (g : Hif → Hif) :
    (s.modHif g).sw.squeues = s.sw.squeues := rfl
@[simp] theorem State.modHif_sw_stepCtl (s : State) (g : Hif → Hif) :
    (s.modHif g).sw.stepCtl = s.sw.stepCtl := rfl
@[simp] theorem State.modHif_sw_tiers (s : State) (g : Hif → Hif) :
    (s.modHif g).sw.tiers = s.sw.tiers := rfl
@[simp] theorem State.modHif_sw_kettle (s : State) (g : Hif → Hif) :
    (s.modHif g).sw.kettle = s.sw.kettle := rfl
@[simp] theorem State.modHif_dev (s : State) (g : Hif → Hif) (d : Part) :
    (s.modHif g).dev d = s.dev d := by cases d <;> rfl
@[simp] theorem State.modTiers_now (s : State) (g : Tiers → Tiers) :
    (s.modTiers g).now = s.now := rfl
@[simp] theorem State.modTiers_fresh (s : State) (g : Tiers → Tiers) :
    (s.modTiers g).fresh = s.fresh := rfl
@[simp] theorem State.modTiers_out (s : State) (g : Tiers → Tiers) :
    (s.modTiers g).out = s.out := rfl
@[simp] theorem State.modTiers_pending (s : State) (g : Tiers → Tiers) :
    (s.modTiers g).pending = s.pending := rfl
@[simp] theorem State.modTiers_ep (s : State) (g : Tiers → Tiers) :
    (s.modTiers g).ep = s.ep := rfl
@[simp] theorem State.modTiers_sw_dev (s : State) (g : Tiers → Tiers) :
    (s.modTiers g).sw.dev = s.sw.dev := rfl
@[simp] theorem State.modTiers_sw_wins (s : State) (g : Tiers → Tiers) :
    (s.modTiers g).sw.wins = s.sw.wins := rfl
@[simp] theorem State.modTiers_sw_emits (s : State) (g : Tiers → Tiers) :
    (s.modTiers g).sw.emits = s.sw.emits := rfl
@[simp] theorem State.modTiers_sw_nextEmit (s : State) (g : Tiers → Tiers) :
    (s.modTiers g).sw.nextEmit = s.sw.nextEmit := rfl
@[simp] theorem State.modTiers_sw_outs (s : State) (g : Tiers → Tiers) :
    (s.modTiers g).sw.outs = s.sw.outs := rfl
@[simp] theorem State.modTiers_sw_coll (s : State) (g : Tiers → Tiers) :
    (s.modTiers g).sw.coll = s.sw.coll := rfl
@[simp] theorem State.modTiers_sw_collDropped (s : State) (g : Tiers → Tiers) :
    (s.modTiers g).sw.collDropped = s.sw.collDropped := rfl
@[simp] theorem State.modTiers_sw_qDiscards (s : State) (g : Tiers → Tiers) :
    (s.modTiers g).sw.qDiscards = s.sw.qDiscards := rfl
@[simp] theorem State.modTiers_sw_seals (s : State) (g : Tiers → Tiers) :
    (s.modTiers g).sw.seals = s.sw.seals := rfl
@[simp] theorem State.modTiers_sw_cores (s : State) (g : Tiers → Tiers) :
    (s.modTiers g).sw.cores = s.sw.cores := rfl
@[simp] theorem State.modTiers_sw_load (s : State) (g : Tiers → Tiers) :
    (s.modTiers g).sw.load = s.sw.load := rfl
@[simp] theorem State.modTiers_sw_badCores (s : State) (g : Tiers → Tiers) :
    (s.modTiers g).sw.badCores = s.sw.badCores := rfl
@[simp] theorem State.modTiers_sw_badClusters (s : State) (g : Tiers → Tiers) :
    (s.modTiers g).sw.badClusters = s.sw.badClusters := rfl
@[simp] theorem State.modTiers_sw_squeues (s : State) (g : Tiers → Tiers) :
    (s.modTiers g).sw.squeues = s.sw.squeues := rfl
@[simp] theorem State.modTiers_sw_stepCtl (s : State) (g : Tiers → Tiers) :
    (s.modTiers g).sw.stepCtl = s.sw.stepCtl := rfl
@[simp] theorem State.modTiers_sw_hif (s : State) (g : Tiers → Tiers) :
    (s.modTiers g).sw.hif = s.sw.hif := rfl
@[simp] theorem State.modTiers_sw_kettle (s : State) (g : Tiers → Tiers) :
    (s.modTiers g).sw.kettle = s.sw.kettle := rfl
@[simp] theorem State.modTiers_dev (s : State) (g : Tiers → Tiers) (d : Part) :
    (s.modTiers g).dev d = s.dev d := by cases d <;> rfl
@[simp] theorem State.setTile_now (s : State) (t : Nat) (x : Tile) :
    (s.setTile t x).now = s.now := rfl
@[simp] theorem State.setTile_fresh (s : State) (t : Nat) (x : Tile) :
    (s.setTile t x).fresh = s.fresh := rfl
@[simp] theorem State.setTile_out (s : State) (t : Nat) (x : Tile) :
    (s.setTile t x).out = s.out := rfl
@[simp] theorem State.setTile_pending (s : State) (t : Nat) (x : Tile) :
    (s.setTile t x).pending = s.pending := rfl
@[simp] theorem State.setTile_ep (s : State) (t : Nat) (x : Tile) :
    (s.setTile t x).ep = s.ep := rfl
@[simp] theorem State.setTile_sw_dev (s : State) (t : Nat) (x : Tile) :
    (s.setTile t x).sw.dev = s.sw.dev := rfl
@[simp] theorem State.setTile_sw_wins (s : State) (t : Nat) (x : Tile) :
    (s.setTile t x).sw.wins = s.sw.wins := rfl
@[simp] theorem State.setTile_sw_emits (s : State) (t : Nat) (x : Tile) :
    (s.setTile t x).sw.emits = s.sw.emits := rfl
@[simp] theorem State.setTile_sw_nextEmit (s : State) (t : Nat) (x : Tile) :
    (s.setTile t x).sw.nextEmit = s.sw.nextEmit := rfl
@[simp] theorem State.setTile_sw_outs (s : State) (t : Nat) (x : Tile) :
    (s.setTile t x).sw.outs = s.sw.outs := rfl
@[simp] theorem State.setTile_sw_coll (s : State) (t : Nat) (x : Tile) :
    (s.setTile t x).sw.coll = s.sw.coll := rfl
@[simp] theorem State.setTile_sw_collDropped (s : State) (t : Nat) (x : Tile) :
    (s.setTile t x).sw.collDropped = s.sw.collDropped := rfl
@[simp] theorem State.setTile_sw_qDiscards (s : State) (t : Nat) (x : Tile) :
    (s.setTile t x).sw.qDiscards = s.sw.qDiscards := rfl
@[simp] theorem State.setTile_sw_seals (s : State) (t : Nat) (x : Tile) :
    (s.setTile t x).sw.seals = s.sw.seals := rfl
@[simp] theorem State.setTile_sw_cores (s : State) (t : Nat) (x : Tile) :
    (s.setTile t x).sw.cores = s.sw.cores := rfl
@[simp] theorem State.setTile_sw_load (s : State) (t : Nat) (x : Tile) :
    (s.setTile t x).sw.load = s.sw.load := rfl
@[simp] theorem State.setTile_sw_badCores (s : State) (t : Nat) (x : Tile) :
    (s.setTile t x).sw.badCores = s.sw.badCores := rfl
@[simp] theorem State.setTile_sw_badClusters (s : State) (t : Nat) (x : Tile) :
    (s.setTile t x).sw.badClusters = s.sw.badClusters := rfl
@[simp] theorem State.setTile_sw_squeues (s : State) (t : Nat) (x : Tile) :
    (s.setTile t x).sw.squeues = s.sw.squeues := rfl
@[simp] theorem State.setTile_sw_stepCtl (s : State) (t : Nat) (x : Tile) :
    (s.setTile t x).sw.stepCtl = s.sw.stepCtl := rfl
@[simp] theorem State.setTile_sw_hif (s : State) (t : Nat) (x : Tile) :
    (s.setTile t x).sw.hif = s.sw.hif := rfl
@[simp] theorem State.setTile_sw_kettle (s : State) (t : Nat) (x : Tile) :
    (s.setTile t x).sw.kettle = s.sw.kettle := rfl
@[simp] theorem State.setTile_dev (s : State) (t : Nat) (x : Tile) (d : Part) :
    (s.setTile t x).dev d = s.dev d := by cases d <;> rfl
@[simp] theorem State.modTile_now (s : State) (t : Nat) (g : Tile → Tile) :
    (s.modTile t g).now = s.now := rfl
@[simp] theorem State.modTile_fresh (s : State) (t : Nat) (g : Tile → Tile) :
    (s.modTile t g).fresh = s.fresh := rfl
@[simp] theorem State.modTile_out (s : State) (t : Nat) (g : Tile → Tile) :
    (s.modTile t g).out = s.out := rfl
@[simp] theorem State.modTile_pending (s : State) (t : Nat) (g : Tile → Tile) :
    (s.modTile t g).pending = s.pending := rfl
@[simp] theorem State.modTile_ep (s : State) (t : Nat) (g : Tile → Tile) :
    (s.modTile t g).ep = s.ep := rfl
@[simp] theorem State.modTile_sw_dev (s : State) (t : Nat) (g : Tile → Tile) :
    (s.modTile t g).sw.dev = s.sw.dev := rfl
@[simp] theorem State.modTile_sw_wins (s : State) (t : Nat) (g : Tile → Tile) :
    (s.modTile t g).sw.wins = s.sw.wins := rfl
@[simp] theorem State.modTile_sw_emits (s : State) (t : Nat) (g : Tile → Tile) :
    (s.modTile t g).sw.emits = s.sw.emits := rfl
@[simp] theorem State.modTile_sw_nextEmit (s : State) (t : Nat) (g : Tile → Tile) :
    (s.modTile t g).sw.nextEmit = s.sw.nextEmit := rfl
@[simp] theorem State.modTile_sw_outs (s : State) (t : Nat) (g : Tile → Tile) :
    (s.modTile t g).sw.outs = s.sw.outs := rfl
@[simp] theorem State.modTile_sw_coll (s : State) (t : Nat) (g : Tile → Tile) :
    (s.modTile t g).sw.coll = s.sw.coll := rfl
@[simp] theorem State.modTile_sw_collDropped (s : State) (t : Nat) (g : Tile → Tile) :
    (s.modTile t g).sw.collDropped = s.sw.collDropped := rfl
@[simp] theorem State.modTile_sw_qDiscards (s : State) (t : Nat) (g : Tile → Tile) :
    (s.modTile t g).sw.qDiscards = s.sw.qDiscards := rfl
@[simp] theorem State.modTile_sw_seals (s : State) (t : Nat) (g : Tile → Tile) :
    (s.modTile t g).sw.seals = s.sw.seals := rfl
@[simp] theorem State.modTile_sw_cores (s : State) (t : Nat) (g : Tile → Tile) :
    (s.modTile t g).sw.cores = s.sw.cores := rfl
@[simp] theorem State.modTile_sw_load (s : State) (t : Nat) (g : Tile → Tile) :
    (s.modTile t g).sw.load = s.sw.load := rfl
@[simp] theorem State.modTile_sw_badCores (s : State) (t : Nat) (g : Tile → Tile) :
    (s.modTile t g).sw.badCores = s.sw.badCores := rfl
@[simp] theorem State.modTile_sw_badClusters (s : State) (t : Nat) (g : Tile → Tile) :
    (s.modTile t g).sw.badClusters = s.sw.badClusters := rfl
@[simp] theorem State.modTile_sw_squeues (s : State) (t : Nat) (g : Tile → Tile) :
    (s.modTile t g).sw.squeues = s.sw.squeues := rfl
@[simp] theorem State.modTile_sw_stepCtl (s : State) (t : Nat) (g : Tile → Tile) :
    (s.modTile t g).sw.stepCtl = s.sw.stepCtl := rfl
@[simp] theorem State.modTile_sw_hif (s : State) (t : Nat) (g : Tile → Tile) :
    (s.modTile t g).sw.hif = s.sw.hif := rfl
@[simp] theorem State.modTile_sw_kettle (s : State) (t : Nat) (g : Tile → Tile) :
    (s.modTile t g).sw.kettle = s.sw.kettle := rfl
@[simp] theorem State.modTile_dev (s : State) (t : Nat) (g : Tile → Tile) (d : Part) :
    (s.modTile t g).dev d = s.dev d := by cases d <;> rfl
@[simp] theorem State.modKettle_now (s : State) (g : Kettle → Kettle) :
    (s.modKettle g).now = s.now := rfl
@[simp] theorem State.modKettle_fresh (s : State) (g : Kettle → Kettle) :
    (s.modKettle g).fresh = s.fresh := rfl
@[simp] theorem State.modKettle_out (s : State) (g : Kettle → Kettle) :
    (s.modKettle g).out = s.out := rfl
@[simp] theorem State.modKettle_pending (s : State) (g : Kettle → Kettle) :
    (s.modKettle g).pending = s.pending := rfl
@[simp] theorem State.modKettle_ep (s : State) (g : Kettle → Kettle) :
    (s.modKettle g).ep = s.ep := rfl
@[simp] theorem State.modKettle_sw_dev (s : State) (g : Kettle → Kettle) :
    (s.modKettle g).sw.dev = s.sw.dev := rfl
@[simp] theorem State.modKettle_sw_wins (s : State) (g : Kettle → Kettle) :
    (s.modKettle g).sw.wins = s.sw.wins := rfl
@[simp] theorem State.modKettle_sw_emits (s : State) (g : Kettle → Kettle) :
    (s.modKettle g).sw.emits = s.sw.emits := rfl
@[simp] theorem State.modKettle_sw_nextEmit (s : State) (g : Kettle → Kettle) :
    (s.modKettle g).sw.nextEmit = s.sw.nextEmit := rfl
@[simp] theorem State.modKettle_sw_outs (s : State) (g : Kettle → Kettle) :
    (s.modKettle g).sw.outs = s.sw.outs := rfl
@[simp] theorem State.modKettle_sw_coll (s : State) (g : Kettle → Kettle) :
    (s.modKettle g).sw.coll = s.sw.coll := rfl
@[simp] theorem State.modKettle_sw_collDropped (s : State) (g : Kettle → Kettle) :
    (s.modKettle g).sw.collDropped = s.sw.collDropped := rfl
@[simp] theorem State.modKettle_sw_qDiscards (s : State) (g : Kettle → Kettle) :
    (s.modKettle g).sw.qDiscards = s.sw.qDiscards := rfl
@[simp] theorem State.modKettle_sw_seals (s : State) (g : Kettle → Kettle) :
    (s.modKettle g).sw.seals = s.sw.seals := rfl
@[simp] theorem State.modKettle_sw_cores (s : State) (g : Kettle → Kettle) :
    (s.modKettle g).sw.cores = s.sw.cores := rfl
@[simp] theorem State.modKettle_sw_load (s : State) (g : Kettle → Kettle) :
    (s.modKettle g).sw.load = s.sw.load := rfl
@[simp] theorem State.modKettle_sw_badCores (s : State) (g : Kettle → Kettle) :
    (s.modKettle g).sw.badCores = s.sw.badCores := rfl
@[simp] theorem State.modKettle_sw_badClusters (s : State) (g : Kettle → Kettle) :
    (s.modKettle g).sw.badClusters = s.sw.badClusters := rfl
@[simp] theorem State.modKettle_sw_squeues (s : State) (g : Kettle → Kettle) :
    (s.modKettle g).sw.squeues = s.sw.squeues := rfl
@[simp] theorem State.modKettle_sw_stepCtl (s : State) (g : Kettle → Kettle) :
    (s.modKettle g).sw.stepCtl = s.sw.stepCtl := rfl
@[simp] theorem State.modKettle_sw_tiers (s : State) (g : Kettle → Kettle) :
    (s.modKettle g).sw.tiers = s.sw.tiers := rfl
@[simp] theorem State.modKettle_sw_hif (s : State) (g : Kettle → Kettle) :
    (s.modKettle g).sw.hif = s.sw.hif := rfl
@[simp] theorem State.modKettle_dev (s : State) (g : Kettle → Kettle) (d : Part) :
    (s.modKettle g).dev d = s.dev d := by cases d <;> rfl
@[simp] theorem State.modStep_now (s : State) (g : StepCtl → StepCtl) :
    (s.modStep g).now = s.now := rfl
@[simp] theorem State.modStep_fresh (s : State) (g : StepCtl → StepCtl) :
    (s.modStep g).fresh = s.fresh := rfl
@[simp] theorem State.modStep_out (s : State) (g : StepCtl → StepCtl) :
    (s.modStep g).out = s.out := rfl
@[simp] theorem State.modStep_pending (s : State) (g : StepCtl → StepCtl) :
    (s.modStep g).pending = s.pending := rfl
@[simp] theorem State.modStep_ep (s : State) (g : StepCtl → StepCtl) :
    (s.modStep g).ep = s.ep := rfl
@[simp] theorem State.modStep_sw_dev (s : State) (g : StepCtl → StepCtl) :
    (s.modStep g).sw.dev = s.sw.dev := rfl
@[simp] theorem State.modStep_sw_wins (s : State) (g : StepCtl → StepCtl) :
    (s.modStep g).sw.wins = s.sw.wins := rfl
@[simp] theorem State.modStep_sw_emits (s : State) (g : StepCtl → StepCtl) :
    (s.modStep g).sw.emits = s.sw.emits := rfl
@[simp] theorem State.modStep_sw_nextEmit (s : State) (g : StepCtl → StepCtl) :
    (s.modStep g).sw.nextEmit = s.sw.nextEmit := rfl
@[simp] theorem State.modStep_sw_outs (s : State) (g : StepCtl → StepCtl) :
    (s.modStep g).sw.outs = s.sw.outs := rfl
@[simp] theorem State.modStep_sw_coll (s : State) (g : StepCtl → StepCtl) :
    (s.modStep g).sw.coll = s.sw.coll := rfl
@[simp] theorem State.modStep_sw_collDropped (s : State) (g : StepCtl → StepCtl) :
    (s.modStep g).sw.collDropped = s.sw.collDropped := rfl
@[simp] theorem State.modStep_sw_qDiscards (s : State) (g : StepCtl → StepCtl) :
    (s.modStep g).sw.qDiscards = s.sw.qDiscards := rfl
@[simp] theorem State.modStep_sw_seals (s : State) (g : StepCtl → StepCtl) :
    (s.modStep g).sw.seals = s.sw.seals := rfl
@[simp] theorem State.modStep_sw_cores (s : State) (g : StepCtl → StepCtl) :
    (s.modStep g).sw.cores = s.sw.cores := rfl
@[simp] theorem State.modStep_sw_load (s : State) (g : StepCtl → StepCtl) :
    (s.modStep g).sw.load = s.sw.load := rfl
@[simp] theorem State.modStep_sw_badCores (s : State) (g : StepCtl → StepCtl) :
    (s.modStep g).sw.badCores = s.sw.badCores := rfl
@[simp] theorem State.modStep_sw_badClusters (s : State) (g : StepCtl → StepCtl) :
    (s.modStep g).sw.badClusters = s.sw.badClusters := rfl
@[simp] theorem State.modStep_sw_squeues (s : State) (g : StepCtl → StepCtl) :
    (s.modStep g).sw.squeues = s.sw.squeues := rfl
@[simp] theorem State.modStep_sw_tiers (s : State) (g : StepCtl → StepCtl) :
    (s.modStep g).sw.tiers = s.sw.tiers := rfl
@[simp] theorem State.modStep_sw_hif (s : State) (g : StepCtl → StepCtl) :
    (s.modStep g).sw.hif = s.sw.hif := rfl
@[simp] theorem State.modStep_sw_kettle (s : State) (g : StepCtl → StepCtl) :
    (s.modStep g).sw.kettle = s.sw.kettle := rfl
@[simp] theorem State.modStep_dev (s : State) (g : StepCtl → StepCtl) (d : Part) :
    (s.modStep g).dev d = s.dev d := by cases d <;> rfl
@[simp] theorem State.setWin_now (s : State) (w : Nat) (x : Win) :
    (s.setWin w x).now = s.now := rfl
@[simp] theorem State.setWin_fresh (s : State) (w : Nat) (x : Win) :
    (s.setWin w x).fresh = s.fresh := rfl
@[simp] theorem State.setWin_out (s : State) (w : Nat) (x : Win) :
    (s.setWin w x).out = s.out := rfl
@[simp] theorem State.setWin_pending (s : State) (w : Nat) (x : Win) :
    (s.setWin w x).pending = s.pending := rfl
@[simp] theorem State.setWin_ep (s : State) (w : Nat) (x : Win) :
    (s.setWin w x).ep = s.ep := rfl
@[simp] theorem State.setWin_sw_dev (s : State) (w : Nat) (x : Win) :
    (s.setWin w x).sw.dev = s.sw.dev := rfl
@[simp] theorem State.setWin_sw_emits (s : State) (w : Nat) (x : Win) :
    (s.setWin w x).sw.emits = s.sw.emits := rfl
@[simp] theorem State.setWin_sw_nextEmit (s : State) (w : Nat) (x : Win) :
    (s.setWin w x).sw.nextEmit = s.sw.nextEmit := rfl
@[simp] theorem State.setWin_sw_outs (s : State) (w : Nat) (x : Win) :
    (s.setWin w x).sw.outs = s.sw.outs := rfl
@[simp] theorem State.setWin_sw_coll (s : State) (w : Nat) (x : Win) :
    (s.setWin w x).sw.coll = s.sw.coll := rfl
@[simp] theorem State.setWin_sw_collDropped (s : State) (w : Nat) (x : Win) :
    (s.setWin w x).sw.collDropped = s.sw.collDropped := rfl
@[simp] theorem State.setWin_sw_qDiscards (s : State) (w : Nat) (x : Win) :
    (s.setWin w x).sw.qDiscards = s.sw.qDiscards := rfl
@[simp] theorem State.setWin_sw_seals (s : State) (w : Nat) (x : Win) :
    (s.setWin w x).sw.seals = s.sw.seals := rfl
@[simp] theorem State.setWin_sw_cores (s : State) (w : Nat) (x : Win) :
    (s.setWin w x).sw.cores = s.sw.cores := rfl
@[simp] theorem State.setWin_sw_load (s : State) (w : Nat) (x : Win) :
    (s.setWin w x).sw.load = s.sw.load := rfl
@[simp] theorem State.setWin_sw_badCores (s : State) (w : Nat) (x : Win) :
    (s.setWin w x).sw.badCores = s.sw.badCores := rfl
@[simp] theorem State.setWin_sw_badClusters (s : State) (w : Nat) (x : Win) :
    (s.setWin w x).sw.badClusters = s.sw.badClusters := rfl
@[simp] theorem State.setWin_sw_squeues (s : State) (w : Nat) (x : Win) :
    (s.setWin w x).sw.squeues = s.sw.squeues := rfl
@[simp] theorem State.setWin_sw_stepCtl (s : State) (w : Nat) (x : Win) :
    (s.setWin w x).sw.stepCtl = s.sw.stepCtl := rfl
@[simp] theorem State.setWin_sw_tiers (s : State) (w : Nat) (x : Win) :
    (s.setWin w x).sw.tiers = s.sw.tiers := rfl
@[simp] theorem State.setWin_sw_hif (s : State) (w : Nat) (x : Win) :
    (s.setWin w x).sw.hif = s.sw.hif := rfl
@[simp] theorem State.setWin_sw_kettle (s : State) (w : Nat) (x : Win) :
    (s.setWin w x).sw.kettle = s.sw.kettle := rfl
@[simp] theorem State.setWin_dev (s : State) (w : Nat) (x : Win) (d : Part) :
    (s.setWin w x).dev d = s.dev d := by cases d <;> rfl
@[simp] theorem State.modWin_now (s : State) (w : Nat) (g : Win → Win) :
    (s.modWin w g).now = s.now := rfl
@[simp] theorem State.modWin_fresh (s : State) (w : Nat) (g : Win → Win) :
    (s.modWin w g).fresh = s.fresh := rfl
@[simp] theorem State.modWin_out (s : State) (w : Nat) (g : Win → Win) :
    (s.modWin w g).out = s.out := rfl
@[simp] theorem State.modWin_pending (s : State) (w : Nat) (g : Win → Win) :
    (s.modWin w g).pending = s.pending := rfl
@[simp] theorem State.modWin_ep (s : State) (w : Nat) (g : Win → Win) :
    (s.modWin w g).ep = s.ep := rfl
@[simp] theorem State.modWin_sw_dev (s : State) (w : Nat) (g : Win → Win) :
    (s.modWin w g).sw.dev = s.sw.dev := rfl
@[simp] theorem State.modWin_sw_emits (s : State) (w : Nat) (g : Win → Win) :
    (s.modWin w g).sw.emits = s.sw.emits := rfl
@[simp] theorem State.modWin_sw_nextEmit (s : State) (w : Nat) (g : Win → Win) :
    (s.modWin w g).sw.nextEmit = s.sw.nextEmit := rfl
@[simp] theorem State.modWin_sw_outs (s : State) (w : Nat) (g : Win → Win) :
    (s.modWin w g).sw.outs = s.sw.outs := rfl
@[simp] theorem State.modWin_sw_coll (s : State) (w : Nat) (g : Win → Win) :
    (s.modWin w g).sw.coll = s.sw.coll := rfl
@[simp] theorem State.modWin_sw_collDropped (s : State) (w : Nat) (g : Win → Win) :
    (s.modWin w g).sw.collDropped = s.sw.collDropped := rfl
@[simp] theorem State.modWin_sw_qDiscards (s : State) (w : Nat) (g : Win → Win) :
    (s.modWin w g).sw.qDiscards = s.sw.qDiscards := rfl
@[simp] theorem State.modWin_sw_seals (s : State) (w : Nat) (g : Win → Win) :
    (s.modWin w g).sw.seals = s.sw.seals := rfl
@[simp] theorem State.modWin_sw_cores (s : State) (w : Nat) (g : Win → Win) :
    (s.modWin w g).sw.cores = s.sw.cores := rfl
@[simp] theorem State.modWin_sw_load (s : State) (w : Nat) (g : Win → Win) :
    (s.modWin w g).sw.load = s.sw.load := rfl
@[simp] theorem State.modWin_sw_badCores (s : State) (w : Nat) (g : Win → Win) :
    (s.modWin w g).sw.badCores = s.sw.badCores := rfl
@[simp] theorem State.modWin_sw_badClusters (s : State) (w : Nat) (g : Win → Win) :
    (s.modWin w g).sw.badClusters = s.sw.badClusters := rfl
@[simp] theorem State.modWin_sw_squeues (s : State) (w : Nat) (g : Win → Win) :
    (s.modWin w g).sw.squeues = s.sw.squeues := rfl
@[simp] theorem State.modWin_sw_stepCtl (s : State) (w : Nat) (g : Win → Win) :
    (s.modWin w g).sw.stepCtl = s.sw.stepCtl := rfl
@[simp] theorem State.modWin_sw_tiers (s : State) (w : Nat) (g : Win → Win) :
    (s.modWin w g).sw.tiers = s.sw.tiers := rfl
@[simp] theorem State.modWin_sw_hif (s : State) (w : Nat) (g : Win → Win) :
    (s.modWin w g).sw.hif = s.sw.hif := rfl
@[simp] theorem State.modWin_sw_kettle (s : State) (w : Nat) (g : Win → Win) :
    (s.modWin w g).sw.kettle = s.sw.kettle := rfl
@[simp] theorem State.modWin_dev (s : State) (w : Nat) (g : Win → Win) (d : Part) :
    (s.modWin w g).dev d = s.dev d := by cases d <;> rfl
@[simp] theorem State.setSqueue_now (s : State) (q : Nat) (x : SQueue) :
    (s.setSqueue q x).now = s.now := rfl
@[simp] theorem State.setSqueue_fresh (s : State) (q : Nat) (x : SQueue) :
    (s.setSqueue q x).fresh = s.fresh := rfl
@[simp] theorem State.setSqueue_out (s : State) (q : Nat) (x : SQueue) :
    (s.setSqueue q x).out = s.out := rfl
@[simp] theorem State.setSqueue_pending (s : State) (q : Nat) (x : SQueue) :
    (s.setSqueue q x).pending = s.pending := rfl
@[simp] theorem State.setSqueue_ep (s : State) (q : Nat) (x : SQueue) :
    (s.setSqueue q x).ep = s.ep := rfl
@[simp] theorem State.setSqueue_sw_dev (s : State) (q : Nat) (x : SQueue) :
    (s.setSqueue q x).sw.dev = s.sw.dev := rfl
@[simp] theorem State.setSqueue_sw_wins (s : State) (q : Nat) (x : SQueue) :
    (s.setSqueue q x).sw.wins = s.sw.wins := rfl
@[simp] theorem State.setSqueue_sw_emits (s : State) (q : Nat) (x : SQueue) :
    (s.setSqueue q x).sw.emits = s.sw.emits := rfl
@[simp] theorem State.setSqueue_sw_nextEmit (s : State) (q : Nat) (x : SQueue) :
    (s.setSqueue q x).sw.nextEmit = s.sw.nextEmit := rfl
@[simp] theorem State.setSqueue_sw_outs (s : State) (q : Nat) (x : SQueue) :
    (s.setSqueue q x).sw.outs = s.sw.outs := rfl
@[simp] theorem State.setSqueue_sw_coll (s : State) (q : Nat) (x : SQueue) :
    (s.setSqueue q x).sw.coll = s.sw.coll := rfl
@[simp] theorem State.setSqueue_sw_collDropped (s : State) (q : Nat) (x : SQueue) :
    (s.setSqueue q x).sw.collDropped = s.sw.collDropped := rfl
@[simp] theorem State.setSqueue_sw_qDiscards (s : State) (q : Nat) (x : SQueue) :
    (s.setSqueue q x).sw.qDiscards = s.sw.qDiscards := rfl
@[simp] theorem State.setSqueue_sw_seals (s : State) (q : Nat) (x : SQueue) :
    (s.setSqueue q x).sw.seals = s.sw.seals := rfl
@[simp] theorem State.setSqueue_sw_cores (s : State) (q : Nat) (x : SQueue) :
    (s.setSqueue q x).sw.cores = s.sw.cores := rfl
@[simp] theorem State.setSqueue_sw_load (s : State) (q : Nat) (x : SQueue) :
    (s.setSqueue q x).sw.load = s.sw.load := rfl
@[simp] theorem State.setSqueue_sw_badCores (s : State) (q : Nat) (x : SQueue) :
    (s.setSqueue q x).sw.badCores = s.sw.badCores := rfl
@[simp] theorem State.setSqueue_sw_badClusters (s : State) (q : Nat) (x : SQueue) :
    (s.setSqueue q x).sw.badClusters = s.sw.badClusters := rfl
@[simp] theorem State.setSqueue_sw_stepCtl (s : State) (q : Nat) (x : SQueue) :
    (s.setSqueue q x).sw.stepCtl = s.sw.stepCtl := rfl
@[simp] theorem State.setSqueue_sw_tiers (s : State) (q : Nat) (x : SQueue) :
    (s.setSqueue q x).sw.tiers = s.sw.tiers := rfl
@[simp] theorem State.setSqueue_sw_hif (s : State) (q : Nat) (x : SQueue) :
    (s.setSqueue q x).sw.hif = s.sw.hif := rfl
@[simp] theorem State.setSqueue_sw_kettle (s : State) (q : Nat) (x : SQueue) :
    (s.setSqueue q x).sw.kettle = s.sw.kettle := rfl
@[simp] theorem State.setSqueue_dev (s : State) (q : Nat) (x : SQueue) (d : Part) :
    (s.setSqueue q x).dev d = s.dev d := by cases d <;> rfl
@[simp] theorem State.modEp_now (s : State) (g : EndPoint → EndPoint) :
    (s.modEp g).now = s.now := rfl
@[simp] theorem State.modEp_fresh (s : State) (g : EndPoint → EndPoint) :
    (s.modEp g).fresh = s.fresh := rfl
@[simp] theorem State.modEp_out (s : State) (g : EndPoint → EndPoint) :
    (s.modEp g).out = s.out := rfl
@[simp] theorem State.modEp_pending (s : State) (g : EndPoint → EndPoint) :
    (s.modEp g).pending = s.pending := rfl
@[simp] theorem State.modEp_sw (s : State) (g : EndPoint → EndPoint) :
    (s.modEp g).sw = s.sw := rfl
@[simp] theorem State.modEp_ep (s : State) (g : EndPoint → EndPoint) :
    (s.modEp g).ep = g s.ep := rfl
@[simp] theorem State.modHif_hif (s : State) (g : Hif → Hif) :
    (s.modHif g).sw.hif = g s.sw.hif := rfl
@[simp] theorem State.modTiers_tiers (s : State) (g : Tiers → Tiers) :
    (s.modTiers g).sw.tiers = g s.sw.tiers := rfl
@[simp] theorem State.modKettle_kettle (s : State) (g : Kettle → Kettle) :
    (s.modKettle g).sw.kettle = g s.sw.kettle := rfl
@[simp] theorem State.modStep_stepCtl (s : State) (g : StepCtl → StepCtl) :
    (s.modStep g).sw.stepCtl = g s.sw.stepCtl := rfl
@[simp] theorem Core.setS_c (k : Core) (i : Nat) (x : Word) :
    (k.setS i x).c = k.c := by unfold Core.setS; split <;> rfl
@[simp] theorem Core.setS_dsc (k : Core) (i : Nat) (x : Word) :
    (k.setS i x).dsc = k.dsc := by unfold Core.setS; split <;> rfl
@[simp] theorem Core.setS_mem (k : Core) (i : Nat) (x : Word) :
    (k.setS i x).mem = k.mem := by unfold Core.setS; split <;> rfl
@[simp] theorem Core.setS_codeBytes (k : Core) (i : Nat) (x : Word) :
    (k.setS i x).codeBytes = k.codeBytes := by unfold Core.setS; split <;> rfl
@[simp] theorem Core.setS_entry (k : Core) (i : Nat) (x : Word) :
    (k.setS i x).entry = k.entry := by unfold Core.setS; split <;> rfl
@[simp] theorem Core.setS_cycles (k : Core) (i : Nat) (x : Word) :
    (k.setS i x).cycles = k.cycles := by unfold Core.setS; split <;> rfl
@[simp] theorem Core.setS_cycAt (k : Core) (i : Nat) (x : Word) :
    (k.setS i x).cycAt = k.cycAt := by unfold Core.setS; split <;> rfl
@[simp] theorem Core.setS_retired (k : Core) (i : Nat) (x : Word) :
    (k.setS i x).retired = k.retired := by unfold Core.setS; split <;> rfl
@[simp] theorem Core.setS_stallCycles (k : Core) (i : Nat) (x : Word) :
    (k.setS i x).stallCycles = k.stallCycles := by unfold Core.setS; split <;> rfl
@[simp] theorem Core.setS_evBase (k : Core) (i : Nat) (x : Word) :
    (k.setS i x).evBase = k.evBase := by unfold Core.setS; split <;> rfl
@[simp] theorem Core.setS_events (k : Core) (i : Nat) (x : Word) :
    (k.setS i x).events = k.events := by unfold Core.setS; split <;> rfl
@[simp] theorem Core.setS_cross (k : Core) (i : Nat) (x : Word) :
    (k.setS i x).cross = k.cross := by unfold Core.setS; split <;> rfl
@[simp] theorem Core.setS_wait (k : Core) (i : Nat) (x : Word) :
    (k.setS i x).wait = k.wait := by unfold Core.setS; split <;> rfl
@[simp] theorem Core.setS_stall (k : Core) (i : Nat) (x : Word) :
    (k.setS i x).stall = k.stall := by unfold Core.setS; split <;> rfl
@[simp] theorem Core.setS_stallAt (k : Core) (i : Nat) (x : Word) :
    (k.setS i x).stallAt = k.stallAt := by unfold Core.setS; split <;> rfl
@[simp] theorem Core.setS_potTaken (k : Core) (i : Nat) (x : Word) :
    (k.setS i x).potTaken = k.potTaken := by unfold Core.setS; split <;> rfl
@[simp] theorem Core.setS_since (k : Core) (i : Nat) (x : Word) :
    (k.setS i x).since = k.since := by unfold Core.setS; split <;> rfl
@[simp] theorem Core.setS_eccAt (k : Core) (i : Nat) (x : Word) :
    (k.setS i x).eccAt = k.eccAt := by unfold Core.setS; split <;> rfl
@[simp] theorem Core.setS_buf (k : Core) (i : Nat) (x : Word) :
    (k.setS i x).buf = k.buf := by unfold Core.setS; split <;> rfl
@[simp] theorem Core.setS_header (k : Core) (i : Nat) (x : Word) :
    (k.setS i x).header = k.header := by unfold Core.setS; split <;> rfl
@[simp] theorem Core.setS_keyClass (k : Core) (i : Nat) (x : Word) :
    (k.setS i x).keyClass = k.keyClass := by unfold Core.setS; split <;> rfl
@[simp] theorem Core.setC_s (k : Core) (i : Nat) (x : Word) :
    (k.setC i x).s = k.s := rfl
@[simp] theorem Core.setC_dsc (k : Core) (i : Nat) (x : Word) :
    (k.setC i x).dsc = k.dsc := rfl
@[simp] theorem Core.setC_mem (k : Core) (i : Nat) (x : Word) :
    (k.setC i x).mem = k.mem := rfl
@[simp] theorem Core.setC_codeBytes (k : Core) (i : Nat) (x : Word) :
    (k.setC i x).codeBytes = k.codeBytes := rfl
@[simp] theorem Core.setC_entry (k : Core) (i : Nat) (x : Word) :
    (k.setC i x).entry = k.entry := rfl
@[simp] theorem Core.setC_cycles (k : Core) (i : Nat) (x : Word) :
    (k.setC i x).cycles = k.cycles := rfl
@[simp] theorem Core.setC_cycAt (k : Core) (i : Nat) (x : Word) :
    (k.setC i x).cycAt = k.cycAt := rfl
@[simp] theorem Core.setC_retired (k : Core) (i : Nat) (x : Word) :
    (k.setC i x).retired = k.retired := rfl
@[simp] theorem Core.setC_stallCycles (k : Core) (i : Nat) (x : Word) :
    (k.setC i x).stallCycles = k.stallCycles := rfl
@[simp] theorem Core.setC_evBase (k : Core) (i : Nat) (x : Word) :
    (k.setC i x).evBase = k.evBase := rfl
@[simp] theorem Core.setC_events (k : Core) (i : Nat) (x : Word) :
    (k.setC i x).events = k.events := rfl
@[simp] theorem Core.setC_cross (k : Core) (i : Nat) (x : Word) :
    (k.setC i x).cross = k.cross := rfl
@[simp] theorem Core.setC_wait (k : Core) (i : Nat) (x : Word) :
    (k.setC i x).wait = k.wait := rfl
@[simp] theorem Core.setC_stall (k : Core) (i : Nat) (x : Word) :
    (k.setC i x).stall = k.stall := rfl
@[simp] theorem Core.setC_stallAt (k : Core) (i : Nat) (x : Word) :
    (k.setC i x).stallAt = k.stallAt := rfl
@[simp] theorem Core.setC_potTaken (k : Core) (i : Nat) (x : Word) :
    (k.setC i x).potTaken = k.potTaken := rfl
@[simp] theorem Core.setC_since (k : Core) (i : Nat) (x : Word) :
    (k.setC i x).since = k.since := rfl
@[simp] theorem Core.setC_eccAt (k : Core) (i : Nat) (x : Word) :
    (k.setC i x).eccAt = k.eccAt := rfl
@[simp] theorem Core.setC_buf (k : Core) (i : Nat) (x : Word) :
    (k.setC i x).buf = k.buf := rfl
@[simp] theorem Core.setC_header (k : Core) (i : Nat) (x : Word) :
    (k.setC i x).header = k.header := rfl
@[simp] theorem Core.setC_keyClass (k : Core) (i : Nat) (x : Word) :
    (k.setC i x).keyClass = k.keyClass := rfl
@[simp] theorem Core.setD_s (k : Core) (i x : Nat) :
    (k.setD i x).s = k.s := rfl
@[simp] theorem Core.setD_c (k : Core) (i x : Nat) :
    (k.setD i x).c = k.c := rfl
@[simp] theorem Core.setD_mem (k : Core) (i x : Nat) :
    (k.setD i x).mem = k.mem := rfl
@[simp] theorem Core.setD_codeBytes (k : Core) (i x : Nat) :
    (k.setD i x).codeBytes = k.codeBytes := rfl
@[simp] theorem Core.setD_entry (k : Core) (i x : Nat) :
    (k.setD i x).entry = k.entry := rfl
@[simp] theorem Core.setD_cycles (k : Core) (i x : Nat) :
    (k.setD i x).cycles = k.cycles := rfl
@[simp] theorem Core.setD_cycAt (k : Core) (i x : Nat) :
    (k.setD i x).cycAt = k.cycAt := rfl
@[simp] theorem Core.setD_retired (k : Core) (i x : Nat) :
    (k.setD i x).retired = k.retired := rfl
@[simp] theorem Core.setD_stallCycles (k : Core) (i x : Nat) :
    (k.setD i x).stallCycles = k.stallCycles := rfl
@[simp] theorem Core.setD_evBase (k : Core) (i x : Nat) :
    (k.setD i x).evBase = k.evBase := rfl
@[simp] theorem Core.setD_events (k : Core) (i x : Nat) :
    (k.setD i x).events = k.events := rfl
@[simp] theorem Core.setD_cross (k : Core) (i x : Nat) :
    (k.setD i x).cross = k.cross := rfl
@[simp] theorem Core.setD_wait (k : Core) (i x : Nat) :
    (k.setD i x).wait = k.wait := rfl
@[simp] theorem Core.setD_stall (k : Core) (i x : Nat) :
    (k.setD i x).stall = k.stall := rfl
@[simp] theorem Core.setD_stallAt (k : Core) (i x : Nat) :
    (k.setD i x).stallAt = k.stallAt := rfl
@[simp] theorem Core.setD_potTaken (k : Core) (i x : Nat) :
    (k.setD i x).potTaken = k.potTaken := rfl
@[simp] theorem Core.setD_since (k : Core) (i x : Nat) :
    (k.setD i x).since = k.since := rfl
@[simp] theorem Core.setD_eccAt (k : Core) (i x : Nat) :
    (k.setD i x).eccAt = k.eccAt := rfl
@[simp] theorem Core.setD_buf (k : Core) (i x : Nat) :
    (k.setD i x).buf = k.buf := rfl
@[simp] theorem Core.setD_header (k : Core) (i x : Nat) :
    (k.setD i x).header = k.header := rfl
@[simp] theorem Core.setD_keyClass (k : Core) (i x : Nat) :
    (k.setD i x).keyClass = k.keyClass := rfl

end Sys2Proof.Machine
end

