-- ==== Sys2Proof/Laws/Regs.lean ====
section
/-! SUPPORT. What reading a register or a field gives after a write of one (R5, R16). -/

namespace Sys2Proof.Machine

/-- The register written reads as the low 64 bits of what was written; every other register reads as before. -/
theorem Dev.reg_setReg (v : Dev) (a x b : Nat) :
    (v.setReg a x).reg b = if b = a then x % 2 ^ 64 else v.reg b := by
  unfold Dev.reg Dev.setReg
  simp only
  by_cases h : b = a
  · subst h
    rw [SMap.at_put_self, if_pos rfl, BitVec.toNat_ofNat]
  · rw [SMap.at_put_ne _ _ _ _ h, if_neg h]

@[simp] theorem Dev.reg_setReg_self (v : Dev) (a x : Nat) : (v.setReg a x).reg a = x % 2 ^ 64 := by
  simp [Dev.reg_setReg]

theorem Dev.reg_setReg_ne (v : Dev) {a b : Nat} (x : Nat) (h : b ≠ a) : (v.setReg a x).reg b = v.reg b := by
  simp [Dev.reg_setReg, h]

theorem bitsOf_mod64 (x hi lo : Nat) (h : hi < 64) : bitsOf (x % 2 ^ 64) hi lo = bitsOf x hi lo := by
  unfold bitsOf
  by_cases hl : hi + 1 ≤ lo
  · simp [Nat.sub_eq_zero_of_le hl, Nat.mod_one]
  · obtain ⟨k, hk⟩ : ∃ k, 64 = lo + ((hi + 1 - lo) + k) := ⟨63 - hi, by omega⟩
    rw [hk, Nat.pow_add 2 lo, Nat.mod_mul_right_div_self, Nat.pow_add, Nat.mod_mul_right_mod]

/-- A field that has been set reads as the low bits of what it was set to. -/
theorem Dev.get_set_self (v : Dev) (f : Fld) (x : Nat) (h : f.hi < 64) :
    (v.set f x).get f = x % 2 ^ (f.hi + 1 - f.lo) := by
  unfold Dev.get Dev.set
  rw [Dev.reg_setReg_self, bitsOf_mod64 _ _ _ h, bitsOf_setBits]

/-- A field of another register reads as before. -/
theorem Dev.get_set_reg (v : Dev) {f g : Fld} (x : Nat) (h : g.reg ≠ f.reg) : (v.set f x).get g = v.get g := by
  unfold Dev.get Dev.set
  rw [Dev.reg_setReg_ne _ _ h]

/-- Another field of the same register reads as before. -/
theorem Dev.get_set_field (v : Dev) (f g : Fld) (x : Nat) (hr : g.reg = f.reg) (h64 : g.hi < 64) (hf : f.lo ≤ f.hi)
    (h : g.hi < f.lo ∨ f.hi < g.lo) : (v.set f x).get g = v.get g := by
  unfold Dev.get Dev.set
  rw [hr, Dev.reg_setReg_self, bitsOf_mod64 _ _ _ h64]
  rcases h with h | h
  · exact bitsOf_setBits_below _ _ _ _ _ _ h
  · exact bitsOf_setBits_above _ _ _ _ _ _ h (by omega)

theorem State.get_set_self (s : State) (d : Part) (f : Fld) (x : Nat) (h : f.hi < 64) :
    (s.set d f x).get d f = x % 2 ^ (f.hi + 1 - f.lo) := by
  unfold State.get
  rw [State.set_dev, Dev.get_set_self _ _ _ h]

theorem State.get_set_reg (s : State) (d : Part) {f g : Fld} (x : Nat) (h : g.reg ≠ f.reg) :
    (s.set d f x).get d g = s.get d g := by
  unfold State.get
  rw [State.set_dev, Dev.get_set_reg _ _ h]

/-- A register holds 64 bits. -/
theorem Dev.reg_lt (v : Dev) (a : Nat) : v.reg a < 2 ^ 64 := (SMap.at (resetWord v.part a) v.regs a).isLt

/-- A counter that has counted. -/
theorem Dev.count_at (v : Dev) (i n j : Nat) :
    SMap.at 0 (v.count i n).counters j = if j = i then (SMap.at 0 v.counters i + n) % 2 ^ 48 else SMap.at 0 v.counters j := by
  unfold Dev.count
  exact SMap.at_put 0 _ i j _

end Sys2Proof.Machine
end

