-- ==== Sys2Proof/Laws/Steps.lean ====
section
/-! SUPPORT. What the shared forms of a step answer: which outcome, for which operands, and what a step never touches. -/

namespace Sys2Proof.Machine

variable {name : String} {ok : Bool} {d : Part} {t : Nat} {s u : State} {f : State → State}

/-- A step with well-formed operands answers its effect. -/
theorem stepIf_next (h : ok = true) : stepIf name ok t s f = .next ((s.tick t).keep (f (s.tick t))) := by
  simp [stepIf, h]

/-- A step with ill-formed operands answers a fault that names it. -/
theorem stepIf_fault (h : ok = false) : stepIf name ok t s f = .fault (.illFormed name) := by simp [stepIf, h]

/-- Everything a step can answer as a next state. -/
theorem stepIf_cases (h : stepIf name ok t s f = .next u) : ok = true ∧ u = (s.tick t).keep (f (s.tick t)) := by
  unfold stepIf at h
  split at h
  · exact ⟨‹_›, by injection h with h; exact h.symm⟩
  · exact absurd h (by simp)

theorem stepSettle_next (h : ok = true) :
    stepSettle name ok t s f = .next ((s.tick t).keep (f (s.tick t)).settle) := by
  rw [stepSettle, stepIf_next h]

theorem stepSettle_cases (h : stepSettle name ok t s f = .next u) :
    ok = true ∧ u = (s.tick t).keep (f (s.tick t)).settle := by
  rw [stepSettle] at h
  have c := stepIf_cases h
  exact c

@[simp] theorem State.tick_barOn (s : State) (t : Nat) (d : Part) : (s.tick t).barOn d = s.barOn d := by
  cases d <;> rfl

/-- A host's write that reaches the device. -/
theorem hostIf_next (h : ok = true) (hb : s.barOn d = true) :
    hostIf name ok d x t s f = .next ((s.tick t).keep (f (s.tick t))) := by
  simp [hostIf, stepIf, h, hb]

theorem hostSettle_next (h : ok = true) (hb : s.barOn d = true) :
    hostSettle name ok d x t s f = .next ((s.tick t).keep (f (s.tick t)).settle) := by
  rw [hostSettle, hostIf_next h hb]

/-- A host's access that does not reach the device: nothing but the report of R334 happens. -/
theorem hostIf_unheard (h : ok = true) (hb : s.barOn d = false) :
    hostIf name ok d x t s f = .next ((s.tick t).keep ((s.tick t).unheard d x)) := by
  simp [hostIf, stepIf, h, hb]

/-- No step touches the queue. -/
theorem stepIf_pending (h : stepIf name ok t s f = .next u) : u.pending = s.pending := by
  rw [(stepIf_cases h).2]; rfl

/-- A step leaves the clock at its own time, unless that has passed. -/
theorem stepIf_now (h : stepIf name ok t s f = .next u) : u.now = max s.now t := by
  rw [(stepIf_cases h).2]; rfl

end Sys2Proof.Machine
end

