-- ==== Sys2Proof/Laws/Cores.lean ====
section
/-! SUPPORT. Everything that running, retiring and stalling an instruction of a Linal core can do. -/

namespace Sys2Proof.Machine

/-! ### Reading cores and their registers -/

@[simp] theorem State.core_setCore_self (s : State) (n : Nat) (c : Core) : (s.setCore n c).core n = c :=
  SMap.at_put_self Core.initial s.sw.cores n c

theorem State.core_setCore_ne (s : State) {n m : Nat} (c : Core) (h : m ≠ n) : (s.setCore n c).core m = s.core m :=
  SMap.at_put_ne Core.initial Core.initial s.sw.cores c h

@[simp] theorem State.core_modCore_self (s : State) (n : Nat) (g : Core → Core) :
    (s.modCore n g).core n = g (s.core n) := State.core_setCore_self s n _

theorem State.core_modCore_ne (s : State) {n m : Nat} (g : Core → Core) (h : m ≠ n) :
    (s.modCore n g).core m = s.core m := State.core_setCore_ne s _ h

@[simp] theorem State.core_modDev (s : State) (d : Part) (g : Dev → Dev) (n : Nat) : (s.modDev d g).core n = s.core n := by
  cases d <;> rfl

@[simp] theorem State.core_set (s : State) (d : Part) (f : Fld) (x n : Nat) : (s.set d f x).core n = s.core n :=
  State.core_modDev s d _ n

@[simp] theorem State.core_count (s : State) (d : Part) (i k n : Nat) : (s.count d i k).core n = s.core n :=
  State.core_modDev s d _ n

@[simp] theorem State.core_tick (s : State) (t n : Nat) : (s.tick t).core n = s.core n := rfl
@[simp] theorem State.core_keep (s u : State) (n : Nat) : (s.keep u).core n = u.core n := rfl

/-- A general register reads as written; s0 reads zero whatever is written (R223). -/
theorem Core.sreg_setS (c : Core) (i : Nat) (x : Word) (j : Nat) :
    (c.setS i x).sreg j = if j = 0 then 0 else if j = i then x else c.sreg j := by
  unfold Core.sreg Core.setS
  by_cases hj : j = 0
  · simp [hj]
  · by_cases hi : i = 0
    · have : ¬ j = i := fun e => hj (e.trans hi)
      simp [hj, hi]
    · simp [hj, hi, SMap.at_put]

theorem Core.creg_setC (c : Core) (i : Nat) (x : Word) (j : Nat) :
    (c.setC i x).creg j = if j = i then x else c.creg j := SMap.at_put 0 c.c i j x

theorem Core.dreg_setD (c : Core) (i x j : Nat) :
    (c.setD i x).dreg j = if j = i then x % 2 ^ 256 else c.dreg j := SMap.at_put 0 c.dsc i j _

/-! ### Counting cycles -/

/-- Only a core's counts, and the stall counter of a core that waits, come up to the present. -/
theorem State.accrue_core_ne (s : State) {n m : Nat} (h : m ≠ n) : (s.accrue n).core m = s.core m := by
  unfold State.accrue
  simp only
  split <;> simp [State.core_setCore_ne _ _ h]

/-- What bringing the counts up to the present changes of the core itself. -/
theorem State.accrue_core (s : State) (n : Nat) : ∃ cyc st,
    (s.accrue n).core n = { s.core n with cycAt := s.now, cycles := cyc, stallCycles := st } := by
  unfold State.accrue
  simp only
  split
  · exact ⟨_, _, (State.core_count _ _ _ _ _).trans (State.core_setCore_self _ _ _)⟩
  · exact ⟨_, _, State.core_setCore_self _ _ _⟩

@[simp] theorem State.accrue_regs (s : State) (n a : Nat) : ((s.accrue n).dev .sw).reg a = (s.dev .sw).reg a := by
  unfold State.accrue
  simp only
  split <;> rfl

@[simp] theorem State.accrue_get (s : State) (n : Nat) (f : Fld) : (s.accrue n).get .sw f = s.get .sw f := by
  simp [State.get, Dev.get]

@[simp] theorem State.accrue_pc (s : State) (n m : Nat) : (s.accrue n).pc m = s.pc m := State.accrue_get s n _
@[simp] theorem State.accrue_coreState (s : State) (n m : Nat) : (s.accrue n).coreState m = s.coreState m :=
  State.accrue_get s n _

@[simp] theorem State.accrue_now (s : State) (n : Nat) : (s.accrue n).now = s.now := by
  unfold State.accrue
  simp only
  split <;> rfl

@[simp] theorem State.accrue_fetch (s : State) (n : Nat) : (s.accrue n).fetch n = s.fetch n := by
  obtain ⟨a, b, h⟩ := s.accrue_core n
  simp [State.fetch, h]

@[simp] theorem State.accrue_coreReady (s : State) (n : Nat) : (s.accrue n).coreReady n = s.coreReady n := by
  obtain ⟨a, b, h⟩ := s.accrue_core n
  simp [State.coreReady, h]

/-! ### Running -/

/-- A core that can take an instruction, at a legal word that the step names, runs it. -/
theorem State.instr_run (s : State) (n w : Nat) (names : Nat → Bool) (run : Nat → State → State)
    (hr : s.coreReady n = true) (hf : s.fetch n = some w) (hl : legal w = true) (hn : names w = true) :
    s.instr n names run = run w (s.accrue n) := by
  unfold State.instr
  simp [hr, hf, hl, hn]

/-- Everything the running of an instruction can come to: it runs, or only the counts come up to the present. -/
theorem State.instr_cases (s : State) (n : Nat) (names : Nat → Bool) (run : Nat → State → State) :
    s.instr n names run = s.accrue n ∨
    ∃ w, s.coreReady n = true ∧ s.fetch n = some w ∧ legal w = true ∧ names w = true
      ∧ s.instr n names run = run w (s.accrue n) := by
  unfold State.instr
  simp only [State.accrue_coreReady, State.accrue_fetch]
  by_cases hr : s.coreReady n = true
  · cases hf : s.fetch n with
    | none => left; simp
    | some w =>
      by_cases h : (legal w && names w) = true
      · right
        refine ⟨w, hr, rfl, ?_, ?_, ?_⟩
        · exact (Bool.and_eq_true _ _ ▸ h).1
        · exact (Bool.and_eq_true _ _ ▸ h).2
        · simp [hr, h]
      · left; simp [hr, h]
  · left; simp [hr]

/-! ### Retiring -/

@[simp] theorem State.checkSample_dev (s : State) (n : Nat) (d : Part) : (s.checkSample n).dev d = s.dev d := by
  unfold State.checkSample
  simp only
  split
  · cases d <;> rfl
  · rfl

theorem State.checkSample_core (s : State) (n : Nat) : ∃ e x,
    (s.checkSample n).core n = { s.core n with events := e, cross := x } := by
  unfold State.checkSample
  simp only
  split
  · exact ⟨_, _, State.core_setCore_self _ _ _⟩
  · exact ⟨_, _, rfl⟩

theorem State.checkSample_core_ne (s : State) {n m : Nat} (h : m ≠ n) : (s.checkSample n).core m = s.core m := by
  unfold State.checkSample
  simp only
  split
  · exact State.core_setCore_ne _ _ h
  · rfl

/-- Retiring: what it makes of the core. -/
theorem State.retireTo_core (s : State) (n pc : Nat) : ∃ e x,
    (s.retireTo n pc).core n
      = { s.core n with
          retired := (s.core n).retired + 1, wait := .none, stall := 0,
          events := e, cross := x } := by
  obtain ⟨e, x, h⟩ := State.checkSample_core ((s.modCore n (fun c => { c with
    retired := c.retired + 1, wait := .none, cross := c.cross.map (fun x => x.follow (s.pc n)) })).count .sw (0xB40 + n) 1) n
  refine ⟨e, x, ?_⟩
  unfold State.retireTo State.setPc
  simp only [State.core_set, State.core_modCore_self, h, State.core_count]

theorem State.retireTo_core_ne (s : State) {n m : Nat} (pc : Nat) (h : m ≠ n) : (s.retireTo n pc).core m = s.core m := by
  unfold State.retireTo State.setPc
  simp [State.core_modCore_ne _ _ h, State.checkSample_core_ne _ h]

/-- Retiring: the switch's registers but for the core's PC stay, and its PC is the one given. -/
theorem State.retireTo_dev (s : State) (n pc : Nat) :
    (s.retireTo n pc).dev .sw = ((s.dev .sw).count (0xB40 + n) 1).set (F.SEQ_CORE_STATUS_PC n) pc := by
  unfold State.retireTo State.setPc
  simp

end Sys2Proof.Machine
end

