-- ==== Sys2Proof/Laws/Exec.lean ====
section
/-! SUPPORT. Each command runs its own meaning: one equation per constructor, so that no proof unfolds the dispatch. -/

namespace Sys2Proof.Machine

theorem exec_potClaim {s : State} {d t} : exec (.potClaim d t) s = execPotClaim d t s := rfl
theorem exec_potClaimForce {s : State} {d t} : exec (.potClaimForce d t) s = execPotClaimForce d t s := rfl
theorem exec_potCheck {s : State} {d t} : exec (.potCheck d t) s = execPotCheck d t s := rfl
theorem exec_checkComplete {s : State} {d t} : exec (.checkComplete d t) s = execCheckComplete d t s := rfl
theorem exec_potPour {s : State} {d t} : exec (.potPour d t) s = execPotPour d t s := rfl
theorem exec_pourInstant {s : State} {d t} : exec (.pourInstant d t) s = execPourInstant d t s := rfl
theorem exec_potDiscard {s : State} {d t} : exec (.potDiscard d t) s = execPotDiscard d t s := rfl
theorem exec_potStagedWrite {s : State} {d addr size v t} : exec (.potStagedWrite d addr size v t) s = execPotStagedWrite d addr size v t s := rfl
theorem exec_registerWrite {s : State} {d fn addr size v t} : exec (.registerWrite d fn addr size v t) s = execRegisterWrite d fn addr size v t s := rfl
theorem exec_txDataFrame {s : State} {d p n t} : exec (.txDataFrame d p n t) s = execTxDataFrame d p n t s := rfl
theorem exec_txIdleFrame {s : State} {d p t} : exec (.txIdleFrame d p t) s = execTxIdleFrame d p t s := rfl
theorem exec_dataFrameReceive {s : State} {d p lanes t} : exec (.dataFrameReceive d p lanes t) s = execDataFrameReceive d p lanes t s := rfl
theorem exec_partnerElectricalIdle {s : State} {d p t} : exec (.partnerElectricalIdle d p t) s = execPartnerElectricalIdle d p t s := rfl
theorem exec_recoveryEnd {s : State} {d p ok failed t} : exec (.recoveryEnd d p ok failed t) s = execRecoveryEnd d p ok failed t s := rfl
theorem exec_controlAck {s : State} {d p ack t} : exec (.controlAck d p ack t) s = execControlAck d p ack t s := rfl
theorem exec_controlNack {s : State} {d p ack t} : exec (.controlNack d p ack t) s = execControlNack d p ack t s := rfl
theorem exec_controlCredit {s : State} {d p body t} : exec (.controlCredit d p body t) s = execControlCredit d p body t s := rfl
theorem exec_controlTs {s : State} {d p ts t} : exec (.controlTs d p ts t) s = execControlTs d p ts t s := rfl
theorem exec_controlNapReq {s : State} {d p t} : exec (.controlNapReq d p t) s = execControlNapReq d p t s := rfl
theorem exec_controlNapAck {s : State} {d p t} : exec (.controlNapAck d p t) s = execControlNapAck d p t s := rfl
theorem exec_controlNapNak {s : State} {d p t} : exec (.controlNapNak d p t) s = execControlNapNak d p t s := rfl
theorem exec_controlDown {s : State} {d p t} : exec (.controlDown d p t) s = execControlDown d p t s := rfl
theorem exec_nackRepeatTimeout {s : State} {d p t} : exec (.nackRepeatTimeout d p t) s = execNackRepeatTimeout d p t s := rfl
theorem exec_replayProgressTimeout {s : State} {d p t} : exec (.replayProgressTimeout d p t) s = execReplayProgressTimeout d p t s := rfl
theorem exec_creditFrameTimer {s : State} {d p t} : exec (.creditFrameTimer d p t) s = execCreditFrameTimer d p t s := rfl
theorem exec_creditReturnDeadline {s : State} {d p t} : exec (.creditReturnDeadline d p t) s = execCreditReturnDeadline d p t s := rfl
theorem exec_pourCreditUpdate {s : State} {d p t} : exec (.pourCreditUpdate d p t) s = execPourCreditUpdate d p t s := rfl
theorem exec_creditGraceEnd {s : State} {d p c t} : exec (.creditGraceEnd d p c t) s = execCreditGraceEnd d p c t s := rfl
theorem exec_trainingPhaseDone {s : State} {d p failed coeffs t} : exec (.trainingPhaseDone d p failed coeffs t) s = execTrainingPhaseDone d p failed coeffs t s := rfl
theorem exec_trainingPhaseTimeout {s : State} {d p gone t} : exec (.trainingPhaseTimeout d p gone t) s = execTrainingPhaseTimeout d p gone t s := rfl
theorem exec_trainingRetryTimer {s : State} {d p t} : exec (.trainingRetryTimer d p t) s = execTrainingRetryTimer d p t s := rfl
theorem exec_linkNap {s : State} {d p t} : exec (.linkNap d p t) s = execLinkNap d p t s := rfl
theorem exec_linkWake {s : State} {d p t} : exec (.linkWake d p t) s = execLinkWake d p t s := rfl
theorem exec_napReplyTimeout {s : State} {d p t} : exec (.napReplyTimeout d p t) s = execNapReplyTimeout d p t s := rfl
theorem exec_deepEntryDone {s : State} {d p t} : exec (.deepEntryDone d p t) s = execDeepEntryDone d p t s := rfl
theorem exec_beaconDetect {s : State} {d p t} : exec (.beaconDetect d p t) s = execBeaconDetect d p t s := rfl
theorem exec_clockLaneLoss {s : State} {d p t} : exec (.clockLaneLoss d p t) s = execClockLaneLoss d p t s := rfl
theorem exec_sprayWeightUpdate {s : State} {d t} : exec (.sprayWeightUpdate d t) s = execSprayWeightUpdate d t s := rfl
theorem exec_edropAverageUpdate {s : State} {t} : exec (.edropAverageUpdate t) s = execEdropAverageUpdate t s := rfl
theorem exec_packetForward {s : State} {d p ue t} : exec (.packetForward d p ue t) s = execPacketForward d p ue t s := rfl
theorem exec_pktNodeIdWrite {s : State} {d v t} : exec (.pktNodeIdWrite d v t) s = execPktNodeIdWrite d v t s := rfl
theorem exec_pktDrainWrite {s : State} {d k v t} : exec (.pktDrainWrite d k v t) s = execPktDrainWrite d k v t s := rfl
theorem exec_transactionIssue {s : State} {d t} : exec (.transactionIssue d t) s = execTransactionIssue d t s := rfl
theorem exec_packetAdmit {s : State} {d t} : exec (.packetAdmit d t) s = execPacketAdmit d t s := rfl
theorem exec_rboundExpiry {s : State} {d txn t} : exec (.rboundExpiry d txn t) s = execRboundExpiry d txn t s := rfl
theorem exec_targetRead {s : State} {d ue t} : exec (.targetRead d ue t) s = execTargetRead d ue t s := rfl
theorem exec_targetWrite {s : State} {d ue t} : exec (.targetWrite d ue t) s = execTargetWrite d ue t s := rfl
theorem exec_targetAmo {s : State} {d ue t} : exec (.targetAmo d ue t) s = execTargetAmo d ue t s := rfl
theorem exec_targetReduce {s : State} {ue t} : exec (.targetReduce ue t) s = execTargetReduce ue t s := rfl
theorem exec_targetMsg {s : State} {d ue t} : exec (.targetMsg d ue t) s = execTargetMsg d ue t s := rfl
theorem exec_readData {s : State} {d t} : exec (.readData d t) s = execReadData d t s := rfl
theorem exec_ack {s : State} {d t} : exec (.ack d t) s = execAck d t s := rfl
theorem exec_amoResult {s : State} {d t} : exec (.amoResult d t) s = execAmoResult d t s := rfl
theorem exec_error {s : State} {d t} : exec (.error d t) s = execError d t s := rfl
theorem exec_reissueTimeout {s : State} {d txn ue t} : exec (.reissueTimeout d txn ue t) s = execReissueTimeout d txn ue t s := rfl
theorem exec_deadTargetExpiry {s : State} {d txn t} : exec (.deadTargetExpiry d txn t) s = execDeadTargetExpiry d txn t s := rfl
theorem exec_slotExpire {s : State} {d src slot t} : exec (.slotExpire d src slot t) s = execSlotExpire d src slot t s := rfl
theorem exec_releaseIssue {s : State} {d t} : exec (.releaseIssue d t) s = execReleaseIssue d t s := rfl
theorem exec_memLctrWrite {s : State} {d n v t} : exec (.memLctrWrite d n v t) s = execMemLctrWrite d n v t s := rfl
theorem exec_winCmdArm {s : State} {n tag t} : exec (.winCmdArm n tag t) s = execWinCmdArm n tag t s := rfl
theorem exec_winCmdClear {s : State} {n t} : exec (.winCmdClear n t) s = execWinCmdClear n t s := rfl
theorem exec_winClearComplete {s : State} {n t} : exec (.winClearComplete n t) s = execWinClearComplete n t s := rfl
theorem exec_pieceEmit {s : State} {cmd piece ue t} : exec (.pieceEmit cmd piece ue t) s = execPieceEmit cmd piece ue t s := rfl
theorem exec_clusterSpareSwap {s : State} {c t} : exec (.clusterSpareSwap c t) s = execClusterSpareSwap c t s := rfl
theorem exec_collSubmit {s : State} {t} : exec (.collSubmit t) s = execCollSubmit t s := rfl
theorem exec_chunkReady {s : State} {op chunk t} : exec (.chunkReady op chunk t) s = execChunkReady op chunk t s := rfl
theorem exec_shardDone {s : State} {op t} : exec (.shardDone op t) s = execShardDone op t s := rfl
theorem exec_hubDone {s : State} {t} : exec (.hubDone t) s = execHubDone t s := rfl
theorem exec_opAbort {s : State} {t} : exec (.opAbort t) s = execAbort t s := rfl
theorem exec_stop {s : State} {t} : exec (.stop t) s = execStop t s := rfl
theorem exec_dispatchSubmit {s : State} {t} : exec (.dispatchSubmit t) s = execDispatchSubmit t s := rfl
theorem exec_dispatchPlan {s : State} {op t} : exec (.dispatchPlan op t) s = execDispatchPlan op t s := rfl
theorem exec_combineEmit {s : State} {op h t} : exec (.combineEmit op h t) s = execCombineEmit op h t s := rfl
theorem exec_seqLoadCmd {s : State} {cores t} : exec (.seqLoadCmd cores t) s = execSeqLoadCmd cores t s := rfl
theorem exec_loadVerifyDone {s : State} {t} : exec (.loadVerifyDone t) s = execLoadVerifyDone t s := rfl
theorem exec_loadCopyDone {s : State} {t} : exec (.loadCopyDone t) s = execLoadCopyDone t s := rfl
theorem exec_coreStart {s : State} {n t} : exec (.coreStart n t) s = execCoreStart n t s := rfl
theorem exec_coreHalt {s : State} {n t} : exec (.coreHalt n t) s = execCoreHalt n t s := rfl
theorem exec_coreHalted {s : State} {n t} : exec (.coreHalted n t) s = execCoreHalted n t s := rfl
theorem exec_coreReset {s : State} {n t} : exec (.coreReset n t) s = execCoreReset n t s := rfl
theorem exec_watchdog {s : State} {n t} : exec (.watchdog n t) s = execWatchdog n t s := rfl
theorem exec_sampleTake {s : State} {n skid t} : exec (.sampleTake n skid t) s = execSampleTake n skid t s := rfl
theorem exec_seqQueueDisable {s : State} {q t} : exec (.seqQueueDisable q t) s = execSeqQueueDisable q t s := rfl
theorem exec_seqLocalDataAccess {s : State} {n write v t} : exec (.seqLocalDataAccess n write v t) s = execSeqLocalDataAccess n write v t s := rfl
theorem exec_nop {s : State} {n t} : exec (.nop n t) s = execNop n t s := rfl
theorem exec_opBreak {s : State} {n t} : exec (.opBreak n t) s = execBreak n t s := rfl
theorem exec_rdcyc {s : State} {n t} : exec (.rdcyc n t) s = execRdcyc n t s := rfl
theorem exec_rdtime {s : State} {n t} : exec (.rdtime n t) s = execRdtime n t s := rfl
theorem exec_rdid {s : State} {n t} : exec (.rdid n t) s = execRdid n t s := rfl
theorem exec_add {s : State} {n t} : exec (.add n t) s = execAdd n t s := rfl
theorem exec_sub {s : State} {n t} : exec (.sub n t) s = execSub n t s := rfl
theorem exec_opAnd {s : State} {n t} : exec (.opAnd n t) s = execAnd n t s := rfl
theorem exec_opOr {s : State} {n t} : exec (.opOr n t) s = execOr n t s := rfl
theorem exec_xor {s : State} {n t} : exec (.xor n t) s = execXor n t s := rfl
theorem exec_sll {s : State} {n t} : exec (.sll n t) s = execSll n t s := rfl
theorem exec_srl {s : State} {n t} : exec (.srl n t) s = execSrl n t s := rfl
theorem exec_sra {s : State} {n t} : exec (.sra n t) s = execSra n t s := rfl
theorem exec_mul {s : State} {n t} : exec (.mul n t) s = execMul n t s := rfl
theorem exec_mulhu {s : State} {n t} : exec (.mulhu n t) s = execMulhu n t s := rfl
theorem exec_divu {s : State} {n t} : exec (.divu n t) s = execDivu n t s := rfl
theorem exec_remu {s : State} {n t} : exec (.remu n t) s = execRemu n t s := rfl
theorem exec_slt {s : State} {n t} : exec (.slt n t) s = execSlt n t s := rfl
theorem exec_sltu {s : State} {n t} : exec (.sltu n t) s = execSltu n t s := rfl
theorem exec_addi {s : State} {n t} : exec (.addi n t) s = execAddi n t s := rfl
theorem exec_andi {s : State} {n t} : exec (.andi n t) s = execAndi n t s := rfl
theorem exec_ori {s : State} {n t} : exec (.ori n t) s = execOri n t s := rfl
theorem exec_xori {s : State} {n t} : exec (.xori n t) s = execXori n t s := rfl
theorem exec_slli {s : State} {n t} : exec (.slli n t) s = execSlli n t s := rfl
theorem exec_srli {s : State} {n t} : exec (.srli n t) s = execSrli n t s := rfl
theorem exec_srai {s : State} {n t} : exec (.srai n t) s = execSrai n t s := rfl
theorem exec_slti {s : State} {n t} : exec (.slti n t) s = execSlti n t s := rfl
theorem exec_sltiu {s : State} {n t} : exec (.sltiu n t) s = execSltiu n t s := rfl
theorem exec_li {s : State} {n t} : exec (.li n t) s = execLi n t s := rfl
theorem exec_lih {s : State} {n t} : exec (.lih n t) s = execLih n t s := rfl
theorem exec_beq {s : State} {n t} : exec (.beq n t) s = execBeq n t s := rfl
theorem exec_bne {s : State} {n t} : exec (.bne n t) s = execBne n t s := rfl
theorem exec_blt {s : State} {n t} : exec (.blt n t) s = execBlt n t s := rfl
theorem exec_bge {s : State} {n t} : exec (.bge n t) s = execBge n t s := rfl
theorem exec_bltu {s : State} {n t} : exec (.bltu n t) s = execBltu n t s := rfl
theorem exec_bgeu {s : State} {n t} : exec (.bgeu n t) s = execBgeu n t s := rfl
theorem exec_jal {s : State} {n t} : exec (.jal n t) s = execJal n t s := rfl
theorem exec_jalr {s : State} {n t} : exec (.jalr n t) s = execJalr n t s := rfl
theorem exec_ld1 {s : State} {n ue t} : exec (.ld1 n ue t) s = execLd1 n ue t s := rfl
theorem exec_ld2 {s : State} {n ue t} : exec (.ld2 n ue t) s = execLd2 n ue t s := rfl
theorem exec_ld4 {s : State} {n ue t} : exec (.ld4 n ue t) s = execLd4 n ue t s := rfl
theorem exec_ld8 {s : State} {n ue t} : exec (.ld8 n ue t) s = execLd8 n ue t s := rfl
theorem exec_lds1 {s : State} {n ue t} : exec (.lds1 n ue t) s = execLds1 n ue t s := rfl
theorem exec_lds2 {s : State} {n ue t} : exec (.lds2 n ue t) s = execLds2 n ue t s := rfl
theorem exec_lds4 {s : State} {n ue t} : exec (.lds4 n ue t) s = execLds4 n ue t s := rfl
theorem exec_st1 {s : State} {n t} : exec (.st1 n t) s = execSt1 n t s := rfl
theorem exec_st2 {s : State} {n t} : exec (.st2 n t) s = execSt2 n t s := rfl
theorem exec_st4 {s : State} {n t} : exec (.st4 n t) s = execSt4 n t s := rfl
theorem exec_st8 {s : State} {n t} : exec (.st8 n t) s = execSt8 n t s := rfl
theorem exec_cset {s : State} {n t} : exec (.cset n t) s = execCset n t s := rfl
theorem exec_cget {s : State} {n t} : exec (.cget n t) s = execCget n t s := rfl
theorem exec_cadd {s : State} {n t} : exec (.cadd n t) s = execCadd n t s := rfl
theorem exec_cld {s : State} {n ue t} : exec (.cld n ue t) s = execCld n ue t s := rfl
theorem exec_cst {s : State} {n t} : exec (.cst n t) s = execCst n t s := rfl
theorem exec_dld {s : State} {n ue t} : exec (.dld n ue t) s = execDld n ue t s := rfl
theorem exec_dst {s : State} {n t} : exec (.dst n t) s = execDst n t s := rfl
theorem exec_daddr {s : State} {n t} : exec (.daddr n t) s = execDaddr n t s := rfl
theorem exec_read {s : State} {n t} : exec (.read n t) s = execRead n t s := rfl
theorem exec_readAcq {s : State} {n t} : exec (.readAcq n t) s = execReadAcq n t s := rfl
theorem exec_write {s : State} {n t} : exec (.write n t) s = execWrite n t s := rfl
theorem exec_writeRel {s : State} {n t} : exec (.writeRel n t) s = execWriteRel n t s := rfl
theorem exec_amoAdd {s : State} {n t} : exec (.amoAdd n t) s = execAmoAdd n t s := rfl
theorem exec_amoAnd {s : State} {n t} : exec (.amoAnd n t) s = execAmoAnd n t s := rfl
theorem exec_amoOr {s : State} {n t} : exec (.amoOr n t) s = execAmoOr n t s := rfl
theorem exec_amoXor {s : State} {n t} : exec (.amoXor n t) s = execAmoXor n t s := rfl
theorem exec_amoSmin {s : State} {n t} : exec (.amoSmin n t) s = execAmoSmin n t s := rfl
theorem exec_amoSmax {s : State} {n t} : exec (.amoSmax n t) s = execAmoSmax n t s := rfl
theorem exec_amoUmin {s : State} {n t} : exec (.amoUmin n t) s = execAmoUmin n t s := rfl
theorem exec_amoUmax {s : State} {n t} : exec (.amoUmax n t) s = execAmoUmax n t s := rfl
theorem exec_amoSwap {s : State} {n t} : exec (.amoSwap n t) s = execAmoSwap n t s := rfl
theorem exec_amoCas {s : State} {n t} : exec (.amoCas n t) s = execAmoCas n t s := rfl
theorem exec_msg {s : State} {n ue t} : exec (.msg n ue t) s = execMsg n ue t s := rfl
theorem exec_tput {s : State} {n ue t} : exec (.tput n ue t) s = execTput n ue t s := rfl
theorem exec_tget {s : State} {n t} : exec (.tget n t) s = execTget n t s := rfl
theorem exec_tierPromoteHot {s : State} {n t} : exec (.tierPromoteHot n t) s = execTierPromoteHot n t s := rfl
theorem exec_tierPromoteDram {s : State} {n t} : exec (.tierPromoteDram n t) s = execTierPromoteDram n t s := rfl
theorem exec_tierPin {s : State} {n t} : exec (.tierPin n t) s = execTierPin n t s := rfl
theorem exec_tierUnpin {s : State} {n t} : exec (.tierUnpin n t) s = execTierUnpin n t s := rfl
theorem exec_tierWriteback {s : State} {n t} : exec (.tierWriteback n t) s = execTierWriteback n t s := rfl
theorem exec_fence {s : State} {n t} : exec (.fence n t) s = execFence n t s := rfl
theorem exec_waitc {s : State} {n t} : exec (.waitc n t) s = execWaitc n t s := rfl
theorem exec_lctrRd {s : State} {n t} : exec (.lctrRd n t) s = execLctrRd n t s := rfl
theorem exec_lctrSet {s : State} {n t} : exec (.lctrSet n t) s = execLctrSet n t s := rfl
theorem exec_winSet {s : State} {n t} : exec (.winSet n t) s = execWinSet n t s := rfl
theorem exec_winArm {s : State} {n t} : exec (.winArm n t) s = execWinArm n t s := rfl
theorem exec_winClear {s : State} {n t} : exec (.winClear n t) s = execWinClear n t s := rfl
theorem exec_reduce {s : State} {n t} : exec (.reduce n t) s = execReduce n t s := rfl
theorem exec_winStat {s : State} {n t} : exec (.winStat n t) s = execWinStat n t s := rfl
theorem exec_take {s : State} {n ue t} : exec (.take n ue t) s = execTake n ue t s := rfl
theorem exec_hcqPost {s : State} {n ue t} : exec (.hcqPost n ue t) s = execHcqPost n ue t s := rfl
theorem exec_chanInv {s : State} {n t} : exec (.chanInv n t) s = execChanInv n t s := rfl
theorem exec_chanChk {s : State} {n t} : exec (.chanChk n t) s = execChanChk n t s := rfl
theorem exec_stepRd {s : State} {n t} : exec (.stepRd n t) s = execStepRd n t s := rfl
theorem exec_stepSet {s : State} {n t} : exec (.stepSet n t) s = execStepSet n t s := rfl
theorem exec_stepSeal {s : State} {n t} : exec (.stepSeal n t) s = execStepSeal n t s := rfl
theorem exec_stepDiscard {s : State} {n t} : exec (.stepDiscard n t) s = execStepDiscard n t s := rfl
theorem exec_wake {s : State} {n t} : exec (.wake n t) s = execWake n t s := rfl
theorem exec_nap {s : State} {n t} : exec (.nap n t) s = execNap n t s := rfl
theorem exec_stage {s : State} {n t} : exec (.stage n t) s = execStage n t s := rfl
theorem exec_check {s : State} {n t} : exec (.check n t) s = execCheck n t s := rfl
theorem exec_pour {s : State} {n t} : exec (.pour n t) s = execPour n t s := rfl
theorem exec_discard {s : State} {n t} : exec (.discard n t) s = execDiscard n t s := rfl
theorem exec_ctrRd {s : State} {n t} : exec (.ctrRd n t) s = execCtrRd n t s := rfl
theorem exec_drain {s : State} {n t} : exec (.drain n t) s = execDrain n t s := rfl
theorem exec_drained {s : State} {n t} : exec (.drained n t) s = execDrained n t s := rfl
theorem exec_migrationComplete {s : State} {tile t} : exec (.migrationComplete tile t) s = execMigrationComplete tile t s := rfl
theorem exec_demotionComplete {s : State} {tile t} : exec (.demotionComplete tile t) s = execDemotionComplete tile t s := rfl
theorem exec_caddyPromotionComplete {s : State} {tile lost retry t} : exec (.caddyPromotionComplete tile lost retry t) s = execCaddyPromotionComplete tile lost retry t s := rfl
theorem exec_shadowCopyDone {s : State} {tile t} : exec (.shadowCopyDone tile t) s = execShadowCopyDone tile t s := rfl
theorem exec_writeBufferFlushTimer {s : State} {t} : exec (.writeBufferFlushTimer t) s = execWriteBufferFlushTimer t s := rfl
theorem exec_pageProgramDone {s : State} {out spare t} : exec (.pageProgramDone out spare t) s = execPageProgramDone out spare t s := rfl
theorem exec_garbageCollect {s : State} {t} : exec (.garbageCollect t) s = execGarbageCollect t s := rfl
theorem exec_wearMove {s : State} {t} : exec (.wearMove t) s = execWearMove t s := rfl
theorem exec_superblockRefresh {s : State} {sb retry t} : exec (.superblockRefresh sb retry t) s = execSuperblockRefresh sb retry t s := rfl
theorem exec_patrolScrub {s : State} {unit addr errs t} : exec (.patrolScrub unit addr errs t) s = execPatrolScrub unit addr errs t s := rfl
theorem exec_caddyReady {s : State} {geom ok t} : exec (.caddyReady geom ok t) s = execCaddyReady geom ok t s := rfl
theorem exec_map {s : State} {first count tenant home floor stepver t} : exec (.map first count tenant home floor stepver t) s = execMap first count tenant home floor stepver t s := rfl
theorem exec_free {s : State} {first count tenant t} : exec (.free first count tenant t) s = execFree first count tenant t s := rfl
theorem exec_policy {s : State} {first count tenant home floor stepver t} : exec (.policy first count tenant home floor stepver t) s = execPolicy first count tenant home floor stepver t s := rfl
theorem exec_promoteHot {s : State} {first count tenant t} : exec (.promoteHot first count tenant t) s = execPromoteHot first count tenant t s := rfl
theorem exec_promoteDram {s : State} {first count tenant t} : exec (.promoteDram first count tenant t) s = execPromoteDram first count tenant t s := rfl
theorem exec_pin {s : State} {first count tenant t} : exec (.pin first count tenant t) s = execPin first count tenant t s := rfl
theorem exec_unpin {s : State} {first count tenant t} : exec (.unpin first count tenant t) s = execUnpin first count tenant t s := rfl
theorem exec_writeback {s : State} {first count tenant t} : exec (.writeback first count tenant t) s = execWriteback first count tenant t s := rfl
theorem exec_demote {s : State} {first count tenant t} : exec (.demote first count tenant t) s = execDemote first count tenant t s := rfl
theorem exec_objMap {s : State} {t} : exec (.objMap t) s = execObjMap t s := rfl
theorem exec_objFree {s : State} {t} : exec (.objFree t) s = execObjFree t s := rfl
theorem exec_objPolicy {s : State} {t} : exec (.objPolicy t) s = execObjPolicy t s := rfl
theorem exec_tierReq {s : State} {t} : exec (.tierReq t) s = execTierReq t s := rfl
theorem exec_walkComplete {s : State} {d walk bad t} : exec (.walkComplete d walk bad t) s = execWalkComplete d walk bad t s := rfl
theorem exec_xltInvRange {s : State} {d v t} : exec (.xltInvRange d v t) s = execXltInvRange d v t s := rfl
theorem exec_xltInvId {s : State} {d v t} : exec (.xltInvId d v t) s = execXltInvId d v t s := rfl
theorem exec_xltInvAll {s : State} {d v t} : exec (.xltInvAll d v t) s = execXltInvAll d v t s := rfl
theorem exec_xltInvComplete {s : State} {d t} : exec (.xltInvComplete d t) s = execXltInvComplete d t s := rfl
theorem exec_faultBatchTimer {s : State} {t} : exec (.faultBatchTimer t) s = execFaultBatchTimer t s := rfl
theorem exec_xltFlogCtrlWrite {s : State} {d v t} : exec (.xltFlogCtrlWrite d v t) s = execXltFlogCtrlWrite d v t s := rfl
theorem exec_xltResumeRetry {s : State} {id t} : exec (.xltResumeRetry id t) s = execXltResumeRetry id t s := rfl
theorem exec_xltResumeAbort {s : State} {id t} : exec (.xltResumeAbort id t) s = execXltResumeAbort id t s := rfl
theorem exec_faultLimitExpiry {s : State} {id t} : exec (.faultLimitExpiry id t) s = execFaultLimitExpiry id t s := rfl
theorem exec_sqTailDoorbell {s : State} {fn q v t} : exec (.sqTailDoorbell fn q v t) s = execSqTailDoorbell fn q v t s := rfl
theorem exec_cqHeadDoorbell {s : State} {fn q v t} : exec (.cqHeadDoorbell fn q v t) s = execCqHeadDoorbell fn q v t s := rfl
theorem exec_commandStart {s : State} {q entry t} : exec (.commandStart q entry t) s = execCommandStart q entry t s := rfl
theorem exec_commandComplete {s : State} {q slot hostErr t} : exec (.commandComplete q slot hostErr t) s = execCommandComplete q slot hostErr t s := rfl
theorem exec_cqIntTimer {s : State} {q t} : exec (.cqIntTimer q t) s = execCqIntTimer q t s := rfl
theorem exec_cmdNop {s : State} {q t} : exec (.cmdNop q t) s = execCmdNop q t s := rfl
theorem exec_cmdPut {s : State} {q data t} : exec (.cmdPut q data t) s = execCmdPut q data t s := rfl
theorem exec_cmdGet {s : State} {q t} : exec (.cmdGet q t) s = execCmdGet q t s := rfl
theorem exec_cmdFlag {s : State} {q t} : exec (.cmdFlag q t) s = execCmdFlag q t s := rfl
theorem exec_cmdAmo {s : State} {q t} : exec (.cmdAmo q t) s = execCmdAmo q t s := rfl
theorem exec_cmdMsg {s : State} {q data t} : exec (.cmdMsg q data t) s = execCmdMsg q data t s := rfl
theorem exec_cmdFence {s : State} {q t} : exec (.cmdFence q t) s = execCmdFence q t s := rfl
theorem exec_cmdEmit {s : State} {q t} : exec (.cmdEmit q t) s = execCmdEmit q t s := rfl
theorem exec_cmdTile {s : State} {q data t} : exec (.cmdTile q data t) s = execCmdTile q data t s := rfl
theorem exec_cmdChanInv {s : State} {q t} : exec (.cmdChanInv q t) s = execCmdChanInv q t s := rfl
theorem exec_cmdAbort {s : State} {q t} : exec (.cmdAbort q t) s = execCmdAbort q t s := rfl
theorem exec_hifSqWordBWrite {s : State} {q v t} : exec (.hifSqWordBWrite q v t) s = execHifSqWordBWrite q v t s := rfl
theorem exec_hifCqWordBWrite {s : State} {q v t} : exec (.hifCqWordBWrite q v t) s = execHifCqWordBWrite q v t s := rfl
theorem exec_hifChanInvWrite {s : State} {d v t} : exec (.hifChanInvWrite d v t) s = execHifChanInvWrite d v t s := rfl
theorem exec_chanInvComplete {s : State} {d t} : exec (.chanInvComplete d t) s = execChanInvComplete d t s := rfl
theorem exec_channelFetch {s : State} {d chan ok host t} : exec (.channelFetch d chan ok host t) s = execChannelFetch d chan ok host t s := rfl
theorem exec_vfFlr {s : State} {v t} : exec (.vfFlr v t) s = execVfFlr v t s := rfl
theorem exec_capSet {s : State} {req t} : exec (.capSet req t) s = execCapSet req t s := rfl
theorem exec_capGet {s : State} {req t} : exec (.capGet req t) s = execCapGet req t s := rfl
theorem exec_telSnapshot {s : State} {req t} : exec (.telSnapshot req t) s = execTelSnapshot req t s := rfl
theorem exec_health {s : State} {req t} : exec (.health req t) s = execHealth req t s := rfl
theorem exec_eventReply {s : State} {seq t} : exec (.eventReply seq t) s = execEventReply seq t s := rfl
theorem exec_eventResendTimer {s : State} {seq t} : exec (.eventResendTimer seq t) s = execEventResendTimer seq t s := rfl
theorem exec_i3cPrivateWrite {s : State} {bytes t} : exec (.i3cPrivateWrite bytes t) s = execI3cPrivateWrite bytes t s := rfl
theorem exec_i3cPrivateRead {s : State} {t} : exec (.i3cPrivateRead t) s = execI3cPrivateRead t s := rfl
theorem exec_i3cDynamicAddress {s : State} {addr t} : exec (.i3cDynamicAddress addr t) s = execI3cDynamicAddress addr t s := rfl
theorem exec_engineRead {s : State} {n req t} : exec (.engineRead n req t) s = execEngineRead n req t s := rfl
theorem exec_engineWrite {s : State} {n req t} : exec (.engineWrite n req t) s = execEngineWrite n req t s := rfl
theorem exec_engineTget {s : State} {n req t} : exec (.engineTget n req t) s = execEngineTget n req t s := rfl
theorem exec_engineTput {s : State} {n req own t} : exec (.engineTput n req own t) s = execEngineTput n req own t s := rfl
theorem exec_engineAmo {s : State} {n req t} : exec (.engineAmo n req t) s = execEngineAmo n req t s := rfl
theorem exec_engineFence {s : State} {n req t} : exec (.engineFence n req t) s = execEngineFence n req t s := rfl
theorem exec_engineInval {s : State} {n req t} : exec (.engineInval n req t) s = execEngineInval n req t s := rfl
theorem exec_engineWait {s : State} {n req t} : exec (.engineWait n req t) s = execEngineWait n req t s := rfl
theorem exec_weightSegmentVerify {s : State} {slot seg t} : exec (.weightSegmentVerify slot seg t) s = execWeightSegmentVerify slot seg t s := rfl
theorem exec_ucieModuleTrained {s : State} {m t} : exec (.ucieModuleTrained m t) s = execUcieModuleTrained m t s := rfl
theorem exec_moduleDown {s : State} {m t} : exec (.moduleDown m t) s = execModuleDown m t s := rfl
theorem exec_rcacheInvChannel {s : State} {chan t} : exec (.rcacheInvChannel chan t) s = execRcacheInvChannel chan t s := rfl
theorem exec_rcacheInvAll {s : State} {t} : exec (.rcacheInvAll t) s = execRcacheInvAll t s := rfl
theorem exec_ordResetFlow {s : State} {src chan t} : exec (.ordResetFlow src chan t) s = execOrdResetFlow src chan t s := rfl
theorem exec_ordResetAllFlows {s : State} {src t} : exec (.ordResetAllFlows src t) s = execOrdResetAllFlows src t s := rfl
theorem exec_ordResetComplete {s : State} {t} : exec (.ordResetComplete t) s = execOrdResetComplete t s := rfl
theorem exec_ownerSet {s : State} {ses bad key t} : exec (.ownerSet ses bad key t) s = execOwnerSet ses bad key t s := rfl
theorem exec_ownerClear {s : State} {ses bad t} : exec (.ownerClear ses bad t) s = execOwnerClear ses bad t s := rfl
theorem exec_tenantCreate {s : State} {ses bad tenant key t} : exec (.tenantCreate ses bad tenant key t) s = execTenantCreate ses bad tenant key t s := rfl
theorem exec_tenantRemove {s : State} {ses bad tenant t} : exec (.tenantRemove ses bad tenant t) s = execTenantRemove ses bad tenant t s := rfl
theorem exec_tenantZeroingDone {s : State} {tenant t} : exec (.tenantZeroingDone tenant t) s = execTenantZeroingDone tenant t s := rfl
theorem exec_progkeyAdd {s : State} {ses bad tenant key t} : exec (.progkeyAdd ses bad tenant key t) s = execProgkeyAdd ses bad tenant key t s := rfl
theorem exec_progkeyDel {s : State} {ses bad tenant key t} : exec (.progkeyDel ses bad tenant key t) s = execProgkeyDel ses bad tenant key t s := rfl
theorem exec_rollbackSet {s : State} {ses bad prog version t} : exec (.rollbackSet ses bad prog version t) s = execRollbackSet ses bad prog version t s := rfl
theorem exec_epochAdvance {s : State} {ses bad tenant t} : exec (.epochAdvance ses bad tenant t) s = execEpochAdvance ses bad tenant t s := rfl
theorem exec_epochRetire {s : State} {ses bad tenant t} : exec (.epochRetire ses bad tenant t) s = execEpochRetire ses bad tenant t s := rfl
theorem exec_queueKeyGet {s : State} {ses bad tenant q kind t} : exec (.queueKeyGet ses bad tenant q kind t) s = execQueueKeyGet ses bad tenant q kind t s := rfl
theorem exec_confEnter {s : State} {ses bad t} : exec (.confEnter ses bad t) s = execConfEnter ses bad t s := rfl
theorem exec_confExit {s : State} {ses bad t} : exec (.confExit ses bad t) s = execConfExit ses bad t s := rfl
theorem exec_debugOpen {s : State} {ses bad t} : exec (.debugOpen ses bad t) s = execDebugOpen ses bad t s := rfl
theorem exec_weightKeyPut {s : State} {ses bad key object base size tagBase tenant t} : exec (.weightKeyPut ses bad key object base size tagBase tenant t) s = execWeightKeyPut ses bad key object base size tagBase tenant t s := rfl
theorem exec_weightKeyDestroy {s : State} {ses bad slot t} : exec (.weightKeyDestroy ses bad slot t) s = execWeightKeyDestroy ses bad slot t s := rfl
theorem exec_getVersion {s : State} {d tr t} : exec (.getVersion d tr t) s = execGetVersion d tr t s := rfl
theorem exec_getCapabilities {s : State} {d tr t} : exec (.getCapabilities d tr t) s = execGetCapabilities d tr t s := rfl
theorem exec_negotiateAlgorithms {s : State} {d tr offers t} : exec (.negotiateAlgorithms d tr offers t) s = execNegotiateAlgorithms d tr offers t s := rfl
theorem exec_getDigests {s : State} {d tr t} : exec (.getDigests d tr t) s = execGetDigests d tr t s := rfl
theorem exec_getCertificate {s : State} {d tr slot t} : exec (.getCertificate d tr slot t) s = execGetCertificate d tr slot t s := rfl
theorem exec_challenge {s : State} {d tr slot t} : exec (.challenge d tr slot t) s = execChallenge d tr slot t s := rfl
theorem exec_getMeasurements {s : State} {d tr index t} : exec (.getMeasurements d tr index t) s = execGetMeasurements d tr index t s := rfl
theorem exec_keyExchange {s : State} {d tr slot auth t} : exec (.keyExchange d tr slot auth t) s = execKeyExchange d tr slot auth t s := rfl
theorem exec_finish {s : State} {d ses ok cred t} : exec (.finish d ses ok cred t) s = execFinish d ses ok cred t s := rfl
theorem exec_endSession {s : State} {d ses t} : exec (.endSession d ses t) s = execEndSession d ses t s := rfl
theorem exec_spdmHeartbeat {s : State} {d ses t} : exec (.spdmHeartbeat d ses t) s = execSpdmHeartbeat d ses t s := rfl
theorem exec_hybridSig {s : State} {d tr t} : exec (.hybridSig d tr t) s = execHybridSig d tr t s := rfl
theorem exec_peerSig {s : State} {d ses env t} : exec (.peerSig d ses env t) s = execPeerSig d ses env t s := rfl
theorem exec_beat {s : State} {d p body t} : exec (.beat d p body t) s = execBeat d p body t s := rfl
theorem exec_beatTimer {s : State} {d t} : exec (.beatTimer d t) s = execBeatTimer d t s := rfl
theorem exec_heartbeatSilence {s : State} {d p t} : exec (.heartbeatSilence d p t) s = execHeartbeatSilence d p t s := rfl
theorem exec_accuse {s : State} {d p body t} : exec (.accuse d p body t) s = execAccuse d p body t s := rfl
theorem exec_fatal {s : State} {d p body t} : exec (.fatal d p body t) s = execFatal d p body t s := rfl
theorem exec_opJoin {s : State} {d p body t} : exec (.opJoin d p body t) s = execJoin d p body t s := rfl
theorem exec_stepReady {s : State} {d p body t} : exec (.stepReady d p body t) s = execStepReady d p body t s := rfl
theorem exec_stepFail {s : State} {d p body t} : exec (.stepFail d p body t) s = execStepFail d p body t s := rfl
theorem exec_stepDiscarded {s : State} {d p body t} : exec (.stepDiscarded d p body t) s = execStepDiscarded d p body t s := rfl
theorem exec_leaseAck {s : State} {d p body t} : exec (.leaseAck d p body t) s = execLeaseAck d p body t s := rfl
theorem exec_decisionEpoch {s : State} {d p body t} : exec (.decisionEpoch d p body t) s = execDecisionEpoch d p body t s := rfl
theorem exec_stepCommit {s : State} {d p body t} : exec (.stepCommit d p body t) s = execStepCommit d p body t s := rfl
theorem exec_stepReplay {s : State} {d p body t} : exec (.stepReplay d p body t) s = execStepReplay d p body t s := rfl
theorem exec_stepRestart {s : State} {d p body t} : exec (.stepRestart d p body t) s = execStepRestart d p body t s := rfl
theorem exec_decisionLease {s : State} {d p body t} : exec (.decisionLease d p body t) s = execDecisionLease d p body t s := rfl
theorem exec_leaseRenewTimer {s : State} {t} : exec (.leaseRenewTimer t) s = execLeaseRenewTimer t s := rfl
theorem exec_coordinatorTakeover {s : State} {t} : exec (.coordinatorTakeover t) s = execCoordinatorTakeover t s := rfl
theorem exec_decisionCatchup {s : State} {d p t} : exec (.decisionCatchup d p t) s = execDecisionCatchup d p t s := rfl
theorem exec_stepPlan {s : State} {t} : exec (.stepPlan t) s = execStepPlan t s := rfl
theorem exec_stepEnd {s : State} {t} : exec (.stepEnd t) s = execStepEnd t s := rfl
theorem exec_stepFenced {s : State} {t} : exec (.stepFenced t) s = execStepFenced t s := rfl
theorem exec_replayFenceTimeout {s : State} {t} : exec (.replayFenceTimeout t) s = execReplayFenceTimeout t s := rfl
theorem exec_repairTest {s : State} {d t} : exec (.repairTest d t) s = execRepairTest d t s := rfl
theorem exec_repairTestDone {s : State} {d lanes cores clusters bad t} : exec (.repairTestDone d lanes cores clusters bad t) s = execRepairTestDone d lanes cores clusters bad t s := rfl
theorem exec_repairJoin {s : State} {d t} : exec (.repairJoin d t) s = execRepairJoin d t s := rfl
theorem exec_joinTimer {s : State} {d t} : exec (.joinTimer d t) s = execJoinTimer d t s := rfl
theorem exec_form {s : State} {d t} : exec (.form d t) s = execForm d t s := rfl
theorem exec_admitHeld {s : State} {d t} : exec (.admitHeld d t) s = execAdmit d t s := rfl
theorem exec_fatalFault {s : State} {d cause t} : exec (.fatalFault d cause t) s = execFatalFault d cause t s := rfl
theorem exec_logicHang {s : State} {d t} : exec (.logicHang d t) s = execLogicHang d t s := rfl
theorem exec_clockLoss {s : State} {d t} : exec (.clockLoss d t) s = execClockLoss d t s := rfl
theorem exec_temperatureRead {s : State} {d temps t} : exec (.temperatureRead d temps t) s = execTemperatureRead d temps t s := rfl
theorem exec_refclkLoss {s : State} {d t} : exec (.refclkLoss d t) s = execRefclkLoss d t s := rfl
theorem exec_domainWakeDone {s : State} {dom t} : exec (.domainWakeDone dom t) s = execDomainWakeDone dom t s := rfl
theorem exec_domainWakeTimeout {s : State} {dom t} : exec (.domainWakeTimeout dom t) s = execDomainWakeTimeout dom t s := rfl
theorem exec_domainOffTimer {s : State} {dom t} : exec (.domainOffTimer dom t) s = execDomainOffTimer dom t s := rfl
theorem exec_clockLevelStep {s : State} {clk up t} : exec (.clockLevelStep clk up t) s = execClockLevelStep clk up t s := rfl
theorem exec_vrReply {s : State} {frame t} : exec (.vrReply frame t) s = execVrReply frame t s := rfl
theorem exec_vrReplyTimeout {s : State} {t} : exec (.vrReplyTimeout t) s = execVrReplyTimeout t s := rfl
theorem exec_vrKeepaliveTimer {s : State} {t} : exec (.vrKeepaliveTimer t) s = execVrKeepaliveTimer t s := rfl
theorem exec_estUpdate {s : State} {t} : exec (.estUpdate t) s = execEstUpdate t s := rfl
theorem exec_floorRecompute {s : State} {t} : exec (.floorRecompute t) s = execFloorRecompute t s := rfl
theorem exec_capWindow {s : State} {t} : exec (.capWindow t) s = execCapWindow t s := rfl
theorem exec_ageingMonitorRead {s : State} {slacks t} : exec (.ageingMonitorRead slacks t) s = execAgeingMonitorRead slacks t s := rfl
theorem exec_marginPlan {s : State} {t} : exec (.marginPlan t) s = execMarginPlan t s := rfl
theorem exec_ageingLogDaily {s : State} {t} : exec (.ageingLogDaily t) s = execAgeingLogDaily t s := rfl
theorem exec_eqRecompute {s : State} {d p lane coeff t} : exec (.eqRecompute d p lane coeff t) s = execEqRecompute d p lane coeff t s := rfl
theorem exec_windowBoundary {s : State} {d t} : exec (.windowBoundary d t) s = execWindowBoundary d t s := rfl
theorem exec_telWinCfgWrite {s : State} {d v t} : exec (.telWinCfgWrite d v t) s = execTelWinCfgWrite d v t s := rfl
theorem exec_powerOnReset {s : State} {d t} : exec (.powerOnReset d t) s = execPowerOnReset d t s := rfl
theorem exec_bootStageDone {s : State} {d result t} : exec (.bootStageDone d result t) s = execBootStageDone d result t s := rfl
theorem exec_warmN {s : State} {d t} : exec (.warmN d t) s = execWarmN d t s := rfl
theorem exec_warm {s : State} {d t} : exec (.warm d t) s = execWarm d t s := rfl
theorem exec_pf0Flr {s : State} {t} : exec (.pf0Flr t) s = execPf0Flr t s := rfl
theorem exec_warmResetDone {s : State} {d t} : exec (.warmResetDone d t) s = execWarmResetDone d t s := rfl
theorem exec_domainReset {s : State} {d dom t} : exec (.domainReset d dom t) s = execDomainReset d dom t s := rfl
theorem exec_perstN {s : State} {t} : exec (.perstN t) s = execPerstN t s := rfl
theorem exec_powerLoss {s : State} {d t} : exec (.powerLoss d t) s = execPowerLoss d t s := rfl
theorem exec_epStartUp {s : State} {ok t} : exec (.epStartUp ok t) s = execEpStartUp ok t s := rfl
theorem exec_acknowledgementDeadline {s : State} {d p t} : exec (.acknowledgementDeadline d p t) s = execAcknowledgementDeadline d p t s := rfl
theorem exec_marker {s : State} {d p lanes t} : exec (.marker d p lanes t) s = execMarker d p lanes t s := rfl
theorem exec_computeDieAcknowledge {s : State} {id own t} : exec (.computeDieAcknowledge id own t) s = execComputeDieAcknowledge id own t s := rfl
theorem exec_readCacheInvalidationComplete {s : State} {t} : exec (.readCacheInvalidationComplete t) s = execReadCacheInvalidationComplete t s := rfl
theorem exec_blockEraseDone {s : State} {sb ok spare t} : exec (.blockEraseDone sb ok spare t) s = execBlockEraseDone sb ok spare t s := rfl
theorem exec_arpNeighborDiscoveryIcmpEcho {s : State} {frame t} : exec (.arpNeighborDiscoveryIcmpEcho frame t) s = execArpNeighborDiscoveryIcmpEcho frame t s := rfl
theorem exec_illegal {s : State} {n t} : exec (.illegal n t) s = execIllegal n t s := rfl
theorem exec_registerRead {s : State} {d fn addr size t} : exec (.registerRead d fn addr size t) s = execRegisterRead d fn addr size t s := rfl
theorem exec_boundaryScan {s : State} {d bits t} : exec (.boundaryScan d bits t) s = execBoundaryScan d bits t s := rfl

end Sys2Proof.Machine
end

