-- ==== Sys2Proof/Laws/Memory.lean ====
section
/-! SUPPORT. Every operation on a byte memory keeps its canonical form, and leaves every byte that it does not reach. -/

namespace Sys2Proof.Machine

theorem Memory.wf_setEnabled (m : Memory) (a : Nat) (bytes : List Byte) (en : Nat) (h : m.wf = true) :
    (Memory.setEnabled m a bytes en).wf = true := by
  unfold Memory.setEnabled
  split
  · exact Memory.wf_setBytes _ _ _ h
  · have key : ∀ (l : List Nat) (x : Memory), x.wf = true →
        (l.foldl (fun x i => if bitOf en i then Memory.setByte x (a + i) (bytes.getD i 0) else x) x).wf = true := by
      intro l
      induction l with
      | nil => exact fun _ h => h
      | cons i l ih =>
        intro x hx
        refine ih _ ?_
        dsimp only
        split
        · exact Memory.wf_setByte _ _ _ hx
        · exact hx
    exact key _ m h

/-- An access keeps the canonical form, whatever it is. -/
theorem Memory.wf_access (m : Memory) (a : Nat) (k : Access) (h : m.wf = true) : (Memory.access m a k).2.wf = true := by
  cases k with
  | read n => exact h
  | write bytes en => exact Memory.wf_setEnabled m a bytes en h
  | amo op x y => exact Memory.wf_setNum m a 8 _ h

/-- Leaving out entries keeps the canonical form. -/
theorem SMap.okFrom_filter {α : Type} [DecidableEq α] (d : α) (p : Nat × α → Bool) : ∀ (m : List (Nat × α)) (lo : Nat),
    SMap.okFrom d lo m = true → SMap.okFrom d lo (m.filter p) = true := by
  intro m
  induction m with
  | nil => exact fun _ h => h
  | cons e m ih =>
    intro lo h
    obtain ⟨k, v⟩ := e
    simp only [SMap.okFrom, Bool.and_eq_true, decide_eq_true_eq] at h
    simp only [List.filter_cons]
    split
    · simp only [SMap.okFrom, Bool.and_eq_true, decide_eq_true_eq]
      exact ⟨h.1, ih _ h.2⟩
    · exact SMap.okFrom_le d (by omega) (ih _ h.2)

theorem Memory.wf_clear (m : Memory) (a n : Nat) (h : m.wf = true) : (Memory.clear m a n).wf = true :=
  SMap.okFrom_filter 0 _ m 0 h

theorem Memory.wf_copy (src : Memory) (a n : Nat) (dst : Memory) (b : Nat) (h : dst.wf = true) :
    (Memory.copy src a n dst b).wf = true := by
  unfold Memory.copy
  generalize src.filter _ = l
  induction l with
  | nil => exact Memory.wf_clear dst b n h
  | cons c l ih => exact Memory.wf_setByte _ _ _ ih

/-- A cleared range reads zero, and every other byte reads as before. -/
theorem Memory.byte_clear (m : Memory) (a n x : Nat) :
    (Memory.clear m a n).byte x = if a ≤ x ∧ x < a + n then 0 else m.byte x := by
  unfold Memory.clear Memory.byte
  induction m with
  | nil => simp [SMap.at]
  | cons e m ih =>
    obtain ⟨k, v⟩ := e
    by_cases hx : x = k
    · subst hx
      by_cases h : a ≤ x ∧ x < a + n
      · simp [h]
        simpa [h] using ih
      · have : (! (decide (a ≤ x) && decide (x < a + n))) = true := by simp; omega
        simp only [List.filter_cons, this, if_true, SMap.at, h, if_false]
    · by_cases h : a ≤ k ∧ k < a + n
      · simp [SMap.at, h, hx]
        simpa using ih
      · have : (! (decide (a ≤ k) && decide (k < a + n))) = true := by simp; omega
        simp only [List.filter_cons, this, if_true, SMap.at, hx, if_false]
        exact ih

/-- A read changes nothing. -/
@[simp] theorem Memory.access_read (m : Memory) (a n : Nat) : (Memory.access m a (.read n)).2 = m := rfl

/-- An atomic operation leaves every byte outside its word. -/
theorem Memory.byte_access_amo_out (m : Memory) (a op : Nat) (x y : Word) (b : Nat) (h : b < a ∨ a + 8 ≤ b) :
    (Memory.access m a (.amo op x y)).2.byte b = m.byte b := by
  simp only [Memory.access, Memory.setNum]
  exact Memory.byte_setBytes_out m a b _ (by simpa using h)

end Sys2Proof.Machine
end

