-- ==== Sys2Proof/Tests/Slice0.lean ====
section
/-! SUPPORT. The model's own tests: ill-formed commands that the check refuses, single steps on small states, and for each
statement states and operands that meet its hypotheses. -/

namespace Sys2Proof.Tests

open Sys2Proof Sys2Proof.Machine Sys2Proof.Claims

/- Kernel evaluation waits for every declaration before it. One theorem at a time: many at once would each hold a
thread while they wait. -/
set_option Elab.async false

/-- A state with fields of registers set. -/
def on (s : State) (xs : List (Part × Fld × Nat)) : State := xs.foldl (fun s x => s.set x.1 x.2.1 x.2.2) s

/-- Both parts after start-up. -/
def ready : State := on State.reset [(.sw, F.CFG_BOOT_STATUS_STAGE, 7), (.ep, F.CFG_BOOT_STATUS_STAGE, 7),
  (.ep, F.EP_UCIE_STATUS_MODULES_UP, 255)]

/-- Port 31 of the switch and port 3 of the end-point in a state of Table 3.9. -/
def linked (x : Nat) : State := on ready [(.sw, F.LNK_STATUS_STATE 31, x), (.ep, F.LNK_STATUS_STATE 3, x)]

/-- A state with the port 31 of the switch changed. -/
def at31 (s : State) (f : Port → Port) : State := s.modPort .sw 31 f

/-- A packet of 16 B from node 5 to node 9, promised class 7. -/
def pkt1 (op : Nat) : Packet :=
  ⟨{ PktHdr.blank with
      dst := 9, src := 5, pkey := 77, opcode := BitVec.ofNat 8 op, tc := 7, payUnits := 1, last := 1 },
    List.replicate 16 0xA5⟩

/-- A queued packet. -/
def queued (s : State) (c : Nat) : State := s.modDev .sw (fun v => v.setQueue 31 c [⟨pkt1 3, 2, 1, 0, 0, false⟩])

/-- A waiting WRITE to node 9. -/
def pend1 : Pend :=
  { uid := 3, pkt := pkt1 3, agent := .core 0, job := 0, land := .drop, promised := false, rate := 0, burst := 0, rbound := 0,
    bucket := 0, keyTenant := 0, tenant := 0, step := 0, acquire := none, fill := false }

/-- An outstanding transaction, and a READ of one unit among them. -/
def txn1 (op : Nat) : Txn :=
  { id := 5, uid := 3, pkt := ⟨{ (pkt1 op).hdr with txn := 5, reqUnits := 1 }, []⟩, agent := .core 0, job := 0, land := .drop,
    promised := true, rbound := 0, late := false, acceptAt := 0, issueAt := 0, timeout := 100, reissues := 0, parked := false,
    tenant := 0, step := 0, acquire := none, fill := false, stamped := true }

/-- A packet that waits at its target or its source. -/
def inbox1 (op : Nat) : Inbox :=
  ⟨⟨{ (pkt1 op).hdr with src := 9, dst := 5, txn := 5, offset := 0 }, (pkt1 op).pay⟩, 31, 0, 1, 0, 0, .plain⟩

/-- A device of a ready machine changed; its deduplication covers every source. -/
def withDev (d : Part) (f : Dev → Dev) : State :=
  (on ready [(.sw, F.MEM_DEDUP_CFG_SOURCES, 4096), (.ep, F.MEM_DEDUP_CFG_SOURCES, 4096)]).modDev d f

/-! ### The Pot -/

/-- The switch's Pot in a state of Table 2.5, with a holder. -/
def pot (d : Part) (st holder : Nat) : State :=
  on ready [(d, F.CFG_POT_STATUS_STATE, st), (d, F.CFG_POT_STATUS_HOLDER, holder)]

theorem wit_PotHostCommands :
    (Up (pot .sw 0 0) .sw ∧ (pot .sw 0 0).get .sw F.CFG_BOOT_STATUS_STAGE = 7 ∧ (pot .sw 0 0).get .sw F.CFG_POT_STATUS_STATE = 0) ∧
    (Up (pot .sw 3 1) .sw ∧ ¬ Deciding (pot .sw 3 1) .sw ∧ (pot .sw 3 1).get .sw F.CFG_POT_STATUS_HOLDER < 0x40 ∧
      HostHolds (pot .sw 3 1) .sw ∧ ((pot .sw 3 1).dev .sw).potPassed = false) ∧
    (HostHolds ((pot .sw 3 1).modDev .sw (fun v => { v with potPassed := true })) .sw ∧
      (((pot .sw 3 1).modDev .sw (fun v => { v with potPassed := true })).dev .sw).potPassed = true) ∧
    Deciding (pot .sw 2 1) .sw ∧ Deciding (pot .ep 4 1) .ep ∧
    ((pot .sw 1 0x7F).get .sw F.CFG_POT_STATUS_HOLDER ≠ 1 ∧ (pot .sw 1 0x7F).get .sw F.CFG_POT_STATUS_STATE ≠ 0 ∧
      okStaged .sw (A.LNK_CTRL 31 + 2 ^ 23) 4 = true) := by
  simp only [Up, HostHolds, Deciding]; decide +kernel

theorem wit_PotStagedWrite : ∃ r,
    Up (pot .sw 3 1) .sw ∧ HostHolds (pot .sw 3 1) .sw ∧ okStaged .sw (A.LNK_CTRL 31 + 2 ^ 23) r.bytes = true ∧
      potReg .sw (A.LNK_CTRL 31) r.bytes = some (r, A.LNK_CTRL 31) ∧ A.LNK_CTRL 31 ≠ A.CFG_POT_STATUS := by
  refine ⟨((potReg .sw (A.LNK_CTRL 31) 4).get (by decide +kernel)).1, ?_⟩
  simp only [Up, HostHolds]; decide +kernel

/-- An end-point whose staged RESV of port 0, class 0 is below its minimum. -/
def short : State := (pot .ep 2 1).modDev .ep (fun v => { v with staged := [(A.SWC_CLASS_A 0 0, 0x4000000000000001)] })

theorem wit_PotDecisions :
    (HostAlone (pot .ep 2 1) .ep ∧ (pot .ep 2 1).violations .ep = []) ∧ (HostAlone short .ep ∧ short.violations .ep ≠ []) ∧
    (HostAlone (pot .ep 4 1) .ep ∧ ((pot .ep 4 1).dev .ep).staged = [] ∧ ((pot .ep 4 1).tick 5).drainPending .ep = []) := by
  refine ⟨⟨⟨by decide +kernel, by decide +kernel, fun n sd => ⟨?_, ?_⟩⟩, by decide +kernel⟩, ⟨⟨by decide +kernel, by decide +kernel, fun n sd => ⟨?_, ?_⟩⟩, by decide +kernel⟩,
    ⟨by decide +kernel, by decide +kernel, fun n sd => ⟨?_, ?_⟩⟩, by decide +kernel, by decide +kernel⟩ <;> intro h
  · exact nomatch (show Wait.none = Wait.check sd from h)
  · exact nomatch (show Wait.none = Wait.pour sd from h)
  · exact nomatch (show Wait.none = Wait.check sd from h)
  · exact nomatch (show Wait.none = Wait.pour sd from h)
  · exact nomatch (show Wait.none = Wait.check sd from h)
  · exact nomatch (show Wait.none = Wait.pour sd from h)

/-- A Pour of the switch whose staged set changes the MODE of a queue that holds a packet. -/
def held31 : State :=
  (queued (on (pot .sw 4 1) [(.sw, F.SWC_CLASS_A_MODE 31 7, 1)]) 7).modDev .sw (fun v => { v with staged := [(A.SWC_CLASS_A 31 7, 2 ^ 63)] })

theorem wit_PotDecisions_2 :
    ((pot .sw 2 0x7F).get .sw F.CFG_POT_STATUS_STATE = 2 ∧ ((pot .sw 2 0x7F).tick 0).checkWaits = false) ∧
    (held31.get .sw F.CFG_POT_STATUS_STATE = 4 ∧ (held31.tick 0).drainPending .sw ≠ []) ∧
    (pot .sw 1 1).get .sw F.CFG_POT_STATUS_STATE ≠ 2 ∧ (pot .sw 1 1).get .sw F.CFG_POT_STATUS_STATE ≠ 4 ∧
    ((on (pot .sw 2 1) [(.sw, F.LNK_CTRL_ENABLE 31, 1), (.sw, F.PWR_DOMAIN_STATUS_STATE 15, 1)]).tick 0).checkWaits = true := by
  decide +kernel

theorem wit_PotDecisions_3 :
    (let s := pot .ep 4 1
     (s.tick 0).drainPending .ep = [] ∧ (s.dev .ep).potUnchanged = true) ∧
    (let s := (pot .ep 4 1).modDev .ep (fun v => { v with staged := [(A.PKT_ROUTE 4095, 8)] })
     (s.tick 0).drainPending .ep = [] ∧ (s.dev .ep).potUnchanged = false) := by
  decide +kernel

/-! ### Registers -/

theorem wit_PotCopies : ∃ r, Reached ready .sw r (A.LNK_CTRL 31) ∧ r.staged = true ∧
    potReg .sw (A.LNK_CTRL 31) r.bytes = some (r, A.LNK_CTRL 31) ∧ A.LNK_CTRL 31 + 2 ^ 23 < 2 ^ 28 ∧
    bitOf (A.LNK_CTRL 31) 23 = false ∧ hitReg .sw (A.LNK_CTRL 31 + 2 ^ 23) r.bytes = none ∧ Stored .sw (A.LNK_CTRL 31) ∧
    A.LNK_CTRL 31 ≠ A.CFG_POT_STATUS ∧ HostHolds (on ready [(.sw, F.CFG_POT_STATUS_STATE, 1), (.sw, F.CFG_POT_STATUS_HOLDER, 1)]) .sw ∧
    ¬ HostHolds ready .sw := by
  refine ⟨((potReg .sw (A.LNK_CTRL 31) 4).get (by decide +kernel)).1, ?_, ?_, ?_, ?_, ?_, ?_, ⟨fun s => rfl, fun _ => rfl⟩, ?_, ?_, ?_⟩
    <;> (try simp only [Reached, Up, HostHolds]) <;> decide +kernel

theorem wit_PlainRegisters :
    (∃ r, Reached ready .sw r (A.SEQ_WDOG 3) ∧ r.staged = false) ∧ Plain .sw (A.SEQ_WDOG 3) ∧ Stored .sw (A.SEQ_WDOG 3) ∧
    (∃ r, Reached ready .sw r A.CFG_DEVICE_ID ∧ r.bytes = 4) ∧ Stored .sw A.CFG_DEVICE_ID ∧ A.CFG_DEVICE_ID % 8 = 0 ∧
    NoHit .sw A.CFG_DEVICE_ID 8 ∧ NoHit .sw (A.CFG_DEVICE_ID + 4) 4 ∧
    (∀ d, Up ready d ∧ ready.get d F.CFG_BOOT_STATUS_STAGE ≠ 0xF ∧ Outside d 0x0D000004 4) ∧ okSize 4 = true ∧ ready.pcieStopped = false ∧
    (∀ p, p < linkPorts .ep → ready.get .ep (F.LNK_CTRL_ENABLE p) = 0) ∧
    (on ready [(.sw, F.LNK_CTRL_ENABLE 31, 1)]).get .sw (F.LNK_CTRL_ENABLE 31) = 1 ∧ NoneParked ready .sw 63 ∧
    ready.get .sw F.SEC_MODE_CONF = 0 ∧
    (∀ x ∈ [2, 5, 6], (on ready [(.sw, F.SEQ_CORE_STATUS_STATE 63, x)]).get .sw (F.SEQ_CORE_STATUS_STATE 63) = x) := by
  refine ⟨⟨((hitReg .sw (A.SEQ_WDOG 3) 4).get (by decide +kernel)).1, ?_, by decide +kernel⟩, fun _ _ _ _ => rfl,
    ⟨fun s => rfl, fun _ => rfl⟩, ⟨((hitReg .sw A.CFG_DEVICE_ID 4).get (by decide +kernel)).1, ?_, by decide +kernel⟩,
    ⟨fun s => rfl, fun _ => rfl⟩, by decide +kernel, ⟨by decide +kernel, by decide +kernel⟩,
    ⟨by decide +kernel, by decide +kernel⟩, fun d => ?_, by decide +kernel,
    by decide +kernel, by decide +kernel, by decide +kernel, fun x hx => ?_, by decide +kernel, by decide +kernel⟩
  · simp only [Reached, Up]; decide +kernel
  · simp only [Reached, Up]; decide +kernel
  · simp only [Up, Outside, NoHit]; cases d <;> decide +kernel
  · exact absurd (show x ∈ [] from hx) List.not_mem_nil

/-! ### Links -/

/-- A DATA frame that carries it, and an IDLE frame. -/
def data1 (seq : BitVec 16) : Frame :=
  ⟨{ Port.initial.hdr 1 0 3 with seq := seq, pktCount := 1, ackValid := 0, crdValid := 0 }, packetBytes (pkt1 3)⟩
def idle1 : Frame := ⟨Port.initial.hdr 3 0 0, []⟩

theorem wit_LineCarriesFrames : WellMade (data1 0) [pkt1 3] ∧ WellMade idle1 [] := by
  simp only [WellMade]; decide +kernel

theorem wit_FramesSent :
    (let s := queued (on (linked 2) [(.sw, F.SWC_CLASS_A_MODE 31 7, 2), (.sw, F.LNK_STATUS_VER_RUN 31, 0x20)]) 7
     s.lnk .sw 31 = 2 ∧ s.held .sw 31 = false ∧ (State.pack .sw 31 ((s.tick 9).maxPack .sw 31 1) (s.tick 9) [] 0).2.length = 1) ∧
    ((linked 0).modPort .ep 3 (fun q => { q with phase := some .credit })).lineUp .ep 3 = true ∧
    ((linked 0).lnk .ep 3 ≠ 2) ∧
    Clear (at31 (linked 2) (fun q => { q with ackDue := some 7, nackAt := some 9 })) .sw 31 ∧
    (let s := at31 (queued (on (linked 2) [(.sw, F.SWC_CLASS_A_MODE 31 7, 2)]) 7) (fun q => { q with dataRun := 126 })
     s.dataWaits .sw 31 = true ∧ (s.port .sw 31).dataRun < 127) ∧
    ((at31 (linked 2) (fun q => { q with ackDue := some 7, nackAt := some 9 })).port .sw 31).ackDue = some 7 ∧
    ((at31 (linked 2) (fun q => { q with ackDue := some 7, nackAt := some 9 })).port .sw 31).nackAt = some 9 ∧
    ((linked 2).port .sw 31).creditAt + 2000 ≤ 2000 ∧ ((on (linked 2) [(.sw, F.SWC_CLASS_A_MODE 31 7, 1)]).dev .sw).mode 31 7 = 1 ∧
    ((at31 (linked 2) (fun q => { q with creditOwed := List.replicate 8 (some 0), pourOwed := [(7, 0)] })).port .sw 31).creditOwed[7]?
      = some (some 0) := by
  simp only [Clear]; decide +kernel

theorem wit_FramesReceived :
    Arrives (linked 2) .sw 31 idle1 (sendLanes [] [] (frameBytes idle1)).1 ∧
    Arrives (linked 2) .sw 31 (data1 0) (sendLanes [] [] (frameBytes (data1 0))).1 ∧
    Arrives (linked 2) .sw 31 (data1 1) (sendLanes [] [] (frameBytes (data1 1))).1 ∧
    Arrives (linked 2) .sw 31 (data1 0x8000) (sendLanes [] [] (frameBytes (data1 0x8000))).1 ∧
    (linked 2).lnk .sw 31 = 2 ∧ ((linked 2).port .sw 31).nackAt = none ∧ ((linked 2).port .sw 31).phase = none ∧
    (data1 0).hdr.seq = ((linked 2).port .sw 31).rxSeq ∧ ((data1 0x7FFF).hdr.seq - ((linked 2).port .sw 31).rxSeq).toNat < 32768 ∧
    32768 ≤ ((data1 0x8000).hdr.seq - ((linked 2).port .sw 31).rxSeq).toNat ∧
    (([⟨data1 4, 7⟩] : List HeldFrame).filter (fun f => ! coversSeq 3 f.frame.hdr.seq) = [⟨data1 4, 7⟩] ∧ 0 + 4000 ≤ 4000) ∧
    (linked 2).recovering .sw 31 = false ∧ Clear (linked 2) .sw 31 ∧ (linked 2).held .sw 31 = false ∧
    (on (linked 2) [(.sw, F.LNK_STATUS_HELD 31, 1)]).held .sw 31 = true := by
  simp only [Arrives, Clear]; decide +kernel

/-- Port 31 in a phase of a cold training. -/
def phased (ph : Phase) (k : TrainKind) : State := at31 (linked 1) (fun q => { q with phase := some ph, kind := k })

/-- A training set of round `r` that echoes tag 0. -/
def ts (r : BitVec 2) : TsBody :=
  { epoch := 1, step := 2, part := 0x9032, stepping := 0xB1, verMax := 0x20, verSel := 0x20, node := 9, port := 3, role := 0,
    failedLane := 31, round := r, tag := 77, echo := 0 }

theorem wit_TrainingRuns :
    (∀ e ∈ ([(.detect, .clockLock), (.deskew, .laneTest), (.laneTest, .negotiate)] : List (Phase × Phase)),
      nextPhase ((phased e.1 .cold).port .sw 31).kind e.1 = some e.2) ∧
    ((phased .laneTest .cold).port .sw 31).phase = some .laneTest ∧ ((phased .laneTest .cold).port .sw 31).kind = .cold ∧
    ((phased .laneTest .cold).port .sw 31).earlyTs = none ∧
    ((phased .detect .cold).port .sw 31).phaseAt + phaseMax .cold .detect ≤ 10000000 ∧
    (let s := on (linked 7) [(.sw, F.LNK_CTRL_ENABLE 31, 1), (.sw, F.PWR_DOMAIN_STATUS_STATE 15, 2)]
     s.lnk .sw 31 = 7 ∧ s.get .sw (F.LNK_CTRL_ENABLE 31) = 1 ∧ (s.port .sw 31).attemptAt + 10000000 ≤ 10000000 ∧
       s.portOn .sw 31 = true) ∧
    (let s := at31 (phased .negotiate .cold) (fun q => { q with tsTwo := some (5, 3), verSel := 0x20 })
     (s.port .sw 31).phase = some .negotiate ∧ (0x10 ≤ (ts 1).verMax.toNat) ∧ (ts 1).round = 1 ∧ (ts 2).round = 2 ∧
      (s.port .sw 31).tsTwo.isSome = true ∧ (s.port .sw 31).kind = .cold ∧
      (ts 2).verSel.toNat = (s.port .sw 31).verSel ∧ { ts 2 with verSel := 0x11 }.verSel.toNat ≠ (s.port .sw 31).verSel ∧
      (s.port .sw 31).tsSentAt (ts 2).echo = some 0 ∧ (s.port .sw 31).tsSentAt 5 = some 3 ∧
      (s.port .sw 31).tsDone = false ∧ max s.now 1500 - 0 ≤ 1500 ∧ 1500 < max s.now 1501 - 0 ∧
      (s.port .sw 31).earlyCredit = none) := by
  decide +kernel

theorem wit_LowPowerAndRecovery :
    (let s := on (linked 2) [(.sw, F.LNK_CTRL_TARGET 31, 1), (.sw, F.LNK_STATUS_VER_RUN 31, 0x20)]
     s.barOn .sw = true ∧ s.lnk .sw 31 = 2 ∧ s.mayDeep .sw 31 = true ∧ (s.port .sw 31).napAt = none ∧
       (s.port .sw 31).wakeHeld = false ∧ (s.port .sw 31).replay = [] ∧ (s.dev .sw).egressEmpty 31 = true) ∧
    (linked 2).mayDeep .ep 3 = false ∧ (linked 4).lnk .sw 31 = 4 ∧ (linked 3).lnk .ep 3 = 3 ∧
    ((at31 (linked 2) (fun q => { q with napAt := some 5 })).port .sw 31).napAt = some 5 ∧
    5 + 1000 + (linked 2).rtt .sw 31 ≤ 1005 ∧
    (let s := on (linked 6) [(.sw, F.LNK_STATUS_RECOVERING 31, 1)]
     s.recovering .sw 31 = true ∧ s.held .sw 31 = false ∧ (s.port .sw 31).tsDone = false ∧
       (let u := at31 s (fun q => { q with phase := some .negotiate, tsDone := true })
        u.recovering .sw 31 = true ∧ (u.port .sw 31).phase = some .negotiate ∧ (u.port .sw 31).tsDone = true)) ∧
    (linked 3).get .sw (F.LNK_CTRL_TARGET 31) = 0 ∧ ((linked 3).dev .sw).egressEmpty 31 = true ∧
    ((queued (linked 3) 7).dev .sw).egressEmpty 31 = false ∧ (linked 2).membState .sw = Mb.OFF := by
  decide +kernel

theorem wit_LowPowerAndRecovery_cores (n q : Nat) (sd : Nat) : ((linked 3).core n).wait ≠ .nap q sd :=
  fun h => nomatch (show Wait.none = Wait.nap q sd from h)

/-- R43, R45: the jump over `n` bits of a zero stream is `n` steps of the scrambler, and a checker that has shifted in the
symbols of 4 bytes of it stands where the sender stands. -/
theorem test_prbs_jump : jumpScr 40 scramMap 32 (laneSeed 3) = (scramBytes (laneSeed 3) [0, 0, 0, 0]).2 := by decide +kernel

theorem test_prbs_lock :
    lockScr 0 ((scramBytes (laneSeed 3) [0, 0, 0, 0]).1.flatMap symsOfByte) = (scramBytes (laneSeed 3) [0, 0, 0, 0]).2 := by
  decide +kernel

theorem wit_FramesSent_2 :
    (let s := linked 2
     s.lineUp .sw 31 = true ∧ (State.pack .sw 31 1 (s.tick 9) [] 0).2 = []) ∧
    (let s := queued (on (linked 2) [(.sw, F.SWC_CLASS_A_MODE 31 7, 2)]) 7
     s.lnk .sw 31 = 2 ∧ s.held .sw 31 = false ∧ (State.pack .sw 31 1 (s.tick 9) [] 0).2 ≠ []) ∧
    ready.lineUp .sw 31 = false ∧ (on (linked 2) [(.sw, F.LNK_STATUS_HELD 31, 1)]).held .sw 31 = true := by
  decide +kernel

theorem wit_FramesReceived_2 :
    let r := runOf ((linked 2).port .sw 31).rxRun 15
    let lanes : List (List Sym) := List.replicate 15 [] ++ [markerSyms r]
    okLanes lanes = true ∧ isMarker r (lanes.getD 15 []) = true ∧ isMarker r (lanes.getD 0 []) = false := by
  decide +kernel

theorem wit_LowPowerAndRecovery_2 :
    (∀ x ∈ [Mb.JOINING, Mb.STALE, Mb.FENCED],
      let s := at31 (on (linked 6) [(.sw, F.LNK_STATUS_RECOVERING 31, 1), (.sw, F.TEL_MEMB_STATE_STATE, x)])
        (fun q => { q with phase := some .negotiate, tsDone := true })
      s.recovering .sw 31 = true ∧ (s.outside .sw = true ∨ s.membState .sw = Mb.FENCED)) ∧
    (linked 6).outside .sw = false ∧ (linked 6).membState .sw ≠ Mb.FENCED := by
  decide +kernel

/-! ### Packets and the switch core -/

/-- A packet has arrived at a port whose Strainer knows its key. -/
def arrived (d : Part) (p : Nat) (k : Packet) (node : Nat) : State :=
  (on ready [(d, F.PKT_STRAINER_STATE p 0, 1), (d, F.PKT_STRAINER_KEY p 0, 77), (d, F.PKT_STRAINER_CLASS_MASK p 0, 0xFF),
    (d, F.PKT_STRAINER_TENANT p 0, 63), (d, F.PKT_PORT_CFG_SRC_CHECK p, 0), (d, F.PKT_NODE_ID_NODE_ID, node)]).modPort d p
      (fun q => { q with arrived := [⟨k, 0, 1, 0, 0⟩] })

theorem wit_PacketsConsumed :
    (Oldest (arrived .sw 31 (pkt1 3) 9) .sw 31 ⟨pkt1 3, 0, 1, 0, 0⟩ [] ∧ Passes (arrived .sw 31 (pkt1 3) 9) .sw 31 ⟨pkt1 3, 0, 1, 0, 0⟩ 63 ∧
      (pkt1 3).hdr.dst.toNat = ((arrived .sw 31 (pkt1 3) 9).dev .sw).node) ∧
    (Oldest (arrived .ep 3 (pkt1 3) 8) .ep 3 ⟨pkt1 3, 0, 1, 0, 0⟩ [] ∧ Passes (arrived .ep 3 (pkt1 3) 8) .ep 3 ⟨pkt1 3, 0, 1, 0, 0⟩ 63 ∧
      (pkt1 3).hdr.dst.toNat ≠ ((arrived .ep 3 (pkt1 3) 8).dev .ep).node) ∧
    (Oldest (arrived .sw 32 (pkt1 3) 9) .sw 32 ⟨pkt1 3, 0, 1, 0, 0⟩ [] ∧ Passes (arrived .sw 32 (pkt1 3) 9) .sw 32 ⟨pkt1 3, 0, 1, 0, 0⟩ 0) := by
  simp only [Oldest, Passes]; decide +kernel

theorem wit_PacketsForwarded :
    Oldest (arrived .sw 31 (pkt1 3) 8) .sw 31 ⟨pkt1 3, 0, 1, 0, 0⟩ [] ∧
    ((arrived .sw 31 (pkt1 3) 8).dev .sw).strain 31 ⟨{ (pkt1 3).hdr with pkey := 0 }, (pkt1 3).pay⟩ = .drop 2 ∧
    3 ≤ ({ (pkt1 3).hdr with hops := 3 } : PktHdr).hops.toNat ∧ (pkt1 3).hdr.hops.toNat < 3 ∧
    (((arrived .sw 31 (pkt1 3) 8).modDev .sw (fun v => v.setReg (A.PKT_DRAIN 0) (2 ^ 9))).dev .sw).draining 9 = true ∧
    (let s := on (arrived .sw 31 (pkt1 3) 8)
      [(.sw, F.PKT_ROUTE_LINKS 9, 1), (.sw, F.LNK_STATUS_STATE 0, 2), (.sw, F.SWC_CLASS_A_MODE 0 7, 1)]
     (s.dev .sw).draining 9 = false ∧ (s.dev .sw).mode 0 7 = 1 ∧ (s.path .sw (pkt1 3).hdr).1 = .pin 0 false) ∧
    (let v := { (on ready [(.sw, F.SWC_METER_CIR 0 7, 1), (.sw, F.SWC_METER_CBS 0 7, 1), (.sw, F.SWC_METER_EBS 0 7, 1)]).dev .sw
       with meters := [(7, some ⟨1024000, 0, 0⟩)] }
     SMap.at none v.meters (8 * 0 + (pkt1 3).hdr.cls) = some ⟨1024000, 0, 0⟩ ∧ 1000 * lineCost (pkt1 3).hdr ≤ 1024000 ∧
       v.get (F.SWC_METER_CIR 0 7) ≠ 0x7FFFF ∧ 1024000 ≤ v.get (F.SWC_METER_CBS 0 7) * 1024000 ∧
       0 < 1000 * lineCost (pkt1 3).hdr) := by
  simp only [Oldest]; decide +kernel

theorem wit_SprayIsFair : ([0, 31] : List Nat).Pairwise (· < ·) ∧ ([0, 31] : List Nat) ≠ [] := by decide

theorem wit_EgressOrder :
    (let v := ((at31 (queued (on (linked 2) [(.sw, F.SWC_CLASS_A_MODE 31 7, 1), (.sw, F.SWC_CLASS_B_RATE 31 7, 4000),
        (.sw, F.LNK_PARTNER_RTT_NS 31, 100)]) 7) (fun q => { q with resvDown := List.replicate 8 (some 200) })).dev .sw)
     (v.sendable 31 7).isSome = true ∧ v.queueMode 31 7 = 1 ∧ 0 < v.queueRate 31 7 ∧ v.startTime 31 7 ≤ 0) ∧
    ((ready.dev .sw).sprayAt + 8000 ≤ max ready.now 8000 ∧ max ready.now 7999 < (ready.dev .sw).sprayAt + 8000 ∧
      (ready.dev .sw).avgAt + 256 ≤ max ready.now 256 ∧ max ready.now 255 < (ready.dev .sw).avgAt + 256) ∧
    (let v := ((queued (on (linked 2) [(.sw, F.SWC_CLASS_A_MODE 31 7, 1)]) 7).dev .sw)
     (v.sendable 31 7).isSome = true ∧ v.queueMode 31 7 = 1 ∧ v.pickDue 0 31 = none ∧
       ∀ e, e < 8 → v.queueMode 31 e = 2 → v.sendable 31 e = none) := by
  decide +kernel

/-- A packet for node 9 at ingress port 31, whose class 7 is best effort there and at port 0, which leads to node 9. The
queue of port 0 may hold `cap` cells; its average is `avg`, in 256ths of a cell, and a green packet's thresholds are 10
and 100 cells. -/
def dropping (cap maxp avg : Nat) : State :=
  (on (arrived .sw 31 (pkt1 3) 8) [(.sw, F.PKT_ROUTE_LINKS 9, 1), (.sw, F.LNK_STATUS_STATE 0, 2), (.sw, F.SWC_CLASS_A_MODE 31 7, 2),
    (.sw, F.SWC_CLASS_A_MODE 0 7, 2), (.sw, F.SWC_CLASS_A_SHARE_CAP 0 7, cap), (.sw, F.SWC_EDROP_PROFILE_K_MIN_TH 0 0, 10),
    (.sw, F.SWC_EDROP_PROFILE_K_MAX_TH 0 0, 100), (.sw, F.SWC_EDROP_PROFILE_K_MAXP 0 0, maxp), (.sw, F.SWC_METER_CIR 0 7, 0x7FFFF)]).modDev
      .sw (fun v => { v with avgQ := [(pairKey 0 7, avg)] })

theorem wit_PacketsForwarded_2 :
    (∀ x ∈ [(0, 0, 0), (100, 65535, 2559), (100, 65535, 2560), (100, 65535, 25599), (100, 65535, 25600)],
      let s := dropping x.1 x.2.1 x.2.2
      Oldest s .sw 31 ⟨pkt1 3, 0, 1, 0, 0⟩ [] ∧ Passes s .sw 31 ⟨pkt1 3, 0, 1, 0, 0⟩ 63 ∧ (s.dev .sw).draining 9 = false ∧
        (pkt1 3).hdr.dst.toNat ≠ (s.dev .sw).node ∧
        (s.dev .sw).mode 31 (pkt1 3).hdr.cls = 2 ∧ (s.dev .sw).mode 0 (pkt1 3).hdr.cls = 2 ∧
        (s.path .sw (pkt1 3).hdr).1 = .pin 0 false ∧ ((s.dev .sw).colour 0 63 (pkt1 3).hdr).1 = 0 ∧
        SMap.at 0 (s.dev .sw).avgQ (pairKey 0 7) = x.2.2) ∧
    (let fits (v : Dev) : Prop := queueCells (v.queue 0 7) + cellsOf (pkt1 3).hdr ≤ v.resv 0 7 + v.get (F.SWC_CLASS_A_SHARE_CAP 0 7)
     ¬ fits ((dropping 0 0 0).dev .sw) ∧ fits ((dropping 100 0 0).dev .sw)) ∧
    (let draw (avg : Nat) (v : Dev) : Prop := edropNext (v.lfsrOf 0) % 65536 < 65535 * (avg - 256 * 10) / (100 - 10)
     draw 25599 ((dropping 100 65535 25599).dev .sw) ∧ ¬ draw 2560 ((dropping 100 65535 2560).dev .sw)) := by
  simp only [Oldest, Passes]; decide +kernel

/-! ### Remote operations -/

/-- The switch's injection point takes class 7. -/
def own7 : State := on ready [(.sw, F.SWC_CLASS_A_MODE 32 7, 1), (.sw, F.SWC_CLASS_A_RESV 32 7, 100)]

theorem wit_RequestsIssued :
    (let s := own7.modDev .sw (fun v => { v with pends := [pend1] })
     (s.dev .sw).firstReady 0 false = some pend1 ∧ (s.dev .sw).ownOff pend1.pkt.hdr = false) ∧
    (let p := { pend1 with src := some 16, pkt := ⟨{ pend1.pkt.hdr with payUnits := 1 }, []⟩ }
     let s := own7.modDev .sw (fun v => { v with pends := [p], xcache := [⟨0, 0, 0, 0x1001⟩, ⟨0, 1, 0, 0x1E⟩] })
     (s.dev .sw).firstReady 0 false = some p ∧ pend1.src = none ∧ (s.dev .sw).ownOff p.pkt.hdr = false ∧
       ((s.tick 0).readOwn p.tenant p.step (packetsOf 16 (16 * p.pkt.hdr.payUnits.toNat)) []).2.isSome = true) ∧
    (let p := { pend1 with promised := true, rate := 1000, burst := 200 }
     let s := own7.modDev .sw (fun v => { v with pends := [p], buckets := [⟨0, 0, 100000000, 0, false⟩] })
     (s.dev .sw).firstReady 0 true = some p ∧ (s.dev .sw).ownOff p.pkt.hdr = false) ∧
    (let s := own7.modDev .sw (fun v => { v with
        releases := [⟨pend1, 8⟩], fences := [{ id := 8, owner := .none, agent := .core 0, waits := [], code := 0 }] })
     (s.dev .sw).canIssue 0 pend1 = true) := by
  refine ⟨?_, ?_, ?_, ?_⟩ <;> decide +kernel

theorem wit_TimersOfTransactions :
    (let s := withDev .ep (fun v => { v with txns := [txn1 3] })
     (s.dev .ep).txns.find? (fun y => y.id == 5) = some (txn1 3) ∧ (txn1 3).parked = false ∧ (txn1 3).late = false ∧
       (s.dev .ep).draining (txn1 3).pkt.hdr.dst.toNat = false ∧ (s.dev .ep).ownOff (txn1 3).pkt.hdr = false ∧
       (txn1 3).issueAt + (txn1 3).timeout ≤ max s.now 100 ∧ (s.dev .ep).outbox = [] ∧ (txn1 3).pkt.hdr.txn = (txn1 3).id ∧
       (txn1 3).acceptAt + s.get .ep F.MEM_SEM_CTRL_DEAD_US * 1000 ≤ max s.now 10000000 ∧
       (txn1 3).promised = true ∧ (txn1 3).acceptAt + (txn1 3).rbound ≤ max s.now 0) ∧
    (let s := withDev .sw (fun v => { v with txns := [txn1 3] }.setReg (A.PKT_DRAIN 0) (2 ^ 9))
     (s.dev .sw).draining (txn1 3).pkt.hdr.dst.toNat = true ∧ ¬ (txn1 3).issueAt + (txn1 3).timeout ≤ max s.now 99) ∧
    ((withDev .sw (fun v => { v with slots := [(4095 * 65536 + 65535, some ⟨65535, .done, none, 7, 0⟩)] })).dev .sw).slot
      (4095 * 65536 + 65535) = some ⟨65535, .done, none, 7, 0⟩ := by
  decide +kernel

theorem wit_ResponsesRetire :
    (∀ op ∈ [Op.READ_DATA, Op.ACK, Op.AMO_RESULT, Op.ERROR],
      let s := withDev .sw (fun v => { v with inbox := [inbox1 op], txns := [txn1 1] })
      (s.dev .sw).txnOf (inbox1 op).pkt.hdr = some (txn1 1) ∧ Response s .sw op (inbox1 op) ∧
        ((withDev .sw (fun v => { v with inbox := [inbox1 op] })).dev .sw).txnOf (inbox1 op).pkt.hdr = none) ∧
    (txn1 1).pkt.hdr.op = Op.READ ∧ (inbox1 Op.READ_DATA).pkt.hdr.payUnits = (txn1 1).pkt.hdr.reqUnits ∧
    (txn1 3).pkt.hdr.op ≠ Op.READ := by
  simp only [Response]; decide +kernel

theorem wit_RetirementDelivers : (txn1 1).fill = false ∧ (txn1 1).land = .drop := by decide +kernel

/-- A slot's request. -/
def slotted (x : Option Slot) : State := withDev .sw (fun v => { v with slots := SMap.put none [] (slotKey (inbox1 3).pkt.hdr) x })

theorem wit_DeduplicationDecides :
    covered (inbox1 3).pkt.hdr.op = true ∧ ((slotted none).dev .sw).unsupported (inbox1 3).pkt.hdr = false ∧
    ((slotted none).dev .sw).slot (slotKey (inbox1 3).pkt.hdr) = none ∧ (inbox1 3).pkt.hdr.retry = 0 := by
  decide +kernel

theorem wit_DeduplicationDecides_2 : ∀ st ∈ [SlotState.pending, .done, .expired],
    (((slotted (some ⟨5, st, some (pkt1 3), 0, 0⟩)).dev .sw).slot (slotKey (inbox1 3).pkt.hdr)).isSome = true := by
  decide +kernel

theorem wit_DeduplicationDecides_3 :
    ((inbox1 3).pkt.hdr.txn - 4#32).toNat = 1 ∧ (6#32 - (inbox1 3).pkt.hdr.txn).toNat = 1 := by
  decide

/-- A reissue whose slot is EMPTY. -/
def reissued1 : Inbox := { inbox1 3 with pkt := ⟨{ (inbox1 3).pkt.hdr with retry := 1 }, (inbox1 3).pkt.pay⟩ }

theorem wit_DeduplicationDecides_4 :
    (let s := withDev .sw (fun v => { v with inbox := [reissued1] })
     (s.dev .sw).firstOf Op.WRITE = some reissued1 ∧ s.get .sw (F.SEC_TENANT_REMOVING 0) = 0 ∧
       (((s.tick 1).modDev .sw (fun v => v.takeInbox reissued1)).dev .sw).dedup reissued1.pkt.hdr = .unknown ∧
       (((s.tick 1).modDev .sw (fun v => v.takeInbox reissued1)).dev .sw).unsupported reissued1.pkt.hdr = false) ∧
    (let s := on (withDev .ep (fun v => { v with inbox := [reissued1] })) [(.ep, F.EP_INBOUND_B_ENABLE 15, 1),
       (.ep, F.EP_INBOUND_B_SIZE 15, 1), (.ep, F.EP_INBOUND_B_WRITE 15, 1)]
     (s.dev .ep).inbound 0 0 16 = some (15, 0) ∧ (s.dev .ep).firstOf Op.WRITE = some reissued1) := by
  decide +kernel

/-- Such a request is not applied (Table 6.4). -/
theorem wit_DeduplicationDecides_5 :
    let s := ((withDev .sw (fun v => { v with inbox := [reissued1] })).tick 1).modDev .sw (fun v => v.takeInbox reissued1)
    s.admitReq .sw reissued1 .clean = .unsure s := by rfl

theorem wit_TargetsServe_1 :
    ∀ op ∈ [Op.READ, Op.WRITE, Op.AMO, Op.REDUCE, Op.MSG],
      let i : Inbox := { inbox1 op with pkt := ⟨{ (inbox1 op).pkt.hdr with opArg := 0 }, (inbox1 op).pkt.pay⟩ }
      Taken (withDev .sw (fun v => { v with inbox := [i] })) .sw op i ∧ i.pkt.hdr.offset.toNat / 2 ^ 48 < 0xE := by
  simp only [Taken]; decide +kernel

theorem wit_TargetsServe_2 :
    (let s := on (withDev .ep (fun v => { v with inbox := [inbox1 3] })) [(.ep, F.EP_INBOUND_B_ENABLE 15, 1),
       (.ep, F.EP_INBOUND_B_SIZE 15, 1), (.ep, F.EP_INBOUND_B_WRITE 15, 1)]
     Taken s .ep 3 (inbox1 3) ∧ (s.dev .ep).inbound 0 0 16 = some (15, 0) ∧
       Nat.land ((s.dev .ep).windowPerms 15) (accessOf (inbox1 3).pkt).needs = (accessOf (inbox1 3).pkt).needs) ∧
    Taken (withDev .ep (fun v => { v with inbox := [inbox1 3] })) .ep 3 (inbox1 3) ∧
    ((withDev .ep (fun v => { v with inbox := [inbox1 3] })).dev .ep).inbound 0 0 16 = none := by
  simp only [Taken]; decide +kernel

theorem wit_TargetsServe_3 :
    (let i : Inbox := { inbox1 3 with pkt := ⟨{ (inbox1 3).pkt.hdr with opArg := 1 }, (inbox1 3).pkt.pay⟩ }
     ((withDev .sw (fun v => { v with inbox := [i] })).dev .sw).firstOf 3 = some i ∧
       (((withDev .sw (fun v => { v with inbox := [i] })).dev .sw).takeInbox i).unsupported i.pkt.hdr = true) := by
  decide +kernel

theorem wit_TargetsServe_4 :
    ((on ready [(.sw, F.SEQ_QUEUE_B_ENABLE 0, 1), (.sw, F.SEQ_QUEUE_B_DEPTH_M1 0, 65535)]).enqueue 0 0 (List.replicate 16 0)).isSome
      = true ∧ (ready.enqueue 0 0 (List.replicate 16 0)).isNone = true := by
  decide +kernel

theorem wit_RequestsIssued_2 :
    (let s := on (own7.modDev .sw (fun v => { v with pends := [pend1] })) [(.sw, F.TEL_MEMB_STATE_STATE, Mb.FENCED)]
     (s.dev .sw).fenced = true ∧ pend1.src = none ∧ pend1.land = .drop ∧ (s.dev .sw).firstReady 0 false = some pend1) ∧
    (let p := { pend1 with promised := true, rate := 1000, burst := 200 }
     let s := on (own7.modDev .sw (fun v => { v with pends := [p], buckets := [⟨0, 0, 100000000, 0, false⟩] }))
       [(.sw, F.TEL_MEMB_STATE_STATE, Mb.FENCED)]
     (s.dev .sw).firstReady 0 true = some p ∧ (s.dev .sw).fenced = true) ∧
    (own7.dev .sw).fenced = false ∧
    (∀ c ∈ [0, Code.XLT_FAULT],
      let f : Fence := { id := 8, owner := .none, agent := .core 0, waits := [], code := c }
      let s := own7.modDev .sw (fun v => { v with releases := [⟨pend1, 8⟩], fences := [f] })
      (s.dev .sw).releases.findSome? (fun r =>
        ((s.dev .sw).fences.find? (fun f => f.id == r.fence && f.waits.isEmpty)).map (fun f => (r, f))) = some (⟨pend1, 8⟩, f)) ∧
    Code.XLT_FAULT ≠ 0 := by
  decide +kernel

theorem wit_TargetsServe_5 : ∀ op ∈ [Op.REDUCE, Op.MSG],
    let s := withDev .ep (fun v => { v with inbox := [inbox1 op] })
    (s.dev .ep).firstOf op = some (inbox1 op) ∧ ((s.dev .ep).takeInbox (inbox1 op)).unsupported (inbox1 op).pkt.hdr = true ∧
      (s.dev .ep).part = .ep := by
  decide +kernel

/-! ### Translation -/

/-- Tenant 63 has a table whose first 1 GiB page maps address 0, and walk 4 of it is under way. -/
def walking (stale : Bool) : State :=
  (on ready [(.sw, F.XLT_ROOT_VALID 63, 1), (.sw, F.XLT_ROOT_ROOT 63, 1), (.sw, F.MEM_DRAM_CFG_RESV_TOP, 1)]).modDev .sw (fun v =>
    { v with mem := [(0x1000, 0x1E), (0x10000, 0x01), (0x10001, 0x10)], walks := [⟨4, 63, 77, 3, false, true, stale⟩] })

/-- Walk 4 of the end-point, for a request of its own. -/
def walkingEp (stale : Bool) : State := ready.modDev .ep (fun v => { v with walks := [⟨4, 255, 77, 3, false, true, stale⟩] })

/-- A request of engine 1023 that waits for its translation. -/
def flight1 : Flight :=
  { idx := 2, engine := 1023, req := 0, raw := 0, bucket := 0, stage := .translate, todo := [], made := [], under := [], job := 0, at_ := 0,
    walk := some 4 }

theorem wit_WalksComplete :
    ((walking false).dev .sw).walk 63 77 3 none = (.page 77 1, [⟨63, 0, 0, 0x1001⟩, ⟨63, 1, 0, 0x1E⟩]) ∧
    (((walking false).dev .sw).root 63).isSome = true ∧ Nat.land 3 1 = 1 ∧ ((walking false).dev .sw).root 62 = none ∧
    (((walking false).dev .sw).walks.find? (fun w => w.num == 4)) = some ⟨4, 63, 77, 3, false, true, false⟩ ∧
    (((walking true).dev .sw).walks.find? (fun w => w.num == 4)) = some ⟨4, 63, 77, 3, false, true, true⟩ ∧
    (((walking false).dev .sw).walk 62 77 3 none).1 = .fault XCause.NO_ROOT 0 ∧
    (((walkingEp true).dev .ep).walks.find? (fun w => w.num == 4)) = some ⟨4, 255, 77, 3, false, true, true⟩ ∧
    (walkingEp true).ep.flights = [] ∧ flight1.walk = some 4 ∧
    ([flight1].filter (fun f => f.walk == some 4)) = [flight1] := by
  decide +kernel

theorem wit_InvalidationHolds :
    Up ready .sw ∧ (ready.dev .sw).xinv = none ∧ bitsOf (0x1FF1#64).toNat 1 0 = 1 ∧ bitsOf (0x0#64).toNat 27 12 = 0 ∧
    bitsOf (0xFFFF000#64).toNat 27 12 ≠ 0 ∧
    (let s := ready.modDev .sw (fun v => { v with xinv := some ⟨2, 0, 0, 0⟩ })
     (s.dev .sw).xinv.isSome = true ∧ (∀ w ∈ (s.dev .sw).walks, w.stale = false) ∧ s.translatedSw ⟨2, 0, 0, 0⟩ = false) ∧
    (walking true).translatedSw ⟨2, 0, 0, 0⟩ = false ∧ (∃ w ∈ ((walking true).dev .sw).walks, w.stale = true) := by
  simp only [Up]; decide +kernel

/-- A fault record of tenant 63. -/
def fault1 : FaultRec :=
  { off := 0, src := 5, tenant := 63, opcode := 1, cause := 1, level := 2, txn := 0, count := 1, us := 0, step := 0, at_ := 0 }

theorem wit_FaultsAreReported :
    (let s := (on ready [(.sw, F.XLT_FLOG_CTRL_ENABLE, 1)]).modDev .sw (fun v => { v with fbatch := [fault1] })
     s.get .sw F.XLT_FLOG_CTRL_ENABLE = 1 ∧ (s.dev .sw).fbatch = [fault1] ∧
       fault1.at_ + s.get .sw F.XLT_FLOG_CTRL_BATCH_US * 1000 ≤ max s.now 3000000 ∧ s.pcieStopped = false) ∧
    (List.replicate 63 fault1).length = 63 ∧ Up ready .ep ∧ ready.l2rec 1048575 = none ∧
    (let s := on { ready with ep := { ready.ep with l2recs := [⟨7, 255, 3, 1, [2], 0⟩] } } [(.ep, F.XLT_CFG_FAULT_LIMIT_MS, 65535)]
     s.l2rec 7 = some ⟨7, 255, 3, 1, [2], 0⟩ ∧ s.get .ep F.XLT_CFG_FAULT_LIMIT_MS ≠ 0 ∧
       0 + s.get .ep F.XLT_CFG_FAULT_LIMIT_MS * 1000000 ≤ max s.now 65535000000) := by
  simp only [Up]; decide +kernel

theorem wit_WalksComplete_2 :
    ((walking false).dev .sw).badEntry 63 77 3 (some 1) = some 0x1000 ∧
    ((walking false).dev .sw).badEntry 63 77 3 none = none ∧
    (((walkingEp false).dev .ep).walks.find? (fun w => w.num == 4)) = some ⟨4, 255, 77, 3, false, true, false⟩ ∧
    (let f : Flight := { flight1 with todo := [⟨77, 16, 0, false⟩, ⟨4096, 16, 256, true⟩] }
     f.todo = ⟨77, 16, 0, false⟩ :: [⟨4096, 16, 256, true⟩]) := by
  decide +kernel

theorem wit_WalksComplete_3 :
    (let s := (on (walkingEp false) [(.ep, F.EP_XLT_CTX_VALID 255, 1), (.ep, F.EP_XLT_CTX_ROOT 255, 1), (.ep, F.EP_L2_REGION_B_SIZE, 2)]).modDev
       .ep (fun v => { v with mem := [(0x1000, 0x1E), (0x10000, 0x01), (0x10001, 0x10)] })
     ((s.dev .ep).walk 255 77 3 none).1 = .page 77 1) ∧
    ((walkingEp false).dev .ep).walk 255 77 3 none = (.fault XCause.NO_ROOT 0, []) := by
  decide +kernel

theorem wit_InvalidationHolds_2 :
    (let s := ready.modDev .ep (fun v => { v with xinv := some ⟨2, 0, 0, 0⟩ })
     let u := { s with ep := { s.ep with flights := [{ flight1 with stage := .formed, under := [(255, 0)] }] } }
     s.translatedEp ⟨2, 0, 0, 0⟩ = false ∧
       (u.modDev .ep (fun v => { v with pends := [pend1] })).translatedEp ⟨2, 0, 0, 0⟩ = true) := by
  decide +kernel

/-! ### Reduction windows -/

/-- Window 255 of two contributions of one piece of two 64-bit integers, in a state. -/
def window (st : Nat) : State :=
  on ready [(.sw, F.RED_WIN_A_SIZE 255, 2), (.sw, F.RED_WIN_A_ENABLE 255, 1), (.sw, F.RED_WIN_B_FORMAT 255, 0xC),
    (.sw, F.RED_WIN_B_OUT_FORMAT 255, 0xC), (.sw, F.RED_WIN_B_CONTRIBS_M1 255, 1), (.sw, F.RED_WIN_B_LAST_ELEMS 255, 2),
    (.sw, F.RED_WIN_STATUS_STATE 255, st), (.sw, F.RED_WIN_STATUS_STEP_TAG 255, 9)]

theorem wit_WindowsArm :
    (HostWindow (window 0) 255 ∧ Armable ((window 0).dev .sw) 255) ∧ ¬ Armable ((window 2).dev .sw) 255 ∧
    (window 1).get .sw (F.RED_WIN_STATUS_STATE 255) = 1 ∧ (window 2).get .sw (F.RED_WIN_STATUS_STATE 255) = 2 ∧
    HostWindow (window 2) 255 := by
  simp only [HostWindow, Armable, Up]; decide +kernel

/-- Its second contribution, at an offset of the reduction aperture. -/
def contribution : Inbox :=
  ⟨⟨{ (pkt1 6).hdr with
      offset := BitVec.ofNat 52 (0xF * 2 ^ 48 + 255 * 2 ^ 40 + 2 ^ 28)
      opArg := BitVec.ofNat 4 (((window 1).dev .sw).redCfg 255).inCode, stepTag := 9, lctr := 65535 }, List.replicate 16 1⟩, 31, 0, 1, 0, 0, .plain⟩

theorem wit_ContributionsBind :
    (window 1).reduceCheck 0 contribution.pkt.hdr = none ∧ (window 1).reduceCheck 1 contribution.pkt.hdr = some 2 ∧
    (window 0).reduceCheck 0 contribution.pkt.hdr = some 1 := by
  decide +kernel

theorem wit_ReductionOrderFree :
    (let c := ((window 1).dev .sw).redCfg 255
     c.op = 0 ∧ c.carryIn = false ∧ c.fmt ≤ 0xC) ∧ [([1], none), ([2], none)].Perm [([2], none), (([1] : List Byte), (none : Option Nat))] ∧
    slotOf 0 0 ≠ slotOf 0 1 := by
  decide +kernel

/-- Window 255 with both contributions, and a command to emit its piece. -/
def emitting : State :=
  let s := ((window 1).bind 255 0 0 (List.replicate 16 1)).bind 255 0 1 (List.replicate 16 2)
  { s with sw := { s.sw with emits := [⟨7, 255, [0], .none, false, false, false, none⟩] } }

theorem wit_PiecesEmit :
    Emitting emitting 7 0 ⟨7, 255, [0], .none, false, false, false, none⟩ emitting [] ∧
    (window 1).get .sw (F.RED_WIN_STATUS_STATE 255) = 1 ∧ ((window 1).dev .sw).pieces 255 < 0 + 2 ∧
    (let s := on { ready with sw := { ready.sw with badClusters := [3] } } []
     (s.dev .sw).cluster 3 ∈ s.sw.badClusters ∧ 16 ∉ s.sw.badClusters) := by
  refine ⟨⟨by decide +kernel, by decide +kernel, rfl⟩, by decide +kernel⟩

theorem wit_PiecesEmit_2 : 255 < 256 ∧ Emitting (emitting.tick 9) 7 0 ⟨7, 255, [0], .none, false, false, false, none⟩ (emitting.tick 9) [] := by
  refine ⟨by decide, ⟨by decide +kernel, by decide +kernel, rfl⟩⟩

/-! ### Collectives and dispatch -/

/-- A descriptor of 64 B from its words. -/
def desc (ws : List Nat) : Nat := (ws.zipIdx.map (fun x => x.1 * 2 ^ (64 * x.2))).sum

/-- Service queue 4 holds a record. -/
def record (s : State) (r units : Nat) : State := s.setSqueue 4 ⟨1, [⟨0, 1, 0, units, leBytes (16 * units) r, 0⟩]⟩

/-- A COLL_SUBMIT of a reduction of one member at this switch. -/
def coll1 : Nat := desc [7 * 2 ^ 32 + 1, 1 * 2 ^ 60, 5 * 2 ^ 32 + 1 * 2 ^ 16 + 1, 0, 0, 0, 0, 0]

/-- An operation under way. -/
def op1 (d : Nat) : CollOp := { CollOp.new 7 5 with desc := d, begun := 1 }

def opState (o : CollOp) : State := { ready with sw := { ready.sw with coll := [o] } }

/-- The oldest record of service queue 4 is `r`, of a TYPE. -/
def headIs (s : State) (type r : Nat) : Bool :=
  match s.dequeue 4 with
  | some (q, _) => decide (ofLe (q.data.take 8) % 256 = type) && decide (ofLe q.data = r)
  | none => false

theorem head_of_headIs {s : State} {type r : Nat} (h : headIs s type r = true) : ∃ a, Head s type r a := by
  unfold headIs at h
  split at h
  · next q a e => exact ⟨a, q, e, by simpa using h⟩
  · cases h

theorem wit_CollectivesStart :
    (let s := record ready coll1 4
     (∃ a, Head s 1 coll1 a) ∧
      s.collOp (cOpid coll1) (cStep coll1) = none ∧ cMemberTable coll1 / 2 ^ 52 = (s.dev .sw).node ∧
      (let r := s.readOwn (s.get .sw (F.RED_WIN_A_TENANT (cWindow coll1))) (cStep coll1 % 256)
         (packetsOf (cMemberTable coll1 % 2 ^ 52) (32 * cMembers coll1)) []
       r.2.isSome = true ∧ (r.1.dequeue 4).isSome = true)) ∧
    (opState (op1 coll1)).collOp (cOpid coll1) (cStep coll1) = some (op1 coll1) ∧ (op1 coll1).desc ≠ 0 := by
  exact ⟨⟨head_of_headIs (by decide +kernel), by decide +kernel⟩, by decide +kernel⟩

/-- A COLL_SUBMIT of one member that none of R198's checks refuses: ALL_GATHER of 8192 B in chunks of a piece. -/
def coll3 : Nat := desc [7 * 2 ^ 32 + 1, 3 * 2 ^ 60, 5 * 2 ^ 32 + 1 * 2 ^ 16 + 1, 2048 * 2 ^ 32]

theorem wit_CollectivesStart_2 : ready.rejects coll3 [0] = 0 := by decide +kernel

/-- A DISPATCH_SUBMIT of one home, one expert and one choice a token; its rows have 2048 elements. -/
def disp1 : Nat := desc [7 * 2 ^ 32 + 5, 5 * 2 ^ 32 + 1 * 2 ^ 16, 0, 0, 0, 32 * 2 ^ 32, 64 * 2 ^ 40]

/-- A dispatch under way: planned or not, with `n` chunks of its home done. -/
def dispOp (planned : Bool) : CollOp := { op1 disp1 with dispatch := true, table := [0], experts := [0], planned := planned, tokens := [1], served := [1], ripe := if planned then [0] else [] }

/-- A tenant-0 store whose first tile holds a top-k table of one token, of step 5, and window 0 that can be armed. -/
def stored (o : CollOp) (size step : Nat) : State :=
  let s := on (opState o) [(.sw, F.XLT_ROOT_VALID 0, 1), (.sw, F.XLT_ROOT_ROOT 0, 1), (.sw, F.MEM_DIR_TILES_TILES, 1),
    (.sw, F.RED_WIN_A_ENABLE 0, 1), (.sw, F.RED_WIN_A_SIZE 0, size)]
  let s1 := (s.setTile 0 { Tile.unmapped with mapped := true, tier := 2 }).modTiers (fun y =>
    { y with data := [(10, 1), (12, BitVec.ofNat 8 step)] })
  s1.modDev .sw (fun v => { v with xcache := [⟨0, 0, 0, 0x1001⟩, ⟨0, 1, 0, 0x1E⟩] })

theorem wit_CollectivesRun :
    (let o := op1 coll3
     (opState o).opNamed 7 = some o ∧ o.dispatch = false ∧ o.part = .running ∧ 0 < cAllChunks coll3 ∧ cSegOf coll3 0 < o.begun ∧
       o.done = [] ∧ o.emitting = [] ∧ isLeaf coll3 = false ∧ reduces coll3 = false ∧ cHubLctr coll3 = 0 ∧
       (let s := (opState o).modDev .sw (fun v => v.setReg (A.MEM_LCTR 0) 512)
        s.opNamed 7 = some o ∧ cChunkBytes coll3 / 16 ≤ (s.dev .sw).lctr ((cHubLctr coll3 + 0) % 65536)) ∧
       (opState { o with closed := [0] }).opNamed 7 = some { o with closed := [0] } ∧ [0].length = cSegments coll3) ∧
    (let d := desc [7 * 2 ^ 32 + 1, 1 * 2 ^ 60, 5 * 2 ^ 32 + 1 * 2 ^ 16 + 1, 2048 * 2 ^ 32]
     let s := { opState (op1 d) with sw := { (opState (op1 d)).sw with wins := [(0, { Win.idle with bound := [(0, [0])] })] } }
     isLeaf d = false ∧ reduces d = true ∧ 0 < cAllChunks d ∧ s.opNamed 7 = some (op1 d) ∧ s.chunkBound (op1 d) 0 = true) ∧
    (let d := desc [7 * 2 ^ 32 + 1, 1 * 2 ^ 60 + 1 * 2 ^ 44, 5 * 2 ^ 32 + 1 * 2 ^ 16 + 1, 2048 * 2 ^ 32]
     let s := (opState (op1 d)).modDev .sw (fun v => v.setReg (A.MEM_LCTR 0) 2048)
     isLeaf d = true ∧ 0 < cAllChunks d ∧ s.opNamed 7 = some (op1 d) ∧ 1 ≤ (s.dev .sw).lctr (cDoneLctr d) ∧
       cChunkBytes d / 16 ≤ (s.dev .sw).lctr ((cHubLctr d + 0) % 65536)) := by
  decide +kernel

theorem closed_of_none {s : State} {d : Part} (h : (s.dev d).chanCount = 0) (c : Nat) : (s.useChan d c).1 ≠ .miss := by
  simp [State.useChan, h]

/-- HUB_DONE records of STATUS 0, 1, 2, a STOP of operation 7 of step 5, and an ABORT, at the arbiter, which is node 0. -/
def hubRec1 (x : Nat) : Nat := 7 * 2 ^ 96 + 5 * 2 ^ 64 + 9 * 2 ^ 52 + x * 2 ^ 48 + 3

theorem wit_CollectivesRun_2 :
    (∀ st ∈ [0, 1, 2], let s := record (opState (op1 coll3)) (hubRec1 st) 1
      headIs s 3 (hubRec1 st) = true ∧ bitsOf (hubRec1 st) 51 48 = st ∧
        s.collOp (bitsOf (hubRec1 st) 127 96) (bitsOf (hubRec1 st) 95 64) = some (op1 coll3)) ∧
    (let s := record (opState (op1 coll3)) (hubRec1 0 + 1) 1
     headIs s 4 (hubRec1 0 + 1) = true ∧ s.collOp (bitsOf (hubRec1 0 + 1) 127 96) (bitsOf (hubRec1 0 + 1) 95 64) = some (op1 coll3) ∧
       coll3 ≠ 0) ∧
    (∀ x ∈ [(7 * 2 ^ 32 + 2, (some (op1 coll3) : Option CollOp)), (8 * 2 ^ 32 + 2, none)],
      let s := (record (opState (op1 coll3)) x.1 2)
      headIs s 2 x.1 = true ∧ s.opNamed (bitsOf x.1 63 32) = x.2 ∧ s.arbitrates (op1 coll3) = true ∧ (s.dev .sw).chanCount = 0) ∧
    (op1 coll3).rule = .open_ ∧ ({ op1 coll3 with rule := .told }).rule ≠ .open_ := by
  decide +kernel

theorem wit_DispatchPlans :
    headIs (record ready disp1 4) 5 disp1 = true ∧ (record ready disp1 4).collOp (cOpid disp1) (dStep disp1) = none ∧
    (∀ n ∈ [dHomeTable disp1, dExpertMap disp1, dTopkBase disp1], n / 2 ^ 52 = ((record ready disp1 4).dev .sw).node) ∧
    dHomes disp1 ≤ 32 ∧ 1 ≤ dK disp1 ∧ dK disp1 ≤ 8 ∧ dRowFormat disp1 ≤ 1 ∧ dOutFormat disp1 ≤ 1 ∧
    dCmbWindow disp1 + dHomes disp1 ≤ 256 ∧ 0 < dRow32 disp1 ∧ dRowElems disp1 % elemsPerPiece (dRowFormat disp1) = 0 ∧
    dTopkStride disp1 % 16 = 0 ∧
    (let s := record ready disp1 4
     let r := s.readOwn (s.get .sw (F.RED_WIN_A_TENANT (dCmbWindow disp1))) (dStep disp1 % 256)
       (packetsOf (dHomeTable disp1 % 2 ^ 52) (32 * dHomes disp1) ++ packetsOf (dExpertMap disp1 % 2 ^ 52) (32 * dExperts disp1)) []
     r.2.isSome = true ∧ (r.1.dequeue 4).isSome = true ∧ r.1.sw.coll = s.sw.coll) ∧
    (opState (dispOp false)).collOp (cOpid disp1) (dStep disp1) = some (dispOp false) := by
  decide +kernel

/-- Two devices' registers agree but for one. -/
def Agree (e : Nat) (v v' : Dev) : Prop := ∀ a, a ≠ e → v.reg a = v'.reg a

theorem Agree.set {e : Nat} {v v' : Dev} (h : Agree e v v') (f : Fld) (x y : Nat) (hf : f.reg = e ∨ x = y) :
    Agree e (v.set f x) (v'.set f y) := by
  intro a ha
  unfold Dev.set
  rw [Dev.reg_setReg, Dev.reg_setReg]
  split
  · next he =>
    subst he
    rcases hf with hf | rfl
    · exact absurd hf ha
    · rw [h _ ha]
  · exact h a ha

/-- ARM does not look at the weight address. -/
theorem armFaults_agree {v v' : Dev} (h : Agree (A.RED_WIN_E 0) v v') : v.armFaults 0 = v'.armFaults 0 := by
  have g : ∀ f : Fld, f.reg ≠ A.RED_WIN_E 0 → v.get f = v'.get f := fun f hf => by unfold Dev.get; rw [h _ hf]
  have r : ∀ w, v.redCfg w = v'.redCfg w := by
    intro w
    have hw : A.RED_WIN_B w ≠ A.RED_WIN_E 0 := by simp only [A.RED_WIN_B, A.RED_WIN_E]; omega
    unfold Dev.redCfg Dev.on
    rw [g (F.RED_WIN_B_FORMAT w) hw, g (F.RED_WIN_B_OUT_FORMAT w) hw, g (F.RED_WIN_B_OP w) hw, g (F.RED_WIN_B_SAT w) hw,
      g (F.RED_WIN_B_WEIGHTED w) hw, g (F.RED_WIN_B_CARRY_IN w) hw, g (F.RED_WIN_B_SCALE_LO w) hw]
  unfold Dev.armFaults Dev.carryTarget Dev.assemblyBlocks Dev.sourcesOf Dev.totalElems Dev.srcElems Dev.toAperture
    Dev.lastElems Dev.pieces Dev.contribs Dev.on Dev.node
  simp only [r]
  rw [g (F.RED_WIN_A_SIZE 0) (by decide), g (F.RED_WIN_A_ENABLE 0) (by decide), g (F.RED_WIN_B_CONTRIBS_M1 0) (by decide),
    g (F.RED_WIN_B_PIECES_M1 0) (by decide), g (F.RED_WIN_B_LAST_ELEMS 0) (by decide), g (F.RED_WIN_C_OUT_ADDR 0) (by decide),
    g (F.RED_WIN_D_ROW_32 0) (by decide), g (F.RED_WIN_STATUS_STATE 0) (by decide), g F.PKT_NODE_ID_NODE_ID (by decide)]

/-- The combine windows' settings, with a weight address of one's own. -/
def combineSet (v : Dev) (o : CollOp) (tokens wa : Nat) : Dev :=
  [(F.RED_WIN_B_OP 0, 0), (F.RED_WIN_B_WEIGHTED 0, 1), (F.RED_WIN_B_FORMAT 0, dRowFormat o.desc), (F.RED_WIN_B_CARRY_IN 0, 0),
   (F.RED_WIN_B_OUT_FORMAT 0, dOutFormat o.desc), (F.RED_WIN_B_CONTRIBS_M1 0, dK o.desc - 1),
   (F.RED_WIN_B_PIECES_M1 0, tokens * dPieces o.desc - 1), (F.RED_WIN_B_LAST_ELEMS 0, elemsPerPiece (dRowFormat o.desc)),
   (F.RED_WIN_D_ROW_32 0, dRow32 o.desc), (F.RED_WIN_E_WEIGHT_ADDR 0, wa),
   (F.RED_WIN_C_OUT_ADDR 0, dWord (o.table.getD 0 0) 1),
   (F.RED_WIN_D_OUT_LCTR 0, bitsOf (dWord (o.table.getD 0 0) 2) 47 32)].foldl (fun a x => a.set x.1 x.2) v

theorem combineSet_faults (v : Dev) (o : CollOp) (tokens x y : Nat) :
    (combineSet v o tokens x).armFaults 0 = (combineSet v o tokens y).armFaults 0 := by
  apply armFaults_agree
  unfold combineSet
  simp only [List.foldl_cons, List.foldl_nil]
  exact Agree.set (Agree.set (Agree.set (e := A.RED_WIN_E 0) (fun _ _ => rfl) (F.RED_WIN_E_WEIGHT_ADDR 0) x y (.inl rfl)) _ _ _ (.inr rfl)) _ _ _
    (.inr rfl)

theorem armCombine_one {s : State} {o : CollOp} {tokens : Nat} {b : List Nat} (hw : dCmbWindow o.desc = 0)
    (hb : (combineSet (s.dev .sw) o tokens 0).armFaults 0 = b) (hl : b.length ≤ 1) :
    (s.armCombine o [tokens] [0]).1 = decide (b.headD Arm.OK = Arm.OK) := by
  have e : ((s.setCombine o 0 tokens).dev .sw) = combineSet (s.dev .sw) o tokens (Config.weightsAt o.id 0) := by
    unfold State.setCombine combineSet
    simp [hw]
  have r : (s.setCombine o 0 tokens).armResult 0 = b.headD Arm.OK := by
    unfold State.armResult
    rw [e, combineSet_faults _ _ _ _ 0, hb]
    match b, hl with
    | [], _ => rfl
    | [x], _ => rfl
  simp only [State.armCombine, List.getD_cons_zero, hw, Nat.zero_add, State.arm, r]
  by_cases h : b.headD Arm.OK = Arm.OK
  · rw [if_pos h]; exact (decide_eq_true h).symm
  · rw [if_neg h]; exact (decide_eq_false h).symm

theorem wit_DispatchPlans_2 :
    (∀ x ∈ [(8, 5, true, true), (0, 5, true, false), (8, 6, false, true)], let o := dispOp false
      let s := (stored o x.1 x.2.1).modDev .sw (fun v => v.setReg (A.MEM_LCTR 0) 2)
      s.opNamed 7 = some o ∧ o.dispatch = true ∧ o.planned = false ∧ o.part = .running ∧ o.rule = .open_ ∧
        dHomes o.desc * dTopkStride o.desc / 16 ≤ (s.dev .sw).lctr (dTopkLctr o.desc) ∧
        (let r := s.readOwn (s.get .sw (F.RED_WIN_A_TENANT (dCmbWindow o.desc))) (o.step % 256)
           (packetsOf (dTopkBase o.desc % 2 ^ 52) (dHomes o.desc * dTopkStride o.desc)) []
         r.2 = some (leBytes 32 (2 ^ 80 + x.2.1 * 2 ^ 96)) ∧ r.1.sw.coll = s.sw.coll ∧
           (x.2.2.1 = true → (combineSet (r.1.dev .sw) o 1 0).armFaults 0 = if x.2.2.2 then [] else [Arm.GEOMETRY])) ∧
        (x.2.2.1 = true ↔ (let head := 2 ^ 80 + x.2.1 * 2 ^ 96
          bitsOf head 127 96 = o.step ∧ 1 ≤ bitsOf head 95 80 ∧ bitsOf head 95 80 ≤ 16384 ∧
            4 * bitsOf head 95 80 * dK o.desc + 16 ≤ dTopkStride o.desc ∧ bitsOf head 95 80 * dPieces o.desc ≤ 32768))) ∧
    (let o := dispOp true
     let s := (opState o).modDev .sw (fun v => v.setReg (A.MEM_LCTR 0) 512)
     s.opNamed 7 = some o ∧ o.dispatch = true ∧ o.planned = true ∧ o.part = .running ∧ o.rule = .open_ ∧ 0 < dHomes o.desc ∧
       o.ripe = [] ++ 0 :: [] ∧ o.done = [] ∧ o.emitting = [] ∧ s.collOp o.id o.step = some o ∧
       o.homeUnits 0 ≤ (s.dev .sw).lctr ((dCmbLctr o.desc + 0) % 65536)) := by
  decide +kernel

/-- The plan's windows are armed, or one of them fails. -/
theorem wit_DispatchPlans_3 (a : State) :
    ((combineSet (a.dev .sw) (dispOp false) 1 0).armFaults 0 = [] → (a.armCombine (dispOp false) [1] [0]).1 = true) ∧
    ((combineSet (a.dev .sw) (dispOp false) 1 0).armFaults 0 = [Arm.GEOMETRY] → (a.armCombine (dispOp false) [1] [0]).1 = false) :=
  ⟨fun h => armCombine_one (by decide +kernel) h (by decide), fun h => armCombine_one (by decide +kernel) h (by decide)⟩

/-! ### Cores -/

/-- A word of Table 10.1: opcode, SD, SA, SB, dN and IMM. -/
def word (op sd sa sb dn imm : Nat) : Nat := op + sd * 2 ^ 8 + sa * 2 ^ 13 + sb * 2 ^ 18 + dn * 2 ^ 23 + imm * 2 ^ 32

/-- Core 63 in a state of Table 9.6, with a word at address 0, where its PC is, `code` bytes of code, s3 = x and s4 = y. -/
def coreAt (st w code x y : Nat) : State :=
  (on ready [(.sw, F.SEQ_CORE_STATUS_STATE 63, st)]).setCore 63 { Core.initial with
    mem := Memory.setBytes [] 0 (leBytes 8 w), codeBytes := code, entry := 8, s := [(3, BitVec.ofNat 64 x), (4, BitVec.ofNat 64 y)] }

theorem wit_CoresLoad :
    Up ready .sw ∧ (ready.get .sw F.CFG_BOOT_STATUS_STAGE = 7 ∧ ready.get .sw F.SEQ_LOAD_STATUS_STATE = 0) ∧
    (on ready [(.sw, F.SEQ_LOAD_STATUS_STATE, 1)]).get .sw F.SEQ_LOAD_STATUS_STATE ≠ 0 ∧
    (63 < 64 ∧ bitOf (BitVec.ofNat 64 (2 ^ 63)).toNat 63 = true ∧ (coreAt 3 1 8 0 0).coreState 63 = 3) ∧
    (∀ n, n < 64 → bitOf (0#64).toNat n = true → ready.coreState n ≠ 1) := by
  refine ⟨by simp only [Up]; decide +kernel, by decide +kernel, by decide +kernel, by decide +kernel, ?_⟩
  intro n _ h
  simp [bitOf] at h

/-- A load of core 63 of the image at address 0; an image of zeros has a bad header. Whether a good one's signature
verifies is Config's, so the load that goes on is stated for whatever it answers. -/
def loading (st : Nat) : State :=
  let s := on ready [(.sw, F.SEQ_LOAD_STATUS_STATE, st)]
  { s with sw := { s.sw with load := some ⟨[63], 0⟩ } }

theorem wit_CoresLoad_2 :
    (loading 1).sw.load = some ⟨[63], 0⟩ ∧ (loading 1).get .sw F.SEQ_LOAD_STATUS_STATE = 1 ∧ (loading 1).imageCheck 0 = 1 ∧
    (loading 2).get .sw F.SEQ_LOAD_STATUS_STATE = 2 ∧ (loading 2).get .sw F.SEC_MODE_CONF ≠ 1 ∧
    (∀ n ∈ [63], n < 64 ∧ ((loading 2).dev .sw).coreOut n = 0 ∧
      (loading 2).get .sw (F.PWR_DOMAIN_STATUS_STATE (20 + (loading 2).corePhys n / 18)) ≠ 1 ∧
      (loading 2).corePhys n ∉ (loading 2).sw.badCores ∧
      (loading 2).get .sw (F.PWR_DOMAIN_STATUS_STATE (20 + (loading 2).corePhys n / 18)) ≠ 3) := by
  decide +kernel

theorem wit_CoresStartAndStop :
    (∀ st ∈ List.range 7, (coreAt st 1 8 0 0).coreState 63 = st ∧ (coreAt st 1 8 0 0).barOn .sw = true) ∧
    (let s := on ((coreAt 3 1 8 0 0).modCore 63 (fun c => { c with wait := .retry, stall := 3 })) [(.sw, F.SEQ_WDOG_LIMIT_US 63, 1)]
     s.coreState 63 = 3 ∧ 0 < s.get .sw (F.SEQ_WDOG_LIMIT_US 63) ∧
       s.get .sw (F.SEQ_WDOG_LIMIT_US 63) * 1000 < max s.now 1001 - (s.core 63).stallAt ∧
       ¬ s.get .sw (F.SEQ_WDOG_LIMIT_US 63) * 1000 < max s.now 1000 - (s.core 63).stallAt ∧
       (s.dev .sw).potHolder ≠ coreHolds 63) ∧
    (((coreAt 3 1 8 0 0).modCore 63 (fun c => { c with wait := .retry })).core 63).wait = .retry ∧
    (let s := (coreAt 3 1 8 0 0).modCore 63 (fun c => { c with cross := [⟨2, 9, 0, 0, [0, 8, 16, 24, 32, 40, 48, 56, 64]⟩] })
     (s.core 63).cross = [⟨2, 9, 0, 0, [0, 8, 16, 24, 32, 40, 48, 56, 64]⟩] ∧
       [0, 8, 16, 24, 32, 40, 48, 56, 64][8]? = some 64 ∧ (coreAt 3 1 8 0 0 |>.core 63).cross.head? = none) ∧
    (let s := on ready [(.sw, F.SEQ_QUEUE_B_ENABLE 15, 1)]
     s.get .sw (F.SEQ_QUEUE_B_ENABLE 15) ≠ 0 ∧ ((s.setSqueue 15 ⟨1, [⟨0, 1, 0, 1, [1], 0⟩]⟩).squeue 15).recs ≠ []) := by
  decide +kernel

theorem wit_ScalarResults :
    (∀ op ∈ [0x10, 0x11, 0x12, 0x13, 0x14, 0x15, 0x16, 0x17, 0x18, 0x19, 0x1A, 0x1B, 0x1C, 0x1D], ∀ sd ∈ [0, 31],
      Runs (coreAt 3 (word op sd 3 4 0 0) 8 5 0) 63 (word op sd 3 4 0 0) op) ∧
    (∀ op ∈ [0x20, 0x22, 0x23, 0x24, 0x25, 0x26, 0x27, 0x2C, 0x2D],
      Runs (coreAt 3 (word op 31 3 0 0 63) 8 5 0) 63 (word op 31 3 0 0 63) op) ∧
    (∀ op ∈ [0x03, 0x04, 0x05], Runs (coreAt 3 (word op 31 0 0 0 0) 8 0 0) 63 (word op 31 0 0 0 0) op) ∧
    (∀ op ∈ [0x2E, 0x2F], Runs (coreAt 3 (word op 31 0 0 0 (2 ^ 32 - 1)) 8 0 0) 63 (word op 31 0 0 0 (2 ^ 32 - 1)) op) ∧
    Runs (coreAt 3 (word 0x51 31 0 15 0 0) 8 0 0) 63 (word 0x51 31 0 15 0 0) 0x51 ∧
    Runs (coreAt 3 (word 0x01 0 0 0 0 0) 8 0 0) 63 (word 0x01 0 0 0 0 0) 0x01 := by
  simp only [Runs]; decide +kernel

/-- A branch's target is good, is not aligned, or lies outside the code. -/
theorem wit_BranchesJump :
    (∀ op ∈ [0x30, 0x31, 0x32, 0x33, 0x34, 0x35], ∀ imm ∈ [1, 2, 2 ^ 32 - 1], ∀ y ∈ [5, 7],
      Runs (coreAt 3 (word op 0 3 4 0 imm) 16 5 y) 63 (word op 0 3 4 0 imm) op) ∧
    (∀ imm ∈ [1, 2, 2 ^ 32 - 1], Runs (coreAt 3 (word 0x38 1 0 0 0 imm) 16 5 7) 63 (word 0x38 1 0 0 0 imm) 0x38) ∧
    (∀ x ∈ [0, 4, 8], Runs (coreAt 3 (word 0x39 3 3 0 0 1) 16 x 0) 63 (word 0x39 3 3 0 0 1) 0x39 ∧
      (let target := (BitVec.ofNat 64 x) + 8 * BitVec.ofInt 64 (signedOf 32 (wImm (word 0x39 3 3 0 0 1)))
       if x = 0 then target.toNat % 8 = 0 ∧ target.toNat < 16 else if x = 4 then target.toNat % 8 ≠ 0
       else target.toNat % 8 = 0 ∧ 16 ≤ target.toNat)) ∧
    ((coreAt 3 1 16 0 0).dev .sw).potHolder ≠ coreHolds 63 ∧
    (let target (imm : Nat) : Word := 0 + 8 * BitVec.ofInt 64 (signedOf 32 imm)
     (target 1).toNat = 8 ∧ (target 2).toNat = 16 ∧ 16 ≤ (target (2 ^ 32 - 1)).toNat ∧ (target (2 ^ 32 - 1)).toNat % 8 = 0) := by
  simp only [Runs]; decide +kernel

/-- A local address that is good, misaligned, outside the memory, or in the code. -/
theorem wit_LocalAccesses :
    (∀ op ∈ [0x40, 0x41, 0x42, 0x43, 0x44, 0x45, 0x46, 0x53],
      Runs (coreAt 3 (word op 1 3 0 0 0) 8 0x3FFF8 0) 63 (word op 1 3 0 0 0) op) ∧
    (∀ op ∈ [0x48, 0x49, 0x4A, 0x4B], Runs (coreAt 3 (word op 0 3 4 0 0) 8 8 0) 63 (word op 0 3 4 0 0) op) ∧
    (∀ op ∈ [0x58, 0x59], Runs (coreAt 3 (word op 0 3 0 7 0) 8 32 0) 63 (word op 0 3 0 7 0) op) ∧
    Runs (coreAt 3 (word 0x54 15 3 0 0 0) 8 8 0) 63 (word 0x54 15 3 0 0 0) 0x54 ∧
    (∀ size ∈ [1, 2, 4, 8, 32], LocalOk (coreAt 3 1 8 0 0) 63 (0x40000 - size) size false ∧
      LocalOk (coreAt 3 1 8 0 0) 63 32 size true ∧ 0x40000 % size = 0 ∧ 0x40000 < 0x40000 + size ∧
      0 % size = 0 ∧ 0 < ((coreAt 3 1 8 0 0).core 63).codeBytes ∧ (size ≠ 1 → 1 % size ≠ 0)) ∧
    ((coreAt 3 1 8 0 0).dev .sw).potHolder ≠ coreHolds 63 := by
  simp only [Runs, LocalOk]; decide +kernel

theorem wit_RegisterSetsAndExceptions :
    (∀ op ∈ [0x50, 0x52], Runs (coreAt 3 (word op 15 3 0 0 0) 8 0 0) 63 (word op 15 3 0 0 0) op) ∧
    (Runs (coreAt 3 (word 0x5A 0 3 0 7 0) 8 0 0) 63 (word 0x5A 0 3 0 7 0) 0x5A ∧
      ((coreAt 3 (word 0x5A 0 3 0 7 0) 8 0 0).core 63).dreg 7 < 2 ^ 256) ∧
    Runs (coreAt 3 (word 0x02 0 0 0 0 9) 8 0 0) 63 (word 0x02 0 0 0 0 9) 0x02 ∧
    (let s := coreAt 3 (2 ^ 64 - 1) 8 0 0
     s.coreReady 63 = true ∧ s.fetch 63 = some (2 ^ 64 - 1) ∧ legal (2 ^ 64 - 1) = false) ∧
    (coreAt 3 1 0 0 0).coreReady 63 = true ∧ (coreAt 3 1 0 0 0).fetch 63 = none := by
  simp only [Runs]; decide +kernel

theorem wit_CoresLoad_3 : (∀ n ∈ ([0, 63] : List Nat), n < 64) ∧ (loading 1).coreState 63 ≠ 1 := by decide +kernel

theorem wit_CoresStartAndStop_2 :
    (let s := (coreAt 3 1 8 0 0).modCore 63 (fun c => { c with wait := .retry, stall := 3 })
     s.coreState 63 = 3 ∧ s.mayBark 63 = true) ∧
    ((coreAt 3 1 8 0 0).mayBark 63 = false ∧ (on (coreAt 2 1 8 0 0) [(.sw, F.SEQ_WDOG_LIMIT_US 63, 1)]).coreState 63 ≠ 3) := by
  decide +kernel

/-! ### A core's requests -/

/-- A descriptor of Table 9.3: address, pitch, rows, row units, channel 0. -/
def tile (addr pitch rows units : Nat) : Nat := addr * 2 ^ 192 + pitch * 2 ^ 160 + rows * 2 ^ 144 + units * 2 ^ 128

/-- An open entry of the channel table: class 7, best effort. -/
def raw7 : Nat := 2 ^ 63 + 7 * 2 ^ 57

/-- An open entry of the channel table: class 7, promised. -/
def rawP : Nat := raw7 + 2 ^ 60 + 2 ^ 109 + 129 * 2 ^ 91 + 2 ^ 128

/-- Core 63 with a word, d7 and d6, and channel 0 open in the cache; port 32 takes class 7. -/
def fabAt (w d m x y : Nat) : State :=
  ((on (coreAt 3 w 8 x y) [(.sw, F.SWC_CLASS_A_MODE 32 7, 1), (.sw, F.SWC_CLASS_A_RESV 32 7, 100), (.sw, F.HIF_CHAN_CFG_COUNT, 1)]).modCore 63
    (fun c => { c with dsc := [(6, m), (7, d)] })).modDev .sw (fun v => { v with chans := [⟨0, raw7⟩] })

/-- The state once the channel's entry has been taken. -/
def entered (s : State) : State := (((s.tick 0).accrue 63).coreChan 63 0 true).2

/-- What `Reaches` asks of core 63, as a check. -/
def reach (s : State) (w op : Nat) : Bool :=
  s.coreReady 63 && decide (s.fetch 63 = some w) && legal w && decide (wOp w = op) && descOk ((s.core 63).dreg (wDn w)) &&
    decide (dChan ((s.core 63).dreg (wDn w)) = 0) && decide ((((s.tick 0).accrue 63).coreChan 63 0 true).1 = .ok raw7 0)

theorem reaches_of_reach {s : State} {w op : Nat} (h : reach s w op = true) : Reaches s 0 63 w op raw7 0 (entered s) := by
  simp only [reach, Bool.and_eq_true, decide_eq_true_eq] at h
  obtain ⟨⟨⟨⟨⟨⟨h1, h2⟩, h3⟩, h4⟩, h5⟩, h6⟩, h7⟩ := h
  refine ⟨⟨by decide, h1, h2, h3, h4⟩, h5, ?_⟩
  rw [h6]
  exact Prod.ext h7 rfl

/-- A FAB word. -/
def fab (op sd sa sb dm form sel scope ord sc ofs : Nat) : Nat :=
  op + sd * 2 ^ 8 + sa * 2 ^ 13 + sb * 2 ^ 18 + 7 * 2 ^ 23 + dm * 2 ^ 26 + form * 2 ^ 29 + sel * 2 ^ 30 + scope * 2 ^ 35
    + ord * 2 ^ 37 + sc * 2 ^ 39 + ofs * 2 ^ 44

/-- One row of 16 B at node 9. -/
def row1 : Nat := tile (9 * 2 ^ 52) 16 1 1

theorem wit_FabricAccesses :
    (∀ x ∈ [(0x60, 0, 0, 0), (0x60, 0, 2, 3), (0x60, 0, 2, 0), (0x61, 4, 0, 0), (0x61, 4, 1, 0)], ∀ ofs ∈ [8, 4],
      let w := fab x.1 0 3 x.2.1 0 0 0 x.2.2.2 x.2.2.1 5 ofs
      let s := fabAt w row1 0 0 0
      wOrd w = x.2.2.1 ∧ reach s w x.1 = true ∧ wSc w ≠ 0 ∧
        (let x := (BitVec.ofNat 64 (dAddr row1) + (s.core 63).sreg (wSa w) + BitVec.ofInt 64 (signedOf 20 (wOfs w))).toNat
         x % 8 = ofs % 8)) ∧
    (∀ k ∈ List.range 10, ∀ ord ∈ [0, 1, 2], let w := fab (0x70 + k) 1 3 4 0 0 0 0 ord 0 8
      reach (fabAt w row1 0 0 0) w (0x70 + k) = true) ∧
    (∀ op ∈ [1, 3, 5], let a := entered (fabAt (fab 0x60 1 3 0 0 0 0 0 0 0 8) row1 0 0 0)
      RoomFor a 63 { (a.dev .sw).scalarHdr raw7 0 (9 * 2 ^ 52) with opcode := op, payUnits := 1 }) := by
  simp only [RoomFor]; decide +kernel

/-- Table 9.3's entries that are full, by a core. -/
def full (s : State) (n : Nat) : State := s.modDev .sw (fun v => { v with pends := List.replicate n { pend1 with agent := .core 63 } })

theorem coreOut_full (s : State) (n : Nat) (h : (s.dev .sw).txns = []) (h' : (s.dev .sw).releases = []) :
    ((full s n).dev .sw).coreOut 63 = n := by
  simp [full, Dev.coreOut, h, h', pend1]

theorem wit_FabricAccesses_2 :
    (let w := fab 0x60 1 3 0 0 0 0 0 0 0 8
     let s := on (fabAt w row1 0 0 0) [(.sw, F.SWC_CLASS_A_RESV 32 7, 0)]
     let a := entered s
     let h : PktHdr := { (a.dev .sw).scalarHdr raw7 0 (9 * 2 ^ 52) with opcode := 1, reqUnits := 1 }
     reach s w 0x60 = true ∧ (a.dev .sw).coreOut 63 < 16384 ∧ (a.dev .sw).ownOff h = false ∧ (a.dev .sw).ownRoom h = false) ∧
    (∀ x ∈ [(0x60, 0, 0), (0x60, 2, 0), (0x61, 0, 0), (0x61, 1, 0), (0x63, 0, 0), (0x64, 0, 0), (0x70, 0, 0)],
      let w := fab x.1 0 3 0 0 0 0 0 x.2.1 5 0
      let bad := fabAt w 0 0 0 0
      (bad.fetch 63 = some w ∧ bad.coreReady 63 = true ∧ legal w = true ∧ wOrd w = x.2.1 ∧ descOk ((bad.core 63).dreg (wDn w)) = false) ∧
      (let s := fabAt w row1 0 0 0
       let no (u : State) (r : CoreChan) : Prop := descOk ((u.core 63).dreg (wDn w)) = true ∧ u.fetch 63 = some w ∧
         (((u.tick 0).accrue 63).coreChan 63 (dChan row1) true).1 = r
       wForm w = 0 ∧ 16 * dRows row1 * dRowUnits row1 ≤ 65536 ∧ no (on s [(.sw, F.HIF_CHAN_CFG_COUNT, 0)]) (.denied true) ∧
         no (s.modDev .sw (fun v => { v with chans := [⟨0, raw7 + 2 ^ 51⟩] })) (.denied false) ∧
         no (s.modDev .sw (fun v => { v with chans := [] })) .miss)) := by
  decide +kernel

/-- The most a core may have outstanding. -/
theorem wit_FabricAccesses_3 (s : State) (h : (s.dev .sw).txns = []) (h' : (s.dev .sw).releases = []) :
    16384 ≤ ((full s 16384).dev .sw).coreOut 63 := by
  exact Nat.le_of_eq (coreOut_full s _ h h').symm

theorem wit_TilesAndMessages :
    (∀ units ∈ [1, 512, 0, 513], let w := fab 0x62 0 3 4 0 0 15 0 0 0 0
      let s := fabAt w row1 0 (0x40000 - 16 * min units 512) units
      reach s w 0x62 = true ∧ bitsOf ((s.core 63).sreg (wSb w)).toNat 9 0 = units ∧
        ((s.core 63).sreg (wSa w)).toNat % 16 = 0 ∧ ((s.core 63).sreg (wSa w)).toNat + 16 * min units 512 ≤ 0x40000 ∧
        (entered s).bufBusy 63 = false) ∧
    (∀ op ∈ [0x63, 0x64], let w := fab op 0 3 0 0 0 0 0 0 0 0
      let d := tile (9 * 2 ^ 52) 48 2 3
      let s := fabAt w d 0 0x3FFA0 0
      reach s w op = true ∧ wForm w = 0 ∧ 16 * dRows d * dRowUnits d ≤ 65536 ∧ ((s.core 63).sreg (wSa w)).toNat % 16 = 0 ∧
        ((s.core 63).sreg (wSa w)).toNat + 16 * dRows d * dRowUnits d ≤ 0x40000 ∧
        (s.core 63).codeBytes ≤ ((s.core 63).sreg (wSa w)).toNat ∧ (entered s).bufBusy 63 = false ∧
        RoomFor (entered s) 63 (((entered s).dev .sw).tileHdr raw7 d (op == 0x63) false (dAddr d) 16)) ∧
    (∀ op ∈ [0x63, 0x64], let w := fab op 0 0 0 6 1 0 0 0 0 0
     let m := tile 65536 16 1 1
     let s := fabAt w row1 m 0 0
     reach s w op = true ∧ RoomFor (entered s) 63 (((entered s).dev .sw).tileHdr raw7 row1 (op == 0x63) false (dAddr row1) 16) ∧ wForm w = 1 ∧ (s.core 63).dreg (wDm w) = m ∧ descOk m = true ∧
       dAddr m / 2 ^ 52 = s.get .sw F.PKT_NODE_ID_NODE_ID ∧ dRows m = dRows row1 ∧ dRowUnits m = dRowUnits row1) := by
  simp only [RoomFor]; decide +kernel

/-- A TIER request of core 63 for one page of a node, whose first page is mapped to tile 0. -/
def tierAt (sel node : Nat) (mapped : Bool) : State :=
  ((on (fabAt (fab 0x65 0 0 0 0 0 sel 0 0 5 0) (tile (node * 2 ^ 52) 16 1 1) 0 0 0)
    [(.sw, F.XLT_ROOT_VALID 0, if mapped then 1 else 0), (.sw, F.XLT_ROOT_ROOT 0, 1), (.sw, F.MEM_DIR_TILES_TILES, 1)]).modDev .sw (fun v =>
    if mapped then { v with xcache := [⟨0, 0, 0, 0x1001⟩, ⟨0, 1, 0, 0x1E⟩] } else v)).modTile 0 (fun x => { x with mapped := true })

theorem wit_TilesAndMessages_2 :
    (∀ sel ∈ List.range 5, ∀ node ∈ [0, 9], let w := fab 0x65 0 0 0 0 0 sel 0 0 5 0
      reach (tierAt sel node false) w 0x65 = true ∧ reach (tierAt sel node true) w 0x65 = true ∧ wSel w = sel ∧
        dAddr (tile (node * 2 ^ 52) 16 1 1) / 2 ^ 52 = node) ∧
    (∀ x ∈ [(false, [none], none), (true, [some 0], some [0])], let a := entered (tierAt 0 0 x.1)
      (a.pageTiles (chanOf raw7).tenant (descPages (tile 0 16 1 1)) []).2 = some x.2.1 ∧
        a.wholeTiles (chanOf raw7).tenant x.2.1 = x.2.2) := by
  decide +kernel

/-- What keeps a tile or a message from being sent. -/
theorem wit_TilesAndMessages_3 :
    (∀ x ∈ [(0x62, 4, 0x3FF8), (0x62, 4, 0x40000), (0x62, 4, 0), (0x63, 0, 0x3FF8), (0x63, 0, 0x40000), (0x63, 0, 0), (0x64, 0, 0x3FF8),
        (0x64, 0, 0x40000)],
      let w := fab x.1 0 3 x.2.1 0 0 (if x.1 = 0x62 then 15 else 0) 0 0 0 0
      let s := fabAt w row1 0 x.2.2 1
      reach s w x.1 = true ∧ wForm w = 0 ∧ 16 * dRows row1 * dRowUnits row1 ≤ 65536 ∧ ((s.core 63).sreg (wSa w)).toNat = x.2.2 ∧
        (x.1 = 0x62 → bitsOf ((s.core 63).sreg (wSb w)).toNat 9 0 = 1)) ∧
    ((entered (fabAt (fab 0x63 0 3 0 0 0 0 0 0 0 0) row1 0 0 0)).modCore 63 (fun c => { c with buf := some 0 }) |>.modDev .sw
      (fun v => { v with pends := [pend1] })).bufBusy 63 = true ∧
    (∀ x ∈ [(tile 0 32 4096 2, 0, 0), (row1, 1, 0), (row1, 1, tile (9 * 2 ^ 52) 16 1 1), (row1, 1, tile 0 16 2 1)], ∀ op ∈ [0x63, 0x64],
      let w := fab op 0 (3 - 3 * x.2.1) 0 (6 * x.2.1) x.2.1 0 0 0 0 0
      let s := fabAt w x.1 x.2.2 0 0
      s.fetch 63 = some w ∧ s.coreReady 63 = true ∧ legal w = true ∧ descOk ((s.core 63).dreg (wDn w)) = true ∧ wForm w = x.2.1 ∧
        (x.2.1 = 0 → 65536 < 16 * dRows x.1 * dRowUnits x.1) ∧ (x.2.1 = 1 → (descOk x.2.2 = true ↔ x.2.2 ≠ 0))) ∧
    (∀ x ∈ [(0x62, 15), (0x65, 0), (0x65, 4)], let w := fab x.1 0 (if x.1 = 0x62 then 3 else 0) (if x.1 = 0x62 then 4 else 0) 0 0 x.2 0 0 0 0
      let s := fabAt w row1 0 0 1
      let no (u : State) (r : CoreChan) : Prop := u.fetch 63 = some w ∧ (((u.tick 0).accrue 63).coreChan 63 (dChan row1) true).1 = r
      legal w = true ∧ wSel w = x.2 ∧ no (on s [(.sw, F.HIF_CHAN_CFG_COUNT, 0)]) (.denied true) ∧
        no (s.modDev .sw (fun v => { v with chans := [] })) .miss) ∧
    ((entered (tierAt 0 0 true)).modDev .sw (fun v => { v with xcache := [] }) |>.pageTiles 0 (descPages (tile 0 16 1 1)) []).2 = none := by
  decide +kernel

/-- Core 63 with privileges, at a word. -/
def privAt (priv w x y : Nat) : State := on (coreAt 3 w 8 x y) [(.sw, F.SEQ_CORE_STATUS_PRIV 63, priv)]

/-- What `Runs` asks of core 63, as a check. -/
def runsAt (s : State) (w op : Nat) : Bool :=
  s.coreReady 63 && decide (s.fetch 63 = some w) && legal w && decide (wOp w = op)

theorem runs_of_runsAt {s : State} {w op : Nat} (h : runsAt s w op = true) : Runs s 63 w op := by
  simp only [runsAt, Bool.and_eq_true, decide_eq_true_eq] at h
  exact ⟨by decide, h.1.1.1, h.1.1.2, h.1.2, h.2⟩

theorem wit_WindowAndCounterInstructions :
    (∀ out ∈ [false, true], let w := fab 0x66 0 0 0 0 0 0 3 0 5 0 - 7 * 2 ^ 23
      let s := privAt 0 w 0 0
      let s := if out then s.modDev .sw (fun v => { v with txns := [{ txn1 3 with agent := .core 63 }] }) else s
      runsAt s w 0x66 = true ∧ (((s.dev .sw).fenceSet (.core 63) (wScope w) (s.core 63).since).isEmpty = !out)) ∧
    (∀ x ∈ [(0, 0), (5, 3), (5, 4)], let w := word 0x67 15 0 0 0 0
      let s := ((privAt 0 w 0 0).modCore 63 (fun c => { c with c := [(15, BitVec.ofNat 64 (4 + x.1 * 2 ^ 48))] })).modDev .sw (fun v =>
        v.setReg (A.MEM_LCTR 5) x.2)
      runsAt s w 0x67 = true ∧ ctrLctr ((s.core 63).creg (wCn w)) = x.1 ∧
        ((s.dev .sw).lctr x.1 < ctrTarget ((s.core 63).creg (wCn w)) ↔ x.2 ≠ 4)) ∧
    (∀ op ∈ [0x68, 0x69, 0x91, 0xA8, 0xAA, 0x90], ∀ x ∈ [0, 65535],
      let w := word op (if op = 0x90 ∨ op = 0x69 then 0 else 31) 3 (if op = 0x69 then 4 else 0) 0 0
      runsAt (privAt 0 w x 7) w op = true) := by
  decide +kernel

/-- Window instructions: of another's window, of one's own that is disabled, in use, or idle. -/
theorem wit_WindowAndCounterInstructions_2 :
    (∀ op ∈ [0x80, 0x81, 0x82, 0x83, 0x84], ∀ mine ∈ [false, true], ∀ en ∈ [0, 1], ∀ st ∈ [0, 1],
      let w := word op 31 3 (if op = 0x82 ∨ op = 0x84 then 0 else 4) 0 (if op = 0x80 ∨ op = 0x84 then 1 else if op = 0x83 then 255 else 0)
      let s := on (privAt (if mine then 32 else 0) w 255 0) [(.sw, F.RED_WIN_A_TENANT 255, 3), (.sw, F.RED_WIN_A_ENABLE 255, en),
        (.sw, F.RED_WIN_STATUS_STATE 255, st)]
      runsAt s w op = true ∧ ((s.core 63).sreg (wSa w)).toNat % 256 = 255 ∧ s.corePriv 63 5 = mine ∧
        s.get .sw (F.RED_WIN_A_TENANT 255) ≠ s.coreTenant 63 ∧ s.get .sw (F.RED_WIN_A_ENABLE 255) = en ∧
        s.get .sw (F.RED_WIN_STATUS_STATE 255) = st) := by
  decide +kernel

theorem wit_WindowAndCounterInstructions_3 :
    (∀ q ∈ [0, 15], ∀ recs ∈ [[], [⟨0, 1, 0, 1, [1], 0⟩]], let w := word 0x88 31 3 0 0 q
      let s := (on (privAt 8 w 0x3E000 0) [(.sw, F.SEQ_QUEUE_B_CORE q, 63)]).setSqueue q ⟨1, recs⟩
      runsAt s w 0x88 = true ∧ s.corePriv 63 3 = true ∧ s.get .sw (F.SEQ_QUEUE_B_CORE q) = 63 ∧
        ((s.core 63).sreg (wSa w)).toNat + 8192 ≤ 0x40000 ∧ (s.core 63).codeBytes ≤ ((s.core 63).sreg (wSa w)).toNat ∧
        (s.squeue q).recs = recs) ∧
    (∀ x ∈ [(1024, 0, 0, false), (1023, 0, 0, false), (1023, 1, 15, false), (1023, 1, 0, true)], let w := word 0x89 31 3 0 0 x.1
      let s := on (privAt 16 w 0x3FFE0 0) [(.sw, F.HIF_CQ_B_ENABLE 1023, x.2.1), (.sw, F.HIF_CQ_B_LOG2_DEPTH 1023, 4), (.sw, F.HIF_CQ_B_TAIL 1023, x.2.2.1)]
      runsAt s w 0x89 = true ∧ s.corePriv 63 4 = true ∧ ((s.core 63).sreg (wSa w)).toNat % 32 = 0 ∧
        ((s.core 63).sreg (wSa w)).toNat + 32 ≤ 0x40000 ∧ wImm w % 65536 = x.1 ∧ s.cqRoom 1023 = x.2.2.2) ∧
    (privAt 2 0 31 0).takesNap .sw 31 = false ∧
    (∀ op ∈ [0xA0, 0xA1], let w := word op (if op = 0xA0 then 0 else 31) 3 0 0 0
      runsAt (privAt 2 w 31 0) w op = true ∧ (privAt 2 w 31 0).corePriv 63 1 = true) ∧
    (∀ op ∈ [0x89, 0x99, 0x9A, 0x9B, 0xA0, 0xA1, 0xA4, 0xA5, 0xA6, 0xA7, 0xA9],
      let w := word op (if op = 0xA0 then 0 else 31) (if 0xA5 ≤ op ∧ op ≤ 0xA7 then 0 else 3) (if op = 0xA4 ∨ op = 0xA9 then 4 else 0) 0 0
      let s := privAt 0 w 0 0
      runsAt s w op = true ∧ (∀ b ∈ List.range 5, s.corePriv 63 b = false) ∧ (s.dev .sw).potHolder ≠ coreHolds 63) := by
  decide +kernel

/-- The Pot of core 63: empty, held by it, checked and passed, or another's; registers that are Pot registers and not. -/
theorem wit_WindowAndCounterInstructions_4 :
    (∀ x ∈ [(0, 0, false), (1, 0x7F, false), (3, 0x7F, true), (1, 1, false)],
      ∀ a ∈ [A.RED_WIN_A 255, A.CFG_POT_CTRL], let w := word 0xA4 31 3 4 0 (a / 2 ^ 24)
      let s := (on (privAt 1 w (a % 2 ^ 24) 5) [(.sw, F.CFG_POT_STATUS_STATE, x.1), (.sw, F.CFG_POT_STATUS_HOLDER, x.2.1)]).modDev .sw (fun v =>
        { v with potPassed := x.2.2 })
      runsAt s w 0xA4 = true ∧ s.corePriv 63 0 = true ∧ (s.core 63).potTaken = false ∧ (s.dev .sw).potState = x.1 ∧
        (s.dev .sw).potMay (coreHolds 63) = (x.2.1 == 0x7F) ∧ (s.dev .sw).potPassed = x.2.2 ∧
        (potReg .sw a 4).isSome = (a == A.RED_WIN_A 255) ∧ ∀ x ∈ potReg .sw a 4, potBits x.1 x.2 a 4 = true) ∧
    (∀ x ∈ potReg .sw (A.CDY_QUOTA_A 63 + 4) 4, potBits x.1 x.2 (A.CDY_QUOTA_A 63 + 4) 4 = false) ∧
    (∀ op ∈ [0xA5, 0xA6, 0xA7], let w := word op 31 0 0 0 0
      runsAt (privAt 1 w 0 0) w op = true) ∧
    (∀ imm ∈ [0, 1], let w := word 0xA9 31 3 4 0 imm
      runsAt (privAt 1 w 63 7) w 0xA9 = true) := by
  decide +kernel

/-- TAKE of a bad record before a good one, of another core's queue, and at places that are not aligned or not there; TAKE
without SERVICE; HCQ.POST at such places. -/
theorem wit_WindowAndCounterInstructions_5 :
    (∀ x ∈ [(63, 0x3E000), (62, 0x3E000), (63, 0x3E008), (63, 0x3E010)], let w := word 0x88 31 3 0 0 0
      let s := (on (privAt 8 w x.2 0) [(.sw, F.SEQ_QUEUE_B_CORE 0, x.1)]).setSqueue 0 ⟨2, [⟨0, 1, 0, 1, [1], 0⟩, ⟨1, 1, 0, 1, [2], 0⟩]⟩
      let sa := ((s.core 63).sreg (wSa w)).toNat
      runsAt s w 0x88 = true ∧ s.corePriv 63 3 = true ∧ wImm w % 16 = 0 ∧ s.get .sw (F.SEQ_QUEUE_B_CORE 0) = x.1 ∧
        (s.squeue 0).recs = [⟨0, 1, 0, 1, [1], 0⟩, ⟨1, 1, 0, 1, [2], 0⟩] ∧
        (sa % 16 = 0 ↔ x.2 ≠ 0x3E008) ∧ (0x40000 < sa + 8192 ↔ 0x3E000 < x.2)) ∧
    (let w := word 0x88 31 3 0 0 7
     runsAt (privAt 0 w 0 0) w 0x88 = true ∧ wImm w % 16 < 8 ∧ (privAt 0 w 0 0).corePriv 63 3 = false) ∧
    (∀ x ∈ [0x3FFE0, 0x3FFF0, 0x40000], let w := word 0x89 31 3 0 0 0
      let s := privAt 16 w x 0
      let sa := ((s.core 63).sreg (wSa w)).toNat
      runsAt s w 0x89 = true ∧ s.corePriv 63 4 = true ∧ (sa % 32 = 0 ↔ x ≠ 0x3FFF0) ∧ (sa + 32 ≤ 0x40000 ↔ x = 0x3FFE0)) := by
  decide +kernel

/-- TAKE of a bad record with no other behind it, with and without NOWAIT. -/
theorem wit_WindowAndCounterInstructions_6 : ∀ nowait ∈ [0, 16], let w := word 0x88 31 3 0 0 nowait
    let s := (on (privAt 8 w 0x3E000 0) [(.sw, F.SEQ_QUEUE_B_CORE 0, 63)]).setSqueue 0 ⟨1, [⟨0, 1, 0, 1, [1], 0⟩]⟩
    runsAt s w 0x88 = true ∧ wImm w % 16 = 0 ∧ s.corePriv 63 3 = true ∧ (s.squeue 0).recs = [⟨0, 1, 0, 1, [1], 0⟩] ∧
      bitOf (wImm w) 4 = (nowait == 16) := by
  decide +kernel

/-! ### Telemetry and management -/

/-- The windows are on; `room` of the ring, and a record that may still be being written. -/
def windowed (head busy : Nat) (s : State) : State :=
  (on s [(.sw, F.TEL_WIN_CFG_ENABLE, 1), (.sw, F.TEL_WIN_CFG_LOG2_ENTRIES, 4), (.sw, F.TEL_SNAP_RING_HEAD, head),
    (.sw, F.TEL_WIN_GROUPS_GROUPS, 1), (.sw, F.MEM_DRAM_CFG_RESV_TOP, 1)]).modDev .sw (fun v =>
      { v with tel := { v.tel with nextAt := 1000, busy := busy } })

theorem wit_SnapshotWindows :
    Up ready .sw ∧ Up ready .ep ∧ (ready.dev .ep).on F.TEL_WIN_CFG_ENABLE = false ∧
    (∀ head ∈ [14, 15], ∀ busy ∈ [1000, 1001], let v := (windowed head busy ready).dev .sw
      v.on F.TEL_WIN_CFG_ENABLE = true ∧ max (windowed head busy ready).now 999 < v.tel.nextAt ∧
        v.tel.nextAt ≤ max (windowed head busy ready).now 1000 ∧ v.tel.busy = busy ∧
        ringFull (v.get F.TEL_WIN_CFG_LOG2_ENTRIES) (v.get F.TEL_SNAP_RING_HEAD) (v.get F.TEL_SNAP_RING_TAIL) = (head == 15) ∧
        v.placed (v.get F.TEL_SNAP_BASE_BASE * 4096 + (64 + 512) * head) (64 + 512) = true ∧
        groupsOf (v.get F.TEL_WIN_GROUPS_GROUPS) = [0]) := by
  simp only [Up]; decide +kernel

/-- A management request of TYPE `type` from the controller, which is address 0. -/
def mreq (type : Nat) (body : List Byte) : MgmtReq :=
  ⟨false, 0, 0xB7FC, BitVec.ofNat 128 (0xB51A * 2 ^ 112 + 2 ^ 104 + type * 2 ^ 96 + 5 * 2 ^ 64 + body.length * 2 ^ 48 + 0xFFF * 2 ^ 32), body⟩

/-- The management port is on; a kept reply to request 5, or none. -/
def managed (kept : List KeptReply) : State :=
  (on ready [(.sw, F.HIF_MGMT_CTRL_ENABLE, 1), (.sw, F.HIF_MGMT_CTRL_IP4_EN, 1)]).modHif (fun q =>
    { q with replies := kept, events := [⟨5, [1], 1, 0⟩, ⟨6, [1], 10, 0⟩], i3cAddr := some 9 })

theorem wit_ManagementRequests :
    (∀ x ∈ [(0x01, [1, 2, 3, 4]), (0x01, []), (0x02, []), (0x02, [1]), (0x10, [63, 1]), (0x10, [64, 1]), (0x20, []), (0x20, [1])],
      MgmtNew (managed []) (mreq x.1 x.2) ∧ mh (mreq x.1 x.2).hdr 103 96 = x.1 ∧ (mreq x.1 x.2).body = x.2) ∧
    (∀ type ∈ [0x01, 0x02, 0x10, 0x20], (managed []).mgmtTakes { mreq type [] with src := 1 } = false ∧
      (managed []).mgmtTakes { mreq type [] with port := 1 } = false ∧
      (managed []).mgmtOn = true ∧ (managed []).get .sw F.CFG_BOOT_STATUS_STAGE ≠ 15 ∧
      (let r := mreq type []
       let k : KeptReply := ⟨0, 5, [.mgmt 0x7#128 [9]]⟩
       (managed [k]).mgmtTakes r = true ∧
         (managed [k]).sw.hif.replies.find? (fun k => k.src == r.src && k.seq == mh r.hdr 95 64) = some k)) ∧
    (mh (mreq 0xC0 []).hdr 103 96 = 0xC0 ∧ mh (mreq 0xC0 []).hdr 95 64 = 5 ∧ (managed []).mgmtTakes (mreq 0xC0 []) = true) ∧
    (∀ seq ∈ [5, 6], (managed []).sw.hif.events.find? (fun e => e.seq == seq) = some ⟨seq, [1], if seq = 5 then 1 else 10, 0⟩) ∧
    max (managed []).now 99999999 < 0 + 100000000 ∧ 0 + 100000000 ≤ max (managed []).now 100000000 ∧
    (managed []).get .sw F.HIF_MGMT_CTRL_IP4_EN = 1 ∧ (List.replicate 6 (0 : Byte)).length = 6 ∧ (List.replicate 4 (0 : Byte)).length = 4 ∧
    (managed []).sw.hif.i3cAddr ≠ none ∧ i3cReads A.CFG_DEVICE_ID = true ∧ i3cReads 1 = false := by
  simp only [MgmtNew]; decide +kernel

/-- A TYPE that is not listed, a snapshot request of another length; a port that is off or stopped; no I3C address. -/
theorem wit_ManagementRequests_2 :
    (∀ x ∈ [(0x00, [1]), (0x7F, []), (0x10, []), (0x10, [1])],
      MgmtNew (managed []) (mreq x.1 x.2) ∧ mh (mreq x.1 x.2).hdr 103 96 = x.1 ∧ (mreq x.1 x.2).body = x.2) ∧
    ready.mgmtOn = false ∧ (on (managed []) [(.sw, F.CFG_BOOT_STATUS_STAGE, 15)]).get .sw F.CFG_BOOT_STATUS_STAGE = 15 ∧
    (∀ e ∈ (managed []).sw.hif.events, e.seq ≠ 7) ∧ ready.sw.hif.i3cAddr = none := by
  simp only [MgmtNew]; decide +kernel

/-- The static address that the straps give, and another. -/
theorem wit_ManagementRequests_3 :
    (0x37 : Nat) < 128 ∧ (ready.modHif (fun h => { h with i3cStatic := 0x37 })).sw.hif.i3cStatic = 0x37 ∧ some 0x36 ≠ some 0x37 := by
  decide +kernel

/-! ### Tiers -/

/-- Tile 4095 of a directory of 4096, with a move under way or none. -/
def tiled (x : Tile) (ms : List Move) : State :=
  ((on ready [(.sw, F.MEM_DIR_TILES_TILES, 4096), (.sw, F.CDY_STATUS_STATE, 2)]).setTile 4095 x).modTiers (fun y => { y with moves := ms })

/-- A mapped tile of tenant 63 in a tier. -/
def tile1 (tier : Nat) : Tile := { Tile.unmapped with mapped := true, tenant := 63, tier := tier, floor := 3 }

theorem wit_TileMovesEnd :
    (∀ k ∈ [MoveKind.migrate, .demote, .writeback, .promote], ∀ st ∈ [none, some 7], let m : Move := ⟨4095, k, 2, 5, st, false⟩
      let s := tiled { tile1 1 with migrating := true } [m]
      (k ≠ .writeback → s.moveOf 4095 = some m) ∧ (st = some 7 → (k = .demote ∨ k = .writeback) → s.flashOf 4095 = some m) ∧ m.kind = k ∧ m.stripe = st ∧ s.get .sw F.CDY_STATUS_STATE = 2 ∧ (s.tile 4095).tenant < 64) ∧
    ((tiled { tile1 2 with copying := true } []).tile 4095).copying = true ∧ (tiled (tile1 2) []).moveOf 4095 = none ∧ (tiled (tile1 2) []).flashOf 4095 = none ∧
    ((tiled { tile1 2 with copying := true, stripe := 4 } []).modCaddy (fun c => { c with
      stripes := [(4, some ⟨4095, 1, true, []⟩)] })).caddy.stripe 4 = some ⟨4095, 1, true, []⟩ ∧
    ((tiled (tile1 2) []).tile 4095).copying = false := by
  decide +kernel

/-- Caddy of 2 superblocks of 4 stripes, with 2-codeword pages; superblock 0 holds a valid stripe and superblock 1 none or
one, with an erase count. -/
def flash (p : List (BufSlot × Nat)) (open_ : Option Nat) (f1 erases : Nat) (rw : List Nat) : State :=
  (on ready [(.sw, F.CDY_STATUS_STATE, 2), (.sw, F.CDY_CFG_ENABLE, 1), (.sw, F.CDY_GEOM_PAGE_CW, 2), (.sw, F.CDY_GEOM_PAGES, 2),
    (.sw, F.CDY_CFG_GC_LOW_PERCENT, 51), (.sw, F.CDY_CFG_WEAR_SPREAD, 1), (.sw, F.CDY_CFG_RD_LIMIT, 9), (.sw, F.CDY_GEOM_ENDURANCE, 1)]).modCaddy
    (fun c => { c with total := 2, page := p, open_ := open_, rewriting := rw,
                       sbs := [(0, ⟨[], 0, 0, 4, false, false⟩), (1, ⟨[(15, erases)], 0, 0, f1, false, false⟩)],
                       stripes := [(0, some ⟨9, 0, true, []⟩), (4, some ⟨8, 1, true, []⟩)] })

theorem wit_CaddyKeeps :
    (on (flash [] none 0 0 []) [(.sw, F.CDY_STATUS_STATE, 1)]).get .sw F.CDY_STATUS_STATE = 1 ∧
    (flash [] none 0 0 []).get .sw F.CDY_CFG_ENABLE ≠ 0 ∧ 4 ≤ bitsOf (4#64 <<< 16).toNat 23 16 ∧ bitsOf (3#64 <<< 16).toNat 23 16 < 4 ∧
    (let s := flash [(.pad, 0), (.pad, 0), (.tile 5 false, 10)] none 0 0 []
     s.get .sw F.CDY_GEOM_PAGE_CW = 2 ∧ s.caddy.page.drop (s.caddy.page.length / 2 * 2) = [(.tile 5 false, 10)] ∧
       max s.now 1000009 < 10 + 1000000 ∧ 10 + 1000000 ≤ max s.now 1000010) ∧
    (let s := (flash [(.tile 5 false, 0), (.tile 6 true, 0)] (some 1) 2 0 []).modTiers (fun y => { y with
         moves := [⟨5, .demote, 3, 0, none, true⟩, ⟨6, .writeback, 3, 0, none, true⟩] })
     2 ≤ s.caddy.page.length ∧ s.caddy.open_ = some 1 ∧ (∀ e ∈ s.caddy.page.take 2, (match e.1 with | .stripe _ => false | _ => true) = true) ∧
       s.caddy.page[0]? = some (.tile 5 false, 0) ∧ (s.caddy.page[1]?).map (fun e => e.1) = some (.tile 6 true) ∧
       s.moveOf 5 = some ⟨5, .demote, 3, 0, none, true⟩ ∧ s.wbOf 6 = some ⟨6, .writeback, 3, 0, none, true⟩ ∧ 0 < (s.caddy.sb 1).filled) ∧
    (let s := flash [] none 4 2 []
     s.get .sw F.CDY_STATUS_STATE = 2 ∧ 100 * s.caddy.freeCount < s.caddy.total * s.get .sw F.CDY_CFG_GC_LOW_PERCENT ∧
       s.heldSbs = [0, 1] ∧ s.heldSbs.filter (fun n => ! (s.validIn n).isEmpty) = [0, 1] ∧
       (let u := s.modCaddy (fun c => { c with total := 3 })
        u.caddy.isFree 2 = true ∧ u.caddy.wear = none ∧ u.heldSbs = [0, 1]) ∧ (s.caddy.sb 0).retried = false ∧
       (s.caddy.sb 0).worn + s.get .sw F.CDY_CFG_WEAR_SPREAD < (s.caddy.sb 1).worn ∧
       ¬ s.get .sw F.CDY_CFG_RD_LIMIT ≤ (s.caddy.sb 0).reads ∧ ¬ (s.caddy.sb 0).progAt + 2592000000000000 ≤ max s.now 0 ∧
       (s.caddy.sb 0).progAt + 2592000000000000 ≤ max s.now 2592000000000000) ∧
    (let s := (flash [] none 4 99 [1]).modCaddy (fun c => { c with stripes := [] })
     1 ∈ s.caddy.rewriting ∧ s.validIn 1 = [] ∧ s.get .sw F.CDY_GEOM_ENDURANCE * 100 ≤ SMap.at 0 (s.caddy.sb 1).erases 15 + 1) ∧
    (let s := (flash [] none 4 98 [1]).modCaddy (fun c => { c with stripes := [] })
     ∀ ch, ch < 16 → ¬ s.get .sw F.CDY_GEOM_ENDURANCE * 100 ≤ SMap.at 0 (s.caddy.sb 1).erases ch + 1) ∧
    (∀ u ∈ [2, 7], let s := tiled { tile1 (if u = 2 then 1 else 2) with loc := 3 } []
      s.tileAtPlace u (3 * 65536) = some 4095 ∧ (s.tile 4095).lost = false ∧ (s.tile 4095).migrating = false ∧
        (s.tile 4095).backed = false) ∧
    (let s := tiled (tile1 1) []
     4095 < s.dirTiles ∧ (16 * 4095 + 15) / 16 = s.get .sw F.MEM_DIR_BASE_BASE * 4096 + 4095) ∧
    (let s := ready.modDev .sw (fun v => { v with txns := [txn1 3] })
     s.sw.dev.txns[0]? = some (txn1 3) ∧ s.sw.dev.txns[1]? = none) := by
  decide +kernel

theorem only_last {P : Nat → Prop} (h : P 4095) : ∀ j, 4095 ≤ j → j < 4095 + 1 → P j := by
  intro j a b
  obtain rfl : j = 4095 := by omega
  exact h

theorem wit_TileCommands :
    4095 + 1 ≤ (tiled (tile1 0) []).dirTiles ∧
    (∀ j, 4095 ≤ j → j < 4095 + 1 → ((tiled Tile.unmapped []).tile j).mapped = false) ∧
    (∀ j, 4095 ≤ j → j < 4095 + 1 → ((tiled (tile1 2) []).tile j).mapped = true ∧ ((tiled (tile1 2) []).tile j).tenant = 63) ∧
    (∀ j, 4095 ≤ j → j < 4095 + 1 → ((tiled (tile1 2) []).tile j).shadow = false ∧ ((tiled (tile1 2) []).tile j).copying = false ∧
      (tiled (tile1 2) []).moveOf j = none) ∧
    (∀ j, 4095 ≤ j → j < 4095 + 1 → ((tiled (tile1 2) []).tile j).tier ≤ 2 ∧ ((tiled (tile1 2) []).tile j).tier ≠ 3) ∧
    ¬ (∀ j, 4095 ≤ j → j < 4095 + 1 → ((tiled Tile.unmapped []).tile j).mapped = true ∧ ((tiled Tile.unmapped []).tile j).tenant = 63) ∧
    (tiled Tile.unmapped []).dirTiles < 4096 + 1 :=
  ⟨by decide +kernel, only_last (by decide +kernel), only_last (by decide +kernel), only_last (by decide +kernel),
    only_last (by decide +kernel), fun h => absurd (h 4095 (by decide) (by decide)).1 (by decide +kernel), by decide +kernel⟩

theorem wit_TileCommands_2 :
    ∀ tier ∈ [1, 2, 3], ∀ dirty ∈ [false, true],
      let s := on (tiled { tile1 tier with dirty := dirty, backed := true } []) [(.sw, F.MEM_QUOTA_A_HOT_TILES 63, 1), (.sw, F.MEM_QUOTA_A_DRAM_TILES 63, 1)]
      4095 < s.dirTiles ∧ (s.tile 4095).mapped = true ∧ (s.tile 4095).tenant = 63 ∧ (s.tile 4095).shadow = false ∧
        (s.tile 4095).copying = false ∧ s.moveOf 4095 = none ∧ s.wbOf 4095 = none ∧ (s.tile 4095).tier = tier ∧ (s.tile 4095).floor = 3 ∧
        (s.tile 4095).pinned = false ∧ (s.tile 4095).dirty = dirty ∧ (s.tile 4095).backed = true ∧ s.quotaFree 1 63 = true ∧
        s.quotaFree 2 63 = true ∧ s.caddyTakes = true := by
  decide +kernel

/-- The state without the oldest record of queue 2. -/
def afterRec (s : State) : State := match s.dequeue 2 with | some (_, a) => a | none => s

/-- What `TierHead` asks, as a check. -/
def tierHeadIs (s : State) (type tenant r : Nat) : Bool :=
  s.tiers.inHand.isNone && (match s.dequeue 2 with
    | some (q, _) => decide (ofLe (q.data.take 1) = type) && decide (q.tenant = tenant) && decide (ofLe q.data = r)
    | none => false)

theorem tierHead_of {s : State} {type tenant r : Nat} (h : tierHeadIs s type tenant r = true) :
    TierHead s type tenant r (afterRec s) := by
  unfold tierHeadIs at h
  unfold afterRec
  simp only [Bool.and_eq_true, Option.isNone_iff_eq_none] at h
  refine ⟨h.1, ?_⟩
  split at h
  · next q a e => exact ⟨q, e, by simpa [and_assoc] using h.2⟩
  · exact absurd h.2 (by decide)

/-- A record of tenant 0 for one page at offset `at_`, of a TYPE, in the state `stored` makes: page 0 is mapped to tile 0. -/
def tierRec (type at_ op : Nat) : Nat := desc [type, at_, 1 * 2 ^ 32 + op * 2 ^ 24]
def tierState (r tiles : Nat) : State :=
  (on (stored (op1 0) 0 0) [(.sw, F.MEM_DIR_TILES_TILES, tiles), (.sw, F.MEM_DRAM_CFG_RESV_TOP, 2)]).setSqueue 2
    ⟨1, [⟨0, 1, 0, 4, leBytes 64 r, 0⟩]⟩ |>.modDev .sw (fun v => { v with mem := [(0x1000, 0x1E)] })

theorem wit_TierServiceAndSteps :
    (∀ type ∈ [0x20, 0x21, 0x22, 0x23], ∀ at_ ∈ [0, 2 ^ 30, 1], let r := tierRec type at_ 4
      tierHeadIs (tierState r 2) type 0 r = true ∧
        (let a := afterRec (tierState r 2)
         ((a.dev .sw).root 0).isSome = true ∧ a.recRange r = (at_ != 1) ∧ tOp r = 4 ∧ (a.dev .sw).waiting = [] ∧
           (type ≠ 0x20 → a.recTiles 0 r = if at_ = 0 then some [0] else none))) ∧
    (∀ tiles ∈ [1, 2], let r := tierRec 0x20 (2 ^ 30) 0
      let a := afterRec (tierState r tiles)
      (recPages r).any (fun p => (a.dev .sw).pageMapped 0 p) = false ∧
        (a.dirTiles < a.tiers.mappedTiles.length + tTiles r ↔ tiles = 1)) ∧
    4 < tOp (tierRec 0x23 0 5) ∧
    (let i : XInv := ⟨0, 0, 0, 1⟩
     let s := tierState (tierRec 0x21 0 0) 2
     let w : Walk := ⟨3, 0, 0, 0, false, true, false⟩
     s.translatedSw i = false ∧ (s.dev .sw).walks.any (fun z => z.stale) = false ∧ w.ends.stale = true ∧
       (s.modDev .sw (fun v => { v with waiting := [⟨.own ⟨0, 5, [], 0, 0, 0, 0⟩, .walk 1, some (5, 3), .clean⟩] })).translatedSw i = true) := by
  decide +kernel

/-- A step instruction's core, and a tile with a shadow. -/
def stepAt (op sa priv : Nat) (x : Tile) : State :=
  (on (coreAt 3 (word op 31 (if op = 0x98 then 0 else 3) 0 0 0) 8 sa 0) [(.sw, F.SEQ_CORE_STATUS_PRIV 63, priv), (.sw, F.MEM_STEP_STEP, 5)]).setTile 4095 x

theorem stepAt_runs :
    (∀ op ∈ [0x98, 0x99, 0x9A, 0x9B], ∀ sh ∈ [false, true], ∀ sa ∈ [5, 6],
      ∀ loc ∈ [0xFFFFFFFE, 0xFFFFFFFF, 7], let s := stepAt op sa 4 { tile1 2 with shadow := sh, shadowLoc := loc }
      let w := word op 31 (if op = 0x98 then 0 else 3) 0 0 0
      Runs s 63 w op ∧ s.corePriv 63 2 = true ∧ s.tiers.dir.any (fun e => e.2.shadow || e.2.copying) = sh ∧
        s.tiers.dir.any (fun e => e.2.copying) = false ∧
        (op ≠ 0x98 → (((s.core 63).sreg (wSa w)).toNat % 2 ^ 32 = s.get .sw F.MEM_STEP_STEP ↔ sa = 5))) := by
  simp only [Runs]; decide +kernel

theorem stepAt_dir :
    (∀ op ∈ [0x98, 0x99, 0x9A, 0x9B], ∀ sh ∈ [false, true], ∀ sa ∈ [5, 6],
      ∀ loc ∈ [0xFFFFFFFE, 0xFFFFFFFF, 7], let s := stepAt op sa 4 { tile1 2 with shadow := sh, shadowLoc := loc }
      (s.tiers.dir.map (fun e => e.1)).Pairwise (· < ·) ∧
        (∀ e ∈ s.tiers.dir, e.2.shadow = true → e.2.tenant < 64 ∧ e.2.freeDue = false ∧ e.2.policyDue = none)) := by
  decide +kernel

theorem wit_TierServiceAndSteps_2 :
    (∀ op ∈ [0x98, 0x99, 0x9A, 0x9B], ∀ sh ∈ [false, true], ∀ sa ∈ [5, 6],
      ∀ loc ∈ [0xFFFFFFFE, 0xFFFFFFFF, 7], let s := stepAt op sa 4 { tile1 2 with shadow := sh, shadowLoc := loc }
      let w := word op 31 (if op = 0x98 then 0 else 3) 0 0 0
      Runs s 63 w op ∧ s.corePriv 63 2 = true ∧ s.tiers.dir.any (fun e => e.2.shadow || e.2.copying) = sh ∧
        s.tiers.dir.any (fun e => e.2.copying) = false ∧
        (op ≠ 0x98 → (((s.core 63).sreg (wSa w)).toNat % 2 ^ 32 = s.get .sw F.MEM_STEP_STEP ↔ sa = 5)) ∧
        (s.tiers.dir.map (fun e => e.1)).Pairwise (· < ·) ∧
        (∀ e ∈ s.tiers.dir, e.2.shadow = true → e.2.tenant < 64 ∧ e.2.freeDue = false ∧ e.2.policyDue = none)) :=
  fun op ho sh hs sa ha loc hl =>
    have ⟨h1, h2, h3, h4, h5⟩ := stepAt_runs op ho sh hs sa ha loc hl
    ⟨h1, h2, h3, h4, h5, stepAt_dir op ho sh hs sa ha loc hl⟩

/-- A tile that is its only current copy, and one that flash also holds. -/
theorem wit_TileMovesEnd_2 :
    (∀ x ∈ [(false, false), (true, true), (true, false)],
      let s := tiled { tile1 1 with migrating := true, backed := x.1, dirty := x.2 } [⟨4095, .migrate, 2, 5, none, false⟩]
      s.moveOf 4095 = some ⟨4095, .migrate, 2, 5, none, false⟩ ∧
        (((s.tile 4095).backed = false ∨ (s.tile 4095).dirty = true) ↔ x ≠ (true, false)) ∧
        ((tiled { tile1 2 with copying := true, backed := x.1, dirty := x.2 } []).tile 4095).copying = true) ∧
    Ecc.clean ≠ .bad ∧ Ecc.fixed ≠ .bad := by
  decide +kernel

/-- A refresh that is a nanosecond beyond 30 days, and one that is not; superblocks with valid stripes; Caddy not READY;
THROTTLE 8. -/
theorem wit_CaddyKeeps_2 :
    (let s := flash [] none 4 2 []
     s.validSbs = [0, 1] ∧ s.throttle < 8 ∧ 0 ∉ s.caddy.rewriting ∧ 0 ∈ s.heldSbs ∧
       ¬ (s.caddy.sb 0).progAt + 2592000000000000 < max s.now 2592000000000000 ∧
       (s.caddy.sb 0).progAt + 2592000000000000 < max s.now 2592000000000001 ∧
       (s.caddy.sb 0).worn + s.get .sw F.CDY_CFG_WEAR_SPREAD < (s.caddy.sb 1).worn) ∧
    (on (flash [] none 4 2 []) [(.sw, F.CDY_STATUS_STATE, 1)]).get .sw F.CDY_STATUS_STATE ≠ 2 ∧
    (let s := on (flash [] none 0 0 []) [(.sw, F.PWR_CAP_STATUS_THROTTLE, 8)]
     8 ≤ s.throttle ∧ s.caddy.total * s.get .sw F.CDY_CFG_GC_LOW_PERCENT < 200 * 2) ∧
    (flash [(.pad, 0), (.pad, 0), (.tile 5 false, 10)] none 0 0 []).caddy.page.length ≤ 1024 := by
  decide +kernel

/-- A tile with a shadow, to be freed or given a STEPVER. -/
theorem wit_TierServiceAndSteps_3 :
    (∀ op ∈ [0x9A, 0x9B], ∀ free ∈ [true, false],
      let s := stepAt op 5 4 { tile1 2 with shadow := true, freeDue := free, policyDue := some true }
      let w := word op 31 3 0 0 0
      runsAt s w op = true ∧ s.corePriv 63 2 = true ∧ ((s.core 63).sreg (wSa w)).toNat % 2 ^ 32 = s.get .sw F.MEM_STEP_STEP ∧
        s.tiers.dir.any (fun e => e.2.copying) = false ∧ (s.tile 4095).shadow = true ∧ (s.tile 4095).freeDue = free ∧
        (s.tile 4095).policyDue = some true ∧ (s.tiers.dir.map (fun e => e.1)).Pairwise (· < ·)) ∧
    (let s := tiled { tile1 2 with shadow := true } []
     4095 < s.dirTiles ∧ (s.tile 4095).mapped = true ∧ (s.tile 4095).tenant = 63 ∧ (s.tile 4095).shadow = true) := by
  decide +kernel

/-! ### The host interface -/

/-- SQ 1023 and CQ 1023 of function 63, enabled or not, with rings of 16. -/
def queued1 (sq cq : Nat) : State :=
  on ready [(.sw, F.HIF_SQ_B_ENABLE 1023, sq), (.sw, F.HIF_SQ_B_FUNC 1023, 63), (.sw, F.HIF_SQ_B_LOG2_DEPTH 1023, 4),
    (.sw, F.HIF_SQ_B_CQ 1023, 1023), (.sw, F.HIF_CQ_B_ENABLE 1023, cq), (.sw, F.HIF_CQ_B_FUNC 1023, 63), (.sw, F.HIF_CQ_B_LOG2_DEPTH 1023, 4)]

/-- A word B that enables an SQ or a CQ of function 63. -/
def sqWord (conf : Nat) : Word := BitVec.ofNat 64 (2 ^ 63 + conf * 2 ^ 62 + 63 * 2 ^ 42 + 1023 * 2 ^ 32 + 4)
def cqWord (conf : Nat) : Word := BitVec.ofNat 64 (2 ^ 63 + conf * 2 ^ 62 + 63 * 2 ^ 48 + 4)

theorem wit_HostQueueControl :
    Up (queued1 1 1) .sw ∧
    (let s := queued1 1 1
     s.get .sw (F.HIF_SQ_B_FUNC 1023) = 63 ∧ s.get .sw (F.HIF_SQ_B_ENABLE 1023) = 1 ∧ 15 < 2 ^ s.get .sw (F.HIF_SQ_B_LOG2_DEPTH 1023) ∧
       ¬ 16 < 2 ^ s.get .sw (F.HIF_SQ_B_LOG2_DEPTH 1023) ∧
       s.get .sw (F.HIF_CQ_B_FUNC 1023) = 63 ∧ s.get .sw (F.HIF_CQ_B_ENABLE 1023) = 1 ∧ 15 < 2 ^ s.get .sw (F.HIF_CQ_B_LOG2_DEPTH 1023) ∧
       ¬ 16 < 2 ^ s.get .sw (F.HIF_CQ_B_LOG2_DEPTH 1023) ∧ s.get .sw (F.HIF_SQ_B_CQ 1023) = 1023) ∧
    (∀ conf ∈ [0, 1], ∀ mode ∈ [0, 1], let s := on (queued1 0 1) [(.sw, F.SEC_MODE_CONF, mode)]
      s.get .sw (F.HIF_SQ_B_ENABLE 1023) = 0 ∧ bitOf (sqWord conf).toNat 63 = true ∧ bitsOf (sqWord conf).toNat 47 42 = 63 ∧
        bitsOf (sqWord conf).toNat 62 62 = conf ∧ bitsOf (sqWord conf).toNat 41 32 = 1023 ∧ s.conf = (mode == 1) ∧
        bitsOf (cqWord conf).toNat 53 48 = 63 ∧ bitsOf (cqWord conf).toNat 62 62 = conf ∧ bitOf (cqWord conf).toNat 63 = true) ∧
    (queued1 0 0).get .sw (F.HIF_CQ_B_ENABLE 1023) = 0 ∧ bitOf (0#64).toNat 63 = false ∧
    (let s := (on (queued1 1 1) [(.sw, F.HIF_CQ_D_INT_US 1023, 7), (.sw, F.HIF_CQ_D_INT_COUNT 1023, 9)]).modHif (fun h =>
        { h with fresh := [(1023, (3, 50))] })
     SMap.at (0, 0) s.sw.hif.fresh 1023 = (3, 50) ∧ s.get .sw (F.HIF_CQ_D_INT_US 1023) ≠ 0 ∧ s.get .sw (F.HIF_CQ_D_INT_COUNT 1023) ≠ 0 ∧
       s.pcieStopped = false ∧ max s.now 7049 < 50 + 1000 * s.get .sw (F.HIF_CQ_D_INT_US 1023) ∧
       50 + 1000 * s.get .sw (F.HIF_CQ_D_INT_US 1023) ≤ max s.now 7050) := by
  simp only [Up]; decide +kernel

theorem wit_HostQueueControl_2 : ∀ d ∈ [Part.sw, .ep],
    Up ready d ∧ 0 < bitsOf (1#64 <<< 20).toNat 40 20 ∧ bitsOf (7#64).toNat 40 20 = 0 ∧ (ready.dev d).chanInv = none ∧
    ((ready.modDev d (fun v => { v with chanInv := some (3, 2) })).dev d).chanInv = some (3, 2) ∧
    5 ∈ ((ready.modDev d (fun v => { v with chanMiss := [5] })).dev d).chanMiss := by
  simp only [Up]; decide +kernel

/-- An entry of Table 13.5 with its opcode, flags and words 1, 3 and 4. -/
def entry (opc flags w1 w3 w4 : Nat) : Nat := desc [9 * 2 ^ 48 + opc * 2 ^ 40 + flags, w1, 0, w3, w4]

/-- A started command. -/
def cmd1 (num opc done aborted res : Nat) : Cmd :=
  { num := num, q := 1023, seq := 0, cid := num, entry := entry opc 0 0 (16 * 2 ^ 32) 3, slot := num, head := 0, step := 0, chan := raw7, bucket := 0,
    begun := done != 0, job := none, fence := none, emit := none, hstatus := 0, code := 0, result := BitVec.ofNat 64 res, done := done == 2,
    aborted := aborted != 0, silent := false, got := [] }

/-- The queues with started commands; one entry waits in the ring. -/
def commanded (cs : List Cmd) : State :=
  (on (queued1 1 1) [(.sw, F.HIF_SQ_B_STATE 1023, 1), (.sw, F.HIF_SQ_C_TAIL 1023, 1)]).modHif (fun h => { h with cmds := cs })

theorem wit_HostCommandsStartAndEnd :
    CanStart (commanded []) 1023 ∧ CanStart (commanded [cmd1 2 0 0 0 0]) 1023 ∧ (commanded [cmd1 2 0 0 0 0]).cmdsOf 1023 ≠ [] ∧
    hFence (entry 0 (2 ^ 39) 0 0 0) = true ∧ hFence (entry 0 0 0 0 0) = false ∧
    hBad 63 (entry 11 0 0 0 0) = true ∧ hBad 63 (entry 10 0 0 0 0) = false ∧ (commanded []).hDenied 63 (entry 10 0 0 0 0) = false ∧
    hUsesChan (hOpc (entry 10 0 0 0 0)) = false ∧
    hBad 63 (entry 8 0 0 0 0) = false ∧ (commanded []).hDenied 63 (entry 8 0 0 0 0) = true ∧
    (let c := cmd1 5 0 2 0 0
     let s := commanded [c]
     ((s.cmdsOf 1023).find? (fun c => c.slot == 5 && c.done && ! c.silent)) = some c ∧ s.get .sw (F.HIF_SQ_B_CQ 1023) = 1023 ∧
       s.cqRoom 1023 = true ∧ (on s [(.sw, F.HIF_CQ_B_TAIL 1023, 15)]).cqRoom 1023 = false ∧ hOpc c.entry ≠ Opc.GET ∧
       s.abortWaits c = false ∧ s.get .sw (F.HIF_CQ_B_CONF 1023) = 0 ∧ s.pcieStopped = false) := by
  simp only [CanStart]; decide +kernel

/-- A PUT whose channel is the tenant's, best effort or promised, another's, closed, or still to be fetched; a fenced switch;
queues that cannot start an entry; an interrupt timer with nothing to signal; a GET with data. -/
theorem wit_HostCommandsStartAndEnd_2 :
    (let e := entry 1 0 0 (16 * 2 ^ 32) 0
     hBad 63 e = false ∧ (commanded []).hDenied 63 e = false ∧ hUsesChan (hOpc e) = true ∧ hChan e = 0 ∧
       ((commanded []).dev .sw).fenced = false ∧ ((on (commanded []) [(.sw, F.TEL_MEMB_STATE_STATE, 3)]).dev .sw).fenced = true ∧
       ((commanded []).openEntry 1023 e = some e) ∧
       ((commanded []).useChan .sw 0).1 = .closed ∧
       (∀ raw ∈ [raw7, rawP], let s := (on (commanded []) [(.sw, F.HIF_CHAN_CFG_COUNT, 1)]).modDev .sw (fun v => { v with chans := [⟨0, raw⟩] })
         (s.useChan .sw 0).1 = .entry raw ∧ ((s.useChan .sw 0).2.dev .sw).bucketFor 0 0 (chanOf raw) ≠ none) ∧
       ((on (commanded []) [(.sw, F.HIF_CHAN_CFG_COUNT, 1)]).useChan .sw 0).1 = .miss) ∧
    ¬ CanStart (queued1 1 1) 1023 ∧
    ((commanded []).cmdsOf 1023).find? (fun c => c.slot == 5 && c.done && ! c.silent) = none ∧
    (let c := { cmd1 5 2 2 0 0 with got := [(0, [1])] }
     ((commanded [c]).cmdsOf 1023).find? (fun c => c.slot == 5 && c.done && ! c.silent) = some c ∧ hOpc c.entry = Opc.GET ∧ c.got ≠ [] ∧
       c.q = 1023 ∧ (commanded [c]).cqRoom 1023 = true ∧ (commanded [c]).abortWaits c = false) ∧
    (let c := cmd1 5 10 2 0 0
     let x := cmd1 3 6 1 1 0
     ((commanded [x, c]).cmdsOf 1023).find? (fun c => c.slot == 5 && c.done && ! c.silent) = some c ∧ (commanded [x, c]).abortWaits c = true) ∧
    (SMap.at (0, 0) ready.sw.hif.fresh 1023).1 = 0 ∧
    (∀ i ∈ List.range 11, ((commanded []).cmdsOf 1023).find? (fun c => hOpc c.entry == i && ! c.begun && ! c.done && ! c.silent) = none) ∧
    (∀ n ∈ [15, 16], let c := cmd1 5 1 0 0 0
      ((markLast (packetsOf (hAddr c.entry) (hLen c.entry))).takeWhile (fun p => decide (p.1.1 - hAddr c.entry + p.1.2 ≤
        ((commanded [c]).putData c (some (List.replicate n 0))).1.length)) = [] ↔ n = 15)) := by
  simp only [CanStart]; decide +kernel

theorem wit_HostCommandsRun :
    (∀ opc ∈ List.range 11, let c := cmd1 5 opc 0 0 0
      NextCmd (commanded [c]) 1023 opc c ∧ (commanded [c]).get .sw (F.HIF_SQ_B_CONF 1023) = 0 ∧ c.q = 1023 ∧ hLen c.entry = 16) ∧
    (let c := cmd1 5 10 0 0 0
     (((commanded [c]).cmdsOf 1023).all (fun x => x.num == c.num || x.cid != hValue c.entry % 2 ^ 16 || x.silent) = true) ∧
       (∀ x ∈ [cmd1 3 6 2 1 0, cmd1 3 6 2 0 0, cmd1 3 6 1 0 0],
         NextCmd (commanded [x, c]) 1023 10 c ∧
           ((commanded [x, c]).cmdsOf 1023).find? (fun x => x.num != c.num && x.cid == hValue c.entry % 2 ^ 16 && ! x.silent) = some x)) ∧
    (EarlierBegun (commanded [cmd1 5 6 0 0 0]) 1023 (cmd1 5 6 0 0 0) ∧
      (cmd1 4 1 0 0 0) ∈ (commanded [cmd1 4 1 0 0 0, cmd1 5 6 0 0 0]).cmdsOf 1023 ∧ NextCmd (commanded [cmd1 4 1 0 0 0, cmd1 5 6 0 0 0]) 1023 6 (cmd1 5 6 0 0 0) ∧
      ((cmd1 4 1 0 0 0).begun || (cmd1 4 1 0 0 0).done || (cmd1 4 1 0 0 0).silent) = false ∧ hRel (entry 3 (2 ^ 9) 0 0 0) = true) ∧
    ((cmd1 3 6 2 1 0).aborted = true ∧ (cmd1 3 6 2 0 0).aborted = false ∧ (cmd1 3 6 2 0 0).done = true ∧
      (cmd1 3 6 1 0 0).aborted = false ∧ (cmd1 3 6 1 0 0).done = false) := by
  simp only [NextCmd, EarlierBegun]; decide +kernel

/-- CQ 1023 that no SQ uses, and one that an enabled SQ uses; a channel entry in the switch's own memory. -/
theorem wit_HostQueueControl_3 :
    (let s := queued1 1 1
     1023 < 1024 ∧ s.get .sw (F.HIF_SQ_B_CQ 1023) = 1023 ∧ s.get .sw (F.HIF_SQ_B_ENABLE 1023) = 1) ∧
    (∀ k < 1024, (queued1 0 1).get .sw (F.HIF_SQ_B_CQ k) = 1023 → (queued1 0 1).get .sw (F.HIF_SQ_B_ENABLE k) = 0) ∧
    ready.get .sw F.HIF_CHAN_BASE_LOCATION = 0 ∧
    (on ready [(.sw, F.HIF_CHAN_BASE_LOCATION, 1)]).get .sw F.HIF_CHAN_BASE_LOCATION = 1 ∧ Ecc.fixed ≠ .bad := by
  decide +kernel

/-! ### The end-point -/

/-- A request of Table 14.3: its kind, SEL, local address, rows and value, to effective address 0 on channel 0. -/
def ereq (kind sel rows value lctr : Nat) : BitVec 512 :=
  BitVec.ofNat 512 (desc [kind * 2 ^ 56 + sel * 2 ^ 48, 0, 0, rows * 2 ^ 48 + rows * 2 ^ 32 + 16, lctr * 2 ^ 48, value])

/-- Engine 1023 of context 255 with its channel in the cache, or not, and a page that is cached. -/
def engineAt (en : Nat) (raw : Option Nat) : State :=
  (on ready [(.ep, F.EP_ENGINE_ENABLE 1023, en), (.ep, F.EP_ENGINE_MAX_OUT 1023, 1), (.ep, F.EP_ENGINE_CONTEXT 1023, 255),
    (.ep, F.EP_XLT_CTX_VALID 255, 1), (.ep, F.EP_CHAN_CFG_COUNT, 1), (.ep, F.EP_L2_REGION_B_SIZE, 65535)]).modDev .ep (fun v => { v with
      chans := (match raw with | some r => [⟨0, r⟩] | none => []), xcache := [⟨255, 0, 0, 0x10001⟩, ⟨255, 1, 0, 0x1E⟩] })

theorem wit_EngineRequestsRun :
    (∀ k ∈ [1, 2, 3, 4, 5, 6, 7, 8], let r := (ereq k (if k = 7 then 1 else 0) (if k = 3 ∨ k = 4 then 1 else 0) 7 5).toNat
      reqKind r = k ∧ badRequest r = false ∧ badRequest (r + 1) = true ∧ reqKind (r + 1) = k ∧
        (engineAt 0 none).engineCredit 1023 = false ∧ EngineReady (engineAt 1 none) 1023 ∧
        ((on (engineAt 1 none) [(.ep, F.TEL_MEMB_STATE_STATE, 3)]).dev .ep).fenced = true ∧
        ((engineAt 1 none).dev .ep).fenced = false ∧ EngineReady (on (engineAt 1 none) [(.ep, F.TEL_MEMB_STATE_STATE, 3)]) 1023 ∧
        reqChan r < ((engineAt 1 none).dev .ep).chanCount ∧ ((engineAt 1 none).dev .ep).chanBad.contains (reqChan r) = false ∧
        ((engineAt 1 none).dev .ep).chanMiss.contains (reqChan r) = false ∧ ((engineAt 1 none).dev .ep).chans = []) ∧
    (∀ k ∈ [1, 2, 3, 4, 5], let r := (ereq k 0 (if k = 3 ∨ k = 4 then 2 else 0) 7 5).toNat
      let s := engineAt 1 (some raw7)
      EngineReady s 1023 ∧ (s.dev .ep).chans.find? (fun e => e.chan == reqChan r) = some ⟨reqChan r, raw7⟩ ∧ chanOpen raw7 = true ∧
        (chanOf raw7).tenant = (s.dev .ep).engineTenant 1023 ∧ (chanOf raw7).promised = false ∧ (chanOf raw7).cacheable = false ∧
        reqOrd r ≠ 1 ∧ s.ep.weights = [] ∧
        (∀ p ∈ piecesOf r, (s.dev .ep).walk ((s.dev .ep).engineCtx 1023) p.ea (reqNeeds r) none = (.page p.ea 1, []))) ∧
    chanOpen 0 = false ∧ (chanOf (raw7 + 2 ^ 51)).tenant ≠ ((engineAt 1 none).dev .ep).engineTenant 1023 := by
  simp only [EngineReady]; decide +kernel

theorem wit_EngineRequestsRun_2 :
    reqSel (ereq 7 2 0 0 0).toNat = 2 ∧ reqSel (ereq 7 1 0 0 0).toNat = 1 ∧ badRequest (ereq 7 2 0 0 0).toNat = false ∧
    (∀ x ∈ [6, 7], let s := (engineAt 1 none).modDev .ep (fun v => v.setReg (A.MEM_LCTR 5) x)
      let r := (ereq 8 0 0 7 5).toNat
      reqLctr r ≠ 0 ∧ ((s.dev .ep).lctr (reqLctr r) < reqValue r % 2 ^ 48 ↔ x = 6)) ∧
    reqLctr (ereq 8 0 0 7 0).toNat = 0 := by
  decide +kernel

/-- A READ on a promised channel with a bucket to be had, and with none; no weight slot in the way. -/
theorem wit_EngineRequestsRun_3 :
    (∀ full ∈ [false, true], let raw := rawP
      let s := (engineAt 1 (some raw)).modDev .ep (fun v => { v with
        buckets := if full then List.replicate 4096 ⟨0, 7, 0, 0, false⟩ else [], chans := if full then v.chans ++ [⟨7, raw⟩] else v.chans })
      let r := (ereq 1 0 0 7 5).toNat
      EngineReady s 1023 ∧ (s.dev .ep).chans.find? (fun e => e.chan == reqChan r) = some ⟨reqChan r, raw⟩ ∧ chanOpen raw = true ∧
        (chanOf raw).tenant = (s.dev .ep).engineTenant 1023 ∧ (chanOf raw).promised = true ∧
        (((s.dev .ep).bucketFor 0 (reqChan r) (chanOf raw)).isSome = ! full) ∧
        (∀ p ∈ piecesOf r, (s.dev .ep).walk ((s.dev .ep).engineCtx 1023) p.ea (reqNeeds r) none = (.page p.ea 1, [])) ∧
        (∀ p ∈ piecesOf r, s.ep.weightCheck ((s.dev .ep).engineTenant 1023) 1 p.ea p.units = none)) := by
  simp only [EngineReady]; decide +kernel

/-- A write and a read that wait for the compute die. -/
def dying (op : Nat) : State := ready.modDev .ep (fun v => { v with waiting := [⟨.packet (inbox1 op), .die 7, some (64, 0), .clean⟩] })

/-- A weight segment whose two READs are in. -/
def segment1 (dead : Bool) (failed : Nat) : Segment := ⟨3, 4, 15, 9, 8192, 5, some [1], some [2], failed, dead, 77, 7, 3⟩

theorem wit_EndPointUnits :
    (∀ m ∈ [0, 7], ∀ up ∈ [0, 2 ^ m, 255], let s := on ready [(.ep, F.EP_UCIE_STATUS_MODULES_UP, up)]
      s.get .ep F.EP_UCIE_STATUS_MODULES_UP = up ∧ (bitOf up m = false ↔ up = 0)) ∧
    (∀ op ∈ [1, 3, 5], ((dying op).dev .ep).waiting.find? (fun w => w.on == .die 7) = some ⟨.packet (inbox1 op), .die 7, some (64, 0), .clean⟩) ∧
    (accessOf (inbox1 5).pkt = .amo 0 0xA5A5A5A5A5A5A5A5 0xA5A5A5A5A5A5A5A5 ∧ accessOf (inbox1 1).pkt = .read 0 ∧ accessOf (inbox1 3).pkt = .write (inbox1 3).pkt.pay (inbox1 3).pkt.hdr.byteEn.toNat) ∧
    (∀ x ∈ [(false, 0), (true, 0), (false, 6)], let g := segment1 x.1 x.2
      let w : WeightSlot := ⟨15, 1, 2, 0, 1, 0, 0⟩
      let s := ready.modEp (fun e => { e with segs := [g], weights := [w] })
      s.ep.segs.find? (fun g => g.slot == 15 && g.seg == 9 && g.data.isSome && g.tag.isSome) = some g ∧
        s.ep.weights.find? (fun w => w.slot == 15) = some w ∧ (g.dead = false ∧ g.failed = 0 ↔ x = (false, 0)) ∧ g.lctr ≠ 0 ∧ g.lctr < 65536) ∧
    ready.ep.weights = [] ∧ ready.get .ep F.MEM_RFAULT_CTRL_ENABLE = 0 ∧ Up ready .ep ∧ ready.ep.rcInv = none ∧
    ready.ep.ordReset = none ∧
    (let s := ready.modEp (fun e => { e with ordReset := some (4095, some (2 ^ 20 - 1)), rcInv := some (some 3) })
     s.ep.ordReset ≠ none ∧ s.ep.rcInv = some (some 3) ∧ s.ep.flights = []) ∧
    ready.ep.segs.find? (fun g => g.slot == 15 && g.seg == 9 && g.data.isSome && g.tag.isSome) = none ∧
    (let s := ready.modEp (fun e => { e with rcInv := some none, flights := [{ flight1 with stage := .inval }] })
     s.ep.rcInv = some none ∧ { flight1 with stage := .inval } ∈ s.ep.flights) := by
  simp only [Up]; decide +kernel

/-- TGET of 8 KiB rows on channel 0 to local address 0. -/
def rowsReq (rows : Nat) : BitVec 512 :=
  BitVec.ofNat 512 (desc [3 * 2 ^ 56, 0, 0, rows * 2 ^ 48 + 512 * 2 ^ 32 + 8192, 5 * 2 ^ 48, 7])

/-- INVAL RANGE with a page that is translated, and with one that is not; weights of another tenant; 33 bound segments, which
make 66 packets, and 32; rows of no bound range. -/
theorem wit_EngineRequestsRun_4 :
    (let r := (ereq 7 0 0 256 0).toNat
     let s := engineAt 1 none
     EngineReady s 1023 ∧ badRequest r = false ∧ (s.dev .ep).fenced = false ∧ reqKind r = 7 ∧ reqSel r = 0 ∧
       (∀ p ∈ piecesOf r, (s.dev .ep).walk ((s.dev .ep).engineCtx 1023) p.ea 0 none = (.page 0 1, [])) ∧ piecesOf r ≠ [] ∧
       (let u := on s [(.ep, F.EP_XLT_CTX_VALID 255, 0)]
        EngineReady u 1023 ∧ ∀ p ∈ piecesOf r,
          (u.dev .ep).walk ((u.dev .ep).engineCtx 1023) p.ea 0 none = (.fault XCause.NO_ROOT 0, []))) ∧
    (∀ x ∈ [(33, 0, 33), (32, 0, 32), (64, 2 ^ 30, 0), (1, 0, 1)], let r := (rowsReq x.1).toNat
      let s := (engineAt 1 (some raw7)).modEp (fun e => { e with weights := [⟨15, 1, 2, x.2.1, 64, 2 ^ 29, 0⟩] })
      EngineReady s 1023 ∧ badRequest r = false ∧ reqKind r = 3 ∧ reqChan r = 0 ∧ (s.dev .ep).engineTenant 1023 = 0 ∧
        (piecesOf r).length = x.1 ∧
        (∀ p ∈ piecesOf r, (s.dev .ep).walk ((s.dev .ep).engineCtx 1023) p.ea (reqNeeds r) none = (.page p.ea 1, []) ∧
          s.ep.weightCheck 0 3 p.ea p.units = none) ∧
        ((piecesOf r).filter (fun p => (s.ep.boundSlot p.ea (16 * p.units)).isSome)).length = x.2.2 ∧
        (64 < (piecesOf r).length + x.2.2 ∧ 0 < x.2.2 ↔ x.1 = 33)) ∧
    (let s := (engineAt 1 (some raw7)).modEp (fun e => { e with weights := [⟨15, 1, 2, 0, 64, 2 ^ 29, 9⟩] })
     EngineReady s 1023 ∧ (piecesOf (rowsReq 2).toNat).filterMap (fun p => s.ep.weightCheck 0 3 p.ea p.units) = Code.DENIED :: [Code.DENIED]) := by
  simp only [EngineReady]; decide +kernel

/-- An AMO whose read waits, whose new value waits, and what the compute die may do. -/
theorem wit_EndPointUnits_2 :
    (∀ x ∈ [0, 8], ((ready.modDev .ep (fun v => { v with waiting := [⟨.packet (inbox1 5), .die 7, some (64, x), .clean⟩] })).dev .ep).waiting.find?
      (fun w => w.on == .die 7) = some ⟨.packet (inbox1 5), .die 7, some (64, x), .clean⟩) ∧ 8 = 7 + 1 ∧
    (on ready [(.ep, F.EP_UCIE_STATUS_MODULES_UP, 0)]).get .ep F.EP_UCIE_STATUS_MODULES_UP = 0 ∧ (Config.dieAtomic 0 = true ∨ Config.dieAtomic 0 = false) := by
  refine ⟨by decide +kernel, rfl, by decide +kernel, ?_⟩
  cases Config.dieAtomic 0 <;> simp

/-! ### The island -/

/-- A machine whose part has session 5 with a role, open or not. -/
def sess (d : Part) (open_ : Bool) (tr : Nat) (r : Option Role) (f : Island → Island) : State :=
  ready.modIsl d (fun i => f { i with sessions := [⟨5, tr, open_, true, some 7, 9, r⟩] })

def x5 (r : Option Role) : Session := ⟨5, 0, true, true, some 7, 9, r⟩

/-- The first transport of a part. -/
def viaOf : Part → Transport
  | .sw => .doe
  | .ep => .attach

/-- A message of session 5, by DOE, over the attach, or in a management datagram. -/
def m5 (via : Transport) : SesMsg := ⟨5, via⟩

theorem wit_transports :
    Carries .sw .doe ∧ Carries .ep .attach ∧ Carries .sw (.mgmt (mreq 0x30 [])) ∧ Brought (managed []) (.mgmt (mreq 0x30 [])) ∧
    Brought ready .doe ∧ Brought ready .attach ∧ Brought State.reset .doe ∧ State.reset.attachOn = false ∧ (managed []).mgmtTakes { mreq 0x30 [] with port := 1 } = false ∧
    ((sess .sw true 0 none id).session .sw 5).any (fun x => x.tr != (Transport.mgmt (mreq 0x30 [])).num) = true := by
  refine ⟨.inl ⟨rfl, .inl rfl⟩, .inr ⟨rfl, rfl⟩, .inl ⟨rfl, .inr ⟨_, rfl, by decide +kernel⟩⟩,
    ⟨fun q h => ?_, fun h => nomatch h⟩, ⟨fun _ h => (nomatch h), fun h => nomatch h⟩,
    ⟨fun _ h => (nomatch h), fun _ => by decide +kernel⟩, ⟨fun _ h => (nomatch h), fun h => nomatch h⟩, by decide +kernel,
    by decide +kernel, by decide +kernel⟩
  obtain rfl : mreq 0x30 [] = q := Transport.mgmt.inj h
  simp only [MgmtNew]
  decide +kernel

theorem wit_IslandCommands :
    (∀ d ∈ [Part.sw, .ep],
      ready.session d 5 = none ∧ (sess d false 0 none id).session d 5 = some { x5 none with open_ := false } ∧
      (let s := sess d true 0 none (fun i => { i with removing := [(3, m5 .doe)] })
       s.session d 5 = some (x5 none) ∧ (s.isl d).removing ≠ []) ∧
      (∀ r ∈ [none, some Role.owner, some (.tenant 63)], Session_ (sess d true (viaOf d).num r id) d (m5 (viaOf d)) { x5 r with tr := (viaOf d).num })) ∧
    ((x5 none).may .owner = false ∧ (x5 none).may (.ownerOr 63) = false ∧ (x5 none).may (.tenant 63) = false ∧ (x5 none).may .any = true ∧
      (x5 (some .owner)).may .owner = true ∧ (x5 (some .owner)).may (.ownerOr 63) = true ∧ (x5 (some (.tenant 63))).may (.tenant 63) = true ∧
      (x5 (some (.tenant 63))).may (.ownerOr 63) = true ∧ (x5 (some .owner)).may (progCred 0) = true ∧
      (x5 (some (.tenant 63))).may (progCred 63) = true) ∧
    IslandCmd (m5 .attach) true 63 7 1 2 0 .ep (.weightKeyPut (m5 .attach) true 7 1 2 2 1 63 0) .any ∧
    IslandCmd (m5 .attach) true 63 7 1 2 0 .sw (.tenantCreate (m5 .attach) true 63 7 0) .owner ∧
    IslandCmdEnds (m5 .attach) true 63 0 .sw (.tenantRemove (m5 .attach) true 63 0) (.ownerOr 63) ∧
    IslandCmdEnds (m5 .attach) true 63 0 .ep (.weightKeyDestroy (m5 .attach) true 63 0) .any := by
  refine ⟨by simp only [Session_]; decide +kernel, by decide +kernel, .inr ⟨rfl, rfl, rfl⟩, .inl ⟨rfl, .inr (.inl ⟨rfl, rfl⟩)⟩,
    .inl ⟨rfl, .inr (.inl ⟨rfl, rfl⟩)⟩, .inr ⟨rfl, rfl, rfl⟩⟩

/-- The switch's island with session 5 of the owner, tenant 63 there or not, and a held epoch or none. -/
def owned (ex held : Nat) (f : Island → Island) : State :=
  on (sess .sw true 0 (some .owner) f) [(.sw, F.SEC_TENANT_EXISTS 63, ex), (.sw, F.SEC_TENANT_PREV_HELD 63, held)]

theorem wit_IslandCommands_2 :
    (∀ ex ∈ [0, 1], ∀ held ∈ [0, 1], let s := owned ex held id
      Session_ s .sw (m5 .doe) (x5 (some .owner)) ∧ s.exists_ 63 = (ex == 1) ∧ s.get .sw (F.SEC_TENANT_PREV_HELD 63) = held) ∧
    ((x5 none).tr = 0 ∧ ({ x5 none with tr := 1 }).tr ≠ 0 ∧ ((owned 0 0 id).isl .sw).owner = none ∧
      ((owned 0 0 (fun i => { i with owner := some 7 })).isl .sw).owner ≠ none ∧
      Session_ (sess .sw true 1 none id) .sw (m5 (.mgmt (mreq 0x30 []))) { x5 none with tr := 1 }) ∧
    ((owned 1 0 id).conf = false ∧ (on (owned 1 0 id) [(.sw, F.SEC_MODE_CONF, 1)]).conf = true ∧
      (∀ j, j < 64 → (owned 0 0 id).exists_ j = false)) ∧
    (let s := owned 1 1 (fun i => { i with progKeys := [(63, [1, 2])], masters := [(63, some 4)], minima := [(9, 5)] })
     s.exists_ 63 = true ∧ 3 ∉ SMap.at [] (s.isl .sw).progKeys 63 ∧ 2 ∈ SMap.at [] (s.isl .sw).progKeys 63 ∧
       (SMap.at [] (s.isl .sw).progKeys 63).length < 8 ∧ SMap.at none (s.isl .sw).masters 63 = some 4 ∧
       SMap.at none (s.isl .sw).masters 62 = none ∧ (s.isl .sw).minima.length < 1024) ∧
    (let s := (on (owned 1 1 id) [(.sw, F.SEC_TENANT_PREV_EPOCH 63, 3), (.sw, F.HIF_SQ_B_FUNC 1023, 63), (.sw, F.HIF_SQ_B_ENABLE 1023, 1)]).modHif
       (fun h => { h with queueKeys := [(1023, some (3, 7))] })
     s.get .sw (F.HIF_SQ_B_FUNC 1023) = 63 ∧ s.get .sw (F.HIF_SQ_B_ENABLE 1023) = 1 ∧
       (SMap.at none s.sw.hif.queueKeys 1023).map (fun x => x.1) = some (s.get .sw (F.SEC_TENANT_PREV_EPOCH 63))) := by
  simp only [Session_]; decide +kernel

/-- A minimum version that may be raised, and one that may not be lowered. -/
theorem wit_IslandCommands_3 :
    ((owned 1 0 (fun i => { i with minima := [(9, 5)] })).isl .sw).minOf 9 ≤ 2 ^ 32 - 1 ∧
    4 < ((owned 1 0 (fun i => { i with minima := [(9, 5)] })).isl .sw).minOf 9 := by
  have h : SMap.at 0 ((owned 1 0 (fun i => { i with minima := [(9, 5)] })).isl .sw).minima 9 = 5 := by decide +kernel
  unfold Island.minOf
  rw [h, if_neg (by omega)]
  omega

theorem wit_IslandCommands_4 : (owned 1 0 id).removable 63 = true := by decide +kernel

theorem wit_IslandCommands_5 :
    (on (owned 1 0 id) [(.sw, F.RED_WIN_A_TENANT 255, 63), (.sw, F.RED_WIN_STATUS_STATE 255, 1)]).removable 63 = false := by
  decide +kernel

theorem wit_IslandCommands_6 :
    (owned 1 0 id).confReady = true ∧ (on (owned 1 0 id) [(.sw, F.SEC_MODE_DEBUG_OPEN, 1)]).confReady = false := by
  decide +kernel

theorem wit_IslandCommands_7 :
    (let s := (owned 1 0 (fun i => { i with removing := [(63, m5 .doe)] })).setTile 4095 (tile1 2)
     (s.tiers.dir.map (fun e => e.1)).Pairwise (· < ·) ∧ (s.isl .sw).removing.find? (fun y => y.1 == 63) = some (63, m5 .doe) ∧
       (s.tile 4095).mapped = true ∧ (s.tile 4095).tenant = 63) ∧
    (∀ n ∈ [0, 1, 16], let s := (sess .ep true 2 none id).modEp (fun e => { e with
        weights := (List.range n).map (fun j => ⟨j, 1, j, 81920 * j, 1, 0, 0⟩) })
      Session_ s .ep (m5 .attach) { x5 none with tr := 2 } ∧
        (s.ep.weights.any (fun w => decide (8192 < w.base + 8192 * w.size) && decide (w.base < 8192 + 8192 * 1))) = false ∧
        (n ≠ 0 → (s.ep.weights.any (fun w => decide (0 < w.base + 8192 * w.size) && decide (w.base < 0 + 8192 * 1))) = true) ∧
        ((∀ j < 16, j ∈ s.ep.weights.map (fun w => w.slot)) ↔ n = 16)) := by
  simp only [Session_]; decide +kernel

theorem wit_SpdmResponder :
    (∀ x ∈ [(Part.sw, 0), (.sw, 1), (.ep, 2)], ∀ st ∈ [0, 1, 2, 3], ∀ n ∈ [0, 1, 4],
      let s := ready.modIsl x.1 (fun i => { i with stage := SMap.put 0 [] x.2 st, sessions := List.replicate n ⟨5, 9, true, true, some 7, 9, none⟩ })
      (s.isl x.1).stageOf x.2 = st ∧ (∀ y ∈ (s.isl x.1).sessions, y.tr ≠ x.2) ∧ ((s.isl x.1).sessions.length < 4 ↔ n ≠ 4)) ∧
    (∀ tr ∈ [0, 1], ∃ y ∈ ((sess .sw true tr none id).isl .sw).sessions, y.tr = tr) ∧
    (∀ n ∈ [0, 7, 255], (ready.measurement .sw n).isNone = true) ∧ (ready.measurement .ep 5).isSome = true ∧
    SMap.at none ((ready.modIsl .sw (fun i => { i with signed := [(1, some 3)] })).isl .sw).signed 1 = some 3 ∧
    SMap.at none (ready.isl .sw).signed 1 = none ∧
    (∀ b ∈ [false, true], (sess .sw b 0 none id).session .sw 5 = some { x5 none with open_ := b }) ∧
    (x5 none).cred ≠ some (envKey []) ∧ envVerifies [] 4 9 = false ∧
    ((sess .sw true 0 none (fun i => { i with owner := some 7 })).isl .sw).roleOf 7 = some .owner := by
  decide +kernel

/-- A key that is held already; minimums that are all in use; a removal that there is none of; a slot that does not exist; a
session not yet established, none, and one of another transport. -/
theorem wit_IslandCommands_8 :
    (let s := owned 1 0 (fun i => { i with progKeys := [(63, [9])], minima := [(9, 5)] })
     s.exists_ 63 = true ∧ 9 ∈ SMap.at [] (s.isl .sw).progKeys 63 ∧ SMap.at 0 (s.isl .sw).minima 9 ≠ 0) ∧
    (let i := { Island.initial with minima := List.replicate 1024 (9, 5) }
     1024 ≤ i.minima.length ∧ SMap.at 0 i.minima 8 = 0) ∧
    ((owned 1 0 id).isl .sw).removing.find? (fun y => y.1 == 63) = none ∧
    (∀ d ∈ [Part.sw, .ep], ready.session d (m5 (viaOf d)).id = none ∧
      (sess d true 1 none id).session d (m5 (viaOf d)).id = some { x5 none with tr := 1 } ∧ 1 ≠ (viaOf d).num ∧
      (sess d false (viaOf d).num none id).session d (m5 (viaOf d)).id = some { x5 none with tr := (viaOf d).num, open_ := false }) := by
  decide +kernel

/-- Tenant 0; a CQ whose key is of the epoch that goes; a Pot that stages LOCATION 1. -/
theorem wit_IslandCommands_9 :
    (x5 (some .owner)).may (.ownerOr 0) = true ∧ (owned 1 0 id).exists_ 0 = false ∧
    (let s := (on (owned 1 1 id) [(.sw, F.SEC_TENANT_PREV_EPOCH 63, 3), (.sw, F.HIF_CQ_B_FUNC 1023, 63), (.sw, F.HIF_CQ_B_ENABLE 1023, 1)]).modHif
       (fun h => { h with queueKeys := [(2047, some (3, 7))] })
     s.exists_ 63 = true ∧ s.get .sw (F.SEC_TENANT_PREV_HELD 63) = 1 ∧ s.get .sw (F.HIF_CQ_B_FUNC 1023) = 63 ∧
       (SMap.at none s.sw.hif.queueKeys 2047).map (fun x => x.1) = some (s.get .sw (F.SEC_TENANT_PREV_EPOCH 63))) ∧
    (let s := (owned 1 0 id).modDev .sw (fun v => { v with staged := [(A.HIF_CHAN_BASE, 1)] })
     s.confReady = true ∧ (s.dev .sw).pot F.HIF_CHAN_BASE_LOCATION = 1 ∧ ((owned 1 0 id).dev .sw).pot F.HIF_CHAN_BASE_LOCATION = 0) := by
  decide +kernel

/-! ### Membership -/

/-- A record body: KIND, ORIGIN, OSEQ, CSEQ and its low bits. -/
def hb (kind origin oseq cseq low : Nat) : HbBody :=
  BitVec.ofNat 256 (kind * 2 ^ 252 + origin * 2 ^ 240 + oseq * 2 ^ 224 + cseq * 2 ^ 144 + low)

/-- A part in a membership state with its last port ACTIVE; the decisions applied end at 5. -/
def heardAt (d : Part) (mb : Nat) (f : Memb → Memb) : State :=
  (on (linked 2) [(d, F.TEL_MEMB_STATE_STATE, mb), (d, F.TEL_MEMB_STATE_CSEQ, 5)]).modMemb d f

/-- The last port of a part. -/
def lastPort : Part → Nat
  | .sw => 31
  | .ep => 3

theorem wit_MembershipRecords : ∀ d ∈ [Part.sw, .ep], ∀ kind ∈ [0, 1, 2, 3, 4, 5, 6, 7, 8], ∀ mb ∈ [1, 2, 4],
    lastPort d < linkPorts d ∧ Hears (heardAt d mb id) d (lastPort d) (hb kind 9 3 6 0) kind ∧
      (heardAt d mb id).takes d (hb kind 9 3 6 0) = true ∧
      ((heardAt d mb (fun m => { m with taken := [(9, some 3)] })).takes d (hb kind 9 3 6 0)) = false ∧
      ((heardAt d mb id).outside d = true ↔ mb ≠ 2) := by
  simp only [Hears]; decide +kernel

/-- CSEQs next, applied, ahead and behind, at their bounds; a BEAT's likewise. -/
theorem wit_MembershipRecords_2 : ∀ d ∈ [Part.sw, .ep],
    (linked 0).lnk d (lastPort d) ≠ Lnk.ACTIVE ∧ (heardAt d 3 id).membState d = Mb.FENCED ∧
    (heardAt d 3 id).lnk d (lastPort d) = Lnk.ACTIVE ∧ (heardAt d 2 id).membState d = Mb.MEMBER ∧
    ((heardAt d 2 id).memb d).future = [] ∧ ((heardAt d 2 id).port d (lastPort d)).catchUp = none ∧
    (∀ x ∈ [(6, 1), (5, 0), (7, 2), (32772, 32767), (32773, 32768)],
      (hbCseq (hb 8 9 3 x.1 0) + 65536 - (heardAt d 2 id).cseq d) % 65536 = x.2) ∧
    (∀ x ∈ [(5, 0), (4, 1), (32774, 32767), (32773, 32768), (70, 65471), (69, 65472)],
      hbBits (hb 0 9 3 x.1 (2 * 2 ^ 139)) 141 139 = Mb.MEMBER ∧
        ((heardAt d 2 id).cseq d + 65536 - hbCseq (hb 0 9 3 x.1 (2 * 2 ^ 139))) % 65536 = x.2) := by
  decide +kernel

/-- The last decision applied at a member is kept, or no longer kept. -/
theorem wit_MembershipRecords_3 :
    (let x := hb 8 9 2 5 0
     hbCseq x = (hbCseq (hb 0 9 3 4 0) + 1) % 65536 ∧ hbCseq x ≠ (hbCseq (hb 0 9 3 3 0) + 1) % 65536) ∧
    hbAct (hb 8 9 3 6 (2 * 2 ^ 140)) = 2 ∧ hbActStep (hb 8 9 3 6 (2 * 2 ^ 140 + 77 * 2 ^ 108)) = 77 ∧
    admits (hb 8 9 3 6 (2 ^ 140 + 2 ^ 136 + 2 ^ 12)) 0 = true ∧ admits (hb 8 9 3 6 (2 ^ 140)) 0 = false := by
  decide +kernel

/-- A decision to catch up with that is no longer kept. -/
theorem wit_MembershipRecords_5 : ∀ d ∈ [Part.sw, .ep],
    (let s := (heardAt d 2 id).modPort d (lastPort d) (fun q => { q with catchUp := some 5 })
     let s := on s [(d, F.TEL_MEMB_CFG_HB_US, 9)]
     (s.port d (lastPort d)).catchUp = some 5 ∧ (s.memb d).applied = [] ∧
       (s.port d (lastPort d)).catchUpAt + s.get d F.TEL_MEMB_CFG_HB_US * 1000 ≤ max s.now 9000) := by
  decide +kernel

/-- A port that is catching up, and one that is silent. -/
theorem wit_MembershipRecords_4 : ∀ d ∈ [Part.sw, .ep],
    (let s := ((heardAt d 2 (fun m => { m with applied := [hb 8 9 2 5 0] })).modPort d (lastPort d) (fun q => { q with catchUp := some 5 }))
     let s := on s [(d, F.TEL_MEMB_CFG_HB_US, 9), (d, F.TEL_MEMB_CFG_HB_MISS, 3)]
     (s.port d (lastPort d)).catchUp = some 5 ∧ s.lnk d (lastPort d) = Lnk.ACTIVE ∧
       max s.now 8999 < (s.port d (lastPort d)).catchUpAt + s.get d F.TEL_MEMB_CFG_HB_US * 1000 ∧
       (s.port d (lastPort d)).catchUpAt + s.get d F.TEL_MEMB_CFG_HB_US * 1000 ≤ max s.now 9000 ∧
       ((s.memb d).applied.find? (fun y => hbCseq y == 5)).isSome = true ∧ s.membState d ≠ Mb.OFF ∧
       (s.port d (lastPort d)).heardAt + s.get d F.TEL_MEMB_CFG_HB_MISS * s.get d F.TEL_MEMB_CFG_HB_US * 1000 ≤ max s.now 27000 ∧
       ((s.dev d).node, s.partner d (lastPort d), 2) ∉ (s.memb d).accusations) ∧
    ready.membState d = Mb.OFF := by
  decide +kernel

/-- The coordinator, node 0 of one switch, whose renewal is due; it is young, old, or its lease is held. -/
def leasing (rs : List Renewal) : State :=
  (on ready [(.sw, F.TEL_MEMB_STATE_STATE, 2), (.sw, F.TEL_MEMB_CFG_LEASE_US, 10), (.sw, F.TEL_MEMB_COORD_COUNT, 1)]).modMemb .sw
    (fun m => { m with renewals := rs }) |>.modDev .sw (fun v => v.setReg (A.TEL_MEMB_SWITCHES 0) 1)

theorem wit_MembershipDecides :
    (leasing []).coordinates = true ∧ ((leasing []).dev .sw).memb.renewals = [] ∧
    (let s := leasing [⟨3, 0, []⟩]
     s.coordinates = true ∧ (s.dev .sw).memb.renewAt + s.leaseNs / 4 ≤ max s.now 2500 ∧
       (∀ r ∈ (s.dev .sw).memb.renewals, max s.now 9999 < r.at_ + s.leaseNs) ∧
       ¬ (∀ r ∈ (s.dev .sw).memb.renewals, max s.now 10000 < r.at_ + s.leaseNs) ∧ (s.tick 10000).leaseHeld = false) ∧
    ((leasing [⟨3, 0, [(0, 5)]⟩]).tick 10005).leaseHeld = true ∧ ¬ (on (leasing []) [(.sw, F.TEL_MEMB_STATE_STATE, 1)]).coordinates = true ∧
    (let s := on (leasing []) [(.sw, F.TEL_MEMB_STATE_COORD, 9)]
     s.membState .sw = Mb.MEMBER ∧ s.coord .sw ≠ (s.dev .sw).node ∧
       (s.dev .sw).candidates.find? (fun n => n != s.coord .sw && (s.dev .sw).member n) = some (s.dev .sw).node ∧
       (s.dev .sw).memb.coordAt + 2 * s.leaseNs ≤ max s.now 20000 ∧ max s.now 19999 < (s.dev .sw).memb.coordAt + 2 * s.leaseNs) := by
  decide +kernel

/-- The oldest record of queue 1, of a TYPE; a plan's table is the first page of the store. -/
def stepState (x : Nat) : State := (stored (op1 0) 0 0).setSqueue 1 ⟨1, [⟨0, 1, 0, 4, leBytes 64 x, 0⟩]⟩

def stepHeadIs (s : State) (type x : Nat) : Bool :=
  match s.dequeue 1 with
  | some (r, _) => decide (ofLe r.data = x) && decide (x % 256 = type) && decide (r.tenant = 0)
  | none => false

theorem wit_MembershipDecides_2 :
    (let x := 0x30 + 5 * 2 ^ 32 + 1 * 2 ^ 128
     stepHeadIs (stepState x) 0x30 x = true ∧ bitsOf x 127 64 / 2 ^ 52 = ((stepState x).dev .sw).node ∧
       (let b := (stepState x).readOwn 0 (((stepState x).dev .sw).step % 256) (packetsOf (bitsOf x 127 64 % 2 ^ 52) (16 * bitsOf x 143 128)) []
        b.2.isSome = true ∧ (b.1.dequeue 1).isSome = true ∧ b.1.sw.stepCtl.ended = [] ∧ (b.1.dev .sw).dead 0 = false)) ∧
    (∀ x ∈ [0x31 + 5 * 2 ^ 32, 0x31 + 5 * 2 ^ 32 + 2 ^ 76, 0x31 + 2 ^ 76], stepHeadIs (stepState x) 0x31 x = true ∧
      (stepState x).sw.stepCtl.stepN = 0) ∧
    stepHeadIs (stepState 0x32) 0x32 0x32 = true ∧
    (let s := (on ready [(.sw, F.MEM_SEM_CTRL_DEAD_US, 3)]).modStep (fun c => { c with replayAt := some 10 })
     s.sw.stepCtl.replayAt = some 10 ∧ 10 + s.get .sw F.MEM_SEM_CTRL_DEAD_US * 1000 ≤ max s.now 3010 ∧
       max s.now 3009 < 10 + s.get .sw F.MEM_SEM_CTRL_DEAD_US * 1000) ∧ ready.sw.stepCtl.replayAt = none := by
  decide +kernel

theorem wit_MembershipDecides_3 : ∀ d ∈ [Part.sw, .ep], ∀ st ∈ [0, 1, 2, 3],
    (let s := (on (heardAt d 1 (fun m => { m with joinAt := some 10 })) [(d, F.TEL_REPAIR_TEST_STATE, st)])
     s.barOn d = true ∧ s.get d F.TEL_REPAIR_TEST_STATE = st ∧ s.lnk d (lastPort d) = Lnk.ACTIVE ∧ s.outside d = true ∧
       (s.memb d).joinAt = some 10 ∧ 10 + 1000000 ≤ max s.now 1000010 ∧ max s.now 1000009 < 10 + 1000000) ∧
    (heardAt d 2 id).outside d = false := by
  decide +kernel

/-- A plan whose table lies at another node, or that a record of another TYPE stands before; a device that sends no JOIN. -/
theorem wit_MembershipDecides_5 :
    (let x := 0x30 + 5 * 2 ^ 32 + 9 * 2 ^ 116
     stepHeadIs (stepState x) 0x30 x = true ∧ bitsOf x 127 64 / 2 ^ 52 ≠ ((stepState x).dev .sw).node) ∧
    (ready.squeue 1).recs = [] ∧
    (((stepState 0x32).squeue 1).recs.map (fun r => ofLe r.data % 256) = [0x32]) ∧
    (∀ d ∈ [Part.sw, .ep], (heardAt d 1 id).outside d = true ∧ ((heardAt d 1 id).memb d).joinAt = none) := by
  decide +kernel

/-- A switch that may form, and a coordinator with a node that has joined. -/
theorem wit_MembershipDecides_4 :
    (let s := on (leasing []) [(.sw, F.TEL_MEMB_STATE_STATE, 1)]
     let v := s.dev .sw
     v.get F.TEL_MEMB_COORD_CAND0 = v.node ∧ v.memb.committed = [] ∧ s.epoch .sw = 0 ∧ v.memb.formed = false ∧ s.outside .sw = true ∧
       v.stepSwitches.length < 2 * ((v.node :: v.memb.joins).eraseDups.filter (fun n => v.stepSwitches.contains n)).length) ∧
    (on ready [(.sw, F.TEL_MEMB_COORD_CAND0, 9)]).get .sw F.TEL_MEMB_COORD_CAND0 ≠ (ready.dev .sw).node ∧
    ((leasing []).modMemb .sw (fun m => { m with joins := [7] })).coordinates = true ∧ (ready.dev .sw).memb.joins = [] ∧
    ready.coordinates = false ∧ Up ready .sw ∧ Up ready .ep := by
  simp only [Up]; decide +kernel

/-- A FENCED device that hears a record; a partner that is not HELD, and one that is at a device outside. -/
theorem wit_MembershipRecords_6 : ∀ d ∈ [Part.sw, .ep], ∀ kind ∈ [0, 1, 2, 3, 4, 5, 6, 7, 8],
    Hears (heardAt d 3 id) d (lastPort d) (hb kind 9 3 6 0) kind ∧ (heardAt d 3 id).membState d = Mb.FENCED ∧
      (heardAt d 3 id).takes d (hb kind 9 3 6 0) = true ∧
      Hears (on (heardAt d 1 id) [(d, F.LNK_STATUS_HELD (lastPort d), 1)]) d (lastPort d) (hb kind 9 3 6 0) kind := by
  simp only [Hears]; decide +kernel

/-- A BEAT that is due at its bound, and one that is not. -/
theorem wit_MembershipRecords_7 : ∀ d ∈ [Part.sw, .ep],
    (let s := on (heardAt d 2 id) [(d, F.TEL_MEMB_CFG_HB_US, 9)]
     s.membState d ≠ Mb.OFF ∧ s.lnk d (lastPort d) = Lnk.ACTIVE ∧
       (s.port d (lastPort d)).beatAt + s.get d F.TEL_MEMB_CFG_HB_US * 1000 ≤ max s.now 9000 ∧
       ¬ (s.port d (lastPort d)).beatAt + s.get d F.TEL_MEMB_CFG_HB_US * 1000 ≤ max s.now 8999) := by
  decide +kernel

/-- A later FORM, one without the majority, and one that comes too late. -/
theorem wit_MembershipDecides_6 :
    (let s := (leasing []).modMemb .sw (fun m => { m with formed := true, joins := [7] })
     let v := s.dev .sw
     v.get F.TEL_MEMB_COORD_CAND0 = v.node ∧ v.memb.committed = [] ∧ v.memb.formed = true ∧ s.coordinates = true) ∧
    (let s := (on (leasing []) [(.sw, F.TEL_MEMB_STATE_STATE, 1)]).modDev .sw (fun v => v.setReg (A.TEL_MEMB_SWITCHES 0) 3)
     let v := s.dev .sw
     v.memb.formed = false ∧
       2 * ((v.node :: v.memb.joins).eraseDups.filter (fun n => v.stepSwitches.contains n)).length ≤ v.stepSwitches.length) ∧
    (((leasing []).modMemb .sw (fun m => { m with committed := [4] })).dev .sw).memb.committed ≠ [] := by
  decide +kernel

/-! ### Kettle -/

/-- Domain 26 in a state of Table 17.6, its wake begun at 0 and its demand gone since 10. -/
def domainAt (st : Nat) : State :=
  (on ready [(.sw, F.PWR_DOMAIN_STATUS_STATE 26, st)]).modKettle (fun k => { k with idleAt := [(26, some 10)] })

theorem wit_KettleRuns :
    26 ∈ demandDomains ∧ (∀ st ∈ [0, 1, 2, 3], (domainAt st).domain 26 = st) ∧
    SMap.at 0 (domainAt 1).sw.kettle.wakeAt 26 + 4 * wakeNs 26 ≤ max (domainAt 1).now 120000 ∧
    max (domainAt 1).now 119999 < SMap.at 0 (domainAt 1).sw.kettle.wakeAt 26 + 4 * wakeNs 26 ∧
    (let s := domainAt 2
     SMap.at none s.sw.kettle.idleAt 26 = some 10 ∧ 10 + 1000000 ≤ max s.now 1000010 ∧ ¬ 10 + 1000000 ≤ max s.now 1000009 ∧
       bitOf ((s.dev .sw).reg A.PWR_DOMAIN_HOLD) 26 = false ∧ 26 ∉ (s.tick 1000010).demands) ∧
    (∀ n ∈ [2, 3], ∀ due ∈ [none, some 1500], let r : VrReq := ⟨vrRequest 1 1440, 1440, 10, n⟩
      let s := ready.modKettle (fun k => { k with vr := some r, setDue := due })
      s.sw.kettle.vr = some r ∧ s.sw.kettle.setDue = due ∧ r.at_ + 4000 ≤ max s.now 4010 ∧ max s.now 4009 < r.at_ + 4000 ∧ (r.resent < 3 ↔ n = 2)) ∧
    (let f := vrFrame (0x50 * 2 ^ 16 + 1440 * 16)
     vrFrame (f.toNat / 256) = f ∧ bitsOf f.toNat 31 28 = 5 ∧ bitsOf f.toNat 27 24 = 0) ∧
    vrFrame ((1#32).toNat / 256) ≠ 1#32 := by
  decide +kernel

theorem wit_KettleRuns_2 :
    (∀ h ∈ [false, true], let s := ready.modKettle (fun k => { k with vrHold := h })
      s.sw.kettle.vr = none ∧ s.sw.kettle.vrHold = h ∧ s.sw.kettle.vrAt + 1000000 ≤ max s.now 1000000) ∧
    (let s := ready.modKettle (fun k => { k with estAt := 10, floorAt := 10, winAt := 10, stepAt := [(2, 20010)] })
     let k := s.sw.kettle
     max s.now 10009 < k.estAt + 10000 ∧ k.estAt + 10000 ≤ max s.now 10010 ∧ max s.now 100009 < k.floorAt + 100000 ∧
       k.floorAt + 100000 ≤ max s.now 100010 ∧ max s.now 100009 < k.winAt + 100000 ∧ k.winAt + 100000 ≤ max s.now 100010 ∧
       max s.now 20009 < SMap.at 0 k.stepAt 2 ∧ SMap.at 0 k.stepAt 2 ≤ max s.now 20010 ∧
       SMap.at 0 k.stepAt 1 = 0 ∧ s.capW = 0) ∧
    (let s := on ready [(.sw, F.PWR_CAP_STATUS_CAP_W, 500), (.sw, F.PWR_CAP_STATUS_STATE, 1), (.sw, F.PWR_CAP_STATUS_EFFECTIVE_W, 500), (.sw, F.PWR_EST_EST_100US_W, 501)]
     s.capState ≠ Cap.UNMET ∧ s.capW ≠ 0 ∧ s.effectiveW < s.est100) := by
  decide +kernel

/-- A clock that may go up, whatever the model predicts: its voltage is there, or still has to be asked for. -/
def rising (ack : Nat) : State :=
  on ready [(.sw, F.PWR_CAP_STATUS_EFFECTIVE_W, 65535), (.sw, F.PWR_CLK_STATUS_CORE_LEVEL, 3), (.sw, F.PWR_VR_STATUS_ACK_CODE, ack)]

theorem wit_KettleRuns_3 (ack : Nat) (ha : ack = 0 ∨ ack = 1640) :
    (rising ack).get .sw F.PWR_CLK_STATUS_MAX_LEVEL < (rising ack).level 0 ∧ (rising ack).sw.kettle.vrHold = false ∧
    (rising ack).sw.kettle.stepDown = false ∧ (rising ack).sw.kettle.capDue = false ∧ (rising ack).couldRise 0 = true ∧
    (rising ack).sw.kettle.rampEnd ≤ max (rising ack).now 0 ∧
    (∀ a b c, (ack = 0 → (rising ack).get .sw F.PWR_VR_STATUS_ACK_CODE < (rising ack).codeFor a b c ∧
        (rising ack).get .sw F.PWR_VR_STATUS_REQ_CODE ≠ (rising ack).codeFor a b c) ∧
      (ack = 1640 → (rising ack).codeFor a b c ≤ (rising ack).get .sw F.PWR_VR_STATUS_ACK_CODE)) := by
  have he : (rising ack).effectiveW = 65535 ∧ (rising ack).get .sw F.PWR_CLK_STATUS_MAX_LEVEL < (rising ack).level 0 ∧
      (rising ack).get .sw F.PWR_VR_STATUS_ACK_CODE = ack ∧ (rising ack).get .sw F.PWR_VR_STATUS_REQ_CODE < 1440 ∧
      (rising ack).sw.kettle.vrHold = false ∧ (rising ack).sw.kettle.stepDown = false ∧ (rising ack).sw.kettle.capDue = false ∧
      (rising ack).sw.kettle.rampEnd ≤ max (rising ack).now 0 := by
    rcases ha with rfl | rfl <;> decide +kernel
  refine ⟨he.2.1, he.2.2.2.2.1, he.2.2.2.2.2.1, he.2.2.2.2.2.2.1, ?_, he.2.2.2.2.2.2.2, ?_⟩
  · unfold State.couldRise State.predict
    have := he.1
    have := he.2.1
    simp only [Bool.and_eq_true, decide_eq_true_eq]
    refine ⟨he.2.1, ?_⟩
    rw [he.1]
    have : ∀ x : BitVec 16, x.toNat ≤ 65535 := fun x => by have := x.isLt; omega
    exact this _
  · intro a b c
    unfold State.codeFor
    have := he.2.2.1
    have := he.2.2.2.1
    omega

/-- Slacks read, a plan that is due, and a log entry; a clock that has to go down. -/
theorem wit_KettleRuns_4 :
    (∀ x ∈ [5, 4], (List.replicate 128 (x : Int)).length = 128 ∧ ((∀ y ∈ List.replicate 128 (x : Int), 5 ≤ y) ↔ x = 5)) ∧
    ready.get .sw F.PWR_AGE_STATUS_GUARD_MV ≤ 55 ∧
    (∀ x ∈ [(14 : Int), 15], let s := ready.modKettle (fun k => { k with slack := some (x, 127), levelsAt := some 10 })
      let k := s.sw.kettle
      k.slack = some (x, 127) ∧ k.planAt = none ∧ k.levelsAt = some 10 ∧ 10 + 10000000000 ≤ max s.now 10000000010 ∧ k.goodSince = none) ∧
    ready.sw.kettle.slack = none ∧
    (let s := on ready [(.sw, F.PWR_CLK_STATUS_MAX_LEVEL, 1)]
     s.level 0 < s.get .sw F.PWR_CLK_STATUS_MAX_LEVEL ∧ s.level 0 < clkLowest 0) ∧
    (∀ d ∈ [Part.sw, .ep], (linked 2).lnk d (lastPort d) = Lnk.ACTIVE ∧ (linked 0).lnk d (lastPort d) ≠ Lnk.ACTIVE) := by
  decide +kernel

/-- GUARD at its end; plans after the first, due and not due. -/
theorem wit_KettleRuns_5 :
    55 < (on ready [(.sw, F.PWR_AGE_STATUS_GUARD_MV, 60)]).get .sw F.PWR_AGE_STATUS_GUARD_MV ∧
    (∀ x ∈ [(14 : Int), 24, 25], let s := ready.modKettle (fun k => { k with slack := some (x, 127), planAt := some 10, goodSince := some 7 })
      let k := s.sw.kettle
      k.slack = some (x, 127) ∧ k.planAt = some 10 ∧ k.goodSince = some 7 ∧ 10 + 3600000000000 ≤ max s.now 3600000000010 ∧
        max s.now 3600000000009 < 10 + 3600000000000 ∧ (x < 15 ↔ x = 14) ∧ (25 ≤ x ↔ x = 25)) ∧
    SMap.at none ready.sw.kettle.idleAt 26 = none ∧ ready.sw.kettle.vr = none ∧ max ready.now 999999 < ready.sw.kettle.vrAt + 1000000 := by
  decide +kernel

/-- Monitors that are due, and not; a temperature that was read; the ageing log without power and with it. -/
theorem wit_KettleRuns_6 :
    (let s := ready.modKettle (fun k => { k with monAt := 10 })
     max s.now 1000000009 < s.sw.kettle.monAt + 1000000000 ∧ s.sw.kettle.monAt + 1000000000 ≤ max s.now 1000000010) ∧
    (let s := ready.modKettle (fun k => { k with dailyAt := 10, temp := some (-40) })
     s.sw.dev.boot.off = false ∧ (s.tick 86400000000009).onTime < s.sw.kettle.dailyAt + 86400000000000 ∧
       s.sw.kettle.dailyAt + 86400000000000 ≤ (s.tick 86400000000010).onTime ∧ s.sw.kettle.temp = some (-40) ∧
       wrapOf 8 (-40) = 216) ∧
    (ready.modDev .sw (fun v => { v with boot := ⟨0, false, false, true⟩ })).sw.dev.boot.off = true ∧
    (∀ ack ∈ [0, 1640], (rising ack).sw.kettle.vr = none ∧ (rising ack).sw.kettle.setDue = none) ∧
    (let s := ready.modKettle (fun k => { k with stepDown := true, capDue := true })
     s.sw.kettle.stepDown = true ∧ s.sw.kettle.capDue = true) := by
  decide +kernel

/-! ### Resets, and the queue of commands -/

/-- A part that is fatal, off or resetting, or none of these, at a stage of start-up. -/
def booting (d : Part) (g : Nat) (warm fatal off : Bool) : State :=
  (on State.reset [(d, F.CFG_BOOT_STATUS_STAGE, g)]).modDev d (fun v => { v with boot := ⟨0, warm, fatal, off⟩ })

theorem wit_ResetsAndFatalFaults :
    (∀ d ∈ [Part.sw, .ep], ∀ x ∈ [(false, false), (true, false), (false, true)],
      let b := ((booting d 7 false x.1 x.2).dev d).boot
      b.fatal = x.1 ∧ b.off = x.2 ∧ b.warm = false) ∧
    (∀ x ∈ [(115 : Int), 116, 105], (List.replicate 24 x).length = 24 ∧ ((∃ y ∈ List.replicate 24 x, 115 < y) ↔ x = 116) ∧
      ((∀ y ∈ List.replicate 24 x, y ≤ 105) ↔ x = 105)) ∧
    (∀ g ∈ [0, 4, 6, 7, 15], (booting .sw g false false false).get .sw F.CFG_BOOT_STATUS_STAGE = g ∧
      (booting .ep g false false false).get .ep F.CFG_BOOT_STATUS_STAGE = g) ∧
    (∀ d ∈ [Part.sw, .ep], Up ready d ∧ (ready.dev d).boot.warm = false ∧ (ready.dev d).boot.off = false ∧
      ready.get d F.CFG_BOOT_STATUS_STAGE = 7 ∧ ((booting d 2 true false false).dev d).boot.warm = true ∧
      Up (on ready [(d, F.CFG_BOOT_STATUS_STAGE, 4)]) d ∧ (on ready [(d, F.CFG_BOOT_STATUS_STAGE, 4)]).get d F.CFG_BOOT_STATUS_STAGE ≠ 7) ∧
    (∀ p, p < 4 → ready.get .ep (F.LNK_CTRL_ENABLE p) = 0) ∧ 26 ∈ demandDomains ∧ (domainAt 2).domain 26 = Dom.ON ∧
    (domainAt 1).domain 26 = Dom.WAKING ∧ 31 ∉ demandDomains ∧
    ((on ready [(.sw, F.HIF_SQ_B_ENABLE 1023, 1)]).get .sw (F.HIF_SQ_B_ENABLE 1023) = 1) ∧
    ((on ready [(.sw, F.SEC_MODE_DEBUG_OPEN, 1)]).get .sw F.SEC_MODE_DEBUG_OPEN = 1 ∧ ready.conf = false ∧
      ready.get .sw F.SEC_MODE_DEBUG_OPEN ≠ 1) := by
  simp only [Up]; decide +kernel

/-- Monitors above 110 and 105 degrees where those are the trip points; a warm reset with links that are enabled. -/
theorem wit_ResetsAndFatalFaults_2 :
    (∀ x ∈ [(19, (111 : Int)), (23, 106)], let l := (List.replicate 24 (0 : Int)).set x.1 x.2
      l.length = 24 ∧ l[x.1]? = some x.2 ∧ (if x.1 < 16 then 115 else if x.1 < 20 then 110 else 105) < x.2) ∧
    (∀ d ∈ [Part.sw, .ep], ((on (booting d 2 true false false) [(d, F.LNK_CTRL_ENABLE (lastPort d), 1)]).dev d).boot.warm = true) ∧
    (domainAt 3).domain 26 ≠ Dom.ON ∧ (domainAt 3).domain 26 ≠ Dom.WAKING ∧
    Up ((booting .sw 7 true false false)) .sw := by
  simp only [Up]; decide +kernel

theorem wit_QueueRunsToItsEnd :
    QueueWf { State.reset with pending := [.getVersion .sw .doe 0, .powerOnReset .sw 0] } ∧ (Instr.getVersion .sw .attach 0).wf = false := by
  simp only [QueueWf]; decide +kernel

/-- Images of the firmware: good, absent, of another class or context, with a bad signature, and too old. -/
def image1 (cls context : Nat) (good : Bool) (version : Nat) : FwImage := ⟨cls, context, good, version, true, 77⟩

theorem wit_ResetsAndFatalFaults_3 :
    (let i := { Island.initial with fusedMin := 3 }
     i.verdict none = 1 ∧ i.verdict (some (image1 1 1 true 3)) = 0 ∧ i.verdict (some (image1 2 1 true 3)) = 2 ∧
       i.verdict (some (image1 1 2 true 3)) = 2 ∧ i.verdict (some (image1 1 1 false 3)) = 2 ∧ i.verdict (some (image1 1 1 true 2)) = 3) ∧
    (∀ g ∈ [1, 2], ∀ warm ∈ [false, true], let s := booting .sw g warm false false
      s.get .sw F.CFG_BOOT_STATUS_STAGE = g ∧ s.sw.dev.boot.off = false ∧ s.sw.dev.boot.warm = warm ∧
        (s.isl .sw).verdict (some (image1 1 1 true 3)) = 0 ∧ (s.isl .sw).verdict none ≠ 0 ∧
        s.get .sw F.CFG_BOOT_STATUS_SLOT = 0 ∧ (on s [(.sw, F.CFG_BOOT_STATUS_SLOT, 1)]).get .sw F.CFG_BOOT_STATUS_SLOT = 1) ∧
    (∀ g ∈ [4, 5], (booting .sw g true false false).sw.dev.boot.warm = true ∧
      (booting .sw g true false false).get .sw F.CFG_BOOT_STATUS_STAGE = g) ∧
    (0xFFFE % 65536 ≠ 0xFFFF ∧ 0x1FFFF % 65536 = 0xFFFF) ∧
    (let s := booting .ep 0 false false false
     (s.isl .ep).verdict (some (image1 1 1 true 3)) = 0 ∧ s.ep.dev.boot = ⟨0, false, false, false⟩ ∧ s.get .ep F.CFG_BOOT_STATUS_STAGE = 0) ∧
    (∀ d ∈ [Part.sw, .ep], (booting d 15 false true false).get d F.CFG_BOOT_STATUS_STAGE = 15 ∧
      (booting d 6 false false false).get d F.CFG_BOOT_STATUS_STAGE < 7 ∧ ((booting d 6 false false false).dev d).boot.warm = false) := by
  decide +kernel

/-! ### Ill-formed commands: one for each check of `Instr.wf` -/

/-- A port, core, window, queue, engine, function, node, slot or channel that the part does not have. -/
theorem test_refuses_what_the_part_lacks :
    ∀ i ∈ ([.txIdleFrame .sw 32 0, .txIdleFrame .ep 4 0, .packetForward .sw 33 0 0, .packetForward .ep 4 0 0, .packetForward .sw 0 5 0, .creditGraceEnd .sw 0 8 0,
      .add 64 0, .coreStart 64 0, .winCmdClear 256 0, .winCmdArm 0 256 0, .winClearComplete 256 0, .seqQueueDisable 16 0, .cmdNop 1024 0,
      .sqTailDoorbell 64 0 0 0, .sqTailDoorbell 0 1024 0 0, .vfFlr 0 0, .vfFlr 64 0, .engineRead 1024 (ereq 1 0 0 0 0) 0, .slotExpire .sw 4096 0 0,
      .slotExpire .sw 0 65536 0, .ordResetFlow 4096 0 0, .ordResetFlow 0 1048576 0, .ordResetAllFlows 4096 0, .rcacheInvChannel 1048576 0,
      .weightSegmentVerify 16 0 0, .ucieModuleTrained 8 0, .moduleDown 8 0, .clusterSpareSwap 16 0, .pktDrainWrite .sw 64 0 0, .memLctrWrite .sw 0 0 0,
      .memLctrWrite .sw 65536 0 0, .map 0 1 64 0 0 false 0, .map 0 1 0 4 0 false 0, .map 0 1 0 0 4 false 0, .free 0 1 64 0,
      .xltResumeRetry 1048576 0, .faultLimitExpiry 1048576 0, .getVersion .sw .attach 0, .getVersion .ep .doe 0, .getVersion .sw (.mgmt (mreq 0x20 [])) 0, .ownerClear (m5 .attach) false 0, .eventReply (mreq 0x20 []) 0, .domainWakeDone 24 0, .clockLevelStep 3 true 0,
      .eqRecompute .sw 31 17 0 0, .domainReset .sw 32 0, .repairTestDone .sw [(32, 0)] [] [] 0 0, .repairTestDone .sw [(0, 17)] [] [] 0 0,
      .repairTestDone .sw [] [72] [] 0 0, .repairTestDone .sw [] [] [18] 0 0, .repairTestDone .sw [] [] [] 8 0, .i3cDynamicAddress ⟨128, none⟩ 0,
      .bootStageDone .ep ⟨true, 0, none, none, 0⟩ 0] : List Instr), i.wf = false := by
  decide +kernel

/-- Operands of a wrong size, kind or number. -/
theorem test_refuses_wrong_shapes :
    ∀ i ∈ ([.registerRead .sw 0 0 3 0, .registerRead .sw 64 0 8 0, .registerRead .ep 1 0 8 0, .registerWrite .sw 0 0 16 0 0,
      .dataFrameReceive .sw 0 [] 0, .marker .sw 0 (List.replicate 17 []) 0, .trainingPhaseDone .sw 0 [] [] 0, .targetRead .sw 2 0, .targetWrite .sw 5 0,
      .xltInvRange .sw 1 0, .xltInvId .sw 0 0, .xltInvAll .sw 1 0, .capSet (mreq 2 []) 0, .capGet (mreq 1 []) 0,
      .telSnapshot (mreq 1 []) 0, .health (mreq 1 []) 0, .engineWrite 0 (ereq 1 0 0 0 0) 0, .patrolScrub 0 0 0 0, .patrolScrub 9 0 0 0,
      .patrolScrub 1 0 4 0, .fatalFault .sw 0 0, .fatalFault .sw 6 0, .temperatureRead .sw [1] 0, .temperatureRead .ep [] 0, .ageingMonitorRead [] 0] :
        List Instr), i.wf = false := by
  decide +kernel

theorem test_refuses_what_is_not_staged : (Instr.potStagedWrite .sw 0 8 0 0).wf = false := by decide +kernel

/-- An ill-formed command stops with the fault of its name. -/
theorem test_illformed_faults : exec (.coreStart 64 0) State.reset = .fault (.illFormed "CORE_START") := rfl

/-! ### Single steps -/

/-- What a step leaves of a state, as a question about it. -/
def after (i : Instr) (s : State) (P : State → Bool) : Bool :=
  match step { s with pending := [i] } with
  | .next u => P u
  | _ => false

/-- R247: s1 = 2^64 - 1 + 1 wraps to 0, and the PC moves on by 8. -/
theorem test_addi_wraps :
    after (.addi 63 0) (coreAt 3 (word 0x20 3 3 0 0 1) 8 (2 ^ 64 - 1) 0) (fun u => (u.core 63).sreg 3 == 0 && u.pc 63 == 8) = true := by
  decide +kernel

/-- R247: SRA of the most negative number by 63 gives -1. -/
theorem test_sra_fills :
    after (.sra 63 0) (coreAt 3 (word 0x17 5 3 4 0 0) 8 (2 ^ 63) 127) (fun u => (u.core 63).sreg 5 == BitVec.ofNat 64 (2 ^ 64 - 1)) = true := by
  decide +kernel

/-- Table 10.3: division by zero gives all ones, and the dividend as remainder. -/
theorem test_divu_by_zero :
    after (.divu 63 0) (coreAt 3 (word 0x1A 5 3 4 0 0) 8 7 0) (fun u => (u.core 63).sreg 5 == BitVec.ofNat 64 (2 ^ 64 - 1)) = true ∧
    after (.remu 63 0) (coreAt 3 (word 0x1B 5 3 4 0 0) 8 7 0) (fun u => (u.core 63).sreg 5 == 7) = true := by
  decide +kernel

/-- R223: s0 reads zero and discards what is written. -/
theorem test_s0_discards :
    after (.ori 63 0) (coreAt 3 (word 0x23 0 3 0 0 5) 8 9 0) (fun u => (u.core 63).sreg 0 == 0 && u.pc 63 == 8) = true := by
  decide +kernel

/-- R249: a store into the code raises LOCAL_RANGE and writes nothing. -/
theorem test_store_to_code :
    after (.st8 63 0) (coreAt 3 (word 0x4B 0 3 4 0 0) 8 0 7) (fun u => u.coreState 63 == 6 && u.get .sw (F.SEQ_CORE_STATUS_EXC_CAUSE 63) == 3 &&
      (u.core 63).mem == ((coreAt 3 (word 0x4B 0 3 4 0 0) 8 0 7).core 63).mem) = true := by
  decide +kernel

/-- An empty queue idles (log 4). -/
theorem test_idle : (match step State.reset with | .next u => u.pending.isEmpty && u.now == 0 | _ => false) = true := by decide +kernel

end Sys2Proof.Tests
end

section
/-! SUPPORT. Register accesses (R5 to R8, R93, R104, R221, R334): what one access to a register does, what an access that
falls in none does, and the owner's registers with rows of their own; and the statement about plain registers. -/

namespace Sys2Proof.Machine

open Sys2Proof.Claims

/-! ### Bringing the counters up to the present keeps every register -/

/-- Nothing has been sent between the two states, and a part holds the same registers in both. -/
def State.SameRegs (d : Part) (s u : State) : Prop :=
  u.out = s.out ∧ (u.dev d).part = (s.dev d).part ∧ (u.dev d).regs = (s.dev d).regs

theorem State.SameRegs.refl (d : Part) (s : State) : State.SameRegs d s s := ⟨rfl, rfl, rfl⟩

theorem State.SameRegs.trans {d : Part} {s u w : State} (h : State.SameRegs d s u) (k : State.SameRegs d u w) :
    State.SameRegs d s w := by
  obtain ⟨hout, hpart, hregs⟩ := h
  obtain ⟨kout, kpart, kregs⟩ := k
  exact ⟨kout.trans hout, kpart.trans hpart, kregs.trans hregs⟩

theorem State.SameRegs.reg {d : Part} {s u : State} (h : State.SameRegs d s u) (b : Nat) :
    (u.dev d).reg b = (s.dev d).reg b := by
  obtain ⟨-, hpart, hregs⟩ := h
  simp only [Dev.reg, hpart, hregs]

/-- Steps that each keep the registers keep them together. -/
theorem State.SameRegs.foldl {α : Type} {d : Part} {f : State → α → State}
    (h : ∀ a e, State.SameRegs d a (f a e)) (l : List α) (s : State) : State.SameRegs d s (l.foldl f s) := by
  induction l generalizing s with
  | nil => exact .refl d s
  | cons e l ih => exact (h s e).trans (ih (f s e))

theorem State.countPort_sameRegs (d : Part) (p : Nat) (s : State) : State.SameRegs d s (s.countPort d p) := by
  unfold State.countPort
  dsimp only
  split
  · exact .refl d s
  · simp [State.SameRegs]

theorem State.accrue_sameRegs (n : Nat) (s : State) : State.SameRegs .sw s (s.accrue n) := by
  unfold State.accrue
  dsimp only
  split <;> simp [State.SameRegs]

theorem State.countLevels_sameRegs (s : State) : State.SameRegs .sw s s.countLevels := by
  have each (a : State) (c : Nat × Core) : State.SameRegs .sw a (a.accrue c.1) := a.accrue_sameRegs c.1
  have cores : State.SameRegs .sw s (s.sw.cores.foldl (fun a c => a.accrue c.1) s) := .foldl each _ s
  refine cores.trans ?_
  unfold State.countLevels
  dsimp only
  split
  · exact .refl _ _
  · split <;> simp [State.SameRegs]

theorem State.syncCounters_sameRegs (d : Part) (s : State) : State.SameRegs d s (s.syncCounters d) := by
  have ports : State.SameRegs d s
      ((s.dev d).ports.foldl (fun a e => if e.1 < linkPorts d then a.countPort d e.1 else a) s) := by
    refine .foldl (fun a e => ?_) _ s
    split
    · exact a.countPort_sameRegs d e.1
    · exact .refl d a
  cases d with
  | sw => exact ports.trans (State.countLevels_sameRegs _)
  | ep => exact ports

/-! ### One register -/

theorem okSize_le {n : Nat} (h : okSize n = true) : n ≤ 8 := by
  simp only [okSize, Bool.or_eq_true, beq_iff_eq] at h
  omega

/-- A whole register is taken as its low bytes. -/
theorem cut_toNat_self {n : Nat} (b x : Nat) (h : n ≤ 8) : (cut b b n x).toNat = x % 2 ^ (8 * n) := by
  have hlt : x % 2 ^ (8 * n) < 2 ^ 64 :=
    Nat.lt_of_lt_of_le (Nat.mod_lt x (Nat.two_pow_pos _)) (Nat.pow_le_pow_right (by decide) (by omega))
  rw [cut, Nat.sub_self, Nat.mul_zero, Nat.pow_zero, Nat.div_one, BitVec.toNat_ofNat, Nat.mod_eq_of_lt hlt]

/-- A stored register read whole gives its value, once the counters hold what has happened. -/
theorem State.readOne_stored (s : State) {d : Part} {r : RegRow} {b n : Nat} (hit : hitReg d b n = some (r, b))
    (hs : Stored d b) (hn : n ≤ 8) :
    s.readOne d b n = some ((s.dev d).reg b % 2 ^ (8 * n), s.syncCounters d) := by
  obtain ⟨hval, hloc⟩ := hs
  have hx : (cut b b n ((s.syncCounters d).readWord d b)).toNat = (s.dev d).reg b % 2 ^ (8 * n) := by
    rw [cut_toNat_self b _ hn, hval, (s.syncCounters_sameRegs d).reg]
  cases d with
  | sw => simp only [State.readOne, hit, hloc rfl, hx]
  | ep => simp only [State.readOne, hit, hx]

theorem State.readOne_noHit (s : State) {d : Part} {a n : Nat} (h : NoHit d a n) : s.readOne d a n = none := by
  obtain ⟨hlive, hstaged⟩ := h
  simp only [State.readOne, hlive, hstaged]

/-- A live register whose write does no more takes the value in its own fields. -/
theorem State.writeOne_plain (s : State) {d : Part} {r : RegRow} {b n : Nat} (x : Nat) (hit : hitReg d b n = some (r, b))
    (hr : r.staged = false) (hp : Plain d b) :
    s.writeOne d b n x = some (s.modDev d (fun v => v.plainWrite r b b n x)) := by
  simp only [State.writeOne, hit, hr, hp s, Option.getD_none, Bool.false_eq_true, if_false]

theorem State.writeOne_noHit (s : State) {d : Part} {a n : Nat} (x : Nat) (h : NoHit d a n) :
    s.writeOne d a n x = none := by
  obtain ⟨hlive, hstaged⟩ := h
  simp only [State.writeOne, hlive, hstaged]

/-! ### Accesses of PF 0, or over the attach -/

theorem State.readReg_one (s : State) {d : Part} {a n x : Nat} {u : State} (ha : a < 2 ^ 28)
    (h : s.readOne d a n = some (x, u)) : s.readReg d a n = u.emit (.readValue d (BitVec.ofNat 64 x)) := by
  unfold State.readReg
  rw [if_pos (show a < barTop from ha)]
  simp only [readOver, h, State.returns]

/-- An aligned 64-bit read of which only the lower half falls in a register gives that half (log 33). -/
theorem State.readReg_lowerHalf (s : State) {d : Part} {a x : Nat} {u : State} (ha : a < 2 ^ 28) (h8 : a % 8 = 0)
    (whole : NoHit d a 8) (low : s.readOne d a 4 = some (x, u)) (high : NoHit d (a + 4) 4) :
    s.readReg d a 8 = u.emit (.readValue d (BitVec.ofNat 64 x)) := by
  unfold State.readReg
  rw [if_pos (show a < barTop from ha)]
  simp only [readOver, s.readOne_noHit whole, h8, and_self, if_true, low, u.readOne_noHit high, State.returns]

theorem State.writeReg_one (s : State) {d : Part} {a n x : Nat} {u : State} (ha : a < 2 ^ 28)
    (h : s.writeOne d a n x = some u) : s.writeReg d a n x = u := by
  unfold State.writeReg
  rw [if_pos (show a < barTop from ha)]
  simp only [writeOver, h, Option.getD_some]

/-- A read outside every register returns zero, and is reported (R8, R334). -/
theorem State.readReg_outside (s : State) {d : Part} {a n : Nat} (h : Outside d a n) :
    s.readReg d a n = (s.badAccess d 0 a false).emit (.readValue d 0) := by
  unfold Outside at h
  by_cases ha : a < 2 ^ 28
  · rw [if_pos ha] at h
    obtain ⟨whole, halves⟩ := h
    have nothing : readOver (fun s a n => s.readOne d a n) s a n = none := by
      by_cases h8 : n = 8 ∧ a % 8 = 0
      · obtain ⟨low, high⟩ := halves h8.1 h8.2
        simp only [readOver, s.readOne_noHit whole, if_pos h8, s.readOne_noHit low, s.readOne_noHit high, Option.map_none]
      · simp only [readOver, s.readOne_noHit whole, if_neg h8]
    unfold State.readReg
    rw [if_pos (show a < barTop from ha), nothing, State.returns, State.badRead]
  · rw [if_neg ha] at h
    unfold State.readReg
    rw [if_neg (show ¬ a < barTop from ha)]
    cases d with
    | sw =>
      have bell : doorbellAt (a - barTop) = none := h rfl
      simp only [bell, State.badRead]
    | ep => rfl

/-- A write outside every register is reported, and does nothing else (R8, R334). -/
theorem State.writeReg_outside (s : State) {d : Part} {a n : Nat} (x : Nat) (h : Outside d a n) :
    s.writeReg d a n x = s.badAccess d 0 a true := by
  unfold Outside at h
  by_cases ha : a < 2 ^ 28
  · rw [if_pos ha] at h
    obtain ⟨whole, halves⟩ := h
    have nothing : writeOver (fun s a n x => s.writeOne d a n x) s a n x = none := by
      by_cases h8 : n = 8 ∧ a % 8 = 0
      · obtain ⟨low, high⟩ := halves h8.1 h8.2
        simp only [writeOver, s.writeOne_noHit _ whole, if_pos h8, s.writeOne_noHit _ low, s.writeOne_noHit _ high]
      · simp only [writeOver, s.writeOne_noHit _ whole, if_neg h8]
    unfold State.writeReg
    rw [if_pos (show a < barTop from ha), nothing, Option.getD_none]
  · rw [if_neg ha] at h
    unfold State.writeReg
    rw [if_neg (show ¬ a < barTop from ha)]
    cases d with
    | sw =>
      have bell : doorbellAt (a - barTop) = none := h rfl
      simp only [bell]
    | ep => rfl

/-- The report of an access of PF 0 at a switch whose PCIe requests run: where it fell, BAD_REG and vector 0 (R334). -/
theorem State.badAccess_sw (s : State) (a : Nat) (write : Bool) (h : s.pcieStopped = false) :
    s.badAccess .sw 0 a write =
      ((s.modDev .sw (fun v => v.setReg A.HIF_BAD_ACCESS (b2n write * 2 ^ 55 + a % 2 ^ 28))).set .sw
        F.HIF_ERR_BAD_REG 1).emit (.msix 0 0) := by
  have stopped : ((s.modDev .sw (fun v => v.setReg A.HIF_BAD_ACCESS (b2n write * 2 ^ 55 + a % 2 ^ 28))).set .sw
      F.HIF_ERR_BAD_REG 1).pcieStopped = false := h
  simp only [State.badAccess, if_true, State.hifErr, State.irq, stopped, Bool.false_and, Bool.false_eq_true, if_false]

/-! ### The commands -/

@[simp] theorem okAccess_zero (d : Part) (n : Nat) : okAccess d 0 n = okSize n := by
  cases d <;> exact Bool.and_true _

/-- The owner's read at a device that has started up and not stopped. -/
theorem exec_registerRead_up {s : State} {d : Part} {a n t : Nat} (hup : Up s d)
    (hstage : s.get d F.CFG_BOOT_STATUS_STAGE ≠ 0xF) (hn : okSize n = true) :
    exec (.registerRead d 0 a n t) s = .next ((s.tick t).keep ((s.tick t).readReg d a n).settle) := by
  have hb : (s.tick t).barOn d = true := (s.tick_barOn t d).trans hup
  have hg : (s.tick t).get d F.CFG_BOOT_STATUS_STAGE ≠ 0xF := by simpa [State.get] using hstage
  have hr : (s.tick t).regRead d 0 a n = (s.tick t).readReg d a n := by
    simp only [State.regRead, hg, hb, if_false, Bool.not_true, Bool.false_eq_true, true_or, if_true]
  rw [exec_registerRead, execRegisterRead, stepSettle_next (by simpa using hn), hr]

/-- The owner's write at a device that has started up and not stopped. -/
theorem exec_registerWrite_up {s : State} {d : Part} {a n t : Nat} {x : Word} (hup : Up s d)
    (hstage : s.get d F.CFG_BOOT_STATUS_STAGE ≠ 0xF) (hn : okSize n = true) :
    exec (.registerWrite d 0 a n x t) s = .next ((s.tick t).keep ((s.tick t).writeReg d a n x.toNat).settle) := by
  have hb : (s.tick t).barOn d = true := (s.tick_barOn t d).trans hup
  have hg : (s.tick t).get d F.CFG_BOOT_STATUS_STAGE ≠ 0xF := by simpa [State.get] using hstage
  have hw : (s.tick t).regWrite d 0 a n x.toNat = (s.tick t).writeReg d a n x.toNat := by
    simp only [State.regWrite, hg, hb, if_false, Bool.not_true, Bool.false_eq_true, true_or, if_true]
  rw [exec_registerWrite, execRegisterWrite, stepSettle_next (by simpa using hn), hw]

/-- What a read through the present counters comes to: the value sent, and every register kept. -/
theorem State.syncCounters_emit (s : State) (d : Part) (o : Out) :
    ((s.syncCounters d).emit o).out = s.out ++ [o] ∧ (((s.syncCounters d).emit o).dev d).regs = (s.dev d).regs := by
  obtain ⟨hout, -, hregs⟩ := s.syncCounters_sameRegs d
  simp only [State.emit_out, State.emit_dev, hout, hregs, and_self]

/-! ### Registers with rows of their own -/

/-- A live ENABLE that is set keeps the node id (R93). -/
theorem State.writeNode_enabled (s : State) {d : Part} (x : Nat)
    (h : ∃ p, p < linkPorts d ∧ s.get d (F.LNK_CTRL_ENABLE p) = 1) : s.writeNode d x = s := by
  have any : (List.range (linkPorts d)).any (fun p => s.get d (F.LNK_CTRL_ENABLE p) == 1) = true := by simpa using h
  rw [State.writeNode, if_pos any]

/-- With no live ENABLE set the node id takes the value (R93). -/
theorem State.writeNode_disabled (s : State) {d : Part} (x : Nat)
    (h : ∀ p, p < linkPorts d → s.get d (F.LNK_CTRL_ENABLE p) = 0) :
    s.writeNode d x = s.set d F.PKT_NODE_ID_NODE_ID x := by
  have any : ¬ (List.range (linkPorts d)).any (fun p => s.get d (F.LNK_CTRL_ENABLE p) == 1) = true := by
    simp +contextual [h]
  rw [State.writeNode, if_neg any]

/-- With no transaction parked for a node of the word, only the word changes (R104). -/
theorem State.drainWrite_noneParked (s : State) {d : Part} {k : Nat} (x : Nat) (h : NoneParked s d k) :
    s.drainWrite d k x = s.modDev d (fun v => v.setReg (A.PKT_DRAIN k) x) := by
  have parked (t : Txn) (ht : t ∈ (s.dev d).txns) (cleared : Bool) :
      ¬ (t.parked && (t.pkt.hdr.dst.toNat / 64 == k && cleared)) = true := by
    simp only [Bool.and_eq_true, beq_iff_eq]
    exact fun ⟨hp, hk, _⟩ => h t ht hp hk
  simp only [State.drainWrite, Bool.and_assoc]
  rw [List.filter_eq_nil_iff.mpr (fun t ht => parked t ht _), List.foldl_nil]

/-- Counter 0 names none; every other landing counter takes the low 48 bits (R148, R150). -/
theorem State.lctrWrite_pos (s : State) (d : Part) {n : Nat} (x : Nat) (h : 1 ≤ n) :
    s.lctrWrite d n x = s.modDev d (fun v => v.setReg (A.MEM_LCTR n) (x % 2 ^ 48)) := by
  rw [State.lctrWrite, if_neg (by omega)]

/-- A core that is LOADED, HALTED or FAULTED is open outside confidential mode (R221). -/
theorem State.localOpen_of (s : State) {n : Nat} (hconf : s.get .sw F.SEC_MODE_CONF = 0)
    (h : s.coreState n = 2 ∨ s.coreState n = 5 ∨ s.coreState n = 6) : s.localOpen n = true := by
  have mem : s.coreState n ∈ [CoreSt.LOADED, CoreSt.HALTED, CoreSt.FAULTED] := by
    simpa [CoreSt.LOADED, CoreSt.HALTED, CoreSt.FAULTED] using h
  simp [State.localOpen, State.conf, hconf, mem]

theorem State.localData_write (s : State) {n : Nat} (a : Nat) (x : Word) (h : s.localOpen n = true) :
    s.localData n a true x = s.modCore n (fun c =>
      { c with mem := Memory.setBytes c.mem (8 * s.get .sw (F.SEQ_LOCAL_WIN_WORD n)) (leBytes 8 x.toNat) }) := by
  simp only [State.localData, h, Bool.not_true, Bool.false_eq_true, if_false, if_true, State.setLocal]

theorem State.localData_read (s : State) {n : Nat} (a : Nat) (x : Word) (h : s.localOpen n = true) :
    s.localData n a false x = s.emit (.readValue .sw
      (BitVec.ofNat 64 (Memory.num (s.core n).mem (8 * s.get .sw (F.SEQ_LOCAL_WIN_WORD n)) 8))) := by
  simp only [State.localData, h, Bool.not_true, Bool.false_eq_true, if_false]

end Sys2Proof.Machine

namespace Sys2Proof.Proofs

open Sys2Proof Sys2Proof.Machine Sys2Proof.Claims

/-! ### What each access of the owner leaves -/

section

variable {d : Part} {t b a n k : Nat} {r : RegRow} {x : Word} {s : State}

/-- No handler takes the write, so it is the access codes' alone (R5, R6, Table 0.7). -/
theorem registerWrite_plain (h : Reached s d r b) (hr : r.staged = false) (hp : Plain d b) :
    Leaves (.registerWrite d 0 b r.bytes x t) t s (fun s => s.modDev d (fun v => v.plainWrite r b b r.bytes x.toNat)) := by
  obtain ⟨hup, hstage, hsize, hit, hb⟩ := h
  rw [Leaves, exec_registerWrite_up hup hstage hsize, State.writeReg_one _ hb (State.writeOne_plain _ _ hit hr hp)]

/-- A read first brings the counters up to the present, which no register shows (R7). -/
theorem registerRead_stored (h : Reached s d r b) (hs : Stored d b) :
    Comes (.registerRead d 0 b r.bytes t) t s (fun s u =>
      u.out = s.out ++ [.readValue d (BitVec.ofNat 64 ((s.dev d).reg b % 2 ^ (8 * r.bytes)))] ∧
      (u.dev d).regs = (s.dev d).regs) := by
  obtain ⟨hup, hstage, hsize, hit, hb⟩ := h
  refine ⟨_, State.syncCounters_emit (s.tick t) d _, ?_⟩
  rw [exec_registerRead_up hup hstage hsize, State.readReg_one _ hb (State.readOne_stored _ hit hs (okSize_le hsize))]

/-- An access wider than its register falls back to the 32-bit registers that it covers (R7, log 33). -/
theorem registerRead_lowerHalf (h : Reached s d r b) (hs : Stored d b) (h4 : r.bytes = 4) (h8 : b % 8 = 0)
    (whole : NoHit d b 8) (high : NoHit d (b + 4) 4) :
    Comes (.registerRead d 0 b 8 t) t s (fun s u =>
      u.out = s.out ++ [.readValue d (BitVec.ofNat 64 ((s.dev d).reg b % 2 ^ 32))] ∧
      (u.dev d).regs = (s.dev d).regs) := by
  obtain ⟨hup, hstage, -, hit, hb⟩ := h
  rw [h4] at hit
  refine ⟨_, State.syncCounters_emit (s.tick t) d _, ?_⟩
  rw [exec_registerRead_up hup hstage rfl,
    State.readReg_lowerHalf _ hb h8 whole (State.readOne_stored _ hit hs (by decide)) high]

/-- R8 at an end-point, which reports nothing. -/
theorem access_outside_ep (hup : Up s .ep) (hstage : s.get .ep F.CFG_BOOT_STATUS_STAGE ≠ 0xF) (hn : okSize n = true)
    (ho : Outside .ep a n) :
    Leaves (.registerWrite .ep 0 a n x t) t s id ∧
    Leaves (.registerRead .ep 0 a n t) t s (fun s => s.emit (.readValue .ep 0)) := by
  constructor
  · rw [Leaves, exec_registerWrite_up hup hstage hn, State.writeReg_outside _ _ ho]
    rfl
  · rw [Leaves, exec_registerRead_up hup hstage hn, State.readReg_outside _ ho]
    rfl

/-- R8, R334 at a switch. -/
theorem access_outside_sw (hup : Up s .sw) (hstage : s.get .sw F.CFG_BOOT_STATUS_STAGE ≠ 0xF) (hn : okSize n = true)
    (ho : Outside .sw a n) (hrun : s.pcieStopped = false) :
    Leaves (.registerWrite .sw 0 a n x t) t s (fun s =>
      ((s.modDev .sw (fun v => v.setReg A.HIF_BAD_ACCESS (2 ^ 55 + a % 2 ^ 28))).set .sw F.HIF_ERR_BAD_REG 1).emit
        (.msix 0 0)) ∧
    Leaves (.registerRead .sw 0 a n t) t s (fun s =>
      (((s.modDev .sw (fun v => v.setReg A.HIF_BAD_ACCESS (a % 2 ^ 28))).set .sw F.HIF_ERR_BAD_REG 1).emit
        (.msix 0 0)).emit (.readValue .sw 0)) := by
  have hrun' : (s.tick t).pcieStopped = false := hrun
  constructor
  · rw [Leaves, exec_registerWrite_up hup hstage hn, State.writeReg_outside _ _ ho, State.badAccess_sw _ _ _ hrun']
    simp only [b2n, if_true, Nat.one_mul]
  · rw [Leaves, exec_registerRead_up hup hstage hn, State.readReg_outside _ ho, State.badAccess_sw _ _ _ hrun']
    simp only [b2n, Bool.false_eq_true, if_false, Nat.zero_mul, Nat.zero_add]

/-- A landing counter is written whole (R148, R150). -/
theorem memLctrWrite_leaves (hup : Up s d) (h1 : 1 ≤ n) (hn : n < 65536) :
    Leaves (.memLctrWrite d n x t) t s (fun s => s.modDev d (fun v => v.setReg (A.MEM_LCTR n) (x.toNat % 2 ^ 48))) := by
  rw [Leaves, exec_memLctrWrite, execMemLctrWrite, hostSettle_next (by simp [h1, hn]) hup, State.lctrWrite_pos _ _ _ h1]

/-- While every link is disabled the write is taken (R93). -/
theorem pktNodeIdWrite_disabled (hup : Up s d) (h : ∀ p, p < linkPorts d → s.get d (F.LNK_CTRL_ENABLE p) = 0) :
    Does (.pktNodeIdWrite d x t) t s (fun s => s.set d F.PKT_NODE_ID_NODE_ID (x.toNat % 4096)) := by
  rw [Does, exec_pktNodeIdWrite, execPktNodeIdWrite, hostIf_next rfl hup,
    State.writeNode_disabled _ _ (by simpa [State.get] using h)]

/-- While some link is enabled the write is ignored (R93). -/
theorem pktNodeIdWrite_enabled (hup : Up s d) (h : ∃ p, p < linkPorts d ∧ s.get d (F.LNK_CTRL_ENABLE p) = 1) :
    Does (.pktNodeIdWrite d x t) t s id := by
  rw [Does, exec_pktNodeIdWrite, execPktNodeIdWrite, hostIf_next rfl hup,
    State.writeNode_enabled _ _ (by simpa [State.get] using h), id]

/-- Nothing is parked behind the word, so nothing goes out again (R104). -/
theorem pktDrainWrite_leaves (hup : Up s d) (hk : k < 64) (h : NoneParked s d k) :
    Leaves (.pktDrainWrite d k x t) t s (fun s => s.modDev d (fun v => v.setReg (A.PKT_DRAIN k) x.toNat)) := by
  have h' : NoneParked (s.tick t) d k := by simpa [NoneParked] using h
  rw [Leaves, exec_pktDrainWrite, execPktDrainWrite, hostSettle_next (by simpa using hk) hup,
    State.drainWrite_noneParked _ _ h']

/-- The window reaches the local memory of a core that is open (R221, R240). -/
theorem seqLocalDataAccess_open (hup : Up s .sw) (hn : n < 64) (hopen : s.localOpen n = true) :
    Leaves (.seqLocalDataAccess n true x t) t s (fun s => s.modCore n (fun c =>
      { c with mem := Memory.setBytes c.mem (8 * s.get .sw (F.SEQ_LOCAL_WIN_WORD n)) (leBytes 8 x.toNat) })) ∧
    Leaves (.seqLocalDataAccess n false x t) t s (fun s => s.emit (.readValue .sw
      (BitVec.ofNat 64 (Memory.num (s.core n).mem (8 * s.get .sw (F.SEQ_LOCAL_WIN_WORD n)) 8)))) := by
  have hok : okCore n = true := by simpa [okCore] using hn
  have hopen' : (s.tick t).localOpen n = true := hopen
  constructor
  · rw [Leaves, exec_seqLocalDataAccess, execSeqLocalDataAccess, hostSettle_next hok hup,
      State.localData_write _ _ _ hopen']
  · rw [Leaves, exec_seqLocalDataAccess, execSeqLocalDataAccess, hostSettle_next hok hup,
      State.localData_read _ _ _ hopen']

end

/-- Settles O5: each clause is the rule of its access, proved above. -/
theorem plainRegisters : Obligations.PlainRegisters := by
  intro d t b a size n k r x s
  refine ⟨registerWrite_plain, registerRead_stored, registerRead_lowerHalf,
    fun hup hstage hsize ho => ⟨?endPoint, ?switch⟩,
    fun hup => ⟨memLctrWrite_leaves hup, pktNodeIdWrite_disabled hup, pktNodeIdWrite_enabled hup,
      pktDrainWrite_leaves hup, ?localWord⟩⟩
  case endPoint =>
    rintro rfl
    exact access_outside_ep hup hstage hsize ho
  case switch =>
    rintro rfl hrun
    exact access_outside_sw hup hstage hsize ho hrun
  case localWord =>
    rintro rfl hn hconf hstate
    exact seqLocalDataAccess_open hup hn (s.localOpen_of hconf hstate)

end Sys2Proof.Proofs
end

section
/-! SUPPORT. The one form that every command has (log 34), what a step does to the queue and the clock (log 4), and the
statement about the whole queue. -/

namespace Sys2Proof.Machine

open Sys2Proof.Claims

/-! ### The form of a command -/

/-- An answer on `s` of a command whose operands are well-formed when `ok` is true: a next state, which keeps the queue and
sets the clock to the command's time; or else the fault of the command's name (log 34). -/
def StepForm (ok : Bool) (s : State) (o : Host.Outcome State Fault Refusal) : Prop :=
  ∃ name t u, o = if ok then .next ((s.tick t).keep u) else .fault (.illFormed name)

theorem StepForm.intro {ok : Bool} {s : State} {o : Host.Outcome State Fault Refusal} (name : String) (t : Nat) (u : State)
    (h : o = if ok then .next ((s.tick t).keep u) else .fault (.illFormed name)) : StepForm ok s o :=
  ⟨name, t, u, h⟩

/-- Each arm of `exec` is a step at the command's time (`stepIf`) under the check that `Instr.wf` states for the command.
An arm that checks nothing leaves the name of its fault open, and any name will do. -/
theorem exec_stepForm (i : Instr) (s : State) : StepForm i.wf s (exec i s) := by
  cases i <;> apply StepForm.intro _ _ _ rfl <;> exact ""

/-- A well-formed command answers a next state, takes nothing from the queue and never sets the clock back. -/
theorem exec_next_of_wf {i : Instr} (s : State) (h : i.wf = true) :
    ∃ u, exec i s = .next u ∧ u.pending = s.pending ∧ s.now ≤ u.now := by
  obtain ⟨name, t, u, ho⟩ := exec_stepForm i s
  rw [h, if_pos rfl] at ho
  exact ⟨_, ho, rfl, Nat.le_max_left s.now t⟩

theorem exec_fault_of_not_wf {i : Instr} (s : State) (h : i.wf = false) :
    ∃ name, exec i s = .fault (.illFormed name) := by
  obtain ⟨name, t, u, ho⟩ := exec_stepForm i s
  rw [h, if_neg Bool.false_ne_true] at ho
  exact ⟨name, ho⟩

theorem exec_ne_refused (i : Instr) (s : State) (r : Refusal) : exec i s ≠ .refused r := by
  cases h : i.wf with
  | true =>
    obtain ⟨u, hu, -⟩ := exec_next_of_wf s h
    simp [hu]
  | false =>
    obtain ⟨name, hf⟩ := exec_fault_of_not_wf s h
    simp [hf]

/-! ### The queue -/

theorem step_nil {s : State} (h : s.pending = []) : step s = .next s := by
  rw [step, h]

theorem step_cons {s : State} {i : Instr} {rest : List Instr} (h : s.pending = i :: rest) :
    step s = exec i { s with pending := rest } := by
  rw [step, h]

/-- The queue invariant: a step on a queue of well-formed commands takes its front, if there is one, and runs it. -/
theorem step_next_of_queueWf {s : State} (h : QueueWf s) :
    ∃ u, step s = .next u ∧ QueueWf u ∧ s.now ≤ u.now ∧ u.pending = s.pending.tail := by
  cases hq : s.pending with
  | nil => exact ⟨s, step_nil hq, h, Nat.le_refl _, hq⟩
  | cons i rest =>
    rw [QueueWf, hq, List.forall_mem_cons] at h
    obtain ⟨hi, hrest⟩ := h
    obtain ⟨u, hu, hpending, hnow⟩ := exec_next_of_wf { s with pending := rest } hi
    exact ⟨u, (step_cons hq).trans hu, by rwa [QueueWf, hpending], hnow, hpending⟩

theorem step_ne_refused (s : State) (r : Refusal) : step s ≠ .refused r := by
  cases hq : s.pending with
  | nil => simp [step_nil hq]
  | cons i rest =>
    rw [step_cons hq]
    exact exec_ne_refused i _ r

theorem runs_succ {s u : State} (n : Nat) (h : step s = .next u) : runs (n + 1) s = runs n u := by
  rw [runs, h]

/-- As many steps as one likes take as many commands from the front of a queue of well-formed ones. -/
theorem runs_of_queueWf (n : Nat) {s : State} (h : QueueWf s) :
    ∃ u, runs n s = some u ∧ u.pending = s.pending.drop n := by
  induction n generalizing s with
  | zero => exact ⟨s, rfl, rfl⟩
  | succ n ih =>
    obtain ⟨v, hstep, hv, -, htail⟩ := step_next_of_queueWf h
    obtain ⟨u, hruns, hdrop⟩ := ih hv
    refine ⟨u, (runs_succ n hstep).trans hruns, ?_⟩
    rw [hdrop, htail, List.drop_tail]

end Sys2Proof.Machine

namespace Sys2Proof.Proofs

open Sys2Proof.Machine Sys2Proof.Claims

/-- Settles O59: every command is a step under the check of `Instr.wf`, so a queue that passes the checks never stops. -/
theorem queueRunsToItsEnd : Obligations.QueueRunsToItsEnd :=
  ⟨fun _ h => step_next_of_queueWf h, fun n _ h => runs_of_queueWf n h, fun _ s h => exec_fault_of_not_wf s h,
    step_ne_refused⟩

end Sys2Proof.Proofs
end

section
/-! SUPPORT. Translation (spec/12): what the checks of R313 on one entry decide, what a whole walk finds, what the end of a
walk does at either part, and the statement about them. -/

namespace Sys2Proof.Machine

open Sys2Proof.Claims

/-! ### One entry (R313) -/

/-- When an entry is the PAGE that an access ends at. -/
theorem Dev.entry_eq_page_iff {v : Dev} {addr needs l e a k : Nat} :
    v.entry addr needs l e = .done (.page a k) ↔
      (e % 4 = 2 ∧ bitsOf e 15 5 = 0 ∧ ¬ (v.part = .sw ∧ bitsOf e 63 47 ≠ 0) ∧ l ≠ 0 ∧
        e / 65536 * 65536 % 2 ^ lvlShift l = 0) ∧
      Nat.land (bitsOf e 4 2) needs = needs ∧ e / 65536 * 65536 + addr % 2 ^ lvlShift l = a ∧ l = k := by
  unfold Dev.entry
  dsimp only
  by_cases h0 : e % 4 = 0
  · rw [if_pos h0]
    exact iff_of_false nofun (fun ⟨⟨h2, _⟩, _⟩ => by omega)
  by_cases h3 : e % 4 = 3
  · rw [if_neg h0, if_pos h3]
    exact iff_of_false nofun (fun ⟨⟨h2, _⟩, _⟩ => by omega)
  by_cases h1 : e % 4 = 1
  · rw [if_neg h0, if_neg h3, if_pos h1]
    split <;> exact iff_of_false nofun (fun ⟨⟨h2, _⟩, _⟩ => by omega)
  rw [if_neg h0, if_neg h3, if_neg h1]
  split
  next hbad =>
    refine iff_of_false nofun (fun ⟨⟨_, hrsv, hsw, hl, hbase⟩, _⟩ => ?_)
    exact hbad.elim (· hrsv) (Or.elim · hsw (Or.elim · hl (· hbase)))
  next hbad =>
    obtain ⟨hrsv, hbad⟩ := not_or.mp hbad
    obtain ⟨hsw, hbad⟩ := not_or.mp hbad
    obtain ⟨hl, hbase⟩ := not_or.mp hbad
    split
    next hperms => exact iff_of_false nofun (fun ⟨_, hgranted, _⟩ => hperms hgranted)
    next hperms =>
      constructor
      · intro h
        injection h with h
        injection h with ha hk
        exact ⟨⟨by omega, Decidable.not_not.mp hrsv, hsw, hl, Decidable.not_not.mp hbase⟩,
          Decidable.not_not.mp hperms, ha, hk⟩
      · rintro ⟨-, -, rfl, rfl⟩
        rfl

/-- Whether an entry points to a further table does not depend on the permissions. -/
theorem Dev.entry_next {v : Dev} {addr needs l e t' : Nat} (h : v.entry addr needs l e = .next t') (fewer : Nat) :
    v.entry addr fewer l e = .next t' := by
  unfold Dev.entry at h ⊢
  dsimp only at h ⊢
  by_cases h0 : e % 4 = 0
  · rw [if_pos h0] at h
    cases h
  by_cases h3 : e % 4 = 3
  · rw [if_neg h0, if_pos h3] at h
    cases h
  by_cases h1 : e % 4 = 1
  · rw [if_neg h0, if_neg h3, if_pos h1] at h ⊢
    exact h
  · rw [if_neg h0, if_neg h3, if_neg h1] at h
    split at h
    · cases h
    · split at h <;> cases h

/-- A page that grants an access grants one that needs no more (Table 12.4). -/
theorem land_eq_of_fewer {perms needs fewer : Nat} (h : Nat.land perms needs = needs) (hf : Nat.land needs fewer = fewer) :
    Nat.land perms fewer = fewer := by
  calc Nat.land perms fewer = Nat.land perms (Nat.land needs fewer) := by rw [hf]
    _ = Nat.land (Nat.land perms needs) fewer := (Nat.and_assoc perms needs fewer).symm
    _ = fewer := by rw [h, hf]

/-! ### A whole walk -/

/-- What a walk has found when it ends at a PAGE, at one of the levels `ls`: the address's own offset within the page. -/
def PageOf (ls : List Nat) (addr a k : Nat) : Prop := k ∈ ls ∧ k ≠ 0 ∧ a % 2 ^ lvlShift k = addr % 2 ^ lvlShift k

theorem Dev.entry_page {v : Dev} {addr needs l e a k : Nat} (h : v.entry addr needs l e = .done (.page a k)) :
    PageOf [l] addr a k := by
  obtain ⟨⟨-, -, -, hl, hbase⟩, -, rfl, rfl⟩ := Dev.entry_eq_page_iff.mp h
  refine ⟨List.mem_singleton_self l, hl, ?_⟩
  rw [Nat.add_mod, hbase, Nat.zero_add, Nat.mod_mod, Nat.mod_mod]

theorem Dev.entry_page_fewer {v : Dev} {addr needs fewer l e a k : Nat} (h : v.entry addr needs l e = .done (.page a k))
    (hf : Nat.land needs fewer = fewer) : v.entry addr fewer l e = .done (.page a k) := by
  obtain ⟨hpage, hperms, hak⟩ := Dev.entry_eq_page_iff.mp h
  exact Dev.entry_eq_page_iff.mpr ⟨hpage, land_eq_of_fewer hperms hf, hak⟩

/-- A walk at one more level meets an uncorrectable word, or goes by the checks on one entry, whatever the permissions. -/
theorem Dev.walkFrom_cons_cases (v : Dev) (id addr : Nat) (bad : Option Nat) (l : Nat) (ls : List Nat) (t : Nat)
    (acc : List XEnt) :
    (∀ needs, v.walkFrom id addr needs bad (l :: ls) t acc = (.fault XCause.TABLE_ECC l, acc)) ∨
    ∃ e acc', ∀ needs,
      (∀ r, v.entry addr needs l e = .done r → v.walkFrom id addr needs bad (l :: ls) t acc = (r, acc')) ∧
      (∀ t', v.entry addr needs l e = .next t' →
        v.walkFrom id addr needs bad (l :: ls) t acc = v.walkFrom id addr needs bad ls t' acc') := by
  cases hc : v.cached id addr l with
  | some x =>
    refine .inr ⟨x.word, acc, fun needs => ⟨fun r he => ?_, fun t' he => ?_⟩⟩ <;> simp only [Dev.walkFrom, hc, he]
  | none =>
    by_cases hb : bad = some l
    · refine .inl fun needs => ?_
      simp only [Dev.walkFrom, hc, hb, if_true]
    · let e := Memory.num v.mem (t + 8 * (addr / 2 ^ lvlShift l % lvlEntries l)) 8
      refine .inr ⟨e, acc ++ [⟨id, l, addr / 2 ^ lvlShift l, e⟩], fun needs => ⟨fun r he => ?_, fun t' he => ?_⟩⟩ <;>
        simp only [Dev.walkFrom, hc, hb, if_false, e, he]

theorem Dev.walkFrom_page {v : Dev} {id addr needs : Nat} {bad : Option Nat} {ls : List Nat} {t a k : Nat}
    {acc : List XEnt} (h : (v.walkFrom id addr needs bad ls t acc).1 = .page a k) :
    PageOf ls addr a k ∧
    ∀ fewer, Nat.land needs fewer = fewer → (v.walkFrom id addr fewer bad ls t acc).1 = .page a k := by
  induction ls generalizing t acc with
  | nil => simp [Dev.walkFrom] at h
  | cons l ls ih =>
    rcases v.walkFrom_cons_cases id addr bad l ls t acc with hbad | ⟨e, acc', hgo⟩
    · simp [hbad] at h
    · cases he : v.entry addr needs l e with
      | next t' =>
        rw [(hgo needs).2 t' he] at h
        obtain ⟨⟨hmem, hpage⟩, hfewer⟩ := ih h
        refine ⟨⟨List.mem_cons_of_mem l hmem, hpage⟩, fun fewer hf => ?_⟩
        rw [(hgo fewer).2 t' (Dev.entry_next he fewer)]
        exact hfewer fewer hf
      | done r =>
        rw [(hgo needs).1 r he] at h
        obtain rfl : r = .page a k := h
        obtain ⟨hmem, hpage⟩ := Dev.entry_page he
        refine ⟨⟨List.mem_cons.mpr (.inl (List.mem_singleton.mp hmem)), hpage⟩, fun fewer hf => ?_⟩
        rw [(hgo fewer).1 _ (Dev.entry_page_fewer he hf)]

theorem PageOf.offset {ls : List Nat} {addr a k : Nat} (h : PageOf ls addr a k) :
    a % 2 ^ lvlShift k = addr % 2 ^ lvlShift k := by
  obtain ⟨-, -, hoffset⟩ := h
  exact hoffset

theorem PageOf.level {addr a k : Nat} (h : PageOf [0, 1, 2, 3] addr a k) : 1 ≤ k ∧ k ≤ 3 := by
  obtain ⟨hmem, hk, -⟩ := h
  simp only [List.mem_cons, List.not_mem_nil, or_false] at hmem
  omega

section
variable {v : Dev} {id addr t : Nat}

/-- An end-point refuses an address above 52 bits. -/
theorem Dev.walk_high (needs : Nat) (bad : Option Nat) (hp : v.part = .ep) (ha : 2 ^ 52 ≤ addr) :
    v.walk id addr needs bad = (.fault XCause.ADDR_HIGH 0, []) := by
  have hin : v.part = .ep ∧ addr / 2 ^ 52 ≠ 0 := ⟨hp, by omega⟩
  simp only [Dev.walk, if_pos hin]

/-- The check of the address is passed by one of 52 bits, and at a switch by any. -/
theorem Dev.walk_low (ha : v.part = .ep → addr < 2 ^ 52) : ¬ (v.part = .ep ∧ addr / 2 ^ 52 ≠ 0) :=
  fun h => h.2 (Nat.div_eq_of_lt (ha h.1))

theorem Dev.walk_rooted (needs : Nat) (bad : Option Nat) (ha : v.part = .ep → addr < 2 ^ 52) (hr : v.root id = some t) :
    v.walk id addr needs bad = v.walkFrom id addr needs bad [0, 1, 2, 3] t [] := by
  simp only [Dev.walk, if_neg (Dev.walk_low ha), hr]

/-- R315: with no valid root nothing is read. -/
theorem Dev.walk_unrooted (needs : Nat) (bad : Option Nat) (ha : v.part = .ep → addr < 2 ^ 52) (hr : v.root id = none) :
    v.walk id addr needs bad = (.fault XCause.NO_ROOT 0, []) := by
  simp only [Dev.walk, if_neg (Dev.walk_low ha), hr]

end

/-- What a walk that ends at a PAGE has met: a root, an address within the bits that are checked, and the page. -/
theorem Dev.walk_page {v : Dev} {id addr needs a k : Nat} {bad : Option Nat} (h : (v.walk id addr needs bad).1 = .page a k) :
    ∃ t, v.root id = some t ∧ (v.part = .ep → addr < 2 ^ 52) ∧ PageOf [0, 1, 2, 3] addr a k ∧
      ∀ fewer, Nat.land needs fewer = fewer → (v.walk id addr fewer bad).1 = .page a k := by
  have ha : v.part = .ep → addr < 2 ^ 52 := fun hp => by
    refine Nat.lt_of_not_le (fun hge => ?_)
    rw [Dev.walk_high needs bad hp hge] at h
    cases h
  cases hr : v.root id with
  | none =>
    rw [Dev.walk_unrooted needs bad ha hr] at h
    cases h
  | some t =>
    simp only [Dev.walk_rooted _ bad ha hr] at h ⊢
    exact ⟨t, rfl, ha, Dev.walkFrom_page h⟩

/-! ### The end of a walk at a switch (R316, R318, R321, R323) -/

/-- The accesses that wait for walk `n`. -/
def Dev.heldBy (v : Dev) (n : Nat) : List Waiting := v.waiting.filter (fun x => x.on == .walk n)

/-- What an access that waited for a walk does with what its own walk finds at a switch `v`. -/
def Dev.serve (v : Dev) (bad : Option Nat) (a : State) (x : Waiting) : State :=
  match (v.walk x.request.1 x.request.2.1 x.request.2.2 bad).1 with
  | .page ad l => a.rerun x (some (ad, l))
  | .fault c l => a.walkFault x c l

/-- The switch `v`'s walk `w` of number `n` has ended: it is counted, its walker is free, nothing waits for it, and an
uncorrectable entry that it read is reported, as of unit 8 (R416, log 52). -/
def State.walkEnded (s : State) (v : Dev) (n : Nat) (w : Walk) (bad : Option Nat) : State :=
  let a := ((s.countWalk .sw w.id w.addr (v.walk w.id w.addr w.access bad).2).modDev .sw (fun x => x.endWalk n)).modDev .sw
    (fun x => { x with waiting := x.waiting.filter (fun y => y.on != .walk n) })
  match v.badEntry w.id w.addr w.access bad with
  | some x => a.ue .sw 8 x
  | none => a

section
variable {s : State} {v : Dev} {n : Nat} {w : Walk} {bad : Option Nat}

/-- After an invalidation every access that waited is translated again. -/
theorem State.walkDone_stale (hv : s.dev .sw = v) (hw : v.walks.find? (fun w => w.num == n) = some w) (hb : w.busy = true)
    (hs : w.stale = true) :
    s.walkDone n bad = (v.heldBy n).foldl (fun a x => a.rerun x none) (s.walkEnded v n w bad) := by
  subst hv
  simp only [State.walkDone, hw, hb, hs, Bool.not_true, Bool.false_eq_true, if_false, if_true]
  rfl

theorem State.walkDone_page {a l : Nat} (hv : s.dev .sw = v) (hw : v.walks.find? (fun w => w.num == n) = some w)
    (hb : w.busy = true) (hs : w.stale = false) (hr : (v.walk w.id w.addr w.access bad).1 = .page a l) :
    s.walkDone n bad = (v.heldBy n).foldl (v.serve bad)
      ((s.walkEnded v n w bad).cacheEntries .sw (v.walk w.id w.addr w.access bad).2) := by
  subst hv
  simp only [State.walkDone, hw, hb, hs, hr, Bool.not_true, Bool.false_eq_true, if_false]
  rfl

theorem State.walkDone_fault {c l : Nat} (hv : s.dev .sw = v) (hw : v.walks.find? (fun w => w.num == n) = some w)
    (hb : w.busy = true) (hs : w.stale = false) (hr : (v.walk w.id w.addr w.access bad).1 = .fault c l) :
    s.walkDone n bad = (v.heldBy n).foldl (v.serve bad) (s.walkEnded v n w bad) := by
  subst hv
  simp only [State.walkDone, hw, hb, hs, hr, Bool.not_true, Bool.false_eq_true, if_false]
  rfl

/-! ### The end of a walk at an end-point (R316, R321, R323, R325) -/

/-- A request waits for no walk, so its engine translates it again. -/
def State.walkAgain (a : State) (f : Flight) : State := a.modFlight f.idx (fun x => { x with walk := none })

/-- What a request that waited for walk `w` does at an end-point `v`: with what the walk under context `ctx` finds for it,
where its engine is still bound to the context of `w`. -/
def Dev.serveEp (v : Dev) (w : Walk) (bad : Option Nat) (ctx : Nat) (a : State) (f : Flight) : State :=
  if v.engineCtx f.engine ≠ w.id then a.walkAgain f
  else match f.todo with
    | [] => a
    | p :: _ =>
      match (v.walk ctx p.ea (reqNeeds f.req) bad).1 with
      | .page ad _ => a.modFlight f.idx (fun x => x.take w.id (some ad))
      | .fault c l =>
        if reqKind f.req = Kind.INVAL then a.modFlight f.idx (fun x => x.take w.id none) else a.l2Fault f p.ea c l

/-- A request that is served is one of the walk's own context. -/
theorem Dev.serveEp_engineCtx (v : Dev) (w : Walk) (bad : Option Nat) :
    (fun a f => v.serveEp w bad (v.engineCtx f.engine) a f) = v.serveEp w bad w.id := by
  funext a f
  by_cases hc : v.engineCtx f.engine = w.id
  · rw [hc]
  · simp only [Dev.serveEp, ne_eq, hc, not_false_eq_true, if_true]

/-- The end-point `v`'s walk `w` of number `n` has ended: it is counted and its walker is free. -/
def State.walkEndedEp (s : State) (v : Dev) (n : Nat) (w : Walk) (bad : Option Nat) : State :=
  (s.countWalk .ep w.id w.addr (v.walk w.id w.addr w.access bad).2).modDev .ep (fun x => x.endWalk n)

/-- The requests that wait for walk `n`. -/
def EndPoint.heldBy (e : EndPoint) (n : Nat) : List Flight := e.flights.filter (fun f => f.walk == some n)

/-- The engines of the requests go on. -/
def State.pumpAll (a : State) (fs : List Flight) : State :=
  ((fs.map (fun f => f.engine)).eraseDups).foldl (fun a e => a.pump e) a

section
variable {s : State} {v : Dev} {fs : List Flight} {n : Nat} {w : Walk} {bad : Option Nat}

/-- After an invalidation every request that waited is translated again. -/
theorem State.walkDoneEp_stale (hv : s.dev .ep = v) (hfs : s.ep.heldBy n = fs)
    (hw : v.walks.find? (fun w => w.num == n) = some w) (hb : w.busy = true) (hs : w.stale = true) :
    s.walkDoneEp n bad = (fs.foldl State.walkAgain (s.walkEndedEp v n w bad)).pumpAll fs := by
  subst hv hfs
  simp only [State.walkDoneEp, hw, hb, hs, Bool.not_true, Bool.false_eq_true, if_false, true_or, if_true]
  rfl

theorem State.walkDoneEp_page {a l : Nat} (hv : s.dev .ep = v) (hfs : s.ep.heldBy n = fs)
    (hw : v.walks.find? (fun w => w.num == n) = some w) (hb : w.busy = true) (hs : w.stale = false)
    (hr : (v.walk w.id w.addr w.access bad).1 = .page a l) :
    s.walkDoneEp n bad = (fs.foldl (v.serveEp w bad w.id)
      ((s.walkEndedEp v n w bad).cacheEntries .ep (v.walk w.id w.addr w.access bad).2)).pumpAll fs := by
  subst hv hfs
  simp only [State.walkDoneEp, hw, hb, hs, hr, Bool.not_true, Bool.false_eq_true, if_false, false_or]
  rw [← Dev.serveEp_engineCtx]
  rfl

theorem State.walkDoneEp_fault {c l : Nat} (hv : s.dev .ep = v) (hfs : s.ep.heldBy n = fs)
    (hw : v.walks.find? (fun w => w.num == n) = some w) (hb : w.busy = true) (hs : w.stale = false)
    (hr : (v.walk w.id w.addr w.access bad).1 = .fault c l) :
    s.walkDoneEp n bad = (fs.foldl (v.serveEp w bad w.id) (s.walkEndedEp v n w bad)).pumpAll fs := by
  subst hv hfs
  simp only [State.walkDoneEp, hw, hb, hs, hr, Bool.not_true, Bool.false_eq_true, if_false, false_or]
  rw [← Dev.serveEp_engineCtx]
  rfl

end

/-! ### WALK_COMPLETE -/

@[simp] theorem badLevel_unfixed (bad : Option Nat) : badLevel (bad.map (fun l => ⟨l, false⟩)) = bad := by
  cases bad <;> rfl

/-- An entry that cannot be corrected is not counted as corrected. -/
@[simp] theorem State.entryFixed_unfixed (s : State) (d : Part) (n : Nat) (bad : Option Nat) :
    s.entryFixed d n (bad.map (fun l => ⟨l, false⟩)) = s := by
  unfold State.entryFixed
  split
  case h_1 e w hbad hw =>
    obtain ⟨l, -, rfl⟩ := Option.map_eq_some_iff.mp hbad
    simp
  case h_2 => rfl

/-- The walk of a number that is under way is also the first one under way of that number. -/
theorem find?_busy_of_find? {ws : List Walk} (hw : ws.find? (fun w => w.num == n) = some w) (hb : w.busy = true) :
    ws.find? (fun w => w.num == n && w.busy) = some w := by
  obtain ⟨hn, before, after, hsplit, hbefore⟩ := List.find?_eq_some_iff_append.mp hw
  refine List.find?_eq_some_iff_append.mpr ⟨by simp [hn, hb], before, after, hsplit, fun x hx => ?_⟩
  have hne := hbefore x hx
  simp only [Bool.not_eq_true'] at hne
  simp [hne]

/-- R13: an entry that the walk reads and that is corrected is counted. -/
theorem State.entryFixed_corrected {l x : Nat} (hv : s.dev .sw = v) (hw : v.walks.find? (fun w => w.num == n) = some w)
    (hb : w.busy = true) (hx : v.badEntry w.id w.addr w.access (some l) = some x) :
    s.entryFixed .sw n (some ⟨l, true⟩) = s.ce .sw 8 1 := by
  subst hv
  simp [State.entryFixed, find?_busy_of_find? hw hb, hx]

end

/-- WALK_COMPLETE when no entry that the walk read was corrected. -/
theorem walkComplete_unfixed (s : State) (d : Part) (n t : Nat) (bad : Option Nat) :
    Leaves (.walkComplete d n (bad.map (fun l => ⟨l, false⟩)) t) t s
      (fun a => match d with | .sw => a.walkDone n bad | .ep => a.walkDoneEp n bad) := by
  rw [Leaves, exec_walkComplete, execWalkComplete, stepSettle_next rfl]
  cases d <;> simp only [State.entryFixed_unfixed, badLevel_unfixed]

/-- What a command leaves depends only on what its effect is at the command's time. -/
theorem leaves_congr {i : Instr} {t : Nat} {s : State} {f g : State → State} (h : Leaves i t s f)
    (hfg : f (s.tick t) = g (s.tick t)) : Leaves i t s g := by
  rw [Leaves, ← hfg]
  exact h

/-- R13: an entry that the walk reads and that is corrected is counted, and the walk finds what it would have found. -/
theorem walkComplete_sw_corrected {s : State} {n t l x : Nat} {w : Walk}
    (hw : (s.dev .sw).walks.find? (fun w => w.num == n) = some w) (hb : w.busy = true)
    (hx : (s.dev .sw).badEntry w.id w.addr w.access (some l) = some x) :
    Leaves (.walkComplete .sw n (some ⟨l, true⟩) t) t s (fun a => (a.ce .sw 8 1).walkDone n none) := by
  rw [Leaves, exec_walkComplete, execWalkComplete, stepSettle_next rfl]
  simp only [State.entryFixed_corrected (s.tick_dev t .sw) hw hb hx]
  rfl

end Sys2Proof.Machine

namespace Sys2Proof.Proofs

open Sys2Proof.Machine Sys2Proof.Claims

/-- Settles O22: what a walk finds is `Dev.walk_page` and `Dev.walk_unrooted`; each clause on its end is the branch of
`walkDone` or `walkDoneEp` of its name. -/
theorem walksComplete : Obligations.WalksComplete := by
  refine ⟨fun v id addr needs bad => ⟨fun a l h => ?found, fun hr ha => ?unrooted⟩,
    fun n t bad s => ⟨fun w hw hb => ?switch, fun w hw hb => ?endPoint⟩,
    fun f p ps ctx a hf => ?take⟩
  case found =>
    obtain ⟨t, hr, ha, hpage, hfewer⟩ := Dev.walk_page h
    obtain ⟨hl1, hl3⟩ := hpage.level
    exact ⟨by simp [hr], hl1, hl3, hpage.offset, ha, hfewer⟩
  case unrooted =>
    exact Dev.walk_unrooted needs bad (fun hp => ha.resolve_left (by simp [hp])) hr
  case switch =>
    have hv := s.tick_dev t .sw
    have hgo := walkComplete_unfixed s .sw n t bad
    exact ⟨fun hs => leaves_congr hgo (State.walkDone_stale hv hw hb hs),
      fun hs _ _ hr => leaves_congr hgo (State.walkDone_page hv hw hb hs hr),
      fun hs _ _ hr => leaves_congr hgo (State.walkDone_fault hv hw hb hs hr),
      fun _ _ hx => walkComplete_sw_corrected hw hb hx⟩
  case endPoint =>
    have hv := s.tick_dev t .ep
    have hgo := walkComplete_unfixed s .ep n t bad
    exact ⟨fun hs => leaves_congr hgo (State.walkDoneEp_stale hv rfl hw hb hs),
      fun hs _ _ hr => leaves_congr hgo (State.walkDoneEp_page hv rfl hw hb hs hr),
      fun hs _ _ hr => leaves_congr hgo (State.walkDoneEp_fault hv rfl hw hb hs hr)⟩
  case take =>
    simp [Flight.take, hf]

end Sys2Proof.Proofs
end

section
/-! SUPPORT. The Pot (spec/02, R16 to R28): what a write of CFG_POT_STATUS leaves, what each command of the host does, what
the two addresses of a Pot register give, and the statements about them. -/

namespace Sys2Proof.Machine

open Sys2Proof.Claims

/-! ### The fields of CFG_POT_STATUS -/

@[simp] theorem Dev.potState_eq (v : Dev) : v.potState = v.get F.CFG_POT_STATUS_STATE := rfl
@[simp] theorem Dev.potHolder_eq (v : Dev) : v.potHolder = v.get F.CFG_POT_STATUS_HOLDER := rfl

/-- A register outside the field's own reads as before. -/
theorem Dev.reg_set_ne (v : Dev) {f : Fld} {c : Nat} (x : Nat) (h : c ≠ f.reg) : (v.set f x).reg c = v.reg c :=
  v.reg_setReg_ne _ h

/-- A staged copy follows its live register only until it has been staged. -/
theorem Dev.stagedReg_congr {u v : Dev} {c : Nat} (hr : u.reg c = v.reg c) (hs : u.staged = v.staged) :
    u.stagedReg c = v.stagedReg c := by
  rw [Dev.stagedReg, Dev.stagedReg, hr, hs]

theorem Dev.stagedReg_set_ne (v : Dev) {f : Fld} {c : Nat} (x : Nat) (h : c ≠ f.reg) :
    (v.set f x).stagedReg c = v.stagedReg c :=
  Dev.stagedReg_congr (v.reg_set_ne x h) rfl

@[simp] theorem State.tick_get (s : State) (t : Nat) (d : Part) (f : Fld) : (s.tick t).get d f = s.get d f := by
  rw [State.get, State.get, s.tick_dev]

@[simp] theorem State.core_setDev (s : State) (d : Part) (v : Dev) (n : Nat) : (s.setDev d v).core n = s.core n :=
  s.core_modDev d (fun _ => v) n

/-- The host's command is taken: it holds the Pot, and nothing is being decided (Table 2.7). -/
theorem State.potMay_iff_hostHolds (s : State) (d : Part) : (s.dev d).potMay ownerHolds = true ↔ HostHolds s d := by
  simp [Dev.potMay, HostHolds, State.get, ownerHolds, Pot.STAGING, Pot.CHECKED]

theorem State.potMay_of_hostHolds {s : State} {d : Part} (h : HostHolds s d) : (s.dev d).potMay ownerHolds = true :=
  (s.potMay_iff_hostHolds d).mpr h

theorem State.potMay_of_not_hostHolds {s : State} {d : Part} (h : ¬ HostHolds s d) :
    (s.dev d).potMay ownerHolds = false :=
  Bool.eq_false_iff.mpr (mt (s.potMay_iff_hostHolds d).mp h)

@[simp] theorem hostHolds_tick (s : State) (t : Nat) (d : Part) : HostHolds (s.tick t) d ↔ HostHolds s d := by
  simp only [HostHolds, State.tick_get]

@[simp] theorem deciding_tick (s : State) (t : Nat) (d : Part) : Deciding (s.tick t) d ↔ Deciding s d := by
  simp only [Deciding, State.tick_get]

theorem not_hostHolds_of_deciding {s : State} {d : Part} (h : Deciding s d) : ¬ HostHolds s d := by
  simp only [Deciding, HostHolds] at *
  omega

theorem not_hostHolds_of_holder {s : State} {d : Part} (h : s.get d F.CFG_POT_STATUS_HOLDER ≠ 1) : ¬ HostHolds s d :=
  fun hh => h hh.1

/-! ### Commands of the host (Table 2.7, R508) -/

section

variable {s : State} {d : Part}

theorem State.potClaim_empty (hready : s.get d F.CFG_BOOT_STATUS_STAGE = 7)
    (hempty : s.get d F.CFG_POT_STATUS_STATE = 0) : s.potClaim d = s.modDev d (potStatus 1 1 0) := by
  rw [State.potClaim]
  exact (if_neg (not_not_intro hready)).trans (if_pos hempty)

/-- The Pot is another's, or something is being decided. -/
theorem State.potClaim_busy (hstate : s.get d F.CFG_POT_STATUS_STATE ≠ 0) (hh : ¬ HostHolds s d) :
    s.potClaim d = s.set d F.CFG_POT_STATUS_RESULT 6 := by
  have hstate' : (s.dev d).potState ≠ Pot.EMPTY := hstate
  simp only [State.potClaim, hstate', State.potMay_of_not_hostHolds hh, Bool.false_eq_true, if_false, ite_self]
  rfl

/-- With no core behind the Pot, nobody is told that it was taken (R20). -/
theorem State.potForce_take (hready : s.get d F.CFG_BOOT_STATUS_STAGE = 7) (hd : ¬ Deciding s d)
    (hcore : s.get d F.CFG_POT_STATUS_HOLDER < 0x40) :
    s.potForce d = s.modDev d (fun v => potStatus 1 1 0 { v with staged := [], potPassed := false }) := by
  have told : s.tellTaken d = s := if_neg (fun h => Nat.not_le.mpr hcore h.2)
  have free : ¬ ((s.dev d).potState = Pot.CHECKING ∨ (s.dev d).potState = Pot.POURING ∨
      (s.dev d).get F.CFG_BOOT_STATUS_STAGE ≠ 7) := by
    rintro (h | h | h)
    · exact hd (.inl h)
    · exact hd (.inr h)
    · exact h hready
  rw [State.potForce, told]
  exact if_neg free

theorem State.potForce_busy (hd : Deciding s d) : s.potForce d = s.set d F.CFG_POT_STATUS_RESULT 6 := by
  have busy : (s.dev d).potState = Pot.CHECKING ∨ (s.dev d).potState = Pot.POURING ∨
      (s.dev d).get F.CFG_BOOT_STATUS_STAGE ≠ 7 := hd.imp id .inl
  rw [State.potForce]
  exact if_pos busy

theorem State.potCheck_holder (hh : HostHolds s d) : s.potCheck d = s.set d F.CFG_POT_STATUS_STATE 2 :=
  if_pos (State.potMay_of_hostHolds hh)

theorem State.potPour_passed (hh : HostHolds s d) (hstate : s.get d F.CFG_POT_STATUS_STATE = 3)
    (hp : (s.dev d).potPassed = true) : s.potPour d = s.set d F.CFG_POT_STATUS_STATE 4 := by
  have hstate' : (s.dev d).potState = Pot.CHECKED := hstate
  simp only [State.potPour, State.potMay_of_hostHolds hh, hp, hstate', Bool.not_true, Bool.false_eq_true, if_false,
    BEq.rfl, Bool.and_self, if_true]
  rfl

theorem State.potPour_stale (hh : HostHolds s d) (hp : (s.dev d).potPassed = false) :
    s.potPour d = s.set d F.CFG_POT_STATUS_RESULT 4 := by
  simp only [State.potPour, State.potMay_of_hostHolds hh, hp, Bool.not_true, Bool.false_eq_true, if_false,
    Bool.false_and]
  rfl

theorem State.potDiscard_holder (hh : HostHolds s d) : s.potDiscard d = s.modDev d (fun v =>
    potStatus 0 0 0 { v with staged := [], potPassed := false, potRelease := false }) :=
  if_pos (State.potMay_of_hostHolds hh)

/-! A command of one who does not hold the Pot, or while something is being decided, answers BUSY (R22). -/

section

variable (hh : ¬ HostHolds s d)
include hh

theorem State.potCheck_busy : s.potCheck d = s.set d F.CFG_POT_STATUS_RESULT 6 := by
  rw [State.potCheck, State.potMay_of_not_hostHolds hh]
  rfl

theorem State.potPour_busy : s.potPour d = s.set d F.CFG_POT_STATUS_RESULT 6 := by
  rw [State.potPour, State.potMay_of_not_hostHolds hh]
  rfl

theorem State.potDiscard_busy : s.potDiscard d = s.set d F.CFG_POT_STATUS_RESULT 6 := by
  rw [State.potDiscard, State.potMay_of_not_hostHolds hh]
  rfl

theorem State.potWrite_busy (a n x : Nat) : s.potWrite d a n x = s.set d F.CFG_POT_STATUS_RESULT 6 := by
  rw [State.potWrite, State.potMay_of_not_hostHolds hh]
  rfl

end

end

/-! ### Staged writes (R16, R22, R28) -/

theorem Dev.stage_get (v : Dev) (r : RegRow) (b a n x : Nat) (f : Fld) :
    (v.stage r b a n x).get f = (v.set F.CFG_POT_STATUS_STATE 1).get f := rfl

theorem Dev.stage_reg_ne (v : Dev) (r : RegRow) (b a n x : Nat) {c : Nat} (h : c ≠ A.CFG_POT_STATUS) :
    (v.stage r b a n x).reg c = v.reg c :=
  v.reg_set_ne 1 h

theorem Dev.stage_stagedReg_self (v : Dev) (r : RegRow) {b : Nat} (a n x : Nat) (h : b ≠ A.CFG_POT_STATUS) :
    (v.stage r b a n x).stagedReg b = merged (v.stagedReg b) r.rw b a n x % 2 ^ 64 := by
  rw [Dev.stagedReg, v.stage_reg_ne r b a n x h]
  exact (congrArg BitVec.toNat (SMap.at_put_self _ v.staged b _)).trans (BitVec.toNat_ofNat _ _)

theorem Dev.stage_stagedReg_ne (v : Dev) (r : RegRow) {b c : Nat} (a n x : Nat) (hc : c ≠ b)
    (h : c ≠ A.CFG_POT_STATUS) :
    (v.stage r b a n x).stagedReg c = v.stagedReg c := by
  rw [Dev.stagedReg, v.stage_reg_ne r b a n x h]
  exact congrArg BitVec.toNat (SMap.at_put_ne _ _ v.staged _ hc)

section

variable {s : State} {d : Part} {r : RegRow} {a b c n x : Nat}

theorem State.potWrite_holder (hh : HostHolds s d) (hr : potReg d a n = some (r, b)) :
    s.potWrite d a n x = s.setDev d (((s.dev d).stage r b a n x).set F.CFG_POT_STATUS_RESULT 0) := by
  rw [State.potWrite, State.potMay_of_hostHolds hh, hr]
  rfl

/-- Taken or refused, the write leaves every live register but CFG_POT_STATUS. -/
theorem State.potWrite_reg (hr : potReg d a n = some (r, b)) (hc : c ≠ A.CFG_POT_STATUS) :
    ((s.potWrite d a n x).dev d).reg c = (s.dev d).reg c := by
  by_cases hh : HostHolds s d
  · rw [State.potWrite_holder hh hr, State.setDev_dev, Dev.reg_set_ne _ _ hc, Dev.stage_reg_ne _ _ _ _ _ _ hc]
  · rw [State.potWrite_busy hh, State.set_dev, Dev.reg_set_ne _ _ hc]

/-- Taken or refused, the write leaves every other staged copy. -/
theorem State.potWrite_stagedReg_ne (hr : potReg d a n = some (r, b)) (hb : c ≠ b) (hc : c ≠ A.CFG_POT_STATUS) :
    ((s.potWrite d a n x).dev d).stagedReg c = (s.dev d).stagedReg c := by
  by_cases hh : HostHolds s d
  · rw [State.potWrite_holder hh hr, State.setDev_dev, Dev.stagedReg_set_ne _ _ hc,
      Dev.stage_stagedReg_ne _ _ _ _ _ hb hc]
  · rw [State.potWrite_busy hh, State.set_dev, Dev.stagedReg_set_ne _ _ hc]

/-- The staged copy takes the register's RW fields. -/
theorem State.potWrite_stagedReg_self (hh : HostHolds s d) (hr : potReg d a n = some (r, b))
    (hb : b ≠ A.CFG_POT_STATUS) :
    ((s.potWrite d a n x).dev d).stagedReg b = merged ((s.dev d).stagedReg b) r.rw b a n x % 2 ^ 64 := by
  rw [State.potWrite_holder hh hr, State.setDev_dev, Dev.stagedReg_set_ne _ _ hb, Dev.stage_stagedReg_self _ _ _ _ _ hb]

/-- A write that is taken ends a passed check and leaves the Pot STAGING, with RESULT NONE. -/
theorem State.potWrite_status (hh : HostHolds s d) (hr : potReg d a n = some (r, b)) :
    ((s.potWrite d a n x).dev d).potPassed = false ∧
    (s.potWrite d a n x).get d F.CFG_POT_STATUS_STATE = 1 ∧
    (s.potWrite d a n x).get d F.CFG_POT_STATUS_RESULT = 0 ∧
    (s.potWrite d a n x).get d F.CFG_POT_STATUS_HOLDER = 1 := by
  rw [State.potWrite_holder hh hr]
  simp (disch := decide) only [State.get, State.setDev_dev, Dev.get_set_self, Dev.get_set_field, Dev.stage_get]
  exact ⟨rfl, rfl, rfl, hh.1⟩

/-- Beside the registers, the staged copies and the passed check nothing changes. -/
theorem State.potWrite_onlyPot (hr : potReg d a n = some (r, b)) : ∃ rs ss p,
    s.potWrite d a n x = s.setDev d { s.dev d with regs := rs, staged := ss, potPassed := p } := by
  by_cases hh : HostHolds s d
  · exact ⟨_, _, _, State.potWrite_holder hh hr⟩
  · exact ⟨_, _, _, State.potWrite_busy hh a n x⟩

end

/-! ### A register's two addresses (R16) -/

theorem State.accrue_staged (s : State) (n : Nat) : ((s.accrue n).dev .sw).staged = (s.dev .sw).staged := by
  unfold State.accrue
  dsimp only
  split <;> simp

theorem State.countPort_staged (s : State) (d : Part) (p : Nat) :
    ((s.countPort d p).dev d).staged = (s.dev d).staged := by
  unfold State.countPort
  dsimp only
  split <;> simp

theorem State.countLevels_staged (s : State) : (s.countLevels.dev .sw).staged = (s.dev .sw).staged := by
  have cores : ((s.sw.cores.foldl (fun a c => a.accrue c.1) s).dev .sw).staged = (s.dev .sw).staged :=
    List.foldlRecOn (motive := fun a : State => (a.dev .sw).staged = (s.dev .sw).staged) _ _ rfl
      (fun a ha c _ => (a.accrue_staged c.1).trans ha)
  rw [← cores]
  unfold State.countLevels
  dsimp only
  split
  · rfl
  · split <;> simp

/-- Bringing the counters up to the present keeps every staged copy. -/
theorem State.syncCounters_staged (s : State) (d : Part) : ((s.syncCounters d).dev d).staged = (s.dev d).staged := by
  have ports : (((s.dev d).ports.foldl (fun a e => if e.1 < linkPorts d then a.countPort d e.1 else a) s).dev d).staged
      = (s.dev d).staged := by
    refine List.foldlRecOn (motive := fun a : State => (a.dev d).staged = (s.dev d).staged) _ _ rfl (fun a ha e _ => ?_)
    split
    · exact (a.countPort_staged d e.1).trans ha
    · exact ha
  cases d with
  | sw => exact (State.countLevels_staged _).trans ports
  | ep => exact ports

/-- The staged copies' addresses are those with bit 23 set. -/
theorem stagedHit_of_potReg {d : Part} {r : RegRow} {b n : Nat} (h : bitOf b 23 = false)
    (hr : potReg d b n = some (r, b)) : stagedHit d (b + 2 ^ 23) n = some (r, b) := by
  have bit : bitOf (b + 2 ^ 23) 23 = true := by
    simp only [bitOf, beq_iff_eq, beq_eq_false_iff_ne] at *
    omega
  rw [stagedHit, if_pos bit, Nat.add_sub_cancel, hr]

theorem State.readOne_staged (s : State) {d : Part} {r : RegRow} {a b n : Nat} (ha : a - 2 ^ 23 = b)
    (hlive : hitReg d a n = none) (hstaged : stagedHit d a n = some (r, b)) (hn : n ≤ 8) :
    s.readOne d a n = some ((s.dev d).stagedReg b % 2 ^ (8 * n), s) := by
  simp only [State.readOne, hlive, hstaged, ha, cut_toNat_self b _ hn]

/-- A Pot register's live copy is not written. -/
theorem State.writeOne_live (s : State) {d : Part} {r : RegRow} {b n : Nat} (x : Nat) (hit : hitReg d b n = some (r, b))
    (hr : r.staged = true) : s.writeOne d b n x = some s := by
  simp only [State.writeOne, hit, hr, if_true]

theorem State.writeOne_staged (s : State) {d : Part} {r : RegRow} {a b n : Nat} (x : Nat) (ha : a - 2 ^ 23 = b)
    (hlive : hitReg d a n = none) (hstaged : stagedHit d a n = some (r, b)) :
    s.writeOne d a n x = some (s.potWrite d b n x) := by
  simp only [State.writeOne, hlive, hstaged, ha]

/-! ### From a command to its effect -/

/-- What a command does depends only on what its effect is at the command's time. -/
theorem does_congr {i : Instr} {t : Nat} {s : State} {f g : State → State} (h : Does i t s f)
    (hfg : f (s.tick t) = g (s.tick t)) : Does i t s g := by
  rw [Does, ← hfg]
  exact h

/-- A command with a known effect comes to whatever relation that effect satisfies. -/
theorem comes_of_leaves {i : Instr} {t : Nat} {s : State} {f : State → State} {P : State → State → Prop}
    (h : Leaves i t s f) (hp : P (s.tick t) (f (s.tick t))) : Comes i t s P :=
  ⟨_, hp, h⟩

end Sys2Proof.Machine

namespace Sys2Proof.Proofs

open Sys2Proof.Machine Sys2Proof.Claims

/-! ### What each command answers -/

section

variable {d : Part} {t : Nat} {s : State}

theorem potClaim_does (hup : Up s d) : Does (.potClaim d t) t s (fun a => a.potClaim d) := by
  rw [Does, exec_potClaim, execPotClaim, hostIf_next rfl hup]

theorem potClaimForce_leaves (hup : Up s d) : Leaves (.potClaimForce d t) t s (fun a => a.potForce d) := by
  rw [Leaves, exec_potClaimForce, execPotClaimForce, hostSettle_next rfl hup]

theorem potCheck_leaves (hup : Up s d) : Leaves (.potCheck d t) t s (fun a => a.potCheck d) := by
  rw [Leaves, exec_potCheck, execPotCheck, hostSettle_next rfl hup]

theorem potPour_does (hup : Up s d) : Does (.potPour d t) t s (fun a => a.potPour d) := by
  rw [Does, exec_potPour, execPotPour, hostIf_next rfl hup]

theorem potDiscard_leaves (hup : Up s d) : Leaves (.potDiscard d t) t s (fun a => a.potDiscard d) := by
  rw [Leaves, exec_potDiscard, execPotDiscard, hostSettle_next rfl hup]

theorem potStagedWrite_leaves {a n : Nat} {x : Word} (hup : Up s d) (hok : okStaged d a n = true) :
    Leaves (.potStagedWrite d a n x t) t s (fun s => s.potWrite d (a - 2 ^ 23) n x.toNat) := by
  rw [Leaves, exec_potStagedWrite, execPotStagedWrite, hostSettle_next hok hup]

end

/-- Settles O2: the write is taken, and `State.potWrite_status` and the three rules on copies say what it leaves. -/
theorem potStagedWrite : Obligations.PotStagedWrite := by
  intro d t b r x s hup hh hok hr hb
  refine comes_of_leaves (potStagedWrite_leaves hup hok) ?_
  rw [Nat.add_sub_cancel]
  have hh' : HostHolds (s.tick t) d := (hostHolds_tick s t d).mpr hh
  obtain ⟨passed, state, result, holder⟩ := State.potWrite_status (x := x.toNat) hh' hr
  exact ⟨passed, state, result, holder, State.potWrite_stagedReg_self hh' hr hb,
    fun c hcb hc => State.potWrite_stagedReg_ne hr hcb hc, fun c hc => State.potWrite_reg hr hc⟩

/-- Settles O4: the two addresses are `stagedHit_of_potReg` and the register's own; a write at the second is the staged
write of O2, taken or refused. -/
theorem potCopies : Obligations.PotCopies := by
  intro d t b r x s ⟨hup, hstage, hsize, hit, hb⟩ hstaged hr hb' hbit hlive hstored hstatus
  have hcopy := stagedHit_of_potReg hbit hr
  have haddr : b + 2 ^ 23 - 2 ^ 23 = b := Nat.add_sub_cancel b _
  have hn := okSize_le hsize
  have readLive : Leaves (.registerRead d 0 b r.bytes t) t s (fun s =>
      (s.syncCounters d).emit (.readValue d (BitVec.ofNat 64 ((s.dev d).reg b % 2 ^ (8 * r.bytes))))) := by
    rw [Leaves, exec_registerRead_up hup hstage hsize, State.readReg_one _ hb (State.readOne_stored _ hit hstored hn)]
  have writeStaged : Leaves (.registerWrite d 0 (b + 2 ^ 23) r.bytes x t) t s
      (fun s => s.potWrite d b r.bytes x.toNat) := by
    rw [Leaves, exec_registerWrite_up hup hstage hsize,
      State.writeReg_one _ hb' (State.writeOne_staged _ _ haddr hlive hcopy)]
  refine ⟨comes_of_leaves readLive ?readLive, ?readStaged, ?writeLive, comes_of_leaves writeStaged ?writeStaged⟩
  case readLive =>
    obtain ⟨out, regs⟩ := State.syncCounters_emit (s.tick t) d
      (.readValue d (BitVec.ofNat 64 (((s.tick t).dev d).reg b % 2 ^ (8 * r.bytes))))
    exact ⟨out, regs, by simp only [State.emit_dev, State.syncCounters_staged]⟩
  case readStaged =>
    rw [Leaves, exec_registerRead_up hup hstage hsize,
      State.readReg_one _ hb' (State.readOne_staged _ haddr hlive hcopy hn)]
  case writeLive =>
    rw [Leaves, exec_registerWrite_up hup hstage hsize,
      State.writeReg_one _ hb (State.writeOne_live _ _ hit hstaged), id]
  case writeStaged =>
    exact ⟨State.potWrite_onlyPot hr, fun c hc => State.potWrite_reg hr hc,
      fun c hcb hc => State.potWrite_stagedReg_ne hr hcb hc, fun hh => State.potWrite_stagedReg_self hh hr hstatus,
      fun hh => by rw [State.potWrite_busy hh, State.set_dev, Dev.set_staged]⟩

/-- Settles O1: each clause is the branch of the command's own rule under "Commands of the host". -/
theorem potHostCommands : Obligations.PotHostCommands := by
  intro d t s hup
  have claim := potClaim_does (t := t) hup
  have force := potClaimForce_leaves (t := t) hup
  have check := potCheck_leaves (t := t) hup
  have pour := potPour_does (t := t) hup
  have discard := potDiscard_leaves (t := t) hup
  have get (f : Fld) : (s.tick t).get d f = s.get d f := s.tick_get t d f
  have holds := hostHolds_tick s t d
  have deciding := deciding_tick s t d
  refine ⟨?claim, ?force, ?check, ?pour, ?stale, ?discard, ?claimBusy, ?forceBusy, ?busy⟩
  case claim =>
    exact fun hready hempty => does_congr claim
      (State.potClaim_empty ((get _).trans hready) ((get _).trans hempty))
  case force =>
    exact fun hready hd hcore => leaves_congr force
      (State.potForce_take ((get _).trans hready) (mt deciding.mp hd) (Nat.lt_of_le_of_lt (Nat.le_of_eq (get _)) hcore))
  case check => exact fun hh => leaves_congr check (State.potCheck_holder (holds.mpr hh))
  case pour =>
    exact fun hh hstate hp => does_congr pour
      (State.potPour_passed (holds.mpr hh) ((get _).trans hstate) (by rwa [State.tick_dev]))
  case stale => exact fun hh hp => does_congr pour (State.potPour_stale (holds.mpr hh) (by rwa [State.tick_dev]))
  case discard => exact fun hh => leaves_congr discard (State.potDiscard_holder (holds.mpr hh))
  case claimBusy =>
    rintro (hd | ⟨hholder, hstate⟩)
    · exact does_congr claim (State.potClaim_busy (by simp only [Deciding, get] at *; omega)
        (mt holds.mp (not_hostHolds_of_deciding hd)))
    · exact does_congr claim (State.potClaim_busy (by rwa [get]) (mt holds.mp (not_hostHolds_of_holder hholder)))
  case forceBusy => exact fun hd => leaves_congr force (State.potForce_busy (deciding.mpr hd))
  case busy =>
    intro h
    have hh : ¬ HostHolds (s.tick t) d := mt holds.mp (h.elim not_hostHolds_of_deciding not_hostHolds_of_holder)
    exact ⟨leaves_congr check (State.potCheck_busy hh), does_congr pour (State.potPour_busy hh),
      leaves_congr discard (State.potDiscard_busy hh),
      fun a n x hok => leaves_congr (potStagedWrite_leaves hup hok) (State.potWrite_busy hh _ _ _)⟩

end Sys2Proof.Proofs
end

section
/-! SUPPORT. How a check and a Pour end (spec/02, R24 to R36), and the statement about them. -/

namespace Sys2Proof.Machine

open Sys2Proof.Claims

/-- What a device's registers read as depends on the part and the table of registers alone. -/
theorem Dev.reg_congr {u v : Dev} (hp : u.part = v.part) (hr : u.regs = v.regs) (c : Nat) : u.reg c = v.reg c := by
  rw [Dev.reg, Dev.reg, hp, hr]

theorem Dev.get_congr {u v : Dev} (hp : u.part = v.part) (hr : u.regs = v.regs) (f : Fld) : u.get f = v.get f := by
  rw [Dev.get, Dev.get, Dev.reg_congr hp hr]

theorem Dev.reg_withPassed (v : Dev) (p : Bool) (c : Nat) : ({ v with potPassed := p } : Dev).reg c = v.reg c :=
  Dev.reg_congr rfl rfl c

theorem Dev.get_withPassed (v : Dev) (p : Bool) (f : Fld) : ({ v with potPassed := p } : Dev).get f = v.get f :=
  Dev.get_congr rfl rfl f

/-! ### Who learns of the outcome -/

section

variable {s b : State} {d : Part}

/-- A state that no step changes is what all of them leave. -/
theorem State.foldl_eq_self {α : Type} {f : State → α → State} (h : ∀ e, f b e = b) (l : List α) : l.foldl f b = b := by
  induction l with
  | nil => rfl
  | cons e l ih => rw [List.foldl_cons, h, ih]

theorem State.tellCheck_none (x : Nat) (h : ∀ n sd, (b.core n).wait ≠ .check sd) : b.tellCheck d x = b := by
  unfold State.tellCheck
  split
  · rfl
  · refine State.foldl_eq_self (fun n => ?_) _
    split
    · exact absurd ‹_› (h n _)
    · rfl

theorem State.tellPour_none (x : Nat) (h : ∀ n sd, (b.core n).wait ≠ .pour sd) : b.tellPour d x = b := by
  unfold State.tellPour
  split
  · rfl
  · refine State.foldl_eq_self (fun n => ?_) _
    split
    · exact absurd ‹_› (h n _)
    · rfl

theorem State.potSettle_none (h : (b.dev d).potRelease = false) : b.potSettle d = b := by
  rw [State.potSettle, h]
  rfl

variable (ha : HostAlone s d) (hcore : ∀ n, b.core n = s.core n) (hrel : (b.dev d).potRelease = (s.dev d).potRelease)
include ha hcore hrel

/-- With no core behind the Pot, a check's outcome is told to nobody and releases nothing. -/
theorem State.tellCheck_alone (x : Nat) : (b.tellCheck d x).potSettle d = b := by
  obtain ⟨-, release, waits⟩ := ha
  rw [State.tellCheck_none x (fun n sd => hcore n ▸ (waits n sd).1), State.potSettle_none (hrel.trans release)]

theorem State.tellPour_alone (x : Nat) : (b.tellPour d x).potSettle d = b := by
  obtain ⟨-, release, waits⟩ := ha
  rw [State.tellPour_none x (fun n sd => hcore n ▸ (waits n sd).2), State.potSettle_none (hrel.trans release)]

end

/-! ### The report (Table 2.6) -/

/-- Of the registers only the records of the report, and registers behind them, differ between the two devices; the staged
copies and the note of a core that has stopped stay. -/
structure Dev.OnlyReport (v u : Dev) : Prop where
  staged : u.staged = v.staged
  potRelease : u.potRelease = v.potRelease
  reg : ∀ c, c < A.CFG_CHECK_REPORT_A 0 → u.reg c = v.reg c

theorem Dev.OnlyReport.refl (v : Dev) : Dev.OnlyReport v v := ⟨rfl, rfl, fun _ _ => rfl⟩

theorem Dev.OnlyReport.trans {v u w : Dev} (h : Dev.OnlyReport v u) (k : Dev.OnlyReport u w) : Dev.OnlyReport v w :=
  ⟨k.staged.trans h.staged, k.potRelease.trans h.potRelease, fun c hc => (k.reg c hc).trans (h.reg c hc)⟩

/-- CFG_POT_STATUS lies before the report. -/
theorem Dev.OnlyReport.get {v u : Dev} (h : Dev.OnlyReport v u) {f : Fld} (hf : f.reg = A.CFG_POT_STATUS) :
    u.get f = v.get f := by
  rw [Dev.get, Dev.get, hf, h.reg _ (by decide)]

/-- One record written. -/
theorem Dev.OnlyReport.record (v : Dev) (n x y : Nat) :
    Dev.OnlyReport v ((v.setReg (A.CFG_CHECK_REPORT_A n) x).setReg (A.CFG_CHECK_REPORT_B n) y) := by
  refine ⟨rfl, rfl, fun c hc => ?_⟩
  simp only [A.CFG_CHECK_REPORT_A, A.CFG_CHECK_REPORT_B] at *
  rw [Dev.reg_setReg_ne _ _ (by omega), Dev.reg_setReg_ne _ _ (by omega)]

theorem Dev.clearReport_onlyReport (v : Dev) : Dev.OnlyReport v v.clearReport :=
  List.foldlRecOn (motive := Dev.OnlyReport v) _ _ (.refl v) (fun w hw n _ => hw.trans (.record w n 0 0))

/-- A word that is clear, or that belongs to one of the records, is clear once these have been cleared. -/
theorem Dev.reg_clearRecords (l : List Nat) (v : Dev) {c : Nat}
    (h : v.reg c = 0 ∨ ∃ n ∈ l, c = A.CFG_CHECK_REPORT_A n ∨ c = A.CFG_CHECK_REPORT_B n) :
    (l.foldl (fun w n => (w.setReg (A.CFG_CHECK_REPORT_A n) 0).setReg (A.CFG_CHECK_REPORT_B n) 0) v).reg c = 0 := by
  induction l generalizing v with
  | nil => simpa using h
  | cons m l ih =>
    rw [List.foldl_cons]
    apply ih
    rcases h with h | ⟨n, hn, hc⟩
    · exact .inl (by simp [Dev.reg_setReg, h])
    · rcases List.mem_cons.mp hn with rfl | hn
      · exact .inl (by rcases hc with rfl | rfl <;> simp [Dev.reg_setReg])
      · exact .inr ⟨n, hn, hc⟩

theorem Dev.clearReport_record (v : Dev) {n : Nat} (hn : n < 16) :
    v.clearReport.reg (A.CFG_CHECK_REPORT_A n) = 0 ∧ v.clearReport.reg (A.CFG_CHECK_REPORT_B n) = 0 :=
  ⟨Dev.reg_clearRecords _ v (.inr ⟨n, List.mem_range.mpr hn, .inl rfl⟩),
    Dev.reg_clearRecords _ v (.inr ⟨n, List.mem_range.mpr hn, .inr rfl⟩)⟩

/-- Between the two states only records of the report differ at a part; every core stays. -/
def State.OnlyReport (d : Part) (s u : State) : Prop :=
  (∀ n, u.core n = s.core n) ∧ Dev.OnlyReport (s.dev d) (u.dev d)

theorem State.OnlyReport.refl (d : Part) (s : State) : State.OnlyReport d s s := ⟨fun _ => rfl, .refl _⟩

theorem State.OnlyReport.trans {d : Part} {s u w : State} (h : State.OnlyReport d s u) (k : State.OnlyReport d u w) :
    State.OnlyReport d s w :=
  ⟨fun n => (k.1 n).trans (h.1 n), h.2.trans k.2⟩

theorem State.OnlyReport.draw (d : Part) (s : State) : State.OnlyReport d s s.draw :=
  ⟨fun _ => rfl, by rw [State.draw_dev]; exact .refl _⟩

theorem State.OnlyReport.record (d : Part) (s : State) (n x y : Nat) : State.OnlyReport d s (s.modDev d (fun v =>
    (v.setReg (A.CFG_CHECK_REPORT_A n) x).setReg (A.CFG_CHECK_REPORT_B n) y)) :=
  ⟨s.core_modDev d _, by rw [State.modDev_dev]; exact .record _ n x y⟩

theorem State.report_onlyReport (s : State) (d : Part) (n : Nat) (x : Viol) : State.OnlyReport d s (s.report d n x) := by
  unfold State.report
  dsimp only
  refine .trans ?_ (.record d _ n _ _)
  cases x.required <;> cases x.staged
  · exact (State.OnlyReport.draw d s).trans (.draw d _)
  · exact .draw d s
  · exact .draw d s
  · exact .refl d s

theorem State.reports_onlyReport (xs : List Viol) (s : State) (d : Part) (n : Nat) :
    State.OnlyReport d s (s.reports d n xs) := by
  induction xs generalizing s n with
  | nil => exact .refl d s
  | cons x xs ih => exact (s.report_onlyReport d n x).trans (ih _ _)

/-! ### The end of a check (R24, R36) -/

/-- The device of a check that has found `k` violations, before they are reported: with no record, and with the STATE and
the RESULT of the outcome. -/
def Dev.checkEnded (v : Dev) (k state result : Nat) : Dev :=
  (((v.clearReport.set F.CFG_POT_STATUS_REPORT_COUNT (min 16 k)).set F.CFG_POT_STATUS_REPORT_OVERFLOW
    (b2n (decide (16 < k)))).set F.CFG_POT_STATUS_STATE state).set F.CFG_POT_STATUS_RESULT result

/-- The device of a check that has passed. -/
def Dev.checkPassed (v : Dev) : Dev := { v.checkEnded 0 3 1 with potPassed := true }

/-- The device of a check that has found `k` violations. -/
def Dev.checkFailed (k : Nat) (v : Dev) : Dev := v.checkEnded k 1 2

/-- REPORT_COUNT holds up to 255. -/
theorem Dev.checkEnded_status (v : Dev) (k state result : Nat) :
    (v.checkEnded k state result).get F.CFG_POT_STATUS_STATE = state % 16 ∧
    (v.checkEnded k state result).get F.CFG_POT_STATUS_RESULT = result % 16 ∧
    (v.checkEnded k state result).get F.CFG_POT_STATUS_REPORT_COUNT = min 16 k ∧
    (v.checkEnded k state result).get F.CFG_POT_STATUS_HOLDER = v.get F.CFG_POT_STATUS_HOLDER := by
  have count : min 16 k % 2 ^ 8 = min 16 k := Nat.mod_eq_of_lt (by omega)
  simp (disch := decide) only [Dev.checkEnded, Dev.get_set_self, Dev.get_set_field]
  exact ⟨rfl, rfl, count, v.clearReport_onlyReport.get rfl⟩

theorem Dev.checkEnded_keeps (v : Dev) (k state result : Nat) :
    (v.checkEnded k state result).staged = v.staged ∧ (v.checkEnded k state result).potRelease = v.potRelease := by
  rw [Dev.checkEnded]
  constructor
  · iterate 4 rw [Dev.set_staged]
    exact v.clearReport_onlyReport.staged
  · iterate 4 rw [Dev.set_potRelease]
    exact v.clearReport_onlyReport.potRelease

theorem Dev.checkPassed_get (v : Dev) (f : Fld) : v.checkPassed.get f = (v.checkEnded 0 3 1).get f :=
  Dev.get_withPassed _ true f

theorem Dev.checkPassed_reg (v : Dev) {c : Nat} (h : c ≠ A.CFG_POT_STATUS) :
    v.checkPassed.reg c = v.clearReport.reg c := by
  have kept : v.checkPassed.reg c = (v.checkEnded 0 3 1).reg c := Dev.reg_withPassed _ true c
  rw [kept, Dev.checkEnded, Dev.reg_set_ne _ _ h, Dev.reg_set_ne _ _ h, Dev.reg_set_ne _ _ h, Dev.reg_set_ne _ _ h]

/-- The state of a check that has passed, before anyone learns of it. -/
def State.checkPassed (s : State) (d : Part) : State := s.modDev d Dev.checkPassed

/-- The state of a check that has found some violations, before anyone learns of it. -/
def State.checkFailed (s : State) (d : Part) (xs : List Viol) : State :=
  (s.modDev d (Dev.checkFailed xs.length)).reports d 0 (xs.take 16)

theorem State.checkPassed_status (s : State) (d : Part) :
    (s.checkPassed d).get d F.CFG_POT_STATUS_STATE = 3 ∧ (s.checkPassed d).get d F.CFG_POT_STATUS_RESULT = 1 ∧
    (s.checkPassed d).get d F.CFG_POT_STATUS_REPORT_COUNT = 0 ∧
    (s.checkPassed d).get d F.CFG_POT_STATUS_HOLDER = s.get d F.CFG_POT_STATUS_HOLDER := by
  simp only [State.get, State.checkPassed, State.modDev_dev, Dev.checkPassed_get]
  exact (s.dev d).checkEnded_status 0 3 1

theorem State.checkPassed_dev (s : State) (d : Part) :
    ((s.checkPassed d).dev d).potPassed = true ∧ ((s.checkPassed d).dev d).staged = (s.dev d).staged ∧
    ((s.checkPassed d).dev d).potRelease = (s.dev d).potRelease := by
  simp only [State.checkPassed, State.modDev_dev, Dev.checkPassed]
  exact ⟨trivial, (s.dev d).checkEnded_keeps 0 3 1⟩

theorem State.checkPassed_record (s : State) (d : Part) {n : Nat} (hn : n < 16) :
    ((s.checkPassed d).dev d).reg (A.CFG_CHECK_REPORT_A n) = 0 ∧
    ((s.checkPassed d).dev d).reg (A.CFG_CHECK_REPORT_B n) = 0 := by
  have ne (c : Nat) (hc : A.CFG_CHECK_REPORT_A 0 ≤ c) : c ≠ A.CFG_POT_STATUS := by
    simp only [A.CFG_CHECK_REPORT_A, A.CFG_POT_STATUS] at *
    omega
  rw [State.checkPassed, State.modDev_dev, Dev.checkPassed_reg _ (ne _ (by simp [A.CFG_CHECK_REPORT_A])),
    Dev.checkPassed_reg _ (ne _ (by simp only [A.CFG_CHECK_REPORT_A, A.CFG_CHECK_REPORT_B]; omega))]
  exact (s.dev d).clearReport_record hn

/-- Writing the report keeps what the end of the check made of the Pot. -/
theorem State.checkFailed_onlyReport (s : State) (d : Part) (xs : List Viol) :
    State.OnlyReport d (s.modDev d (Dev.checkFailed xs.length)) (s.checkFailed d xs) :=
  State.reports_onlyReport _ _ d 0

theorem State.checkFailed_status (s : State) (d : Part) (xs : List Viol) :
    (s.checkFailed d xs).get d F.CFG_POT_STATUS_STATE = 1 ∧ (s.checkFailed d xs).get d F.CFG_POT_STATUS_RESULT = 2 ∧
    (s.checkFailed d xs).get d F.CFG_POT_STATUS_REPORT_COUNT = min 16 xs.length ∧
    (s.checkFailed d xs).get d F.CFG_POT_STATUS_HOLDER = s.get d F.CFG_POT_STATUS_HOLDER := by
  obtain ⟨-, kept⟩ := s.checkFailed_onlyReport d xs
  rw [State.modDev_dev] at kept
  simp only [State.get]
  rw [kept.get rfl, kept.get rfl, kept.get rfl, kept.get rfl]
  exact (s.dev d).checkEnded_status xs.length 1 2

theorem State.checkFailed_dev (s : State) (d : Part) (xs : List Viol) :
    ((s.checkFailed d xs).dev d).staged = (s.dev d).staged ∧
    ((s.checkFailed d xs).dev d).potRelease = (s.dev d).potRelease := by
  obtain ⟨-, kept⟩ := s.checkFailed_onlyReport d xs
  rw [State.modDev_dev, Dev.checkFailed] at kept
  obtain ⟨staged, release⟩ := (s.dev d).checkEnded_keeps xs.length 1 2
  exact ⟨kept.staged.trans staged, kept.potRelease.trans release⟩

section

variable {s : State} {d : Part}

theorem State.checkEnds_idle (h : s.get d F.CFG_POT_STATUS_STATE ≠ 2 ∨ (d = .sw ∧ s.checkWaits = true)) :
    s.checkEnds d = s :=
  if_pos h

variable (hstate : s.get d F.CFG_POT_STATUS_STATE = 2) (hw : d = .ep ∨ s.checkWaits = false)
include hstate hw

theorem State.checkEnds_run : ¬ ((s.dev d).potState ≠ Pot.CHECKING ∨ (d = .sw ∧ s.checkWaits = true)) := by
  rintro (h | ⟨rfl, h⟩)
  · exact h hstate
  · simp [h] at hw

theorem State.checkEnds_pass (hv : s.violations d = []) :
    s.checkEnds d = ((s.checkPassed d).tellCheck d 1).potSettle d := by
  rw [State.checkEnds, if_neg (State.checkEnds_run hstate hw), hv]
  rfl

theorem State.checkEnds_fail (hv : s.violations d ≠ []) :
    s.checkEnds d = ((s.checkFailed d (s.violations d)).tellCheck d 2).potSettle d := by
  rw [State.checkEnds, if_neg (State.checkEnds_run hstate hw)]
  split
  · exact absurd ‹_› hv
  · rfl

end

/-! ### The pour instant (R25, R27, R29, R35) -/

/-- The device of a Pour whose drain condition no longer holds. -/
def Dev.pourAborted (v : Dev) : Dev :=
  { ((v.set F.CFG_POT_STATUS_STATE 1).set F.CFG_POT_STATUS_RESULT 5) with potPassed := false }

theorem Dev.pourAborted_get (v : Dev) (f : Fld) :
    v.pourAborted.get f = ((v.set F.CFG_POT_STATUS_STATE 1).set F.CFG_POT_STATUS_RESULT 5).get f :=
  Dev.get_withPassed _ false f

theorem Dev.pourAborted_status (v : Dev) : v.pourAborted.get F.CFG_POT_STATUS_STATE = 1 ∧
    v.pourAborted.get F.CFG_POT_STATUS_HOLDER = v.get F.CFG_POT_STATUS_HOLDER ∧
    v.pourAborted.get F.CFG_POT_STATUS_RESULT = 5 := by
  simp (disch := decide) only [Dev.pourAborted_get, Dev.get_set_self, Dev.get_set_field]
  exact ⟨rfl, trivial, rfl⟩

theorem Dev.pourAborted_reg (v : Dev) {c : Nat} (h : c ≠ A.CFG_POT_STATUS) : v.pourAborted.reg c = v.reg c :=
  ((v.set F.CFG_POT_STATUS_STATE 1).reg_set_ne 5 h).trans (v.reg_set_ne 1 h)

section

variable {s : State} {d : Part}

theorem State.pourInstant_idle (h : s.get d F.CFG_POT_STATUS_STATE ≠ 4) : s.pourInstant d = s :=
  if_pos h

variable (hstate : s.get d F.CFG_POT_STATUS_STATE = 4)
include hstate

theorem State.pourInstant_abort (hd : s.drainPending d ≠ []) :
    s.pourInstant d = ((s.modDev d Dev.pourAborted).tellPour d 5).potSettle d :=
  (if_neg (not_not_intro hstate)).trans (if_pos (by simpa using hd))

theorem State.pourInstant_unchanged (hd : s.drainPending d = []) (hu : (s.dev d).potUnchanged = true) :
    s.pourInstant d = (s.setDev d (s.dev d).goLive).tellPour d 3 :=
  (if_neg (not_not_intro hstate)).trans ((if_neg (by simp [hd])).trans (if_pos hu))

theorem State.pourInstant_live (hd : s.drainPending d = []) (hu : (s.dev d).potUnchanged = false) :
    s.pourInstant d =
      let o := s.dev d
      let live := (s.setDev d (o.pourDev s.now)).turnAway d
      let links := (List.range (linkPorts d)).foldl (State.pourLink o d) live
      let memb := State.pourMemb o d links
      let own := match d with | .sw => State.pourCaddy o memb | .ep => State.pourEp o memb
      ((List.range (linkPorts d)).foldl (fun a p => a.bounds d p) own).tellPour d 3 :=
  (if_neg (not_not_intro hstate)).trans ((if_neg (by simp [hd])).trans (if_neg (by simp [hu])))

end

/-! ### What goes live -/

/-- Where a table lists nothing it reads as the default. -/
theorem SMap.at_of_not_mem {α : Type} (d : α) (m : List (Nat × α)) {k : Nat} (h : ∀ e ∈ m, e.1 ≠ k) :
    SMap.at d m k = d := by
  induction m with
  | nil => rfl
  | cons e m ih =>
    obtain ⟨he, hm⟩ := List.forall_mem_cons.mp h
    exact (if_neg (Ne.symm he)).trans (ih hm)

/-- The device with some registers set, those in front last. -/
def Dev.setRegs (v : Dev) (l : List (Nat × Word)) : Dev := l.foldr (fun e w => w.setReg e.1 e.2.toNat) v

theorem Dev.setRegs_staged (v : Dev) (l : List (Nat × Word)) : (v.setRegs l).staged = v.staged := by
  induction l with
  | nil => rfl
  | cons e l ih => exact ih

/-- A register takes its first value in the list, and keeps its own where the list has none. -/
theorem Dev.setRegs_reg (v : Dev) (l : List (Nat × Word)) (c : Nat) :
    (v.setRegs l).reg c = (SMap.at (BitVec.ofNat 64 (v.reg c)) l c).toNat := by
  induction l with
  | nil => exact (Nat.mod_eq_of_lt (v.reg_lt c)).symm
  | cons e l ih =>
    obtain ⟨k, x⟩ := e
    have front : (v.setRegs ((k, x) :: l)).reg c = ((v.setRegs l).setReg k x.toNat).reg c := rfl
    rw [front, Dev.reg_setReg, SMap.at, ih]
    split
    · exact Nat.mod_eq_of_lt x.isLt
    · rfl

/-- With nothing staged any more, the registers that were staged set to their staged values. -/
theorem Dev.setRegs_staged_reg (v : Dev) (c : Nat) :
    (({ v with staged := [] } : Dev).setRegs v.staged).reg c = v.stagedReg c :=
  Dev.setRegs_reg _ _ c

theorem Dev.potFree_reg_ne (v : Dev) {c : Nat} (h : c ≠ A.CFG_POT_STATUS) : v.potFree.reg c = v.reg c := by
  have kept : v.potFree.reg c = ((v.set F.CFG_POT_STATUS_HOLDER 0).set F.CFG_POT_STATUS_STATE 0).reg c :=
    Dev.reg_congr rfl rfl c
  rw [kept, Dev.reg_set_ne _ _ h, Dev.reg_set_ne _ _ h]

theorem Dev.potFree_get (v : Dev) (f : Fld) :
    v.potFree.get f = ((v.set F.CFG_POT_STATUS_HOLDER 0).set F.CFG_POT_STATUS_STATE 0).get f :=
  Dev.get_congr rfl rfl f

theorem Dev.goLive_eq (v : Dev) : v.goLive = (((({ v with staged := [] } : Dev).setRegs v.staged).setReg A.CFG_POT_GEN
    ((v.reg A.CFG_POT_GEN + 1) % 2 ^ 32)).set F.CFG_POT_STATUS_RESULT 3).potFree := rfl

/-- Every register reads its staged value once the set is live, but for the two that record the Pour. -/
theorem Dev.goLive_reg (v : Dev) {c : Nat} (hs : c ≠ A.CFG_POT_STATUS) (hg : c ≠ A.CFG_POT_GEN) :
    v.goLive.reg c = v.stagedReg c := by
  rw [Dev.goLive_eq, Dev.potFree_reg_ne _ hs, Dev.reg_set_ne _ _ hs, Dev.reg_setReg_ne _ _ hg, Dev.setRegs_staged_reg]

theorem Dev.goLive_staged (v : Dev) : v.goLive.staged = [] :=
  Dev.setRegs_staged _ _

theorem Dev.goLive_status (v : Dev) : v.goLive.get F.CFG_POT_STATUS_STATE = 0 ∧
    v.goLive.get F.CFG_POT_STATUS_HOLDER = 0 ∧ v.goLive.get F.CFG_POT_STATUS_RESULT = 3 := by
  simp (disch := decide) only [Dev.goLive_eq, Dev.potFree_get, Dev.get_set_self, Dev.get_set_field]
  exact ⟨rfl, rfl, rfl⟩

theorem Dev.goLive_gen (v : Dev) : v.goLive.get F.CFG_POT_GEN_GEN = (v.get F.CFG_POT_GEN_GEN + 1) % 2 ^ 32 := by
  rw [Dev.goLive_eq, Dev.potFree_get, Dev.get_set_reg _ _ (by decide), Dev.get_set_reg _ _ (by decide),
    Dev.get_set_reg _ _ (by decide)]
  simp only [Dev.get, F.CFG_POT_GEN_GEN, Dev.reg_setReg_self, bitsOf]
  omega

/-- A Pot that changes nothing stages the live values. -/
theorem Dev.stagedReg_of_unchanged {v : Dev} (h : v.potUnchanged = true) (c : Nat) : v.stagedReg c = v.reg c := by
  have listed (e : Nat × Word) (he : e ∈ v.staged) : v.stagedReg e.1 = v.reg e.1 := by
    simpa [Dev.changes] using List.all_eq_true.mp h e he
  by_cases hc : ∃ e ∈ v.staged, e.1 = c
  · obtain ⟨e, he, rfl⟩ := hc
    exact listed e he
  · rw [Dev.stagedReg, SMap.at_of_not_mem _ _ (fun e he hec => hc ⟨e, he, hec⟩), BitVec.toNat_ofNat,
      Nat.mod_eq_of_lt (v.reg_lt c)]

/-! ### What follows in the device keeps what went live -/

/-- The two devices hold the same registers and the same staged copies. -/
structure Dev.SameRegs (v u : Dev) : Prop where
  part : u.part = v.part
  regs : u.regs = v.regs
  staged : u.staged = v.staged

theorem Dev.SameRegs.refl (v : Dev) : Dev.SameRegs v v := ⟨rfl, rfl, rfl⟩

theorem Dev.SameRegs.trans {v u w : Dev} (h : Dev.SameRegs v u) (k : Dev.SameRegs u w) : Dev.SameRegs v w :=
  ⟨k.part.trans h.part, k.regs.trans h.regs, k.staged.trans h.staged⟩

theorem Dev.SameRegs.reg {v u : Dev} (h : Dev.SameRegs v u) (c : Nat) : u.reg c = v.reg c :=
  Dev.reg_congr h.part h.regs c

theorem Dev.SameRegs.get {v u : Dev} (h : Dev.SameRegs v u) (f : Fld) : u.get f = v.get f :=
  Dev.get_congr h.part h.regs f

theorem Dev.pourQueue_sameRegs (o v : Dev) (p c : Nat) : Dev.SameRegs v (Dev.pourQueue o v p c) := by
  unfold Dev.pourQueue
  split
  · exact .refl v
  · exact ⟨rfl, rfl, rfl⟩

theorem Dev.pourRate_sameRegs (o v : Dev) (p c : Nat) : Dev.SameRegs v (Dev.pourRate o v p c) := by
  unfold Dev.pourRate
  split
  · exact .refl v
  · exact ⟨rfl, rfl, rfl⟩

theorem Dev.pourAverage_sameRegs (o v : Dev) (p c : Nat) : Dev.SameRegs v (Dev.pourAverage o v p c) := by
  unfold Dev.pourAverage
  dsimp only
  split
  · exact .refl v
  · exact ⟨rfl, rfl, rfl⟩

theorem Dev.pourCredit_sameRegs (o v : Dev) (now p c : Nat) : Dev.SameRegs v (Dev.pourCredit o v now p c) := by
  unfold Dev.pourCredit
  dsimp only
  split
  · exact ⟨rfl, rfl, rfl⟩
  · exact .refl v

theorem Dev.pourClasses_sameRegs (o v : Dev) (now : Nat) : Dev.SameRegs v (Dev.pourClasses o v now) :=
  List.foldlRecOn (motive := Dev.SameRegs v) _ _ (.refl v) (fun w hw pc _ =>
    (((hw.trans (Dev.pourQueue_sameRegs o w pc.1 pc.2)).trans (Dev.pourRate_sameRegs o _ _ _)).trans
      (Dev.pourAverage_sameRegs o _ _ _)).trans (Dev.pourCredit_sameRegs o _ now _ _))

theorem Dev.pourDedup_sameRegs (o v : Dev) : Dev.SameRegs v (Dev.pourDedup o v) := by
  unfold Dev.pourDedup
  split
  · exact ⟨rfl, rfl, rfl⟩
  · exact .refl v

theorem Dev.startWalks_sameRegs (n : Nat) (v : Dev) : Dev.SameRegs v (Dev.startWalks n v) := by
  induction n generalizing v with
  | zero => exact .refl v
  | succ n ih =>
    unfold Dev.startWalks
    split
    · exact .refl v
    · split
      · refine .trans ?_ (ih _)
        exact ⟨rfl, rfl, rfl⟩
      · exact .refl v

/-- Queues, tables and translations follow what went live; no register does. -/
theorem Dev.pourDev_sameRegs (o : Dev) (now : Nat) : Dev.SameRegs o.goLive (o.pourDev now) := by
  have tables (v : Dev) : Dev.SameRegs v (Dev.pourTables o v) := ⟨rfl, rfl, rfl⟩
  have xlt (v : Dev) : Dev.SameRegs v (Dev.pourXlt o v) := by
    refine .trans ?_ (Dev.startWalks_sameRegs _ _)
    exact ⟨rfl, rfl, rfl⟩
  exact (((Dev.pourClasses_sameRegs o _ now).trans (tables _)).trans (Dev.pourDedup_sameRegs o _)).trans (xlt _)

end Sys2Proof.Machine

namespace Sys2Proof.Proofs

open Sys2Proof.Machine Sys2Proof.Claims

theorem checkComplete_leaves (d : Part) (t : Nat) (s : State) :
    Leaves (.checkComplete d t) t s (fun s => s.checkEnds d) := by
  rw [Leaves, exec_checkComplete, execCheckComplete, stepSettle_next rfl]

theorem pourInstant_leaves (d : Part) (t : Nat) (s : State) :
    Leaves (.pourInstant d t) t s (fun s => s.pourInstant d) := by
  rw [Leaves, exec_pourInstant, execPourInstant, stepSettle_next rfl]

/-- Settles O3: the device of each outcome is named above (`Dev.checkPassed`, `Dev.checkFailed`, `Dev.pourAborted`,
`Dev.goLive`); the rest follows it. -/
theorem potDecisions : Obligations.PotDecisions := by
  refine ⟨fun d t s hstate hw => comes_of_leaves (checkComplete_leaves d t s) ?check,
    fun d t s hstate => ?pour, fun d t s => ⟨fun h => ?checkIdle, fun h => ?pourIdle⟩,
    fun v now c hs hg => ⟨v.goLive_reg hs hg, ?liveReg⟩, fun v now => ?live,
    fun v c hu hs hg => (v.goLive_reg hs hg).trans (Dev.stagedReg_of_unchanged hu c)⟩
  case check =>
    have hrun : (s.tick t).get d F.CFG_POT_STATUS_STATE = 2 := (s.tick_get t d _).trans hstate
    by_cases hv : (s.tick t).violations d = []
    · have ends := State.checkEnds_pass hrun hw hv
      obtain ⟨state, result, count, holder⟩ := (s.tick t).checkPassed_status d
      obtain ⟨passed, staged, release⟩ := (s.tick t).checkPassed_dev d
      exact ⟨(s.tick t).checkPassed d, by rw [ends, if_pos hv],
        fun ha => ends.trans (State.tellCheck_alone ha ((s.tick t).core_modDev d _) release 1), holder, staged,
        fun _ => ⟨state, result, passed, count, fun n hn => (s.tick t).checkPassed_record d hn⟩,
        fun h => absurd hv h⟩
    · have ends := State.checkEnds_fail hrun hw hv
      have core0 := (s.tick t).core_modDev d (Dev.checkFailed ((s.tick t).violations d).length)
      obtain ⟨state, result, count, holder⟩ := (s.tick t).checkFailed_status d ((s.tick t).violations d)
      obtain ⟨staged, release⟩ := (s.tick t).checkFailed_dev d ((s.tick t).violations d)
      obtain ⟨core, -⟩ := (s.tick t).checkFailed_onlyReport d ((s.tick t).violations d)
      exact ⟨(s.tick t).checkFailed d ((s.tick t).violations d), by rw [ends, if_neg hv],
        fun ha => ends.trans (State.tellCheck_alone ha (fun n => (core n).trans (core0 n)) release 2),
        holder, staged, fun h => absurd h hv, fun _ => ⟨state, result, count⟩⟩
  case pour =>
    have hrun : (s.tick t).get d F.CFG_POT_STATUS_STATE = 4 := (s.tick_get t d _).trans hstate
    have instant := pourInstant_leaves d t s
    refine ⟨fun hd => comes_of_leaves instant ?abort, fun hd hu => leaves_congr instant ?unchanged,
      fun hd hu => leaves_congr instant ?follow, fun ha hs hd => comes_of_leaves instant ?alone⟩
    case abort =>
      have ends := State.pourInstant_abort hrun hd
      obtain ⟨state, holder, result⟩ := ((s.tick t).dev d).pourAborted_status
      have dev := (s.tick t).modDev_dev d Dev.pourAborted
      refine ⟨_, ends, fun ha => ends.trans (State.tellPour_alone ha ((s.tick t).core_modDev d _) ?_ 5), ?_⟩
      · rw [dev]
        rfl
      · simp only [State.get, dev]
        exact ⟨state, holder, result, rfl, rfl, fun c hc => Dev.pourAborted_reg _ hc⟩
    case unchanged => exact State.pourInstant_unchanged hrun hd (by rwa [State.tick_dev])
    case follow => exact State.pourInstant_live hrun hd (by rwa [State.tick_dev])
    case alone =>
      have hu : ((s.tick t).dev d).potUnchanged = true := by rw [State.tick_dev, Dev.potUnchanged, hs, List.all_nil]
      obtain ⟨-, -, waits⟩ := ha
      rw [State.pourInstant_unchanged hrun hd hu, State.tellPour_none 3 (fun n sd => by simpa using (waits n sd).2)]
      simp only [State.get, State.setDev_dev]
      obtain ⟨state, holder, result⟩ := ((s.tick t).dev d).goLive_status
      exact ⟨state, holder, result, Dev.goLive_gen _⟩
  case checkIdle => exact leaves_congr (checkComplete_leaves d t s) (State.checkEnds_idle (by rwa [State.tick_get]))
  case pourIdle => exact leaves_congr (pourInstant_leaves d t s) (State.pourInstant_idle (by rwa [State.tick_get]))
  case liveReg => exact ((Dev.pourDev_sameRegs v now).reg c).trans (v.goLive_reg hs hg)
  case live =>
    have same := Dev.pourDev_sameRegs v now
    obtain ⟨state, holder, result⟩ := v.goLive_status
    exact ⟨same.staged.trans v.goLive_staged, (same.get _).trans state, (same.get _).trans holder,
      (same.get _).trans result, (same.get _).trans v.goLive_gen⟩

end Sys2Proof.Proofs
end

section
/-! SUPPORT. The timers of transactions and of slots (R109, R128, R141, R144, R145, R379): what a reissue leaves at its
source, what a timing fault records, what the expiry of a slot leaves, and the statement about them. -/

namespace Sys2Proof.Machine

open Sys2Proof.Claims

/-! ### A packet that goes out again (R109, R144) -/

/-- A transaction whose packet goes out again at `now`. -/
def Txn.again (x : Txn) (now : Nat) : Txn :=
  { x with
    pkt := ⟨{ x.pkt.hdr with retry := 1, hops := 0 }, x.pkt.pay⟩, reissues := x.reissues + 1,
    timeout := min (2 * x.timeout) 256000, issueAt := now, parked := false }

/-- The device whose transaction goes out again, before the packet leaves. -/
def Dev.reissued (v : Dev) (x : Txn) (now : Nat) : Dev :=
  { v with txns := v.txns.map (fun y => if y.id = x.id then x.again now else y) }

/-- Taking in a packet of its own moves only cells and the port's queue. -/
theorem Dev.inject_keeps (v : Dev) (now : Nat) (pkt : Packet) (tenant : Nat) :
    (v.inject now pkt tenant).txns = v.txns ∧ (v.inject now pkt tenant).nextTxn = v.nextTxn ∧
    (v.inject now pkt tenant).counters = v.counters := by
  unfold Dev.inject
  split
  case h_1 => exact ⟨rfl, rfl, rfl⟩
  case h_2 => split <;> exact ⟨rfl, rfl, rfl⟩

/-- A timer that was started at `now` is not moved by a packet that goes in at `now`. -/
theorem Dev.issuedAt_self {v : Dev} {now : Nat} {h : PktHdr} (hat : ∀ y ∈ v.txns, y.id = h.txn → y.issueAt = now) :
    v.issuedAt now h = v := by
  have kept : v.txns.map (fun (y : Txn) => if y.id = h.txn then { y with issueAt := now } else y) = v.txns := by
    refine (List.map_congr_left fun y hy => ?_).trans (List.map_id _)
    split
    · rw [← hat y hy ‹_›, id]
    · rfl
  unfold Dev.issuedAt
  split
  · rw [kept]
  · rfl

section

variable {v : Dev} {now tenant : Nat} {pkt : Packet} (hl : v.lapsed pkt.hdr = false) (ho : v.ownOff pkt.hdr = false)
include hl ho

theorem drainOutbox_room (hr : v.ownRoom pkt.hdr = true) :
    drainOutbox now [(pkt, tenant)] v = { (v.issuedAt now pkt.hdr).inject now pkt tenant with outbox := [] } := by
  simp only [drainOutbox, hl, ho, hr, Bool.false_eq_true, if_false, if_true]

/-- R109: with no room at port 32 the packet waits there. -/
theorem drainOutbox_full (hr : ¬ v.ownRoom pkt.hdr = true) :
    drainOutbox now [(pkt, tenant)] v = { v with outbox := [(pkt, tenant)] } := by
  simp only [drainOutbox, hl, ho, hr, Bool.false_eq_true, if_false]

end

section

variable {v : Dev} {x : Txn}

/-- A transaction that is outstanding is not over for its packet's reissue (R145). -/
theorem Dev.reissued_lapsed (now : Nat) (hx : x ∈ v.txns) (hid : x.pkt.hdr.txn = x.id) :
    (v.reissued x now).lapsed (x.again now).pkt.hdr = false := by
  have out : x.again now ∈ (v.reissued x now).txns := List.mem_map.mpr ⟨x, hx, if_pos rfl⟩
  have any : (v.reissued x now).txns.any (fun y => y.id == (x.again now).pkt.hdr.txn) = true :=
    List.any_eq_true.mpr ⟨_, out, beq_iff_eq.mpr hid.symm⟩
  rw [Dev.lapsed, any, Bool.not_true, Bool.and_false]

/-- The reissue has started its transaction's timer already. -/
theorem Dev.reissued_issuedAt (now : Nat) (hid : x.pkt.hdr.txn = x.id) :
    (v.reissued x now).issuedAt now (x.again now).pkt.hdr = v.reissued x now := by
  refine Dev.issuedAt_self fun y hy hyid => ?_
  obtain ⟨z, -, rfl⟩ := List.mem_map.mp hy
  split at hyid
  next hz => rw [if_pos hz, Txn.again]
  next hz => exact absurd (hyid.trans hid) hz

/-- Room at port 32 is a matter of the packet's class and size and of the cells in use. -/
theorem Dev.reissued_ownRoom (now : Nat) : (v.reissued x now).ownRoom (x.again now).pkt.hdr = v.ownRoom x.pkt.hdr := rfl

/-- The packet goes in or waits; either way the transaction is out again. -/
theorem Dev.reissued_leaves (now : Nat) (hx : x ∈ v.txns) (hid : x.pkt.hdr.txn = x.id) (ho : v.ownOff x.pkt.hdr = false) :
    let u := drainOutbox now [((x.again now).pkt, x.tenant)] (v.reissued x now)
    u.nextTxn = v.nextTxn ∧ u.txns = (v.reissued x now).txns ∧ u.counters = v.counters ∧
    u.outbox = if v.ownRoom x.pkt.hdr = true then [] else [((x.again now).pkt, x.tenant)] := by
  have open32 : (v.reissued x now).ownOff (x.again now).pkt.hdr = false := ho
  have lives := Dev.reissued_lapsed now hx hid
  dsimp only
  by_cases hr : v.ownRoom x.pkt.hdr = true
  · rw [drainOutbox_room lives open32 hr, Dev.reissued_issuedAt now hid, if_pos hr]
    obtain ⟨txns, next, counters⟩ := (v.reissued x now).inject_keeps now (x.again now).pkt x.tenant
    exact ⟨next, txns, counters, rfl⟩
  · rw [drainOutbox_full lives open32 hr, if_neg hr]
    exact ⟨rfl, rfl, rfl, rfl⟩

end

section

variable {s : State} {d : Part} {x : Txn}

/-- R144: with nothing waiting at port 32 the packet is the next there, and the reissue is counted. -/
theorem State.resend_dev (hout : (s.dev d).outbox = []) (ho : (s.dev d).ownOff x.pkt.hdr = false) :
    (s.resend d x).dev d =
      (drainOutbox s.now [((x.again s.now).pkt, x.tenant)] ((s.dev d).reissued x s.now)).count 0xC00 1 := by
  have front : ((s.dev d).reissued x s.now).outbox ++ [((x.again s.now).pkt, x.tenant)]
      = [((x.again s.now).pkt, x.tenant)] := by
    rw [show ((s.dev d).reissued x s.now).outbox = [] from hout, List.nil_append]
  have open32 : ¬ (s.dev d).ownOff { x.pkt.hdr with retry := 1, hops := 0 } = true := Bool.eq_false_iff.mp ho
  rw [← front]
  simp only [State.resend, if_neg open32, State.respond, State.count_dev, State.modDev_dev, State.modDev_now]
  rfl

/-! ### The reissue timer (R144, R145) -/

theorem State.reissue_idle (ecc : Ecc) (h : x.parked = true ∨ s.now < x.issueAt + x.timeout) :
    s.reissue d x ecc = s := by
  refine if_pos ?_
  rw [Bool.or_eq_true, Bool.or_eq_true, decide_eq_true_eq]
  exact .inl h

variable (hpark : x.parked = false) (hdue : x.issueAt + x.timeout ≤ s.now) (hout : (s.dev d).outbox = [])
include hpark hdue hout

/-- A due transaction with no reissue of its own at port 32 is parked or goes out again, as DRAIN of its target says. -/
theorem State.reissue_due : s.reissue d x .clean =
    if (s.dev d).draining x.pkt.hdr.dst.toNat = true then
      s.modDev d (fun v => { v with txns := v.txns.map (fun y => if y.id = x.id then { y with parked := true } else y) })
    else s.resend d x := by
  have due : ¬ s.now < x.issueAt + x.timeout := Nat.not_lt.mpr hdue
  simp only [State.reissue, hpark, due, hout, List.any_nil, decide_false, Bool.or_false, Bool.false_eq_true, if_false,
    reduceCtorEq]

end

/-! ### Timing faults (R128, R129, R379) -/

/-- What the record of a timing fault holds: the delay since acceptance, the target and the channel. -/
def Txn.timingRecord (x : Txn) (now : Nat) : Nat :=
  min (now - x.acceptAt) 16777215 * 2 ^ 40 + x.pkt.hdr.dst.toNat * 2 ^ 28 + x.pkt.hdr.channel.toNat

/-- The record fits its register. -/
theorem Txn.timingRecord_lt (x : Txn) (now : Nat) : x.timingRecord now < 2 ^ 64 := by
  have dst := x.pkt.hdr.dst.isLt
  have chan := x.pkt.hdr.channel.isLt
  unfold Txn.timingRecord
  omega

/-- The device whose transaction has been found late. -/
def Dev.markLate (v : Dev) (x : Txn) : Dev :=
  { v with txns := v.txns.map (fun y => if y.id = x.id then { y with late := true } else y) }

theorem State.timingFault_sw_dev (s : State) (x : Txn) : (s.timingFault .sw x).dev .sw =
    (((s.dev .sw).markLate x).set F.SWC_EVENT_STATUS_TIMING_FAULT 1).setReg A.SWC_TIMING_LAST (x.timingRecord s.now) := rfl

theorem State.timingFault_ep_dev (s : State) (x : Txn) : (s.timingFault .ep x).dev .ep =
    ((((s.dev .ep).markLate x).setReg A.EP_TIMING_LAST (x.timingRecord s.now)).modJob x.job
      (fun j => { j with late := true })).set F.EP_EVENT_STATUS_TIMING_FAULT 1 := rfl

/-- R129: what the switch raises and records. -/
theorem State.timingFault_sw (s : State) (x : Txn) :
    (s.timingFault .sw x).get .sw F.SWC_EVENT_STATUS_TIMING_FAULT = 1 ∧
    ((s.timingFault .sw x).dev .sw).reg A.SWC_TIMING_LAST = x.timingRecord s.now := by
  rw [State.get, State.timingFault_sw_dev, Dev.reg_setReg_self, Nat.mod_eq_of_lt (x.timingRecord_lt _), Dev.get,
    Dev.reg_setReg_ne _ _ (by decide), ← Dev.get, Dev.get_set_self _ _ _ (by decide)]
  exact ⟨rfl, rfl⟩

/-- R379: what the end-point raises and records; the job that it marks is in no register. -/
theorem State.timingFault_ep (s : State) (x : Txn) :
    (s.timingFault .ep x).get .ep F.EP_EVENT_STATUS_TIMING_FAULT = 1 ∧
    ((s.timingFault .ep x).dev .ep).reg A.EP_TIMING_LAST = x.timingRecord s.now := by
  have kept (v : Dev) (c : Nat) : (v.modJob x.job (fun j => { j with late := true })).reg c = v.reg c :=
    Dev.reg_congr rfl rfl c
  rw [State.get, State.timingFault_ep_dev, Dev.get_set_self _ _ _ (by decide), Dev.reg_set_ne _ _ (by decide), kept,
    Dev.reg_setReg_self, Nat.mod_eq_of_lt (x.timingRecord_lt _)]
  exact ⟨rfl, rfl⟩

theorem State.timingFault_txns (s : State) (d : Part) (x : Txn) :
    ((s.timingFault d x).dev d).txns = ((s.dev d).markLate x).txns := by
  cases d <;> rfl

/-! ### The expiry of a slot (R139 to R141) -/

theorem Dev.slot_setSlot (v : Dev) (k : Nat) (y : Option Slot) (j : Nat) :
    (v.setSlot k y).slot j = if j = k then y else v.slot j :=
  SMap.at_put none v.slots k j y

/-- Table 6.4: a copy of the request that an EXPIRED slot holds is one of which the window cannot tell. -/
theorem Dev.dedup_expired {v : Dev} {h : PktHdr} {k : Nat} {x : Slot} (hkey : slotKey h = k) (hs : v.slot k = some x)
    (hid : h.txn = x.txn) (hst : x.state = .expired) : v.dedup h = .unknown := by
  simp only [Dev.dedup, hkey, hs, hid, hst, if_true]

section

variable {s : State} {d : Part} {src k : Nat} {x : Slot} (hs : (s.dev d).slot (src * 65536 + k) = some x)
include hs

theorem State.slotExpire_due (hst : x.state = .done) (hat : x.at_ + 4000000 ≤ s.now) :
    s.slotExpire d src k =
      s.modDev d (fun v => v.setSlot (src * 65536 + k) (some { x with state := .expired, resp := none })) := by
  simp only [State.slotExpire, hs, if_pos (And.intro hst hat)]

theorem State.slotExpire_idle (h : x.state ≠ .done ∨ s.now < x.at_ + 4000000) : s.slotExpire d src k = s := by
  have off : ¬ (x.state = .done ∧ x.at_ + 4000000 ≤ s.now) := fun ⟨hst, hat⟩ => h.elim (· hst) (by omega)
  simp only [State.slotExpire, hs, if_neg off]

end

/-! ### The commands -/

section

variable {s : State} {d : Part} {txn : BitVec 32} {x : Txn}

theorem State.withTxn_some {go : Txn → State} (hx : (s.dev d).txns.find? (fun y => y.id == txn) = some x) :
    s.withTxn d txn go = go x := by
  rw [State.withTxn, hx]

variable (t : Nat) (hx : (s.dev d).txns.find? (fun y => y.id == txn) = some x)
include hx

theorem reissueTimeout_leaves (ecc : Ecc) : Leaves (.reissueTimeout d txn ecc t) t s (fun a => a.reissue d x ecc) := by
  rw [Leaves, exec_reissueTimeout, execReissueTimeout, stepSettle_next rfl, State.withTxn_some (by rwa [State.tick_dev])]

theorem deadTargetExpiry_due (h : x.acceptAt + s.get d F.MEM_SEM_CTRL_DEAD_US * 1000 ≤ max s.now t) :
    Leaves (.deadTargetExpiry d txn t) t s (fun a => a.retire d x Code.DEAD_TARGET []) := by
  rw [Leaves, exec_deadTargetExpiry, execDeadTargetExpiry, stepSettle_next rfl,
    State.withTxn_some (by rwa [State.tick_dev]), State.tick_get, if_pos (show _ ≤ (s.tick t).now from h)]

theorem rboundExpiry_due (hp : x.promised = true) (hl : x.late = false) (h : x.acceptAt + x.rbound ≤ max s.now t) :
    Leaves (.rboundExpiry d txn t) t s (fun a => a.timingFault d x) := by
  have due : (x.promised && ! x.late && decide (x.acceptAt + x.rbound ≤ (s.tick t).now)) = true := by
    rw [hp, hl, Bool.not_false, Bool.true_and, Bool.true_and]
    exact decide_eq_true h
  rw [Leaves, exec_rboundExpiry, execRboundExpiry, stepSettle_next rfl, State.withTxn_some (by rwa [State.tick_dev]),
    if_pos due]

end

theorem slotExpire_leaves {d : Part} {src k : Nat} (t : Nat) (s : State) (hsrc : src < 4096) (hk : k < 65536) :
    Leaves (.slotExpire d src k t) t s (fun a => a.slotExpire d src k) := by
  have named : (okNode src && decide (k < 65536)) = true :=
    Bool.and_eq_true_iff.mpr ⟨decide_eq_true hsrc, decide_eq_true hk⟩
  rw [Leaves, exec_slotExpire, execSlotExpire, stepSettle_next named]

end Sys2Proof.Machine

namespace Sys2Proof.Proofs

open Sys2Proof.Machine Sys2Proof.Claims

/-- Settles O17: the reissue is `State.reissue_due` with `Dev.reissued_leaves`, the fault `State.timingFault_sw` and
`State.timingFault_ep`, the slot `State.slotExpire_due` with `Dev.dedup_expired`; the other clauses are the branches in
which a timer does nothing. -/
theorem timersOfTransactions : Obligations.TimersOfTransactions := by
  refine ⟨fun d t txn x s hx => ⟨fun hpark hdue hout hid => ⟨fun hdrain ho => ?reissue, fun hdrain => ?park⟩,
      fun h ecc => leaves_congr (reissueTimeout_leaves t hx ecc) (State.reissue_idle ecc h), deadTargetExpiry_due t hx,
      fun hp hl h => comes_of_leaves (rboundExpiry_due t hx hp hl h) ?fault⟩,
    fun d src k t x s hsrc hk hs => ⟨fun hst hat => comes_of_leaves (slotExpire_leaves t s hsrc hk) ?expire,
      fun h => leaves_congr (slotExpire_leaves t s hsrc hk) (State.slotExpire_idle (by rwa [State.tick_dev]) h)⟩⟩
  case reissue =>
    have due := State.reissue_due hpark (s := s.tick t) (d := d) hdue (by rwa [State.tick_dev])
    rw [State.tick_dev, if_neg (Bool.eq_false_iff.mp hdrain)] at due
    refine comes_of_leaves (reissueTimeout_leaves t hx .clean) ?_
    rw [due, State.resend_dev (by rwa [State.tick_dev]) (by rwa [State.tick_dev]), State.tick_dev, Dev.count_at,
      if_pos rfl]
    obtain ⟨next, txns, counters, outbox⟩ := Dev.reissued_leaves (s.tick t).now (List.mem_of_find?_eq_some hx) hid ho
    exact ⟨next, txns, outbox, by rw [counters]⟩
  case park =>
    have due := State.reissue_due hpark (s := s.tick t) (d := d) hdue (by rwa [State.tick_dev])
    rw [State.tick_dev, if_pos hdrain] at due
    exact leaves_congr (reissueTimeout_leaves t hx .clean) due
  case fault =>
    refine ⟨(s.tick t).timingFault_txns d x, ?switch, ?endPoint⟩
    case switch =>
      rintro rfl
      exact (s.tick t).timingFault_sw x
    case endPoint =>
      rintro rfl
      exact (s.tick t).timingFault_ep x
  case expire =>
    rw [State.slotExpire_due (by rwa [State.tick_dev]) hst hat, State.modDev_dev]
    have slots := ((s.tick t).dev d).slot_setSlot (src * 65536 + k) (some { x with state := .expired, resp := none })
    have here := (slots _).trans (if_pos rfl)
    refine ⟨here, fun j hj => ?_, fun h hkey hid => Dev.dedup_expired hkey here hid rfl⟩
    rw [slots, if_neg hj, State.tick_dev]

end Sys2Proof.Proofs
end
